-- ==== Sys2Proof/Word.lean ====
section
/-! DEFINITION. The plain words of the ZN-4816 (spec/00_scope.md, R4, R5). -/

namespace Sys2Proof

/-- One byte of a packet, a record or a cell. -/
abbrev Byte := BitVec 8
/-- A u16 field. -/
abbrev Half := BitVec 16
/-- A u32 field, an object ID, a claim word. -/
abbrev Word := BitVec 32
/-- A frame number: 32 bits, wrapping (R13). -/
abbrev Frame := BitVec 32
/-- The 40-bit batten counter (R61). -/
abbrev Batten := BitVec 40

end Sys2Proof
end

