-- ==== Sys2Proof/Syntax.lean ====
section
/-! DEFINITION. The commands the ZN-4816 takes: one constructor for each row of spec/opcode_table.json, and the operand
types the rows need. A row that is a Turwa opcode carries the admitted request; a row that is an event carries what the
event delivers (a packet, a cell, a level, a measured value). -/

namespace Sys2Proof

/-- The ports of Table PKT-11 (R426). -/
inductive Port where
  | host | u0 | u2 | can0 | can1 | ridge | ring | internal
  deriving DecidableEq, Repr

/-- The six roles of Table SEC-1 (R135). -/
inductive Role where
  | owner | cls | chief | watch | service | observer
  deriving DecidableEq, Repr

/-- The three UARTs. -/
inductive Uart where
  | u0 | u1 | u2
  deriving DecidableEq, Repr

/-- The two UARTs that can carry Turwa packets (Table PKT-3). -/
inductive TurwaUart where
  | u0 | u2
  deriving DecidableEq, Repr

/-- The two CAN controllers. -/
inductive CanNo where
  | can0 | can1
  deriving DecidableEq, Repr

/-- The two line drivers whose enable R387 governs. -/
inductive DriverLine where
  | u1 | u2
  deriving DecidableEq, Repr

/-- A line on which a transmission ends (R120, R392, R399). -/
inductive OutLine where
  | u0 | u1 | u2 | can0 | can1 | ridge | ringA | ringB
  deriving DecidableEq, Repr

/-- The two purlin-ring ports of a node (R37). -/
inductive RingSide where
  | a | b
  deriving DecidableEq, Repr

/-- The four logic supplies (R42). -/
inductive LogicRail where
  | vcore | vio | vaux | vpll
  deriving DecidableEq, Repr

/-- The tamper detectors of R166. -/
inductive TamperDetector where
  | vcoreGlitch | referenceGlitch | fuseArray | shieldMesh
  deriving DecidableEq, Repr

/-- Where an SRAM error lies (R68). A single-bit error is corrected; a double-bit error is not. -/
inductive EccSite where
  | single (bank : Fin 4) (wordDiv8 : BitVec 24)
  | doubleGutter (bank : Fin 4) (entry : Nat)
  | doubleElsewhere
  deriving DecidableEq, Repr

/-- CAN errors that move the error counters (R394). -/
inductive CanError where
  | transmit | receive | acknowledge
  deriving DecidableEq, Repr

/-- A line the standby compares (R211, R221). -/
inductive FieldLine where
  | ain (channel : Fin 16)
  | din (input : Fin 24)
  deriving DecidableEq, Repr

/-- What one conversion of an AFE channel delivers (R203, R207): the measured electrical quantity of the mode before
calibration (milliohm for RTD, nV/V for BRIDGE, nV of EMF for thermocouples, nA for 4-20 mA, microvolt for voltages), and
what the AFE detected in the two windows. -/
structure AfeMeasure where
  raw      : Int
  openWire : Bool
  excLimit : Bool
  clamped  : Bool
  deriving DecidableEq, Repr

/-- What the outside gives a start: the three samples of each strap ball in the order BOOT0, BOOT1, CLKMODE, NODEROLE,
UNITSEL (R29). -/
structure StartEnv where
  sample1 : BitVec 5
  sample2 : BitVec 5
  sample3 : BitVec 5
  /-- RESET_N reads high at the release (R100) -/
  resetNHigh : Bool
  deriving DecidableEq, Repr

/-- An admitted Turwa request as its opcode row executes it: the port it came by, the header fields that decide it
(Table PKT-1) and its parameter bytes. The opcode is the row's own. -/
structure Req where
  port     : Port
  session  : Half
  seq      : Word
  target   : Word
  wantProv : Bool
  params   : List Byte
  deriving DecidableEq, Repr

/-- The commands: one constructor per row of the opcode table. -/
inductive Instr where
  /-- HELLO (R115): Returns the offered feature word, session limits, port tags, start phase and serial. -/
  | hello (r : Req)
  /-- FEATURES (R115): Negotiates the session's accepted feature word and event mask once after PROVE. -/
  | features (r : Req)
  /-- OPEN (R112): Allots a session number for a role and key slot and returns the node nonce. -/
  | openSession (r : Req)
  /-- PROVE (R155): Checks the partner's proof for an opening session and answers with the node proof or AUTH_FAIL. -/
  | prove (r : Req)
  /-- CLOSE (R112): Closes the session once its reply has left after all earlier replies. -/
  | close (r : Req)
  /-- PING (R95): Returns the start phase and retry-after, or READY. -/
  | ping (r : Req)
  /-- GET (R128): Reads one attribute, pegged or through the provisional door. -/
  | getAttr (r : Req)
  /-- SET (R180): Writes one attribute as a class-P batch item, or stages it while the session holds the stage. -/
  | setAttr (r : Req)
  /-- GET_RANGE (R127): Reads one attribute over consecutive indices, as one reply or a series. -/
  | getRange (r : Req)
  /-- STAGE_BEGIN (R180): Opens the node's one stage and binds it to the session. -/
  | stageBegin (r : Req)
  /-- STAGE_COMMIT (R180): Puts the staged items into the batch as one item, applied whole at the peg. -/
  | stageCommit (r : Req)
  /-- STAGE_DROP (R180): Discards the stage. -/
  | stageDrop (r : Req)
  /-- CAL_ZERO (R181): Averages N results and sets the channel's offset for the present mode in NV. -/
  | calZero (r : Req)
  /-- CAL_SPAN (R181): Averages N results against an applied reference and sets the gain error in NV. -/
  | calSpan (r : Req)
  /-- CAL_READ (R214): Returns the channel's calibration terms and their source. -/
  | calRead (r : Req)
  /-- OUTPUT_FORCE (R182): Forces an output's state in the pegged vector of both units for a limited time. -/
  | outputForce (r : Req)
  /-- OUTPUT_RELEASE (R182): Ends the force on an output at its peg. -/
  | outputRelease (r : Req)
  /-- ACK (R283): Acknowledges a point or every point of a group at the peg. -/
  | ack (r : Req)
  /-- SILENCE (R284): Stops the node horn, or silences a station's buzzer, at the peg. -/
  | silence (r : Req)
  /-- SHELVE (R282): Shelves a point until a computed end frame. -/
  | shelve (r : Req)
  /-- UNSHELVE (R282): Ends shelving of a point at its peg. -/
  | unshelve (r : Req)
  /-- DUTY_SELECT (R286): Makes a roster entry duty until the next scheduled change. -/
  | dutySelect (r : Req)
  /-- CALL_ACCEPT (R288): Makes a called station the attending station. -/
  | callAccept (r : Req)
  /-- DEADMAN_RESET_RESTART (R289): Restarts a station's dead-man timer from its peg. -/
  | deadmanResetRestart (r : Req)
  /-- DEADMAN_RESET_START (R289): Starts a station's dead-man timer, or restarts it if running. -/
  | deadmanResetStart (r : Req)
  /-- DEADMAN_RESET_STOP (R289): Stops a station's dead-man timer and clears its expiry bit. -/
  | deadmanResetStop (r : Req)
  /-- ALARM_LIST (R183): Returns pegged point states matching a filter from a first index. -/
  | alarmList (r : Req)
  /-- TIME_SET (R253): Loads the RTC fields at the peg decision tick and places a second mark. -/
  | timeSet (r : Req)
  /-- TIME_SHIFT (R254): Slews the RTC by n/32768 s over up to 16 seconds. -/
  | timeShift (r : Req)
  /-- HOUR_ADD (R253): Adds one hour to the fields and sets DST. -/
  | hourAdd (r : Req)
  /-- HOUR_SUB (R253): Subtracts one hour from the fields and clears DST. -/
  | hourSub (r : Req)
  /-- WEEKDAY_SET (R253): Loads the weekday counter. -/
  | weekdaySet (r : Req)
  /-- CHARGER_SET (R259): Sets the trickle charger current and termination voltage of one node. -/
  | chargerSet (r : Req)
  /-- WAKE_SET (R263): Sets the wake schedule and EVT wake enables in both units. -/
  | wakeSet (r : Req)
  /-- BACKUP_EVENTS_READ (R262): Returns the EVT FIFO entries and optionally drains the recorded ones. -/
  | backupEventsRead (r : Req)
  /-- LOG_READ (R308): Returns k records of the recorder view from a first slot. -/
  | logRead (r : Req)
  /-- LOG_MARK (R300): Writes a mark record with a label in each unit. -/
  | logMark (r : Req)
  /-- LOG_POLICY (R309): Sets the token-bucket period and burst of an event code and refills it. -/
  | logPolicy (r : Req)
  /-- GUTTER_READ (R317): Returns k gutter-log entries counted from the oldest. -/
  | gutterRead (r : Req)
  /-- GUTTER_SAVE (R319): Appends unsaved gutter entries to the NV save ring within the allowance. -/
  | gutterSave (r : Req)
  /-- PAIR_BIND (R186): Binds two units with a shared pair key once both have been commanded and checked. -/
  | pairBind (r : Req)
  /-- PAIR_UNBIND (R328): Erases the pair key in both units at the peg; the active runs solo and the standby detaches. -/
  | pairUnbind (r : Req)
  /-- SWAP_NOW (R344): Hands the active role to the synchronised standby at the peg. -/
  | swapNow (r : Req)
  /-- SWAP_POLICY (R345): Sets the periodic swap interval. -/
  | swapPolicy (r : Req)
  /-- YIELD (R344): The active hands its role to the synchronised standby. -/
  | yieldRole (r : Req)
  /-- PAIR_STATUS (R185): Returns pair state, claim words, counters and referee results. -/
  | pairStatus (r : Req)
  /-- RING_SCAN (R367): Sends a SCAN cell around the ring and reports members and proposed indices. -/
  | ringScan (r : Req)
  /-- RING_ADMIT (R368): Runs the admission exchange for each listed worker and delivers the ring key. -/
  | ringAdmit (r : Req)
  /-- RING_EXPEL (R375): Orders a worker to erase its ring key and index and withdraw its claim. -/
  | ringExpel (r : Req)
  /-- RING_STATUS (R187): Returns the ring state and per-worker state and missed tokens. -/
  | ringStatus (r : Req)
  /-- MATRIX_READ (R140): Returns the generation and up to five class rows of the matrix. -/
  | matrixRead (r : Req)
  /-- MATRIX_WRITE (R144): Replaces matrix rows at the peg if the expected generation holds and raises the generation. -/
  | matrixWrite (r : Req)
  /-- SEAL (R147): Creates, confirms or reseals a seal entry over a scope and index range. -/
  | seal (r : Req)
  /-- UNSEAL_RELEASE (R149): CLASS removes an intact seal or clears a broken one. -/
  | unsealRelease (r : Req)
  /-- UNSEAL_BREAK (R149): OWNER breaks a seal, with ledger entry, event, bridge point and counter. -/
  | unsealBreak (r : Req)
  /-- KEY_LOAD (R152): Loads an encrypted key into a slot, closing sessions opened under a replaced key. -/
  | keyLoad (r : Req)
  /-- KEY_RETIRE (R153): Empties a key slot and closes sessions opened under it. -/
  | keyRetire (r : Req)
  /-- ATTEST (R162): Returns a signed attestation statement with certificates. -/
  | attest (r : Req)
  /-- CONSENT_ISSUE (R167): OWNER obtains a maintenance consent token for a purpose and SERVICE slot. -/
  | consentIssue (r : Req)
  /-- CONSENT_ENTER (R167): SERVICE presents a token and the system enters the maintenance state at the peg, withdrawing claims. -/
  | consentEnter (r : Req)
  /-- CONSENT_LEAVE (R167): Ends the maintenance state; claims return at the next pegged frame. -/
  | consentLeave (r : Req)
  /-- DEBUG_UNLOCK (R168): Erases keys and counters, breaks every seal, loads a new delivery key and opens sequencer debug. -/
  | debugUnlock (r : Req)
  /-- IMAGE_BEGIN (R189): Erases an NV image slot and opens the node's one transfer. -/
  | imageBegin (r : Req)
  /-- IMAGE_BLOCK (R189): Writes image data at the next offset of the open transfer. -/
  | imageBlock (r : Req)
  /-- IMAGE_VERIFY (R163): Checks the image signature, countersignature and rollback index and closes the transfer. -/
  | imageVerify (r : Req)
  /-- IMAGE_ACTIVATE (R189): Writes a one-start override and resets warm, or starts a downloaded image from SRAM. -/
  | imageActivate (r : Req)
  /-- BLOCK_RESET_GRACEFUL (R96): Asks a block to go idle within a timeout, then resets it. -/
  | blockResetGraceful (r : Req)
  /-- BLOCK_RESET_IMMEDIATE (R96): The wrapper completes the block's transactions with BLOCK_RESET and resets the block. -/
  | blockResetImmediate (r : Req)
  /-- SELFTEST (R190): Runs the masked self-tests and reports passes and failures. -/
  | selftest (r : Req)
  /-- ISLAND_RATE (R69): Requests a new island rate, applied at the relock point of the next frame. -/
  | islandRate (r : Req)
  /-- DOMAIN_SET_OFF (R48): Switches a switchable domain off in the housekeeping slot of the next frame. -/
  | domainSetOff (r : Req)
  /-- DOMAIN_SET_ON (R48): Switches a switchable domain on in the housekeeping slot of the next frame. -/
  | domainSetOn (r : Req)
  /-- DOMAIN_SET_LAID_UP (R54): Batches the laid-up order for the whole system. -/
  | domainSetLaidUp (r : Req)
  /-- AGING_READ (R419): Returns an island's aging sentinel readings, shifts and trend state. -/
  | agingRead (r : Req)
  /-- RESET_COUNTERS_READ (R99): Returns all 19 reset counters. -/
  | resetCountersRead (r : Req)
  /-- NODE_RESET_WARM (R85): Answers, then schedules a warm node-level reset. -/
  | nodeResetWarm (r : Req)
  /-- NODE_RESET_POWER_ON (R85): Answers, then schedules a power-on class node-level reset. -/
  | nodeResetPowerOn (r : Req)
  /-- WRITE_PACKET (R380): Host-port transaction delivering one Turwa packet with CRC to the port front end. -/
  | writePacket (bytes : List Byte)
  /-- READ_PACKET (R381): Host-port transaction reading out the head output packet and freeing its tag. -/
  | readPacket (clocked : Nat)
  /-- READ_REG (R382): Host-port transaction reading port registers. -/
  | readReg (addr : Byte) (words : Nat)
  /-- WRITE_REG (R382): Host-port transaction writing port registers without behaviour of their own. -/
  | writeReg (addr : Byte) (words : List Word)
  /-- PORT_IRQ_CLEAR (R382): Writing 1 clears sticky PORT_IRQ bits and updates HIRQ_N. -/
  | portIrqClear (value : Word)
  /-- PORT_IRQ_MASK_WRITE (R383): Sets which PORT_IRQ bits pull HIRQ_N. -/
  | portIrqMaskWrite (value : Word)
  /-- PORT_CFG_WRITE (R382): Selects single-bit or quad transfer from the next transaction. -/
  | portCfgWrite (value : Word)
  /-- HOST_BAD_COMMAND (R379): A transaction with an unknown command byte is ignored and sets BAD_CMD. -/
  | hostBadCommand (cmd : Byte)
  /-- UART_CHAR_RECEIVED (R385): A character enters the receive queue or is dropped as an overrun. -/
  | uartCharReceived (u : Uart) (c : Byte) (lineError : Bool)
  /-- UART_IDLE_HANDOFF (R385): After 4 idle character times the receive queue is handed to its parser. -/
  | uartIdleHandoff (u : Uart)
  /-- UART_FRAME_RECEIVED (R108): A COBS frame on U0 or U2 is checked and its packet passed to the front end. -/
  | uartFrameReceived (u : TurwaUart) (frame : List Byte)
  /-- CTS_CHANGE (R386): UnCTS_N stops or resumes the transmitter at a character boundary. -/
  | ctsChange (u : Uart) (high : Bool)
  /-- ACN_RECEIVED (R391): A bridge ACN sentence is checked and enters the batch. -/
  | acnReceived (text : List Byte)
  /-- ZDA_RECEIVED (R391): A ZDA sentence is checked and labels the latest valid PPS edge. -/
  | zdaReceived (text : List Byte)
  /-- OTHER_SENTENCE_RECEIVED (R389): A bad or unsupported sentence on U1 is discarded and counted. -/
  | otherSentenceReceived (text : List Byte)
  /-- CAN_FRAME_RECEIVED (R395): A CAN frame with a non-mapping identifier is received and ignored. -/
  | canFrameReceived (c : CanNo) (ident : BitVec 29)
  /-- TURWA_SEGMENT_RECEIVED (R397): A CAN segment is added to its train; a complete train goes to the front end. -/
  | turwaSegmentReceived (c : CanNo) (ident : BitVec 29) (payload : List Byte)
  /-- CAN_TRAIN_TIMEOUT (R109): A train not completed within 100 ms of its first segment is discarded. -/
  | canTrainTimeout (c : CanNo) (src : BitVec 7) (train : Byte)
  /-- TIME_LABEL_RECEIVED (R401): A CAN time label labels the latest valid PPS edge on the ZDA_PORT controller. -/
  | timeLabelReceived (c : CanNo) (payload : List Byte)
  /-- LONE (R394): After 16 consecutive acknowledgement errors the controller enters LONE. -/
  | lone (c : CanNo)
  /-- LONE_RETRY (R394): In LONE the head frame is sent at most once per 100 ms. -/
  | loneRetry (c : CanNo)
  /-- BUS_OFF_RECOVERY (R393): A bus-off controller recovers after 128 occurrences of 11 recessive bits. -/
  | busOffRecovery (c : CanNo)
  /-- PROTOCOL_EXCEPTION (R393): A recessive res bit after FDF makes the controller integrate again. -/
  | protocolException (c : CanNo)
  /-- JTAG_TRST (R403): TRST_N low holds the TAP in Test-Logic-Reset. -/
  | jtagTrst (high : Bool)
  /-- JTAG_INSTRUCTION_UPDATE (R403): A new instruction takes effect, or acts as BYPASS if locked. -/
  | jtagInstructionUpdate (code : BitVec 5)
  /-- SESSION_IDLE_TIMEOUT (R113): A session idle for SESSION_IDLE_S is closed without reply. -/
  | sessionIdleTimeout (session : Half)
  /-- PROVE_TIMEOUT (R112): An opening session without PROVE within 1 s is closed. -/
  | proveTimeout (session : Half)
  /-- KEY_LOCK_EXPIRY (R157): A key slot's lock on a port ends and its failure count restarts. -/
  | keyLockExpiry (port : Port) (key : Fin 24)
  /-- EVENT_CREDIT_RELEASE (R133): A request's CREDIT_ECHO frees credit and queued or coalesced events are sent. -/
  | eventCreditRelease (session : Half) (echo : Word)
  /-- REPLY_RELEASE (R125): A reply held for SEQ order leaves once earlier replies have left. -/
  | replyRelease (session : Half)
  /-- POWER_ON (R42): All four logic supplies are above threshold and power-on reset is held then released. -/
  | powerOn
  /-- SUPPLY_BROWNOUT (R43): A logic supply stays below its threshold through the filter and causes its reset. -/
  | supplyBrownout (rail : LogicRail)
  /-- EAVE_SUPPLY_CHANGEOVER (R44): EAVE switches between VBACK and VIO without losing a cycle. -/
  | eaveSupplyChangeover (toVback : Bool)
  /-- EAVE_SUPPLY_LOST (R43): EAVE supply falls below threshold; contents are lost and the next start is cold. -/
  | eaveSupplyLost
  /-- VAFE_LOST (R57): VAFE fails; the AFE die resets, channels go UNKNOWN and an active unit yields. -/
  | vafeLost
  /-- VAFE_RETURN (R209): VAFE returns; the AFE die starts in listen and the logic retrains and reloads it. -/
  | vafeReturn
  /-- VFLD_LOST (R57): VFLD fails; the field die resets, outputs stop and an active unit yields. -/
  | vfldLost
  /-- VFLD_POWER_UP (R235): The field die starts with every stage off and inputs at 0. -/
  | vfldPowerUp
  /-- REFERENCE_LOSS (R62): No reference edge for 4 µs holds the node in reset as a VPLL power-on reset. -/
  | referenceLoss
  /-- REFERENCE_RETURN (R62): The returning reference releases the reset and the start sequence runs. -/
  | referenceReturn
  /-- RESET_N_ASSERT (R100): A filtered low on RESET_N holds a warm reset. -/
  | resetNAssert
  /-- STUCK_RESET (R101): RESET_N low for 10 s is masked and the node releases. -/
  | stuckReset
  /-- RESET_N_REARM (R101): RESET_N high for 100 ms re-arms the pin and clears the stuck-reset point. -/
  | resetNRearm
  /-- WDOG_CMD (R81): The command sequencer's watchdog expires after 20 ms and resets the node warm. -/
  | wdogCmd
  /-- WDOG_SCAN (R81): The scan sequencer's watchdog expires after 30 ms and resets the node warm. -/
  | wdogScan
  /-- WDOG_HOUSE (R81): The housekeeping watchdog expires after 100 ms and resets the node warm. -/
  | wdogHouse
  /-- TAMPER (R166): A tamper detector trips and causes a power-on class reset. -/
  | tamper (detector : TamperDetector)
  /-- OVER_TEMP (R83): The logic-die junction passes the trip point and the node holds reset. -/
  | overTemp
  /-- OVER_TEMP_RELEASE (R83): The junction falls 20 °C below the trip and the node releases. -/
  | overTempRelease
  /-- TWIN_REQUEST (R84): A twin reset request is honoured only after a failed referee, else logged. -/
  | twinRequest
  /-- RING_ORDER (R85): A worker resets at its next housekeeping slot on a manager's ring order. -/
  | ringOrder
  /-- MEM_ECC (R68): A double-bit SRAM error stops pegging and causes a warm reset, or discards a gutter entry. -/
  | memEcc (site : EccSite)
  /-- NODE_RESET_START (R85): A commanded reset begins in the next housekeeping slot or 10 ms after admission. -/
  | nodeResetStart
  /-- RESET_RELEASE (R89): On release of a node-level reset the start sequence runs step by step. -/
  | resetRelease (env : StartEnv)
  /-- START_TIMEOUT (R92): READY not reached within 1000 ms resets warm, and stops after three. -/
  | startTimeout
  /-- DOWNLOAD_TIMEOUT (R87): No IMAGE_BEGIN within 60 s in a download boot resets warm to image A. -/
  | downloadTimeout
  /-- LISTEN_WINDOW_END (R90): A manager that heard no marker leads and starts its first frame. -/
  | listenWindowEnd
  /-- STARTING_TIMEOUT (R91): A worker not heard 2 s after READY is reported LOST. -/
  | startingTimeout (worker : Fin 16)
  /-- FRAME_START (R14): At tick 0 the snapshot is taken, the ring token leaves and the frame counter advances. -/
  | frameStart
  /-- MIRROR_RECEIVED (R333): The standby takes the mirrored values and batch of the frame. -/
  | mirrorReceived (packet : List Byte)
  /-- MIRROR_DEADLINE (R334): A MIRROR not whole by tick 37 500 makes the standby's frame unmirrored. -/
  | mirrorDeadline
  /-- FRAME_EVALUATION (R276): Both lanes evaluate batch, inhibits, points, delays, groups, horn, call-out and outputs provisionally. -/
  | frameEvaluation (lanesAgree : Bool)
  /-- DIGEST_EXCHANGE (R335): Each unit sends its frame digest to the twin at 7.500 ms. -/
  | digestExchange
  /-- DIGEST_RECEIVED (R336): The twin's digest reaches SCAN for the peg decision. -/
  | digestReceived (packet : List Byte)
  /-- PEG_DECISION (R336): At 9.000 ms the frame is pegged or unpegged and the counters change. -/
  | pegDecision
  /-- CLAIM_FRAME_SEND (R233): At tick 113 125 the logic sends its die the pegged claim and output word. -/
  | claimFrameSend
  /-- HOUSEKEEPING_SLOT (R313): From 9.000 ms recorder writes, NV work and domain switching run. -/
  | housekeepingSlot
  /-- DOMAIN_SWITCH_COMPLETE (R48): A domain reaches its requested state and DOMAIN_SET is answered. -/
  | domainSwitchComplete (domain : Fin 12)
  /-- SECTOR_ERASE_COMPLETE (R313): An NV sector erase ends and queued records can be written. -/
  | sectorEraseComplete
  /-- NV_PROGRAM_COMPLETE (R172): An NV programming operation completes and its class-N reply is made ready. -/
  | nvProgramComplete
  /-- BLOCK_IDLE (R96): A block asked to go idle reports idle and is reset. -/
  | blockIdle (block : Fin 17)
  /-- FALLBACK (R96): The graceful timeout expires and the block is reset as IMMEDIATE. -/
  | fallback (block : Fin 17)
  /-- BLOCK_RESET_COMPLETE (R96): After 64 ticks the block re-initialises and the command is answered. -/
  | blockResetComplete (block : Fin 17)
  /-- RELOCK_POINT (R69): At tick 115 000 an island switches to the crawl clock and its PLL is retargeted. -/
  | relockPoint
  /-- LOCK_CONFIRMED (R71): The PLL lock is confirmed and the island returns to its PLL. -/
  | lockConfirmed (island : Fin 7) (lockTicks : Nat)
  /-- PLL_LOCK_LOSS (R73): A PLL loses lock; the island goes to the crawl clock and retargets. -/
  | pllLockLoss (island : Fin 7)
  /-- ISLAND_CLOCK_FAULT (R73): Lock not back within 1 ms holds the island on crawl with STATE 3. -/
  | islandClockFault (island : Fin 7)
  /-- FLASHING_SLOT (R232): Every 50 µs a downlink and an uplink frame are sent. -/
  | flashingSlot
  /-- DOWNLINK_FRAME_RECEIVED (R233): The die takes a KEEP, CLAIM, WITHDRAW or TRAIN frame. -/
  | downlinkFrameReceived (frame : List Byte)
  /-- UPLINK_FRAME_RECEIVED (R232): The logic takes levels, diagnostics, claim state and event entries from the die. -/
  | uplinkFrameReceived (frame : List Byte)
  /-- INPUTS_STALE (R236): No good uplink for 200 µs marks the inputs stale. -/
  | inputsStale
  /-- FIELD_LINK_YIELD (R236): An active unit whose uplink is silent 30 ms yields. -/
  | fieldLinkYield
  /-- SAFE_STATE_TIMEOUT (R235): A group's timeout expires with no good downlink and its safe states are applied. -/
  | safeStateTimeout (group : Fin 3)
  /-- AFE_LISTEN_TIMEOUT (R209): The AFE die takes the listen state after 200 µs without a good frame. -/
  | afeListenTimeout
  /-- AFE_RESULT_LATCH (R204): A window ends and its result is latched and sent to SCAN. -/
  | afeResultLatch (channel : Fin 16) (m : AfeMeasure)
  /-- SHUNT_OPEN (R199): Loop current above 32 mA opens the shunt and sets OVERCURRENT. -/
  | shuntOpen (channel : Fin 16)
  /-- SHUNT_CLOSE (R199): 1 s after opening the shunt closes again. -/
  | shuntClose (channel : Fin 16)
  /-- CLAMP_CONDUCTION (R206): A sense-ball clamp conducts and sets CLAMP_STICKY and CLAMP_COUNT. -/
  | clampConduction (channel : Fin 16)
  /-- DI_LEVEL_CHANGE (R218): The die samples a new input level and starts debounce, rejecting returns as glitches. -/
  | diLevelChange (input : Fin 24) (level : Bool)
  /-- DI_DEBOUNCE_ACCEPT (R218): A level held for DEBOUNCE_US becomes debounced and enters the event queue. -/
  | diDebounceAccept (input : Fin 24)
  /-- CLAIM_SLOT_EDGE (R240): Each 1 ms the die sends a claim frame and decides drive permission. -/
  | claimSlotEdge
  /-- CLAIM_FRAME_RECEIVED (R241): A claim frame on CLM_IN is checked and the arbiter decides. -/
  | claimFrameReceived (word : Word) (flags : Byte) (crc : Half)
  /-- OWN_CLAIM_STALE (R239): The own claim goes stale 50 ms after load and the stage stops. -/
  | ownClaimStale
  /-- TWIN_CLAIM_STALE (R241): The twin claim goes stale and the arbiter decides anew. -/
  | twinClaimStale
  /-- OVERLOAD (R227): A stage in current limit for 200 µs sets OVERLOAD. -/
  | overload (output : Fin 12)
  /-- THERMAL_SHUTDOWN (R226): A stage shuts down on junction temperature and sets OVER_TEMP. -/
  | thermalShutdown (output : Fin 12)
  /-- THERMAL_RESTART (R226): A stage cooled by 15 °C turns on again. -/
  | thermalRestart (output : Fin 12)
  /-- OPEN_WIRE (R228): The open-wire test reads above threshold for 1 ms and sets OPEN_WIRE. -/
  | openWire (output : Fin 12)
  /-- READBACK_FAULT (R230): Three consecutive read-back mismatches set READBACK_FAULT; three matches clear it. -/
  | readbackFault (output : Fin 12)
  /-- DISAGREE (R211): Fifty compared frames out of tolerance set DISAGREE, or fifty within clear it. -/
  | disagree (line : FieldLine)
  /-- SENSOR_FAULT_OVERRIDE (R273): A source UNKNOWN in three snapshots makes the point active as sensor fault. -/
  | sensorFaultOverride (point : Fin 2080)
  /-- ON_DELAY_EXPIRY (R274): A condition true throughout the on-delay makes the point active. -/
  | onDelayExpiry (point : Fin 2080)
  /-- OFF_DELAY_EXPIRY (R274): A condition false throughout the off-delay makes the point inactive. -/
  | offDelayExpiry (point : Fin 2080)
  /-- SHELVE_EXPIRY (R282): Shelving ends at its end frame and an active point is announced. -/
  | shelveExpiry (point : Fin 2080)
  /-- REARM_EXPIRY (R280): Inhibition ends after the re-arm time and the on-delay restarts. -/
  | rearmExpiry (rule : Fin 256)
  /-- RATE_SAMPLE (R270): Every 100 frames RATE points store a sample and compute the slope. -/
  | rateSample
  /-- ROSTER_SCHEDULE (R286): On the first frame of each minute scheduled duty changes apply. -/
  | rosterSchedule
  /-- CALL_DELAY_EXPIRY (R287): The call delay elapses and the duty station, or all, are called. -/
  | callDelayExpiry
  /-- ESCALATION_EXPIRY (R287): ESCALATE_S without acceptance moves the call to ALL_CALL. -/
  | escalationExpiry
  /-- ATTENDANCE_EXPIRY (R287): 600 s after acceptance with U non-empty the call restarts. -/
  | attendanceExpiry
  /-- DEADMAN_WARNING (R289): The station enters dead-man pre-warning at DEADMAN_WARN_S. -/
  | deadmanWarning (station : Fin 16)
  /-- DEADMAN_EXPIRY (R289): The dead-man timer expires, raising its point and ALL_CALL. -/
  | deadmanExpiry (station : Fin 16)
  /-- FORCE_LIMIT_EXPIRY (R182): A forced output's limit expires and the force ends. -/
  | forceLimitExpiry (node : Fin 16) (output : Fin 12)
  /-- BRIDGE_SILENCE_EXPIRY (R295): 30 s after a bridge silence an unacknowledged alert returns to V. -/
  | bridgeSilenceExpiry (point : Fin 2080)
  /-- ALF_REPEAT (R294): ALF is sent again every 60 s while an alert is not N. -/
  | alfRepeat (point : Fin 2080)
  /-- ALC_LIST (R294): ALC lists every alert not in N every 30 s. -/
  | alcList
  /-- SYS_STATE (R399): SYS_STATE is broadcast every 100 pegged frames and on changes. -/
  | sysState
  /-- STATION_MESSAGE (R400): STATION messages are sent on changes and every 100 frames while not idle. -/
  | stationMessage (station : Fin 16)
  /-- UNPEGGED (R176): A class-P item carried 100 frames without a peg is withdrawn. -/
  | unpegged
  /-- TOKEN_EXPIRY (R167): The consent token expires and the maintenance state ends. -/
  | tokenExpiry
  /-- BUCKET_TOKEN_GAIN (R309): A code's bucket gains a token every 10 × P frames. -/
  | bucketTokenGain (code : Fin 1024)
  /-- BUDGET_TOKEN_GAIN (R310): The recorder budget gains a token every 1000 frames. -/
  | budgetTokenGain
  /-- RECORDER_LOSS_CLEAR (R314): The recorder-loss fact clears after 1 h of pegged frames without loss. -/
  | recorderLossClear
  /-- LEDGER_COUNTER_WORD (R316): At most every 600 s a counter word for breaks beyond 63 is written. -/
  | ledgerCounterWord
  /-- NV_SCRUB (R423): Sectors are read at margin every 30 days and weak ones refreshed. -/
  | nvScrub (weakSectors : List Nat)
  /-- AGING_READING (R419): Each hour the island sentinels are read and normalised. -/
  | agingReading (island : Fin 7) (osc : Nat) (leak : Nat)
  /-- AGING_DAILY_MEAN (R420): At each daily mean the island trend state is judged. -/
  | agingDailyMean (island : Fin 7)
  /-- COUNTER_SAVE (R160): Owner counters are saved to NV every 360 000 frames and mirrored. -/
  | counterSave
  /-- PERIODIC_SWAP_DUE (R345): A swap falls due and is added at the first quiet frame. -/
  | periodicSwapDue
  /-- BACKGROUND_REFEREE (R341): Hourly referee runs on S = 0 units and synchronised standbys. -/
  | backgroundReferee (pass : Bool)
  /-- RIDGE_LINK_TRAIN (R323): The ridge link trains, exchanges nonces and derives link keys. -/
  | ridgeLinkTrain (laneSwap : Bool) (ownNonce twinNonce : List Byte) (delayNs : Nat)
  /-- RIDGE_RESEND_TIMEOUT (R322): An unacknowledged packet is sent again after 20 µs, retraining after four sends. -/
  | ridgeResendTimeout
  /-- MARKER (R256): A follower takes the frame-start marker's frame, count and time. -/
  | marker (packet : List Byte)
  /-- FORWARD (R130): The active admits a class-P item forwarded by the standby. -/
  | forward (packet : List Byte)
  /-- PAIRING (R327): A pairing handshake step proves the pair key or detaches the follower. -/
  | pairing (packet : List Byte)
  /-- STATE (R347): The standby applies snapshot, journal, counter or configuration-copy parts. -/
  | statePacket (packet : List Byte)
  /-- CONTROL (R325): A reset request, referee result, driver release or configuration-copy request arrives. -/
  | control (packet : List Byte)
  /-- TURWA (R325): A forwarded Turwa request or reply arrives over the ridge link. -/
  | turwa (packet : List Byte)
  /-- RING_DATA (R362): The active takes worker DATA forwarded by the standby. -/
  | ringData (packet : List Byte)
  /-- RELAY_COPY (R371): The standby sends the relay copy inbound as a RELAY. -/
  | relayCopy (packet : List Byte)
  /-- DRIVER_ENABLE_FALLBACK (R387): Without a release by frame m + 20 the incoming unit enables its driver. -/
  | driverEnableFallback (line : DriverLine)
  /-- TOKEN_RECEIVED (R365): A worker checks a TOKEN, executes its word if the claim is highest and forwards it. -/
  | tokenReceived (side : RingSide) (cell : List Byte)
  /-- RELAY_RECEIVED (R365): A worker checks a RELAY and executes its word if the claim is highest. -/
  | relayReceived (side : RingSide) (cell : List Byte)
  /-- CLAIM_CELL_RECEIVED (R365): A worker takes the standby's claim word. -/
  | claimCellReceived (side : RingSide) (cell : List Byte)
  /-- DATA_CELL_SEND (R362): At tick 1 250 each worker sends its DATA cell on both ports. -/
  | dataCellSend
  /-- DATA_CELL_RECEIVED (R362): A manager takes a worker's DATA cell. -/
  | dataCellReceived (side : RingSide) (cell : List Byte)
  /-- WORKER_DATA_DEADLINE (R363): At tick 25 000 missing worker data is HELD or UNKNOWN. -/
  | workerDataDeadline
  /-- TRAIN_SEGMENT_RECEIVED (R370): A command train segment reaches a worker or manager. -/
  | trainSegmentReceived (side : RingSide) (cell : List Byte)
  /-- COMMAND_TIMEOUT (R370): A class-L command gets no answer within its maximum and ends TIMEOUT. -/
  | commandTimeout (session : Half) (seq : Word)
  /-- SCAN_CELL_RECEIVED (R367): A member appends its serial, state and delay to a SCAN cell. -/
  | scanCellReceived (side : RingSide) (cell : List Byte)
  /-- ADMIT_CELL_RECEIVED (R368): A step of the admission exchange is processed. -/
  | admitCellReceived (side : RingSide) (cell : List Byte)
  /-- RESEND_RECEIVED (R358): A member sends again the cell asked for. -/
  | resendReceived (side : RingSide) (cell : List Byte)
  /-- RING_SEGMENT_TRAIN (R358): A ring segment trains and measures its cable delay. -/
  | ringSegmentTrain (side : RingSide) (delayNs : Nat)
  /-- ISOLATED (R366): A worker without a live manager claim for 50 ms withdraws to safe states. -/
  | isolated
  /-- WORKER_ROUND_TIMEOUT (R265): A worker in a round without a token for 2 × ROUND_S lays itself up. -/
  | workerRoundTimeout
  /-- RTC_SECOND (R251): Each RTC second boundary is marked, with slew, weekday and rollover. -/
  | rtcSecond
  /-- PPS_EDGE (R258): A PPS edge is validated and disciplines the RTC by slew or step. -/
  | ppsEdge
  /-- RTC_TRIM_UPDATE (R258): After an hour LOCKED, RTC_TRIM_PPM is updated from the measured rate. -/
  | rtcTrimUpdate (ppm : Int)
  /-- WAKE_DUE (R263): SECONDS reaches WAKE_NEXT; WAKE_NEXT advances and a laid-up node releases PWRON. -/
  | wakeDue
  /-- EVT_EDGE (R261): An EVT input changes level and its filter starts. -/
  | evtEdge (input : Fin 2) (level : Bool)
  /-- EVT_FILTER_ACCEPT (R261): A level held for EVT_FILTER_MS is accepted and kept in the FIFO. -/
  | evtFilterAccept (input : Fin 2)
  /-- PWRON_HOLD_END (R56): After 100 ms low a pending wake releases PWRON. -/
  | pwronHoldEnd
  /-- LAID_UP_SHUTDOWN (R55): Once the ingress queue drains, domains switch off and PWRON goes low. -/
  | laidUpShutdown
  /-- CHARGER_TERMINATION (R259): VBACK reaches termination and the charger stops. -/
  | chargerTermination
  /-- CHARGER_RESTART (R259): VBACK falls 100 mV below termination and charging restarts. -/
  | chargerRestart
  /-- NO_ELEMENT (R259): VBACK below 1.0 V after 10 s of charging stops the charger. -/
  | noElement
  /-- CHARGER_RETRY (R259): Every 60 s after NO_ELEMENT the charger tries again. -/
  | chargerRetry
  /-- TRANSMISSION_COMPLETE (R120): The last byte of a reply, event, sentence or panel frame leaves a UART, CAN controller or link, freeing its tag or front-end slot. -/
  | transmissionComplete (port : OutLine)
  /-- CAN_BUS_ERROR (R394): A CAN error detected during transmission or reception updates TEC and REC and moves the controller between error-active, error-passive and bus-off. -/
  | canBusError (c : CanNo) (err : CanError)
  /-- ZDA_ONLY (R258): With no valid PPS edge for 3 s the leader's DISC_STATE becomes ZDA_ONLY. -/
  | zdaOnly
  /-- SELFTEST_COMPLETE (R190): The masked self-tests finish and the class-N SELFTEST reply with passes and failures is made ready. -/
  | selftestComplete (passed : Half)
  /-- SAVE_ALLOWANCE_GAIN (R319): The GUTTER_SAVE allowance bucket gains 4096 entries every 24 h, up to 8192. -/
  | saveAllowanceGain
  /-- ACK_PACKET (R325): A ridge-link ACK packet with LEN 0 is received and acknowledges the twin's packets up to its ACK field. -/
  | ackPacket (packet : List Byte)
  /-- ACK_PACKET_DUE (R325): A receiver with nothing else to send within 10 µs sends an ACK packet with LEN 0. -/
  | ackPacketDue
  /-- JTAG_TCK_EDGE (R403): A TCK edge advances the TAP controller under TMS, shifting, capturing or updating the selected data register, including boundary-scan cells, or entering Test-Logic-Reset. -/
  | jtagTckEdge (rising tms tdi : Bool)
  /-- EAVE_COLD_START (R24): The EAVE supply rises above its threshold after being lost; EAVE initialises cold, loads 2000-01-01 with VALID 0 and releases PWRON. -/
  | eaveColdStart
  /-- OPEN_WIRE_CLEAR (R227): The open-wire test reads below the open threshold for 1 ms and OPEN_WIRE clears. -/
  | openWireClear (output : Fin 12)
  deriving DecidableEq, Repr

end Sys2Proof
end

