-- ==== Sys2Proof/Config.lean ====
section
/-! DEFINITION. What a part fixes and what the spec leaves open: the exact intervals of Table SCP-2, the part's own
constants, and the free values. A constant declared opaque has no body that a proof can see: nothing is assumed of it
(notes/assumptions/5.md, 6.md). -/

namespace Sys2Proof.Config

/-- Ticks in a frame (R13). -/
def frameTicks : Nat := 125000
/-- Ticks in a flashing-link slot (Table SCP-2). -/
def slotTicks : Nat := 625
/-- Ticks in a claim slot (Table SCP-2). -/
def claimSlotTicks : Nat := 12500
/-- The claim freshness limit (Table SCP-2). -/
def claimFreshTicks : Nat := 625000
/-- Batten ticks in one second (80 ns each). -/
def ticksPerSecond : Nat := 12500000
/-- Batten ticks in one millisecond. -/
def ticksPerMs : Nat := 12500

/-- FREE: the value the spec leaves open, picked by the counter State.free (log 5). -/
opaque freeValue : Nat → Nat
/-- FREE: the node serial number (Table PKT-4), fixed at the factory. -/
opaque serial : Word
/-- FREE: the 16-byte MAC of a consent token under the unit's device-internal key (R167). -/
opaque tokenMac : List Byte → List Byte
/-- FREE: the delivery key of OWNER slot 0 as shipped (R154). -/
opaque deliveryKey : List Byte
/-- FREE: the public identity key, 64 bytes x ‖ y (Table SEC-6, index 27). -/
opaque identityPublic : List Byte
/-- FREE: the device certificate and the Sundaux intermediate certificate (R162). -/
opaque certificates : List Byte
/-- FREE: the ECDSA P-256 signature r ‖ s of the identity key over a digest (R162); the nonce is not stated. -/
opaque identitySign : List Byte → List Byte
/-- FREE: whether an unlock record's signature r ‖ s verifies under the Sundaux keys of mask ROM (R168): the record's bytes
before the signature, the signature. -/
opaque unlockSigned : List Byte → List Byte → Bool
/-- FREE: the version, the rollback index and the signature checks of an image's bytes (R163, R164); the spec does not lay
the header out. -/
opaque imageVersion : List Byte → Nat
opaque imageRollback : List Byte → Nat
opaque imageSigned : List Byte → Bool
opaque imageCountersigned : List Byte → List Byte → Bool
/-- FREE: the configuration digest of a configuration's bytes (R93, R348); the spec does not give its computation. -/
opaque configDigest : List Byte → List Byte
/-- FREE: the serial that a device certificate names, none for one that does not chain to the Sundaux keys in mask ROM (Table
RNG-5 step 3). -/
opaque certificateSerial : List Byte → Option Word
/-- FREE: the node's own ephemeral ECDH pair of an admission, by a draw number: the public key (R368). -/
opaque ephemeralPublic : Nat → List Byte
/-- FREE: the ECDH shared secret of an own ephemeral draw and the other side's public key (R368). -/
opaque ecdhShared : Nat → List Byte → List Byte
/-- FREE: the delivery key that 48 wrapped bytes of an unlock record carry (R168). -/
opaque unwrapDelivery : List Byte → List Byte

/-- FREE: the IEC 60751 temperature in m°C of a resistance in mΩ; the flag is true for Pt1000 (R197). The standard's
table is not in the spec. -/
opaque rtdTemperature : Bool → Int → Int
/-- FREE: the IEC 60584 EMF in nV of a temperature in m°C, by mode code 4-7 (R198). -/
opaque tcEmf : Nat → Int → Int
/-- FREE: the IEC 60584 temperature in m°C of an EMF in nV, by mode code 4-7 (R198). -/
opaque tcTemperature : Nat → Int → Int
/-- FREE: the lower and upper end in m°C of a thermocouple type's table (Table AFE-6c). -/
opaque tcTableEnds : Nat → Int × Int
/-- FREE: the lower and upper end in nV of a thermocouple type's table (Table AFE-5). -/
opaque tcEmfEnds : Nat → Int × Int
/-- FREE: the factory calibration terms (offset, gain in ppm) of a channel and mode (R214). -/
opaque factoryCal : Nat → Nat → Int × Int
/-- FREE: the corrected value (measured, offset, gain ppm) of R214: the spec does not say how the quotient is rounded. -/
opaque calCorrected : Int → Int → Int → Int
/-- FREE: the gain error in ppm that CAL_SPAN finds from the offset-corrected mean and the reference (R181, R214). -/
opaque calGain : Int → Int → Int
/-- FREE: the mean of the averaged results, as the node rounds it (R181). -/
opaque calMean : List Int → Int

/-- FREE: the counts of 1/32768 s that correct an error in ticks, as the node rounds it (R258). -/
opaque slewCounts : Int → Int
/-- FREE: what a result becomes that its s32 format does not hold (R270, R271). -/
opaque outOfRange : Int → Int
/-- FREE: the pair level of the running image (Table TWN-12). -/
opaque pairLevel : Half
/-- FREE: the first sentinel reading of an island held in fuses: oscillator count, leakage code (R419). -/
opaque agingFirst : Nat → Nat × Nat
/-- FREE: the ring-oscillator shift in ppm of a reading against the first value, as the node rounds it (R419). -/
opaque agingPpm : Nat → Nat → Int
/-- FREE: the leakage shift in 0.1 % of the first value, as the node rounds it (R419). -/
opaque agingLeak : Nat → Nat → Int
/-- FREE: the level that the outside gives a logic-region ball, or that bits on a sending line give it, by the ball's boundary-scan cell
and State.time (R30, R31, R39). -/
opaque ballLevel : Nat → Nat → Bool
/-- FREE: the mean of a day's shifts, from their sum and their number, as the node rounds it (R419). -/
opaque agingMean : Int → Nat → Int
/-- FREE: what an owner counter's VALUE gains for 10 ms of true time, and for an AIN value held for 0.01 s: the spec does not give the
unit of VALUE (R160). -/
opaque timeCount : Nat
opaque integralCount : Int → Int
/-- FREE: the AFE die's temperature in m°C, and a supply in mV by rail, as the node measures them in the frame of a draw (Tables
AFE-9, PWR-11). -/
opaque dieTempAt : Nat → Int
opaque supplyMvAt : Nat → Nat → Nat
/-- FREE: byte k of the configuration record (address and data) that carries a class and index with its configuration: internal to
the node (R232). -/
opaque cfgRecord : Nat → Nat → List Nat → Nat → BitVec 8
/-- FREE: whether a member's signature over its admission message verifies under its certificate (Table RNG-5). -/
opaque admissionSigned : List Byte → List Byte → List Byte → Bool
/-- FREE: the frames in which a linear fit over the last daily means reaches the maintenance threshold within 5 years
(Table ELC-9), decided from the list of daily mean shifts. -/
opaque agingProjection : List Int → Bool

end Sys2Proof.Config
end

