-- ==== Sys2Proof/Machine/State.lean ====
section
/-! DEFINITION. The state of one ZN-4816 node: everything the spec gives the machine, as plain data. INVENTORY.md lists
each piece with its rule and its reset value. Indexed tables are sparse lists of (index, value) in one canonical form:
indices strictly rising, no entry equal to the value an unlisted index reads as. -/

namespace Sys2Proof.Machine

/-- Why a step stops. No row of the opcode table stops the node: every refusal of the spec is a reply status and every
reset is a next state, so this type has no constructor. -/
inductive Fault where
  deriving DecidableEq, Repr

/-- Why a command has no meaning here. -/
inductive Refusal where
  /-- Raised by Dispatch alone, for a row that has no meaning yet; safe, since nothing can be proved of it. -/
  | notModelled (mnemonic : String)
  deriving DecidableEq, Repr

/-- A table of values by index: see the file's head for the canonical form. -/
abbrev Sparse (α : Type) := List (Nat × α)

/-! ### Replies, events and sessions (06) -/

/-- The status codes of Table CMD-1. -/
inductive Status where
  | done | busyRetry | noCredit | notAvailable | badParam | sealed | authFail | sessionStale | seqOld | revoked
  | blockReset | nodeLost | notActive | unpegged | timeout | badState | featureOff
  deriving DecidableEq, Repr

/-- A packet the node sends on a Turwa port: a reply, a front-end answer or an event (Table PKT-2). -/
structure Packet where
  session  : Half
  /-- the SESSION field as sent: for OPEN, the number allotted (R104) -/
  shown    : Half
  seq      : Word
  status   : Status
  prov     : Bool
  dup      : Bool
  exact    : Bool
  standby  : Bool
  more     : Bool
  event    : Bool
  frame    : Frame
  exec     : Nat
  params   : List Byte
  /-- the key of its auth tag, empty for an untagged packet (R105, R121, R156) -/
  tagKey   : List Byte
  /-- the key under which its parameters leave encrypted, empty for plain ones (R156) -/
  encKey   : List Byte
  /-- its tag is freed when the last byte has left (R120), and which tag that is -/
  holdsTag : Bool
  tagNo    : Nat
  /-- one of the port's four front-end answer slots (R121) -/
  frontEnd : Bool
  deriving DecidableEq, Repr

/-- One SEQ of a session's duplicate window (R123). -/
structure WinEntry where
  seq      : Word
  opcode   : Half
  target   : Word
  complete : Bool
  cached   : Option Packet
  timedOut : Bool
  deriving DecidableEq, Repr

/-- An event waiting for credit in a session (Table PKT-6). -/
structure Event where
  kind   : Nat
  object : Word
  data   : List Byte
  frame  : Frame
  deriving DecidableEq, Repr

/-- An opening or open session (R110-R117, R155-R157). -/
structure Sess where
  num        : Half
  port       : Port
  role       : Role
  slot       : Fin 4
  isOpen     : Bool
  nc         : List Byte
  nn         : List Byte
  key        : List Byte
  kReq       : List Byte
  kRep       : List Byte
  kEnc       : List Byte
  /-- H, the highest SEQ admitted (R122) -/
  high       : Word
  window     : List WinEntry
  /-- the SEQ of the FEATURES accepted, or of the first command other than HELLO, PING, PROVE and FEATURES (R115) -/
  settledAt  : Option Word
  features   : BitVec 128
  eventMask  : Word
  evtNo      : Half
  evtQueue   : List Event
  /-- counts of coalesced events by kind 1-9 while the queue is full (R133); empty while none -/
  coalesced  : List Nat
  /-- S of R133 -/
  sent       : Word
  /-- E of R133 -/
  echo       : Word
  tagFails   : Nat
  msgIn      : Nat
  msgOut     : Nat
  /-- batten count of the OPEN reply (R112) -/
  openedAt   : Batten
  /-- batten count of the last packet that passed the header and tag checks (R113, notes/assumptions/113.md) -/
  lastSeen   : Batten
  deriving DecidableEq, Repr

/-- A command slot in flight (R118-R120). -/
structure Tag where
  /-- which tag it is, for the reply that frees it (R120); the model's own number (notes/assumptions/7.md) -/
  no       : Nat
  req      : Req
  opcode   : Half
  admitAt  : Batten
  /-- matrix generation at admission (R145) -/
  gen      : Word
  dup      : Bool
  /-- the command has been executed or has joined a queue that will answer it -/
  begun    : Bool
  /-- reply ready but held for SEQ order, or queued and not yet out -/
  answered : Bool
  /-- islands that left full rate while it was in flight, and whether a block on its path was reset (R76) -/
  spoiled  : List Nat
  blockHit : Bool
  /-- a ring tag is held as well (R131) -/
  onRing   : Bool
  /-- the matrix in force at admission (R143, R145) -/
  matrix   : Sparse (BitVec 4)
  deriving DecidableEq, Repr

/-- A reply ready that SEQ order holds back (R125, R126). -/
structure Held where
  port   : Port
  admitAt : Batten
  packet : Packet
  deriving DecidableEq, Repr

/-- The output side of one Turwa port. -/
structure PortQ where
  out   : List Packet
  deriving DecidableEq, Repr

/-- Key-slot lock of one port (R157). -/
structure KeyLock where
  port   : Port
  key    : Nat
  fails  : Nat
  lockS  : Nat
  locked : Bool
  endsAt : Batten
  deriving DecidableEq, Repr

structure Ports where
  host : PortQ
  u0   : PortQ
  u2   : PortQ
  can0 : PortQ
  can1 : PortQ
  ridge : PortQ
  ring  : PortQ
  inner : PortQ
  deriving DecidableEq, Repr

/-- A packet that has gone from its port's queue to a link, and the last bytes that carry it there (R120). -/
structure Leaving where
  port   : Port
  bytes  : List Byte
  packet : Packet
  deriving DecidableEq, Repr

/-- Sessions, tags and their counters (Table PKT-8). -/
structure Comm where
  sessions : List Sess
  lastNum  : Half
  tags     : List Tag
  /-- the number of the next tag allotted (the model's own) -/
  tagNext  : Nat
  held     : List Held
  ports    : Ports
  leaving  : List Leaving
  locks    : List KeyLock
  noCredits  : Nat
  authFails  : Nat
  duplicates : Nat
  framingErrors : Nat
  deriving DecidableEq, Repr

/-! ### Protection (07) -/

/-- A seal entry (R147). -/
structure Seal where
  cls    : Nat
  first  : Nat
  count  : Nat
  scope  : Nat
  attr   : Nat
  broken : Bool
  deriving DecidableEq, Repr

/-- A key slot (Table SEC-11). The value is the secret, or the public key at indices 26 and 27. -/
structure Key where
  state    : Nat
  loadedAt : Nat
  value    : List Byte
  deriving DecidableEq, Repr

/-- An issued consent token (R167). -/
structure Consent where
  number  : Nat
  purpose : Nat
  slot    : Nat
  expiry  : Nat
  used    : Bool
  deriving DecidableEq, Repr

/-- The maintenance state (R167, R168). -/
structure Maint where
  /-- the maintenance state: 0 none, 1 EXTEST, 2 DEBUG (R167) -/
  mode     : Nat
  session  : Half
  slot     : Nat
  expiry   : Nat
  entered  : Bool
  /-- DEBUG_UNLOCK has run since the last power-on class reset (R162, R168) -/
  debugUnlocked : Bool
  tokens   : List Consent
  nextToken : Nat
  deriving DecidableEq, Repr

/-! ### The alarm engine (12) -/

/-- A point's pegged state (Table ALM-8) and its timers. -/
structure PointSt where
  active   : Bool
  unack    : Bool
  shelved  : Bool
  inhibited : Bool
  firstUp  : Bool
  sensorFault : Bool
  notEval  : Bool
  cond     : Bool
  sub      : Nat
  chFrame  : Frame
  chBatten : Batten
  chSec    : Nat
  /-- offset of the change time in ticks after chSec (R251) -/
  chOff    : Nat
  shelveEnd : Frame
  value    : Int
  ackBy    : Byte
  sources  : Word
  /-- frame from which the condition has held its present value in every evaluated frame (R274) -/
  since    : Option Frame
  unkRun   : Nat
  /-- RATE ring, newest first (R270): ENG and quality -/
  rate     : List (Int × Nat)
  /-- cause of the last change (Table ALM-7 byte 11) -/
  cause    : Nat
  /-- bridge silence ends at this frame (R295) -/
  silenceEnd : Option Frame
  alfRev   : Nat
  /-- last alert state sent, 0 N, 1 V, 2 S, 3 A, 4 U (R294) -/
  alert    : Nat
  alfFrame : Frame
  deriving DecidableEq, Repr

/-- A station's pegged state (Table ALM-11). -/
structure StationSt where
  called    : Bool
  silenced  : Bool
  attending : Bool
  dmStart   : Option Frame
  dmWarned  : Bool
  dmExpired : Bool
  callCount : Nat
  deriving DecidableEq, Repr

/-- A force on an output (R182). -/
structure Force where
  node   : Nat
  output : Nat
  on     : Bool
  endsAt : Frame
  deriving DecidableEq, Repr

/-- The engine's node-wide state. -/
structure Engine where
  points   : Sparse PointSt
  firstUp  : Sparse Nat
  /-- frame in which a rule was last true, and whether it is true (R280) -/
  rules    : Sparse (Bool × Option Frame)
  stations : Sparse StationSt
  duty     : Option Nat
  /-- minute of ship's time at which the schedule last ran (R286) -/
  lastMinute : Option Nat
  callout  : Nat
  uSince   : Frame
  entered  : Frame
  accepted : Option Frame
  /-- the node-wide horn sounds (R284) -/
  horn     : Bool
  forces   : List Force
  /-- the output vector, node × 16 + output for each output that is 1 -/
  outputs  : List Nat
  deriving DecidableEq, Repr

/-- A conditioned AIN value of one node and channel as the pair evaluates it (Table AFE-9). -/
structure AinIn where
  value   : Int
  eng     : Int
  quality : Nat
  flags   : BitVec 16
  frame   : Frame
  deriving DecidableEq, Repr

/-- A DIN state of one node and input as the pair evaluates it (Table FIO-10). -/
structure DinIn where
  state   : Bool
  quality : Nat
  stale   : Bool
  edge    : Batten
  edgeSec : Nat
  edgeOff : Nat
  unsync  : Bool
  /-- an edge belongs to this frame's snapshot (R275) -/
  fresh   : Bool
  frame   : Frame
  deriving DecidableEq, Repr

/-- An owner counter (R160). -/
structure Counter where
  value : Nat
  /-- SOURCE state at the last pegged frame (KIND 2) -/
  last  : Bool
  deriving DecidableEq, Repr

/-! ### Batch, provisional result and shadow queues (01) -/

/-- The content of a batch item (Table TWN-16). -/
inductive ItemBody where
  | command (opcode : Half) (r : Req)
  | commit (r : Req) (items : List Req)
  | acn (text : List Byte)
  | fact (point bit : Nat) (on : Bool)
  | internal (code node line value : Nat)
  deriving DecidableEq, Repr

/-- A batch item (R15, Table TWN-16). -/
structure BatchItem where
  body      : ItemBody
  forwarded : Bool
  frame     : Frame
  gen       : Word
  role      : Role
  slot      : Fin 4
  unitB     : Bool
  /-- the item was admitted on this unit, which answers it (R130) -/
  own       : Bool
  deriving DecidableEq, Repr

/-- What a batch item does at its peg outside the pegged data itself. -/
inductive Effect where
  | timeSet (fields : List Nat)
  | timeShift (n : Int)
  | hourAdd
  | hourSub
  | weekdaySet (d : Nat)
  | wakeSet (first interval evt : Nat)
  | pairUnbind
  | handover (cause : Nat)
  | laidUp
  | maintEnter (purpose : Nat) (session : Half) (slot expiry token : Nat)
  | maintLeave
  | endLayup
  | clampClear (channel : Nat)
  | calRestore (channel : Nat)
  | scratch (v : Nat)
  | counterPreset (idx v : Nat)
  | ledger (kind breaker entry : Nat)
  | nodeLocal (oid v : Nat)
  | workerCmd (op : Half) (r : Req)
  | refillBucket (code : Nat)
  | disagree (line : Nat) (on : Bool)
  deriving DecidableEq, Repr

/-- An occurrence to record (R300): code, severity, type, object, time, data. -/
structure Occurrence where
  code   : Nat
  sev    : Nat
  typ    : Nat
  object : Word
  sec    : Nat
  off    : Nat
  unsync : Bool
  data   : List Byte
  deriving DecidableEq, Repr

/-- A bridge sentence waiting on U1 (R392). -/
structure Sentence where
  /-- 0 ALF, 1 ALC, 2 ARC -/
  kind  : Nat
  point : Nat
  text  : List Byte
  deriving DecidableEq, Repr

/-- A CAN frame waiting in a controller (R395). -/
structure CanFrame where
  ident   : BitVec 29
  payload : List Byte
  deriving DecidableEq, Repr

/-- A reply that leaves at the class-P reply point. -/
structure PegReply where
  /-- frame of its admission: a command refused before the batch is answered at the peg of a later frame -/
  frame   : Frame
  port    : Port
  session : Half
  seq     : Word
  status  : Status
  params  : List Byte
  deriving DecidableEq, Repr

/-- Everything that changes at a peg and only there. -/
structure Pegged where
  /-- configuration attributes by object ID (node field 0) -/
  cfg      : Sparse Nat
  /-- matrix cells by 96 × row + 6 × group + role that differ from the default matrix -/
  matrix   : Sparse (BitVec 4)
  gen      : Word
  lastMatrixFrame : Frame
  seals    : Sparse Seal
  engine   : Engine
  counters : Sparse Counter
  /-- the line values of the last pegged frame by node (R16): what VALUE, STATE and inhibit terms read -/
  ain      : Sparse AinIn
  din      : Sparse DinIn
  /-- DISAGREE flags of R211 and R221 as pegged: 128 for unit B, plus the channel, or 64 plus the input (log 27) -/
  disagree : List Nat
  swapHours : Nat
  deriving DecidableEq, Repr

/-- The provisional result of a frame (R276) with its shadow queues (R17). -/
structure Prov where
  frame    : Frame
  st       : Pegged
  lanesAgree : Bool
  effects  : List Effect
  replies  : List PegReply
  events   : List Event
  records  : List Occurrence
  sentences : List Sentence
  /-- points whose STATE bits 0-3 changed, for POINT_CHANGE -/
  changed  : List Nat
  /-- stations whose CALL or DEADMAN changed -/
  stationChanged : List Nat
  applied  : Nat
  digest   : Nat
  deriving DecidableEq, Repr

/-! ### Reset, supplies, clock (03, 04, 05) -/

/-- An NV image slot (R163, R189). -/
structure Image where
  valid    : Bool
  verified : Bool
  version  : Nat
  rollback : Nat
  length   : Nat
  received : List Byte
  deriving DecidableEq, Repr

/-- The node's one image transfer (R189). -/
structure Transfer where
  slot     : Nat
  length   : Nat
  received : Nat
  session  : Half
  port     : Port
  deriving DecidableEq, Repr

/-- A commanded reset that waits to start (R85): its class, and when, in which frame and under which tag it was admitted. -/
structure Commanded where
  powerOn : Bool
  frame   : Frame
  at_     : Nat
  tagNo   : Nat
  deriving DecidableEq, Repr

structure ResetCtl where
  inReset  : Bool
  /-- Table RST-1 indices of sources still active -/
  held     : List Nat
  /-- the present or last reset was power-on class -/
  powerOn  : Bool
  cause    : Nat
  phase    : Byte
  readyTicks : Nat
  resetNMasked : Bool
  resetNLow  : Bool
  /-- State.time at which RESET_N last went low or was masked low (R100, R101) -/
  resetNAt   : Nat
  /-- an over-temperature trip of this reset that is still to be counted (R83) -/
  overTemp   : Bool
  /-- State.time at which the reset began (R166) -/
  began      : Nat
  rstoutLow  : Bool
  /-- start step 3 has ended: ports answer (R94) -/
  portsUp    : Bool
  commanded  : Option Commanded
  /-- start step 10 has loaded the first claim (Table RST-4) -/
  firstClaim : Bool
  /-- the frame whose peg carried the laid-up order (R55) -/
  layingUp   : Option Frame
  /-- the laid-up record of that order is queued and EAVE holds the lay-up (Table PWR-9) -/
  layupQueued : Bool
  download   : Bool
  imageAOnce : Bool
  bootImage  : Nat
  /-- SECONDS of TAMPER resets (R166) -/
  tamperAt   : List Nat
  /-- State.time of the release, from which START_TIMEOUT counts (the admission of IMAGE_ACTIVATE in a download boot, R87), at
  which the listening window began, and of READY -/
  release    : Nat
  startFrom  : Nat
  listenFrom : Nat
  readyAt    : Nat
  listening  : Bool
  tokensBack : Nat
  cold       : Bool
  fallback   : Bool
  cfgInvalid : Bool
  latched    : BitVec 5
  firstPeg   : Bool
  deriving DecidableEq, Repr

structure Supplies where
  vcore : Bool
  vio   : Bool
  vaux  : Bool
  vpll  : Bool
  vafe  : Bool
  vfld  : Bool
  vback : Bool
  /-- EAVE draws from VBACK (R44) -/
  eaveFromBack : Bool
  eave  : Bool
  reference : Bool
  /-- supply in mV by rail: VBACK, VIO, VCORE, VAFE, VFLD (Table PWR-11) -/
  mv    : List Nat
  deriving DecidableEq, Repr

/-- An island (Table CLK-7). -/
structure Island where
  rate     : Nat
  /-- 0 locked full, 1 locked below full, 2 relocking, 3 held on crawl -/
  state    : Nat
  target   : Nat
  lastLock : Nat
  relocks  : Nat
  inexact  : Nat
  /-- when its PLL lost lock without a command (R73) -/
  lossAt   : Option Batten
  /-- when its PLL was last retargeted: the relock point, or the loss (R71, R73) -/
  retargetAt : Batten
  deriving DecidableEq, Repr

/-- An ISLAND_RATE that waits for its relock point (R69, R72). -/
structure RateReq where
  island : Nat
  rate   : Nat
  req    : Req
  frame  : Frame
  /-- its relock has begun -/
  begun  : Bool
  deriving DecidableEq, Repr

/-- A DOMAIN_SET that waits for or is in its switching (R48). -/
structure DomainReq where
  domain : Nat
  on     : Bool
  req    : Req
  frame  : Frame
  /-- its housekeeping slot has come -/
  due    : Bool
  begun  : Bool
  deriving DecidableEq, Repr

structure Clock where
  batten   : Batten
  frameNo  : Frame
  frameStart : Batten
  /-- batten counts of the last five frame starts (R61) -/
  starts   : List (Frame × Batten)
  /-- frames are being led or followed -/
  running  : Bool
  /-- stamp of the present frame's snapshot: second and offset (R18, R251) -/
  snapSec  : Nat
  snapOff  : Nat
  refState : Nat
  refPpb   : Int
  /-- the latest frame whose marker or token this follower took (R60) -/
  lastRef  : Option Frame
  islands  : Sparse Island
  rateReqs : List RateReq
  domains  : Sparse Nat
  domainReqs : List DomainReq
  deriving DecidableEq, Repr

/-- A block reset in progress (R96). -/
structure BlockReset where
  block : Nat
  /-- 0 GRACEFUL asked to go idle, 1 IMMEDIATE, 2 FALLBACK -/
  mode  : Nat
  /-- held in reset: the 64 ticks run -/
  inReset : Bool
  /-- it reported idle while its island was relocking (R72) -/
  idle    : Bool
  completed : Nat
  req   : Req
  deriving DecidableEq, Repr

/-! ### Class-N work in NV (08 R172) -/

inductive NvWork where
  | denied (status : Status)
  | keyLoad (idx : Nat) (key : List Byte)
  | keyRetire (idx : Nat)
  | consentIssue (purpose slot minutes : Nat)
  | debugUnlock (key : List Byte)
  | imageBegin (slot length : Nat)
  | imageBlock (offset : Nat) (data : List Byte)
  | imageVerify
  | gutterSave
  | calibrate (channel mode : Nat) (offset gain mean coeff : Int) (ok : Bool)
  deriving DecidableEq, Repr

structure NvOp where
  req  : Req
  opcode : Half
  gen  : Word
  work : NvWork
  /-- its NV programming has started: its commit point is past (R145) -/
  started : Bool
  deriving DecidableEq, Repr

/-- A calibration that averages results (R181). -/
structure Cal where
  channel : Nat
  left    : Nat
  results : List Int
  /-- CAL_SPAN's applied reference -/
  span    : Option Int
  bad     : Bool
  req     : Req
  gen     : Word
  deriving DecidableEq, Repr

/-! ### Sensor front end (09) -/

/-- A result formed from two windows (R203), with what they showed. -/
structure AfeResult where
  raw      : Int
  openWire : Bool
  excLimit : Bool
  /-- a clamp conducted in one of its windows (R206) -/
  clamped  : Bool
  /-- both windows began after the shunt's last closing (R199) -/
  settled  : Bool
  deriving DecidableEq, Repr

/-- One AFE channel: what the die applies to its lines, its windows, and its results up to SCAN and the snapshot. -/
structure AfeCh where
  /-- this unit drives the channel: its pair's excitation, its burn-out current, its shunt (R207, R210) -/
  drives   : Bool
  /-- the window boundary at which a change of role reaches the channel (R212) -/
  turnAt   : Option Batten
  /-- the boundary at which its shunt was last handed over (R212) -/
  shuntMoved : Option Batten
  shuntClosed : Bool
  /-- when its shunt last opened on too much current, and when it last closed (R199) -/
  shuntAt  : Option Batten
  closedAt : Option Batten
  overcurrent : Bool
  /-- windows that began earlier form no result (R209, R213) -/
  cleanAt  : Option Batten
  /-- number and conversion of the window that ended last (R203) -/
  last     : Option (Nat × Int)
  /-- numbers of the last two windows in which a clamp conducted (R206) -/
  clampWin : Option Nat
  clampPrev : Option Nat
  clampNow : Bool
  /-- a result latched in the die, and the latch tick; one on its way, and its arrival in SCAN (R204) -/
  latched  : Option (Batten × AfeResult)
  crossing : Option (Batten × AfeResult)
  /-- newest result in SCAN: none until the first under the settings in force -/
  result   : Option AfeResult
  own      : Int
  ownQuality : Nat
  ownFlags : BitVec 16
  clampCount : Nat
  clampSticky : Bool
  /-- consecutive compared frames out of (or within) tolerance (R211) -/
  run      : Nat
  paused   : Bool
  disagreeCount : Nat
  calOffset : Sparse Int
  calGain   : Sparse Int
  calField  : List Nat
  calAt     : Sparse Nat
  deriving DecidableEq, Repr

structure Afe where
  listen   : Bool
  linkUp   : Bool
  /-- frames begun since the link failed -/
  failedFrames : Nat
  settingsLoaded : Bool
  /-- State.time of the die's last good flashing frame (R209) -/
  lastGood : Nat
  dieTemp  : Int
  ch       : Sparse AfeCh
  cals     : List Cal
  /-- the frame from which the last role change counts, in which every channel is HELD (R212) -/
  heldIn   : Option Frame
  /-- it was a takeover after the twin's failure: channels stay HELD until their first clean result (R213) -/
  takenOver : Bool
  deriving DecidableEq, Repr

/-! ### Field die and logic half (10) -/

/-- An entry of the die's event queue (R222). -/
structure DiEvent where
  input    : Nat
  overflow : Bool
  unsync   : Bool
  level    : Bool
  stamp    : Batten
  deriving DecidableEq, Repr

/-- One input at the die. -/
structure DiPin where
  level    : Bool
  /-- a new level is held since this count, that is since this State.time; the die was not locked at its first sample (R218, R222) -/
  pending  : Option Batten
  since    : Nat
  unsync   : Bool
  debounced : Bool
  lost     : Bool
  deriving DecidableEq, Repr

/-- One output stage at the die. -/
structure DoStage where
  overload : Bool
  openWire : Bool
  overTemp : Bool
  shutdown : Bool
  /-- the stage conducts, and the State.time at which that last changed (R227, R228) -/
  on       : Bool
  turnedAt : Nat
  /-- in the present frame: current limit seen, shutdown seen, conducting without a break -/
  limited  : Bool
  tripped  : Bool
  steady   : Bool
  deriving DecidableEq, Repr

structure FieldDie where
  powered  : Bool
  /-- safe states have been loaded since VFLD came up -/
  loaded   : Bool
  word     : BitVec 12
  haveWord : Bool
  /-- groups in safe state -/
  safe     : BitVec 3
  /-- output words are ignored until a CLAIM with OUT_VALID (R234) -/
  training : Bool
  withdrawn : Bool
  ownClaim : Option Word
  /-- State.time of its load -/
  ownAt    : Nat
  /-- the claim word last loaded, which the claim frames carry -/
  ownWord  : Word
  twinClaim : Word
  twinFresh : Bool
  /-- drive permission as the twin's last good claim frame states it -/
  twinPerm : Bool
  /-- State.time of the twin's last good claim frame -/
  twinAt   : Nat
  permission : Bool
  /-- State.time of the start of the slot of the last good downlink frame (R235) -/
  lastGood : Nat
  lastSeq  : Byte
  /-- gaps in the downlink SEQ (R232) -/
  seqGaps  : Nat
  crcDown  : Byte
  pins     : Sparse DiPin
  stages   : Sparse DoStage
  queue    : List DiEvent
  queueOverflow : Bool
  vfldLow  : Bool
  /-- claim frame last started on CLM_OUT: word and flag byte -/
  claimOut : Option (Word × Byte)
  deriving DecidableEq, Repr

/-- One input at the logic half. -/
structure DinSt where
  ownState : Bool
  flags    : Byte
  cos      : Nat
  glitches : Nat
  lost     : Nat
  lostSinceRead : Bool
  run      : Nat
  paused   : Bool
  disagreeCount : Nat
  deriving DecidableEq, Repr

/-- One output at the logic half. -/
structure DoutSt where
  readback : Bool
  conducting : Bool
  overload : Bool
  openWire : Bool
  overTemp : Bool
  fault    : Bool
  mismatchRun : Nat
  matchRun : Nat
  /-- comparison suspended until this batten count (R230) -/
  blank    : Option Batten
  lastE    : Bool
  overloads : Nat
  thermals : Nat
  readbacks : Nat
  switches : Nat
  sample   : Frame
  deriving DecidableEq, Repr

structure FieldIo where
  /-- FIELD_LINK: 0 down, 1 training, 2 up -/
  link     : Nat
  crcUp    : Nat
  crcDown  : Nat
  downSeen : Byte
  seq      : Byte
  upSeq    : Byte
  /-- uplink byte 0 -/
  claimState : Byte
  twinClaim : Word
  claimBad : Nat
  /-- from when the uplink has shown no twin claim (R244) -/
  twinAbsent : Option Batten
  lastUp   : Option Batten
  stale    : Bool
  staleSnaps : Nat
  levels   : BitVec 24
  readback : BitVec 12
  conducting : BitVec 12
  din      : Sparse DinSt
  dout     : Sparse DoutSt
  /-- events that have reached SCAN and wait for their peg (R223) -/
  waiting  : List DiEvent
  /-- events of the present frame's snapshot -/
  ripe     : List DiEvent
  /-- how many of the newest of them belong to the present frame's snapshot -/
  ripeNew  : Nat
  /-- frames on the wire: last downlink and last uplink sent (R232) -/
  downWire : List Byte
  upWire   : List Byte
  /-- the frame to send in the next CLAIM slot: word, OUT_VALID -/
  claimDue : Option (Word × BitVec 12 × Bool)
  trainLeft : Nat
  lastWord : BitVec 12
  /-- configuration records still to be written to the die: class and index (R232) -/
  cfgDue   : List (Nat × Nat)
  deriving DecidableEq, Repr

/-! ### The eave domain (11) -/

/-- A calendar date and time in the fields (Table TIM-1). -/
structure Date where
  year  : Nat
  month : Nat
  day   : Nat
  hour  : Nat
  min   : Nat
  sec   : Nat
  deriving DecidableEq, Repr

/-- An entry of an EVT FIFO (R261). -/
structure EvtEntry where
  sec      : Nat
  frac     : Nat
  rising   : Bool
  recorded : Bool
  deriving DecidableEq, Repr

structure EvtIn where
  level    : Bool
  pending  : Option (Nat × Nat)
  /-- State.time of the edge that pends -/
  since    : Nat
  accepted : Bool
  fifo     : List EvtEntry
  overflow : Bool
  deriving DecidableEq, Repr

structure Eave where
  date     : Date
  /-- State.time of the latest second boundary: the counts of the second run from there -/
  secondAt : Nat
  dst      : Bool
  weekday  : Nat
  valid    : Bool
  mark     : Batten
  marked   : Bool
  /-- the mark before the latest, and the second that it, or the time before the first mark, belongs to -/
  prevMark : Option Batten
  prevSec  : Nat
  /-- remaining slew in 1/32768 s, positive shortens (R254) -/
  slew     : Int
  slewOn   : Bool
  trim     : Int
  discState : Nat
  /-- State.time since which discipline has waited for its first edge -/
  discAt   : Nat
  lastOffset : Int
  steps    : Nat
  ppsErrors : Nat
  lastPps  : Option Batten
  ppsLabelled : Bool
  labelled : Nat
  /-- State.time since which DISC_STATE is LOCKED, or of the latest update of the trim -/
  lockedSince : Option Nat
  /-- the latest label taken: UTC date (R258) -/
  label    : Option Date
  /-- a step to make at the next valid edge -/
  stepTo   : Option Date
  charger  : Byte
  /-- the configured charger setting in NV (R267) -/
  chargerNv : Byte
  chargerState : Nat
  /-- State.time of the latest change of chargerState -/
  chargerAt : Nat
  evt0     : EvtIn
  evt1     : EvtIn
  wakeNext : Nat
  wakeInterval : Nat
  wakeEvt  : BitVec 2
  layup    : Bool
  layupList : BitVec 17
  wakeCause : Nat
  wakePending : Option Nat
  /-- PWRON is low: released by EAVE (R24, R56) -/
  pwronLow : Bool
  pwronHeld : Bool
  /-- State.time at which PWRON went low (R56) -/
  pwronAt  : Nat
  laidUp   : Bool
  scratch  : Nat
  counters : List Nat
  startFails : Nat
  bootOnce : Option Nat
  lastFrame : Frame
  deriving DecidableEq, Repr

/-! ### Recorder and gutter log (13) -/

/-- A record (Table REC-3) without its COMMIT. -/
structure Rec where
  seq    : Nat
  sec    : Nat
  off    : Nat
  sev    : Nat
  unitB  : Bool
  node   : Nat
  typ    : Nat
  clockInvalid : Bool
  unsync : Bool
  code   : Nat
  object : Word
  frame  : Frame
  data   : List Byte
  deriving DecidableEq, Repr

/-- A record place in use: a committed record, or a torn slot whose bytes are the free values from this number on. -/
structure RecSlot where
  place : Nat
  body  : Option Rec
  seq   : Nat
  free  : Nat
  deriving DecidableEq, Repr

/-- A summary counter (R309). -/
structure Summary where
  count  : Nat
  sec    : Nat
  off    : Nat
  object : Word
  sev    : Nat
  causes : Nat
  deriving DecidableEq, Repr

/-- A token bucket (R309). -/
structure Bucket where
  /-- tokens taken and not yet gained back: B less this is what the bucket holds -/
  spent : Nat
  /-- frame in which it fell below B or last gained -/
  since : Frame
  deriving DecidableEq, Repr

/-- A ledger slot (R315): a committed entry's 28 bytes, or torn. -/
structure LedgerSlot where
  bytes : Option (List Byte)
  free  : Nat
  deriving DecidableEq, Repr

structure Recorder where
  opened   : Bool
  soleN    : Nat
  sole     : List RecSlot
  weather  : List RecSlot
  /-- next physical weathering place, and the erased sectors ahead of the write sector -/
  wplace   : Nat
  erased   : List Nat
  erases   : Sparse Nat
  erasing  : Option Nat
  seqNext  : Nat
  dropped  : Nat
  suppressed : Nat
  torn     : Nat
  buckets  : Sparse Bucket
  budget   : Nat
  budgetSince : Frame
  summaries : Sparse Summary
  /-- occurrences raised outside the frame, which enter at the next peg (R300) -/
  waiting  : List Occurrence
  /-- the ingress queue, oldest first; SEQ is given at the write (R302, R312) -/
  queue    : List Rec
  /-- how many ledger entries and records at the heads of their queues the present housekeeping slot writes (R313) -/
  ledgerWriting : Nat
  writing  : Nat
  /-- the sector being compacted (R307) -/
  compacting : Option Nat
  lossFact : Bool
  lossClear : Nat
  /-- causes of LOG events that occurred since the last peg (R314): cause and event code -/
  logCauses : List (Nat × Nat)
  weatherFull : Bool
  ledger   : List LedgerSlot
  /-- ledger entries that wait for the housekeeping slot -/
  ledgerQueue : List (List Byte)
  breaks   : Nat
  breakSec : Nat
  breaksSaved : Nat
  counterWord : Option (List Byte)
  counterAt : Option Nat
  deriving DecidableEq, Repr

/-- A gutter entry (Table REC-6). -/
structure Gutter where
  batten : Batten
  sec    : Nat
  kind   : Nat
  source : Nat
  detail : BitVec 24
  rep    : Nat
  /-- frame (or span since release) the entry belongs to (R317) -/
  span   : Nat
  /-- discarded and rewritten as erased after a double-bit error (R68) -/
  erased : Bool
  deriving DecidableEq, Repr

structure GutterLog where
  entries : List Gutter
  /-- entries written since the last save -/
  unsaved : Nat
  saved   : List Gutter
  allowance : Nat
  /-- State.time from which the next gain of the allowance counts (R319) -/
  gainFrom : Nat
  lastSave : Nat
  haveSave : Bool
  deriving DecidableEq, Repr

/-! ### Ports (16) -/

structure UartSt where
  rx     : List Byte
  /-- what left the line last: an encoded frame with its delimiter, a sentence or a panel frame -/
  tx     : List Byte
  /-- UnRTS_N as flow control drives it; a driver enable stands in drive1 and drive2 (R387) -/
  rtsHigh : Bool
  ctsHigh : Bool
  /-- when UnCTS_N last went high: the character in progress still ends (R386) -/
  ctsAt  : Batten
  overruns : Nat
  lineErrors : Nat
  /-- a character of the present frame was lost -/
  spoiled : Bool
  deriving DecidableEq, Repr

/-- A CAN train being reassembled (R397). -/
structure Train where
  src   : BitVec 7
  num   : Byte
  next  : Nat
  data  : List Byte
  began : Batten
  deriving DecidableEq, Repr

structure CanSt where
  state  : Nat
  tec    : Nat
  recCount : Nat
  lone   : Bool
  ackErrors : Nat
  busOffs : Nat
  protoExc : Nat
  trains : List Train
  /-- source address that a session's latest train came from; session 0 by 65536 + SEQ -/
  partners : Sparse Nat
  txq    : List CanFrame
  /-- the frames that left last: a broadcast or station frame, or the segments of one reply -/
  sent   : List CanFrame
  discards : Nat
  trainNo : Byte
  lastRetry : Option Batten
  deriving DecidableEq, Repr

structure HostPort where
  quad   : Bool
  quadNext : Bool
  sticky : BitVec 6
  mask   : BitVec 6
  /-- bytes put out by the last read transaction -/
  readOut : List Byte
  deriving DecidableEq, Repr

/-- The TAP controller states of IEEE 1149.1 (R403). -/
inductive Tap where
  | testLogicReset | runTestIdle | selectDr | captureDr | shiftDr | exit1Dr | pauseDr | exit2Dr | updateDr
  | selectIr | captureIr | shiftIr | exit1Ir | pauseIr | exit2Ir | updateIr
  deriving DecidableEq, Repr

structure Jtag where
  tap    : Tap
  ir     : BitVec 5
  irShift : BitVec 5
  drShift : List Bool
  /-- update latches of the boundary-scan register (R39) -/
  bsr    : List Bool
  tdo    : Option Bool
  trstHigh : Bool
  deriving DecidableEq, Repr

structure PortHw where
  host : HostPort
  u0   : UartSt
  u1   : UartSt
  u2   : UartSt
  can0 : CanSt
  can1 : CanSt
  jtag : Jtag
  sentences : List Sentence
  alcId : Nat
  lastAlc : Frame
  sentBad : Nat
  sentIgnored : Nat
  panelq : List (List Byte)
  /-- driver enables of U1 and U2 low (R387) -/
  drive1 : Bool
  drive2 : Bool
  /-- waiting for the twin's release since this role frame -/
  waitRelease1 : Option Frame
  waitRelease2 : Option Frame
  /-- release received or own release due -/
  released1 : Bool
  released2 : Bool
  bcastLost : Nat
  changesLost : Bool
  deriving DecidableEq, Repr

/-! ### Twin (14) -/

/-- A digest message (Table TWN-4). -/
structure DigestMsg where
  frame  : Frame
  digest : Nat
  lanes  : Bool
  refRunning : Bool
  refPresent : Bool
  refPassed  : Bool
  unmirrored : Bool
  streak : Nat
  claim  : Word
  deriving DecidableEq, Repr

/-- A ridge packet sent and not acknowledged (R322). -/
structure Unacked where
  lsn   : Nat
  sends : Nat
  /-- State.time of the latest send -/
  sentAt : Nat
  bytes : List Byte
  deriving DecidableEq, Repr

structure Ridge where
  trained : Bool
  ownNonce : List Byte
  twinNonce : List Byte
  keyOut  : List Byte
  keyIn   : List Byte
  keyCtr  : List Byte
  lsnOut  : Nat
  /-- the last accepted sequence number (R323) -/
  lsnIn   : Nat
  /-- the highest sequence number received in order, and those received beyond it (R325) -/
  lsnAck  : Nat
  lsnSeen : List Nat
  unacked : List Unacked
  tx      : List (List Byte)
  /-- State.time of the first packet that still waits for its acknowledgement -/
  ackDue  : Option Nat
  delayNs : Nat
  deriving DecidableEq, Repr

/-- What the twin's latest PAIRING packet said of it (Table TWN-15). -/
structure Offer where
  unitB  : Bool
  level  : Half
  serial : Word
  nonce  : List Byte
  claim  : Word
  /-- the first 4 bytes of its configuration digest -/
  cfg    : List Byte
  deriving DecidableEq, Repr

structure PairSt where
  /-- PAIR_STATUS byte 0: 0 solo, 1 active, 2 standby, 3 resynchronising, 4 suspect -/
  state   : Nat
  bound   : Bool
  detached : Bool
  twinLost : Bool
  /-- the twin as the leading unit sees it: 0 none, 2 synchronised, 3 resynchronising, 4 suspect, 5 detached -/
  twinState : Nat
  unmirroredSince : Bool
  /-- this unit leads frame timing -/
  leads   : Bool
  streak  : Nat
  epoch   : Nat
  ownClaim : Word
  mismatches : Nat
  missed  : Nat
  consecMis : Nat
  consecMiss : Nat
  refStart : Option Frame
  refOwn  : Option Bool
  lastRefFrame : Frame
  refResult : Nat
  suspectHard : Bool
  takeovers : Nat
  lastRoleFrame : Frame
  twinSerial : Word
  twinLevel : Half
  linkAuthFails : Nat
  lastDigest : Nat
  resyncAttempts : Nat
  /-- steps of Table TWN-8 -/
  resyncStep : Nat
  resyncOk : Nat
  snapFrame : Frame
  twinDigest : Option DigestMsg
  /-- the present frame's peg decision has been taken -/
  decided : Bool
  /-- parts of this frame's MIRROR received, whole or not -/
  mirrorParts : Nat
  mirrored : Bool
  unmirrored : Bool
  mirrorItems : List BatchItem
  /-- bytes of the frame's MIRROR as far as its parts have come, and its counts of items, AIN, DIN and edge entries -/
  mirrorBuf : List Byte
  mirrorCnt : List Nat
  /-- pairing: last step received and whether the twin's proof held -/
  pairStep : Nat
  ownPairNonce : List Byte
  offer : Option Offer
  /-- offers sent since the last start or training; 3 ends the handshake (R90) -/
  pairOffers : Nat
  bindReq : Option (Req × Word × Batten)
  lastPegFrame : Frame
  resetRequested : Bool
  copyParts : List Byte
  deriving DecidableEq, Repr

/-! ### Ring (15) -/

/-- A worker as its managers know it (Table RNG-8). -/
structure Worker where
  state   : Nat
  serial  : Word
  missedBits : List Bool
  missRun : Nat
  okRun   : Nat
  reach   : BitVec 4
  cableNs : Nat
  lastFrame : Frame
  losses  : Nat
  /-- data accepted for the present frame -/
  gotData : Bool
  tokenSeen : Nat
  unseenRun : Nat
  relay   : Bool
  facts   : Word
  laidUpAck : Bool
  deriving DecidableEq, Repr

/-- A command train in flight to a worker (R370). -/
structure RingCmd where
  worker : Nat
  /-- a command of the node itself, with an internal tag and a ring tag of its own (R118) -/
  inner  : Bool
  /-- the parameters of the parts of its reply that have come (R127) -/
  got    : List Byte
  /-- a denied command, and the status that waits for its maximum (R159) -/
  denied : Option Status
  ringSeq : Nat
  opcode : Half
  req    : Req
  admitAt : Batten
  maxTicks : Nat
  deriving DecidableEq, Repr

/-- A train under reassembly: its key, the next segment's index, its bytes, and when its first segment came (R109). -/
structure TrainIn where
  key   : Nat
  next  : Nat
  data  : List Byte
  began : Batten
  deriving DecidableEq, Repr

/-- A command that ended TIMEOUT, and the ring sequence number under which a repeat is carried again (R370). -/
structure Carried where
  port    : Port
  session : Half
  seq     : Word
  ringSeq : Nat
  deriving DecidableEq, Repr

/-- An admission exchange under way at the manager or the worker (Table RNG-5). -/
structure Admission where
  worker : Nat
  serial : Word
  step   : Nat
  nm     : List Byte
  nw     : List Byte
  draw   : Nat
  kek    : List Byte
  deriving DecidableEq, Repr

structure Ring where
  state   : Nat
  wrapped : Nat
  workers : Sparse Worker
  closingNs : Nat
  counterOut : Nat
  counterStored : Nat
  lastIn  : Sparse Nat
  tagFails : Nat
  resends : Nat
  txA     : List (List Byte)
  txB     : List (List Byte)
  trainedA : Bool
  trainedB : Bool
  delayA  : Nat
  delayB  : Nat
  /-- the newest cell of each kind sent on a port, newest first, with how often it was sent again (R358) -/
  sentA   : List (List Byte × Nat)
  sentB   : List (List Byte × Nat)
  ringSeq : Nat
  cmds    : List RingCmd
  /-- worker's window of trains: ring sequence, reply bytes -/
  trainReplies : List (Nat × List Byte)
  trainBuf : List TrainIn
  carried  : List Carried
  /-- pegged commands of the node itself that wait for an internal tag or a ring tag (R118) -/
  waiting  : List (Half × Req)
  /-- worker: port (0 A, 1 B) and originator of each train, as 256 × port + originator, by ring sequence number -/
  trainFrom : Sparse Nat
  scan    : List (Word × Nat × Nat)
  scanReq : Option Req
  scanned : Bool
  admits  : List Admission
  admitReq : Option (Req × List (Word × Nat) × List Byte × Nat)
  orders  : Sparse (BitVec 5)
  expelReq : Option (Req × Nat)
  /-- worker side -/
  index   : Nat
  mgrA    : Word
  mgrB    : Word
  claimA  : Option (Word × Batten)
  claimB  : Option (Word × Batten)
  execWord : BitVec 12
  execEver : Bool
  lastExec : Batten
  isolated : Bool
  tokenSeenNow : Nat
  /-- edge entries of the frame's DATA cells, by worker, for the managers' DI_CHANGE events (R364) -/
  edges   : List (Nat × List Byte)
  /-- the workers whose DATA this manager's own port has brought in this frame, in the order of arrival (R369) -/
  heard   : List Nat
  /-- from when the block's own reset or its retraining keeps the TOKEN from leaving (R371) -/
  downSince : Option Batten
  laidUpAck : Bool
  deriving DecidableEq, Repr

/-! ### Aging (17) -/

structure Aging where
  osc    : Nat
  leak   : Nat
  frame  : Frame
  sumOsc : Int
  sumLeak : Int
  n      : Nat
  means  : List (Int × Int)
  trend  : Nat
  quiet  : Nat
  /-- State.time of the latest reading since the reset, and of the first reading of the day (R419) -/
  readAt : Option Nat
  dayAt  : Nat
  deriving DecidableEq, Repr

/-! ### The node -/

/-- A stored configuration copy (R93, R177): the configuration, the matrix, its generation and the seal table, and
whether its digest holds. -/
structure NvCopy where
  good   : Bool
  cfg    : Sparse Nat
  matrix : Sparse (BitVec 4)
  gen    : Word
  lastMatrixFrame : Frame
  seals  : Sparse Seal
  swapHours : Nat
  deriving DecidableEq, Repr

structure State where
  rst    : ResetCtl
  sup    : Supplies
  clk    : Clock
  peg    : Pegged
  prov   : Option Prov
  /-- the batch of the present frame, in admission order, and the items admitted for the next (R15) -/
  batch  : List BatchItem
  admitted : List BatchItem
  /-- class-P commands refused before the batch; answered at the class-P reply point (R159) -/
  refusedP : List PegReply
  /-- the node's one stage (R180): its session's port and number, and the SETs held -/
  stage  : Option (Port × Half × List Req)
  ain    : Sparse AinIn
  din    : Sparse DinIn
  comm   : Comm
  /-- KEY index 0-27 (R151) -/
  keys   : Sparse Key
  /-- the two stored configuration copies (R177) -/
  nvCopyA : NvCopy
  nvCopyB : NvCopy
  /-- batten count of the last configuration peg not yet written to both copies (R177) -/
  cfgDirty : Option Batten
  maint  : Maint
  fuse   : Nat
  images : Image × Image
  sram   : Option Image
  transfer : Option Transfer
  nvOps  : List NvOp
  blocks : List BlockReset
  /-- self-tests that run or wait, oldest first, with their masks (R190) -/
  selftest : List (Req × Half)
  afe    : Afe
  fld    : FieldDie
  fio    : FieldIo
  eave   : Eave
  recorder : Recorder
  gut    : GutterLog
  hw     : PortHw
  pair   : PairSt
  ridge  : Ridge
  ring   : Ring
  aging  : Sparse Aging
  savedCounters : Sparse Counter
  /-- the frame of their last save, or of READY (R160) -/
  savedFrame : Frame
  scrubs : Sparse Nat
  /-- sectors found weak again within 365 days of their refresh, which wait for it (R423) -/
  weak : List Nat
  pending : List Instr
  /-- the model's own: batten ticks that have passed since State.reset, in reset or out of it (notes/assumptions/2.md) -/
  time   : Nat
  /-- the model's own: which free value is next (log 5) -/
  free   : Nat
  deriving DecidableEq, Repr

/-! ### Values an unlisted index reads as -/

/-- A point at READY (R298, Table ALM-8). -/
def PointSt.idle : PointSt :=
  { active := false, unack := false, shelved := false, inhibited := false, firstUp := false, sensorFault := false,
    notEval := false, cond := false, sub := 0, chFrame := 0, chBatten := 0, chSec := 0, chOff := 0, shelveEnd := 0,
    value := 0, ackBy := 0xFF, sources := 0, since := none, unkRun := 0, rate := [], cause := 0, silenceEnd := none,
    alfRev := 0, alert := 0, alfFrame := 0 }

/-- A station at READY (R298). -/
def StationSt.idle : StationSt :=
  { called := false, silenced := false, attending := false, dmStart := none, dmWarned := false, dmExpired := false,
    callCount := 0 }

/-- The engine at READY (R298). -/
def Engine.idle : Engine :=
  { points := [], firstUp := [], rules := [], stations := [], duty := none, lastMinute := none, callout := 0, uSince := 0,
    entered := 0, accepted := none, horn := false, forces := [], outputs := [] }

/-- An AIN line after reset: 0, UNKNOWN (Table AFE-9). -/
def AinIn.unknown : AinIn := { value := 0, eng := 0, quality := 3, flags := 0, frame := 0 }

/-- A DIN line after reset: 0, UNKNOWN (Table FIO-10). -/
def DinIn.unknown : DinIn :=
  { state := false, quality := 3, stale := false, edge := 0, edgeSec := 0, edgeOff := 0xFFFFFF, unsync := false,
    fresh := false, frame := 0 }

/-- An owner counter that has counted nothing. -/
def Counter.zero : Counter := { value := 0, last := false }

/-- An empty key slot (Table SEC-11). -/
def Key.empty : Key := { state := 0, loadedAt := 0, value := [] }

/-- An island at full rate and locked (Table CLK-7). -/
def Island.locked : Island :=
  { rate := 0, state := 0, target := 0, lastLock := 0, relocks := 0, inexact := 0, lossAt := none, retargetAt := 0 }

/-- An AFE channel after reset (Table AFE-9). -/
def AfeCh.start : AfeCh :=
  { drives := false, turnAt := none, shuntMoved := none, shuntClosed := false, shuntAt := none, closedAt := none,
    overcurrent := false, cleanAt := none, last := none, clampWin := none, clampPrev := none, clampNow := false,
    latched := none, crossing := none, result := none, own := 0, ownQuality := 3, ownFlags := 0, clampCount := 0, clampSticky := false, run := 0,
    paused := false, disagreeCount := 0, calOffset := [], calGain := [], calField := [], calAt := [] }

/-- An input pin at field-die start: 0 (R217). -/
def DiPin.start : DiPin := { level := false, pending := none, since := 0, unsync := false, debounced := false, lost := false }

/-- An output stage without a diagnosis. -/
def DoStage.clear : DoStage :=
  { overload := false, openWire := false, overTemp := false, shutdown := false, on := false, turnedAt := 0, limited := false, tripped := false,
    steady := false }

/-- An input at the logic half after reset. -/
def DinSt.start : DinSt :=
  { ownState := false, flags := 0, cos := 0, glitches := 0, lost := 0, lostSinceRead := false, run := 0, paused := false,
    disagreeCount := 0 }

/-- An output at the logic half after reset. -/
def DoutSt.start : DoutSt :=
  { readback := false, conducting := false, overload := false, openWire := false, overTemp := false, fault := false,
    mismatchRun := 0, matchRun := 0, blank := none, lastE := false, overloads := 0, thermals := 0, readbacks := 0,
    switches := 0, sample := 0 }

/-- A full bucket (R309). -/
def Bucket.full : Bucket := { spent := 0, since := 0 }

/-- A summary counter at 0 (R309). -/
def Summary.zero : Summary := { count := 0, sec := 0, off := 0, object := 0, sev := 0, causes := 0 }

/-- A worker never admitted (Table RNG-8). -/
def Worker.none : Worker :=
  { state := 0, serial := 0, missedBits := [], missRun := 0, okRun := 0, reach := 0, cableNs := 0, lastFrame := 0,
    losses := 0, gotData := false, tokenSeen := 0, unseenRun := 0, relay := false, facts := 0, laidUpAck := false }

/-- An island's sentinels before the first reading (R419). -/
def Aging.none : Aging :=
  { osc := 0, leak := 0, frame := 0, sumOsc := 0, sumLeak := 0, n := 0, means := [], trend := 0, quiet := 0, readAt := Option.none, dayAt := 0 }

/-- A seal entry number that is not in use. -/
def Seal.none : Seal := { cls := 0, first := 0, count := 0, scope := 0, attr := 0, broken := false }

/-! ### Reset -/

/-- What a node-level reset leaves of the sessions (R81, Table PKT-8). -/
def Comm.reset : Comm :=
  { sessions := [], lastNum := 0, tags := [], tagNext := 0, held := [],
    ports :=
      { host := { out := [] }, u0 := { out := [] }, u2 := { out := [] }, can0 := { out := [] }, can1 := { out := [] },
        ridge := { out := [] }, ring := { out := [] }, inner := { out := [] } },
    leaving := [], locks := [], noCredits := 0, authFails := 0, duplicates := 0, framingErrors := 0 }

/-- The pegged data with the factory configuration (R93, R142, R298). -/
def Pegged.factory : Pegged :=
  { cfg := [], matrix := [], gen := 1, lastMatrixFrame := 0, seals := [], engine := Engine.idle, counters := [],
    ain := [], din := [], disagree := [], swapHours := 24 }

def ResetCtl.start : ResetCtl :=
  { inReset := true, held := [], powerOn := true, cause := 0, phase := 1, readyTicks := 0, resetNMasked := false,
    resetNLow := false, resetNAt := 0, overTemp := false, began := 0, rstoutLow := true, portsUp := false, commanded := none,
    firstClaim := false, layingUp := none, layupQueued := false, download := false, imageAOnce := false, bootImage := 0,
    tamperAt := [], release := 0, startFrom := 0, listenFrom := 0, readyAt := 0, listening := false, tokensBack := 0, cold := true,
    fallback := false, cfgInvalid := false, latched := 0, firstPeg := false }

def Supplies.up : Supplies :=
  { vcore := true, vio := true, vaux := true, vpll := true, vafe := true, vfld := true, vback := true,
    eaveFromBack := false, eave := true, reference := true, mv := [3000, 3300, 900, 5000, 24000] }

def Clock.reset : Clock :=
  { batten := 0, frameNo := 0, frameStart := 0, starts := [], running := false, snapSec := 0, snapOff := 0xFFFFFF, refState := 0, refPpb := 0, lastRef := none, islands := [],
    rateReqs := [], domains := [], domainReqs := [] }

def Maint.normal : Maint :=
  { mode := 0, session := 0, slot := 0, expiry := 0, entered := false, debugUnlocked := false, tokens := [],
    nextToken := 1 }

def Image.factory : Image :=
  { valid := true, verified := true, version := 0, rollback := 0, length := 0, received := [] }

def Afe.start : Afe :=
  { listen := true, linkUp := false, failedFrames := 0, settingsLoaded := false, lastGood := 0, dieTemp := 0, ch := [],
    cals := [], heldIn := none, takenOver := false }

def FieldDie.start : FieldDie :=
  { powered := true, loaded := false, word := 0, haveWord := false, safe := 0, training := false, withdrawn := false,
    ownClaim := none, ownAt := 0, ownWord := 0, twinClaim := 0, twinFresh := false, twinPerm := false, twinAt := 0, permission := true, lastGood := 0,
    lastSeq := 0, seqGaps := 0, crcDown := 0, pins := [], stages := [], queue := [], queueOverflow := false, vfldLow := false,
    claimOut := none }

def FieldIo.start : FieldIo :=
  { link := 0, crcUp := 0, crcDown := 0, downSeen := 0, seq := 0, upSeq := 0, claimState := 0, twinClaim := 0, claimBad := 0, twinAbsent := none,
    lastUp := none, stale := true, staleSnaps := 2, levels := 0, readback := 0, conducting := 0, din := [], dout := [],
    waiting := [], ripe := [], ripeNew := 0, downWire := [], upWire := [], claimDue := none, trainLeft := 0, lastWord := 0, cfgDue := [] }

def EvtIn.empty : EvtIn := { level := false, pending := none, since := 0, accepted := false, fifo := [], overflow := false }

/-- EAVE after a cold start (R24, R250, R266), with POWER_ON counted as 1 (R99). -/
def Eave.cold : Eave :=
  { date := { year := 2000, month := 1, day := 1, hour := 0, min := 0, sec := 0 }, secondAt := 0, dst := false, weekday := 0,
    valid := false, mark := 0, marked := false, prevMark := none, prevSec := 0, slew := 0, slewOn := false, trim := 0,
    discState := 0, discAt := 0, lastOffset := 0,
    steps := 0, ppsErrors := 0, lastPps := none, ppsLabelled := false, labelled := 0, lockedSince := none, label := none,
    stepTo := none, charger := 0, chargerNv := 0, chargerState := 0, chargerAt := 0, evt0 := EvtIn.empty, evt1 := EvtIn.empty,
    wakeNext := 0, wakeInterval := 0, wakeEvt := 0, layup := false, layupList := 0, wakeCause := 0,
    wakePending := none, pwronLow := false, pwronHeld := false, pwronAt := 0, laidUp := false, scratch := 0,
    counters := [1, 0, 0, 0, 0, 0, 0, 0, 0, 0, 0, 0, 0, 0, 0, 0, 0, 0, 0], startFails := 0, bootOnce := none,
    lastFrame := 0 }

def Recorder.fresh : Recorder :=
  { opened := false, soleN := 2048, sole := [], weather := [], wplace := 0, erased := [], erases := [], erasing := none,
    seqNext := 1, dropped := 0, suppressed := 0, torn := 0, buckets := [], budget := 4096, budgetSince := 0,
    summaries := [], waiting := [], queue := [], ledgerWriting := 0, writing := 0, compacting := none, lossFact := false, lossClear := 0, logCauses := [],
    weatherFull := false, ledger := [], ledgerQueue := [], breaks := 0, breakSec := 0, breaksSaved := 0,
    counterWord := none, counterAt := none }

def GutterLog.empty : GutterLog :=
  { entries := [], unsaved := 0, saved := [], allowance := 8192, gainFrom := 0, lastSave := 0, haveSave := false }

def UartSt.reset : UartSt :=
  { rx := [], tx := [], rtsHigh := true, ctsHigh := true, ctsAt := 0, overruns := 0, lineErrors := 0, spoiled := false }

def CanSt.reset : CanSt :=
  { state := 0, tec := 0, recCount := 0, lone := false, ackErrors := 0, busOffs := 0, protoExc := 0, trains := [], partners := [],
    txq := [], sent := [], discards := 0, trainNo := 0, lastRetry := none }

def Jtag.reset : Jtag :=
  { tap := .testLogicReset, ir := 1, irShift := 1, drShift := [], bsr := List.replicate 66 false, tdo := none,
    trstHigh := false }

def PortHw.reset : PortHw :=
  { host := { quad := false, quadNext := false, sticky := 0, mask := 1, readOut := [] }, u0 := UartSt.reset,
    u1 := UartSt.reset, u2 := UartSt.reset, can0 := CanSt.reset, can1 := CanSt.reset, jtag := Jtag.reset, sentences := [],
    alcId := 0, lastAlc := 0, sentBad := 0, sentIgnored := 0, panelq := [], drive1 := false, drive2 := false,
    waitRelease1 := Option.none, waitRelease2 := none, released1 := false, released2 := false, bcastLost := 0,
    changesLost := false }

/-- The pair's state of an unbound unit as shipped: S = 1, E = 0 (R329). -/
def PairSt.shipped : PairSt :=
  { state := 0, bound := false, detached := false, twinLost := false, twinState := 0, unmirroredSince := false, leads := false, streak := 1,
    epoch := 0, ownClaim := 0, mismatches := 0, missed := 0, consecMis := 0, consecMiss := 0, refStart := none,
    refOwn := none, lastRefFrame := 0, refResult := 0, suspectHard := false,
    takeovers := 0, lastRoleFrame := 0, twinSerial := 0, twinLevel := 0, linkAuthFails := 0, lastDigest := 0,
    resyncAttempts := 0, resyncStep := 0, resyncOk := 0, snapFrame := 0, twinDigest := none, decided := false, mirrorParts := 0,
    mirrored := false, unmirrored := false, mirrorItems := [], mirrorBuf := [], mirrorCnt := [], pairStep := 0, ownPairNonce := [], offer := none, pairOffers := 0,
    bindReq := none, lastPegFrame := 0, resetRequested := false, copyParts := [] }

def Ridge.down : Ridge :=
  { trained := false, ownNonce := [], twinNonce := [], keyOut := [], keyIn := [], keyCtr := [], lsnOut := 0, lsnIn := 0,
    lsnAck := 0, lsnSeen := [], unacked := [], tx := [], ackDue := none, delayNs := 0 }

def Ring.start : Ring :=
  { state := 4, wrapped := 0, workers := [], closingNs := 0, counterOut := 0, counterStored := 0, lastIn := [],
    tagFails := 0, resends := 0, txA := [], txB := [], trainedA := false, trainedB := false, delayA := 0, delayB := 0,
    sentA := [], sentB := [], ringSeq := 0, cmds := [], trainReplies := [], trainFrom := [], trainBuf := [],
    carried := [], waiting := [],
    scan := [], scanReq := none, scanned := false, admits := [], admitReq := none, orders := [], expelReq := none,
    index := 0, mgrA := 0, mgrB := 0, claimA := none, claimB := none, execWord := 0, execEver := false,
    lastExec := 0, isolated := false, tokenSeenNow := 0, edges := [], heard := [], downSince := none,
    laidUpAck := false }

/-- A stored copy as shipped: the factory configuration. -/
def NvCopy.factory : NvCopy :=
  { good := true, cfg := [], matrix := [], gen := 1, lastMatrixFrame := 0, seals := [], swapHours := 24 }

/-- The node as shipped at its first power-on, at the tick on which every reset source has gone inactive: EAVE started
cold, the start sequence not yet run (notes/assumptions/4.md, 12.md). -/
def State.reset : State :=
  { rst := ResetCtl.start, sup := Supplies.up, clk := Clock.reset, peg := Pegged.factory, prov := none, batch := [],
    admitted := [], refusedP := [], stage := none, ain := [], din := [], comm := Comm.reset,
    keys := [(0, { state := 2, loadedAt := 0, value := Config.deliveryKey }),
             (27, { state := 1, loadedAt := 0, value := Config.identityPublic })],
    nvCopyA := NvCopy.factory, nvCopyB := NvCopy.factory, cfgDirty := none, maint := Maint.normal, fuse := 0,
    images := (Image.factory, Image.factory), sram := none, transfer := none, nvOps := [], blocks := [], selftest := [],
    afe := Afe.start, fld := FieldDie.start, fio := FieldIo.start, eave := Eave.cold, recorder := Recorder.fresh,
    gut := GutterLog.empty, hw := PortHw.reset, pair := PairSt.shipped, ridge := Ridge.down, ring := Ring.start,
    aging := [], savedCounters := [], savedFrame := 0, scrubs := [], weak := [], pending := [], time := 0, free := 0 }

end Sys2Proof.Machine
end

