-- ==== Sys2Proof/Machine/Bits.lean ====
section
/-! DEFINITION. Bytes and words: little-endian fields (R4), bit fields (R5), saturating counters, signed values, the
sparse tables of State, and the CRCs of R108 and R303. -/

namespace Sys2Proof.Machine

/-! ### Little-endian fields -/

/-- The number that bytes spell, least significant first (R4). -/
def leNat : List Byte → Nat
  | [] => 0
  | b :: bs => b.toNat + 256 * leNat bs

/-- n bytes of a number, least significant first (R4). -/
def toLe : Nat → Nat → List Byte
  | 0, _ => []
  | n + 1, v => BitVec.ofNat 8 v :: toLe n (v / 256)

/-- The bytes from offset i, n of them; shorter where the list ends. -/
def slice (bs : List Byte) (i n : Nat) : List Byte := (bs.drop i).take n

/-- The little-endian field of n bytes at offset i; bytes past the end count as 0. -/
def leAt (bs : List Byte) (i n : Nat) : Nat := leNat (slice bs i n)

/-- One byte, 0 past the end. -/
def byteAt (bs : List Byte) (i : Nat) : Nat := (bs.getD i 0).toNat

/-- Bit i of a number. -/
def bitAt (v i : Nat) : Bool := v.testBit i

/-- Bits lo to lo + n - 1 of a number. -/
def bitsAt (v lo n : Nat) : Nat := (v >>> lo) % 2 ^ n

/-- 1 for true. -/
def b2n (b : Bool) : Nat := if b then 1 else 0

/-- The number whose bit i is entry i. -/
def ofBits : List Bool → Nat
  | [] => 0
  | b :: bs => b2n b + 2 * ofBits bs

/-- An n-byte two's-complement number as an integer. -/
def signedOf (n v : Nat) : Int := if v < 2 ^ (8 * n - 1) then (v : Int) else (v : Int) - 2 ^ (8 * n)

/-- The n-byte two's-complement form of an integer. -/
def ofSigned (n : Nat) (x : Int) : Nat := (x % (2 ^ (8 * n) : Int)).toNat

/-- Clip to the s32 limits. -/
def clip32 (x : Int) : Int := max (-2147483648) (min 2147483647 x)

/-- One more, saturating at a maximum. -/
def satInc (limit n : Nat) : Nat := min limit (n + 1)

/-- A counter u32, one more, saturating. -/
def inc32 (n : Nat) : Nat := satInc 0xFFFFFFFF n

/-- A u16 counter, one more, saturating. -/
def inc16 (n : Nat) : Nat := satInc 0xFFFF n

/-- Ceiling of n / d. -/
def ceilDiv (n d : Nat) : Nat := (n + d - 1) / d

/-- Frame a is at or after frame b, modulo 2^32 (R13). -/
def frameGe (a b : Frame) : Bool := decide ((a - b).toNat < 2 ^ 31)

/-- Ticks from batten count b to batten count a, modulo 2^40 (R61). -/
def since (a b : Batten) : Nat := (a - b).toNat

/-! ### Sparse tables -/

/-- The entry at index i of a sparse table, d where none is listed. -/
def sget {α : Type} (d : α) : Sparse α → Nat → α
  | [], _ => d
  | (j, a) :: m, i => if j = i then a else sget d m i

/-- Insert or replace at index i, keeping indices rising. -/
def sput {α : Type} : Sparse α → Nat → α → Sparse α
  | [], i, a => [(i, a)]
  | (j, b) :: m, i, a =>
    if i < j then (i, a) :: (j, b) :: m else if i = j then (i, a) :: m else (j, b) :: sput m i a

/-- Take index i out. -/
def sdel {α : Type} : Sparse α → Nat → Sparse α
  | [], _ => []
  | (j, b) :: m, i => if j = i then sdel m i else (j, b) :: sdel m i

/-- Write index i, keeping the canonical form: the value an unlisted index reads as is not listed. -/
def sset {α : Type} [DecidableEq α] (d : α) (m : Sparse α) (i : Nat) (a : α) : Sparse α :=
  if a = d then sdel m i else sput m i a

/-- Change index i by a function. -/
def smod {α : Type} [DecidableEq α] (d : α) (m : Sparse α) (i : Nat) (f : α → α) : Sparse α :=
  sset d m i (f (sget d m i))

/-- The canonical form of a sparse table: indices strictly rising, no entry equal to the default. -/
def swf {α : Type} [DecidableEq α] (d : α) : Sparse α → Bool
  | [] => true
  | (i, a) :: m => decide (a ≠ d) && m.all (fun e => decide (i < e.1)) && swf d m

/-- Replace the entry of a list at a position, if there is one. -/
def lset {α : Type} (l : List α) (i : Nat) (a : α) : List α := l.set i a

/-! ### CRCs -/

/-- One bit step of CRC-16 with polynomial 0x1021, not reflected (R108). -/
def crc16Bit (c : Nat) : Nat := if c.testBit 15 then ((c <<< 1) ^^^ 0x1021) % 65536 else (c <<< 1) % 65536

def crc16Byte (c : Nat) (b : Byte) : Nat :=
  let x := c ^^^ (b.toNat <<< 8)
  crc16Bit (crc16Bit (crc16Bit (crc16Bit (crc16Bit (crc16Bit (crc16Bit (crc16Bit x)))))))

/-- CRC-16: polynomial 0x1021, initial value 0xFFFF, no reflection, no final XOR (R108). -/
def crc16 (bs : List Byte) : Nat := bs.foldl crc16Byte 0xFFFF

def crc32Bit (c : Nat) : Nat := if c.testBit 0 then (c >>> 1) ^^^ 0xEDB88320 else c >>> 1

def crc32Byte (c : Nat) (b : Byte) : Nat :=
  let x := c ^^^ b.toNat
  crc32Bit (crc32Bit (crc32Bit (crc32Bit (crc32Bit (crc32Bit (crc32Bit (crc32Bit x)))))))

/-- CRC-32 of IEEE 802.3 (R303, R325, R358); the polynomial is the standard's (log 6). -/
def crc32 (bs : List Byte) : Nat := (bs.foldl crc32Byte 0xFFFFFFFF) ^^^ 0xFFFFFFFF

end Sys2Proof.Machine
end

