-- ==== Sys2Proof/Machine/Crypto.lean ====
section
/-! DEFINITION. The cryptographic functions the spec names: SHA-256, HMAC-SHA-256, HKDF-SHA-256 and AES-256-GCM
(R151, R155, R156, R323, R359, R368). The spec names the standards and does not reprint them: the algorithms here are
PRESUMED from the published standards (notes/assumptions/6.md). All arithmetic is on Nat below 2^32 or 2^128. -/

namespace Sys2Proof.Machine

/-! ### SHA-256

The standard gives its constants as the first 32 fraction bits of roots of primes: they are computed here, not listed. -/

/-- The primes below 312: the 64 the digest's constants come from. -/
def smallPrimes : List Nat :=
  (List.range 312).filter (fun n => decide (2 ≤ n) && (List.range 18).all (fun d => decide (d < 2 ∨ d = n ∨ n % d ≠ 0)))

/-- The greatest number below 2^36 whose k-th power is at most v, found bit by bit. -/
def rootBelow (k v : Nat) : Nat :=
  (List.range 36).reverse.foldl (fun r b => if (r + 2 ^ b) ^ k ≤ v then r + 2 ^ b else r) 0

/-- The first 32 fraction bits of the k-th root of p. -/
def rootFraction (k p : Nat) : Nat := rootBelow k (p * 2 ^ (32 * k)) % 2 ^ 32

/-- x turned right by n places within 32 bits: two copies side by side, shifted. -/
def turn (x n : Nat) : Nat := x * (2 ^ 32 + 1) / 2 ^ n % 2 ^ 32

/-- n bytes of a number, most significant first. -/
def toBe (n v : Nat) : List Byte := (toLe n v).reverse

/-- The number that bytes spell, most significant first. -/
def beNat (bs : List Byte) : Nat := leNat bs.reverse

/-- The word that follows a window of 16 words of the schedule, oldest first. -/
def nextWord (w : List Nat) : Nat :=
  let near := w.getD 14 0
  let far := w.getD 1 0
  (w.getD 0 0 + w.getD 9 0 + (turn near 17 ^^^ turn near 19 ^^^ near / 2 ^ 10)
    + (turn far 7 ^^^ turn far 18 ^^^ far / 2 ^ 3)) % 2 ^ 32

/-- The eight working words after one round, kw its constant and schedule word added. -/
def shaMix : List Nat → Nat → List Nat
  | [a, b, c, d, e, f, g, h], kw =>
    let choice := g ^^^ (e &&& (f ^^^ g))
    let majority := (a &&& b) ||| (c &&& (a ||| b))
    let fresh := h + kw + choice + (turn e 6 ^^^ turn e 11 ^^^ turn e 25)
    [(fresh + majority + (turn a 2 ^^^ turn a 13 ^^^ turn a 22)) % 2 ^ 32, a, b, c, (d + fresh) % 2 ^ 32, e, f, g]
  | v, _ => v

/-- The rounds over their constants, the window of the schedule sliding one word a round. -/
def shaRun : List Nat → List Nat → List Nat → List Nat
  | [], _, v => v
  | k :: ks, w, v => shaRun ks (w.tail ++ [nextWord w]) (shaMix v (k + w.headD 0))

/-- The state after n blocks of 16 words. -/
def shaFold : Nat → List Nat → List Byte → List Nat
  | 0, v, _ => v
  | n + 1, v, m =>
    let window := (List.range 16).map (fun i => beNat ((m.drop (4 * i)).take 4))
    let out := shaRun (smallPrimes.map (rootFraction 3)) window v
    shaFold n ((List.range 8).map (fun i => (v.getD i 0 + out.getD i 0) % 2 ^ 32)) (m.drop 64)

/-- The message, a one bit, zeros and the bit length in 8 bytes, to whole blocks of 64 bytes. -/
def shaPad (m : List Byte) : List Byte :=
  m ++ [0x80#8] ++ List.replicate ((119 - m.length % 64) % 64) 0#8 ++ toBe 8 (8 * m.length)

/-- SHA-256. -/
def sha256 (m : List Byte) : List Byte :=
  let v := shaFold ((shaPad m).length / 64) ((smallPrimes.take 8).map (rootFraction 2)) (shaPad m)
  (List.range 8).flatMap (fun i => toBe 4 (v.getD i 0))

/-! ### HMAC and HKDF -/

def hmacKey (k : List Byte) : List Byte :=
  let k' := if 64 < k.length then sha256 k else k
  k' ++ List.replicate (64 - k'.length) 0#8

/-- HMAC-SHA-256. -/
def hmac (k m : List Byte) : List Byte :=
  let k' := hmacKey k
  sha256 (k'.map (· ^^^ 0x5c#8) ++ sha256 (k'.map (· ^^^ 0x36#8) ++ m))

/-- A 16-byte auth tag: the first 16 bytes of HMAC-SHA-256 (R156, R323, R359). -/
def authTag (k m : List Byte) : List Byte := (hmac k m).take 16

def hkdfExpand (prk info : List Byte) : Nat → Nat → List Byte → List Byte
  | 0, _, _ => []
  | n + 1, i, prev =>
    let t := hmac prk (prev ++ info ++ [BitVec.ofNat 8 i])
    t ++ hkdfExpand prk info n (i + 1) t

/-- HKDF-SHA-256 with n blocks of 32 bytes. An empty salt counts as 32 zero bytes. -/
def hkdf (ikm salt info : List Byte) (n : Nat) : List Byte :=
  hkdfExpand (hmac (if salt = [] then List.replicate 32 0#8 else salt) ikm) info n 1 []

/-! ### AES-256-GCM -/

def xtime (x : Nat) : Nat := if 128 ≤ x then ((2 * x) ^^^ 0x11b) % 256 else 2 * x

def gmulAux : Nat → Nat → Nat → Nat → Nat
  | 0, _, _, r => r
  | n + 1, a, b, r => gmulAux n (xtime a) (b / 2) (if b % 2 = 1 then r ^^^ a else r)

/-- Product in GF(2^8). -/
def gmul (a b : Nat) : Nat := gmulAux 8 a b 0

def gpow (a : Nat) : Nat → Nat
  | 0 => 1
  | n + 1 => gmul a (gpow a n)

/-- The multiplicative inverse in GF(2^8): a^254. -/
def ginv (a : Nat) : Nat := gpow a 254

def rotl8 (x n : Nat) : Nat := ((x <<< n) ||| (x >>> (8 - n))) % 256

/-- The S-box. -/
def sbox (x : Nat) : Nat :=
  let i := ginv x
  (((((i ^^^ rotl8 i 1) ^^^ rotl8 i 2) ^^^ rotl8 i 3) ^^^ rotl8 i 4) ^^^ 0x63) % 256

def xorL (a b : List Nat) : List Nat := List.zipWith (· ^^^ ·) a b

/-- The expanded key as words of four bytes, newest first; i counts words made. -/
def aesExpand : Nat → Nat → Nat → List (List Nat) → List (List Nat)
  | 0, _, _, ws => ws
  | n + 1, i, rcon, ws =>
    let t := ws.headD []
    let old := ws.getD 7 []
    if i % 8 = 0 then
      let r := [sbox (t.getD 1 0) ^^^ rcon, sbox (t.getD 2 0), sbox (t.getD 3 0), sbox (t.getD 0 0)]
      aesExpand n (i + 1) (xtime rcon) (xorL old r :: ws)
    else if i % 8 = 4 then aesExpand n (i + 1) rcon (xorL old (t.map sbox) :: ws)
    else aesExpand n (i + 1) rcon (xorL old t :: ws)

def chunks4 : List Nat → List (List Nat)
  | a :: b :: c :: d :: r => [a, b, c, d] :: chunks4 r
  | _ => []

/-- The 15 round keys of 16 bytes. -/
def aesKeys (key : List Byte) : List (List Nat) :=
  let ws := (aesExpand 52 8 1 (chunks4 (key.map BitVec.toNat)).reverse).reverse
  (List.range 15).map (fun r => ((ws.drop (4 * r)).take 4).flatten)

def shiftRows (s : List Nat) : List Nat :=
  [0, 5, 10, 15, 4, 9, 14, 3, 8, 13, 2, 7, 12, 1, 6, 11].map (fun i => s.getD i 0)

def mixColumn (c : List Nat) : List Nat :=
  let a := c.getD 0 0
  let b := c.getD 1 0
  let d := c.getD 2 0
  let e := c.getD 3 0
  [gmul 2 a ^^^ gmul 3 b ^^^ d ^^^ e, a ^^^ gmul 2 b ^^^ gmul 3 d ^^^ e,
   a ^^^ b ^^^ gmul 2 d ^^^ gmul 3 e, gmul 3 a ^^^ b ^^^ d ^^^ gmul 2 e]

def aesRounds : List (List Nat) → List Nat → List Nat
  | [], s => s
  | [k], s => xorL (shiftRows (s.map sbox)) k
  | k :: ks, s => aesRounds ks (xorL (((chunks4 (shiftRows (s.map sbox))).map mixColumn).flatten) k)

/-- AES-256 on one block. -/
def aesBlock (keys : List (List Nat)) (block : List Byte) : List Byte :=
  (aesRounds keys.tail (xorL (block.map BitVec.toNat) (keys.headD []))).map (BitVec.ofNat 8)

/-- Product in GF(2^128) of GCM, both as big-endian numbers. -/
def ghashMul : Nat → Nat → Nat → Nat → Nat
  | 0, _, _, z => z
  | n + 1, x, v, z =>
    let z' := if x.testBit n then z ^^^ v else z
    let v' := if v.testBit 0 then (v >>> 1) ^^^ (0xE1 <<< 120) else v >>> 1
    ghashMul n x v' z'

def pad16 (m : List Byte) : List Byte := m ++ List.replicate ((16 - m.length % 16) % 16) 0#8

def ghash (h : Nat) : Nat → List Byte → Nat → Nat
  | 0, _, y => y
  | n + 1, m, y => ghash h n (m.drop 16) (ghashMul 128 (y ^^^ beNat (m.take 16)) h 0)

def gcmStream (keys : List (List Nat)) (iv : List Byte) : Nat → Nat → List Byte
  | 0, _ => []
  | n + 1, c => aesBlock keys (iv ++ toBe 4 c) ++ gcmStream keys iv n (c + 1)

/-- The ciphertext (or, the function being its own inverse, the plaintext). -/
def gcmCrypt (key iv m : List Byte) : List Byte :=
  List.zipWith (· ^^^ ·) m (gcmStream (aesKeys key) iv (ceilDiv m.length 16) 2)

/-- The 16-byte GCM tag over additional data and ciphertext. -/
def gcmTag (key iv aad c : List Byte) : List Byte :=
  let keys := aesKeys key
  let h := beNat (aesBlock keys (List.replicate 16 0#8))
  let m := pad16 aad ++ pad16 c ++ toBe 8 (8 * aad.length) ++ toBe 8 (8 * c.length)
  let s := ghash h (m.length / 16) m 0
  List.zipWith (· ^^^ ·) (toBe 16 s) (aesBlock keys (iv ++ toBe 4 1))

/-- AES-256-GCM opened: the plaintext where the tag holds. -/
def gcmOpen (key iv aad c tag : List Byte) : Option (List Byte) :=
  if gcmTag key iv aad c = tag then some (gcmCrypt key iv c) else none

/-- AES-256-GCM sealed: ciphertext and tag. -/
def gcmSeal (key iv aad m : List Byte) : List Byte × List Byte :=
  let c := gcmCrypt key iv m
  (c, gcmTag key iv aad c)

/-- The bytes of an ASCII label (R155, R323, R359). -/
def ascii (s : String) : List Byte := s.toList.map (fun c => BitVec.ofNat 8 c.toNat)

end Sys2Proof.Machine
end

