-- ==== Sys2Proof/Machine/Objects.lean ====
section
/-! DEFINITION. Object IDs (R7), the attribute tables of every class (02, 03, 04, 05, 06, 07, 09-17), the configuration
store and the access matrix's cells (R138-R142). An attribute that is configuration has its one home in Pegged.cfg. -/

namespace Sys2Proof.Machine

/-! ### Object IDs (Table SCP-6) -/

def oidAttr (o : Word) : Nat := o.toNat % 256
def oidIndex (o : Word) : Nat := o.toNat / 256 % 4096
def oidClass (o : Word) : Nat := o.toNat / 1048576 % 256
def oidNode (o : Word) : Nat := o.toNat / 268435456

/-- The store key of an attribute: its object ID with node field 0. -/
def key (cls idx attr : Nat) : Nat := cls * 1048576 + idx * 256 + attr

/-- An object ID from its fields. -/
def oid (node cls idx attr : Nat) : Word := BitVec.ofNat 32 (node * 268435456 + key cls idx attr)

/-! Class codes of Table SCP-7. -/
def cAIN : Nat := 0x01
def cDIN : Nat := 0x02
def cDOUT : Nat := 0x03
def cPOINT : Nat := 0x10
def cGROUP : Nat := 0x11
def cINHIBIT : Nat := 0x12
def cSTATION : Nat := 0x13
def cROSTER : Nat := 0x14
def cCLOCK : Nat := 0x20
def cLOG : Nat := 0x30
def cPAIR : Nat := 0x40
def cRINGNODE : Nat := 0x41
def cMATRIX : Nat := 0x50
def cKEY : Nat := 0x51
def cCOUNTER : Nat := 0x60
def cISLAND : Nat := 0x70
def cDOMAIN : Nat := 0x71
def cDEVICE : Nat := 0x7F

/-- The classes in the row order of Table SCP-7. -/
def classRows : List Nat :=
  [cAIN, cDIN, cDOUT, cPOINT, cGROUP, cINHIBIT, cSTATION, cROSTER, cCLOCK, cLOG, cPAIR, cRINGNODE, cMATRIX, cKEY, cCOUNTER,
   cISLAND, cDOMAIN, cDEVICE]

/-- The row of a class code in Table SCP-7. -/
def classRow (cls : Nat) : Option Nat := classRows.findIdx? (· == cls)

/-! ### Attribute tables -/

/-- What an attribute table says of one attribute. -/
structure AttrInfo where
  /-- length of its type in bytes -/
  len    : Nat
  read   : Bool
  write  : Bool
  /-- configuration: it lives in the configuration store -/
  cfg    : Bool
  /-- factory value of configuration -/
  dflt   : Nat
  /-- node-local (Table CMD-21) -/
  local_ : Bool

/-- A read-only attribute that is not configuration. -/
def live (len : Nat) : Option AttrInfo :=
  some { len := len, read := true, write := false, cfg := false, dflt := 0, local_ := false }
/-- A configuration attribute. -/
def conf (len dflt : Nat) : Option AttrInfo :=
  some { len := len, read := true, write := true, cfg := true, dflt := dflt, local_ := false }
/-- A node-local configuration attribute (Table CMD-21). -/
def confLocal (len dflt : Nat) : Option AttrInfo :=
  some { len := len, read := true, write := true, cfg := true, dflt := dflt, local_ := true }
/-- A writable attribute that is not in the store. -/
def act (len : Nat) (read local_ : Bool) : Option AttrInfo :=
  some { len := len, read := read, write := true, cfg := false, dflt := 0, local_ := local_ }

/-- Sixteen spaces, the factory LABEL. -/
def spaces16 : Nat := leNat (List.replicate 16 0x20#8)

/-- Table AFE-9. -/
def ainAttr : Nat → Option AttrInfo
  | 0x00 => live 4 | 0x01 => live 4 | 0x02 => live 1 | 0x03 => live 2 | 0x04 => live 4 | 0x05 => live 4
  | 0x10 => conf 1 0 | 0x11 => conf 1 2 | 0x12 => conf 1 0 | 0x13 => conf 1 4 | 0x14 => conf 4 0 | 0x15 => conf 1 0xFF
  | 0x16 => conf 4 0 | 0x17 => conf 4 100000 | 0x18 => conf 4 0
  | 0x20 => live 4 | 0x21 => live 4 | 0x22 => live 1 | 0x23 => act 1 false true
  | 0x30 => live 4 | 0x31 => act 1 true true | 0x32 => live 4 | 0x33 => live 4
  | _ => none

/-- Table FIO-10. -/
def dinAttr : Nat → Option AttrInfo
  | 0x00 => live 1 | 0x01 => live 1 | 0x02 => live 1 | 0x03 => live 1 | 0x04 => live 8 | 0x05 => live 4 | 0x06 => live 4
  | 0x10 => conf 1 1 | 0x11 => conf 2 5000 | 0x12 => conf 1 0 | 0x13 => conf 1 0 | 0x14 => conf 2 0
  | 0x30 => live 4 | 0x31 => live 4 | 0x32 => live 4 | 0x33 => live 4
  | _ => none

/-- Table FIO-11. -/
def doutAttr : Nat → Option AttrInfo
  | 0x00 => live 1 | 0x01 => live 1 | 0x02 => live 1 | 0x03 => live 2 | 0x04 => live 4
  | 0x10 => conf 1 0 | 0x11 => conf 2 100 | 0x12 => conf 1 1 | 0x13 => conf 2 20
  | 0x30 => live 4 | 0x31 => live 4 | 0x32 => live 4 | 0x33 => live 4
  | _ => none

/-- The factory CALLOUT of a system point: 1 for severity 5 and above (R278). -/
def sysSeverity : Nat → Nat
  | 0 => 5 | 1 => 5 | 2 => 5 | 3 => 6 | 4 => 5 | 5 => 4 | 6 => 5 | 7 => 5 | 8 => 5 | 9 => 4 | 10 => 7 | 11 => 6 | 12 => 5
  | 13 => 3 | 14 => 2 | 15 => 4 | 16 => 3 | 17 => 7 | 18 => 3 | _ => 0

/-- Table ALM-8, for a point index. -/
def pointAttr (idx : Nat) : Nat → Option AttrInfo
  | 0x00 => live 1 | 0x01 => live 1 | 0x02 => live 4 | 0x03 => live 8 | 0x04 => live 4 | 0x05 => live 4 | 0x06 => live 4
  | 0x07 => live 1 | 0x08 => live 4
  | 0x10 => conf 4 0 | 0x11 => conf 4 0 | 0x12 => conf 1 10
  | 0x20 => conf 2 0 | 0x21 => conf 2 0
  | 0x22 => conf 1 (if 0x800 ≤ idx then sysSeverity (idx - 0x800) else 4)
  | 0x23 => conf 1 4
  | 0x24 => conf 2 (if 0x800 ≤ idx then 0 else 3600)
  | 0x25 => conf 1 (if 0x800 ≤ idx ∧ sysSeverity (idx - 0x800) < 5 then 0 else 1)
  | 0x26 => conf 1 0
  | 0x30 => conf 1 (if 0x800 ≤ idx then 9 else 0)
  | 0x31 => conf 4 0 | 0x32 => conf 1 0xFF | 0x33 => conf 1 0 | 0x34 => conf 2 0 | 0x35 => conf 4 0 | 0x36 => conf 4 0
  | 0x37 => conf 16 spaces16
  | _ => none

/-- Table ALM-9. -/
def groupAttr : Nat → Option AttrInfo
  | 0x00 => live 1 | 0x01 => live 2 | 0x02 => live 2 | 0x03 => live 2 | 0x10 => conf 4 0 | 0x11 => conf 16 spaces16
  | _ => none

/-- Table ALM-10. -/
def inhibitAttr : Nat → Option AttrInfo
  | 0x00 => live 1 | 0x10 => conf 12 0 | 0x11 => conf 12 0 | 0x12 => conf 12 0 | 0x13 => conf 12 0 | 0x14 => conf 1 0
  | 0x15 => conf 4 0 | 0x16 => conf 2 0 | 0x17 => conf 2 0
  | _ => none

/-- Table ALM-11. -/
def stationAttr : Nat → Option AttrInfo
  | 0x00 => live 1 | 0x01 => live 1 | 0x02 => live 2 | 0x03 => live 4
  | 0x10 => conf 1 0 | 0x11 => conf 4 0 | 0x12 => conf 4 0 | 0x13 => conf 1 0 | 0x14 => conf 1 0 | 0x15 => conf 2 60
  | 0x16 => conf 16 spaces16
  | _ => none

/-- Table ALM-12. -/
def rosterAttr : Nat → Option AttrInfo
  | 0x00 => live 1 | 0x10 => conf 1 0xFF | 0x11 => conf 1 0 | 0x12 => conf 2 0
  | _ => none

/-- Table TIM-3. -/
def clockAttr : Nat → Option AttrInfo
  | 0x00 => live 8 | 0x01 => live 4 | 0x02 => live 2 | 0x03 => live 1 | 0x04 => live 1 | 0x05 => live 1 | 0x06 => live 8
  | 0x10 => live 1 | 0x11 => confLocal 1 0 | 0x12 => confLocal 1 10 | 0x13 => confLocal 2 0 | 0x14 => confLocal 2 0
  | 0x15 => live 1 | 0x16 => live 1
  | 0x20 => conf 1 1 | 0x21 => conf 2 0 | 0x22 => live 1 | 0x23 => live 4 | 0x24 => live 4 | 0x25 => live 4
  | 0x26 => act 1 true true
  | 0x30 => live 4 | 0x31 => live 2 | 0x32 => live 1 | 0x33 => act 1 true false | 0x34 => conf 2 120 | 0x35 => live 1
  | 0x40 => live 1 | 0x41 => live 1 | 0x50 => act 128 true false
  | _ => none

/-- Table REC-9, for an index. -/
def logAttr (idx : Nat) : Nat → Option AttrInfo
  | 0x21 => if idx < 1024 then 
      some { len := 4, read := true, write := false, cfg := true, dflt := 0x000F000A, local_ := false } else none
  | 0x40 => if idx < 64 then live 32 else none
  | a =>
    if idx ≠ 0 then none
    else match a with
      | 0x00 => live 1 | 0x01 => live 4 | 0x02 => live 2 | 0x03 => live 4 | 0x04 => live 4 | 0x05 => live 4 | 0x06 => live 2
      | 0x07 => live 1 | 0x08 => live 4 | 0x10 => live 2 | 0x11 => live 2 | 0x12 => live 4 | 0x20 => conf 2 2048
      | _ => none

/-- Table TWN-12. -/
def pairAttr : Nat → Option AttrInfo
  | 0x00 => live 1 | 0x01 => live 1 | 0x02 => live 4 | 0x03 => live 4 | 0x04 => live 1 | 0x05 => live 4 | 0x06 => live 4
  | 0x07 => live 4 | 0x08 => live 4 | 0x09 => live 4 | 0x0A => live 4 | 0x0B => live 1 | 0x0C => live 4 | 0x0D => live 2
  | 0x0E => live 2 | 0x0F => live 4 | 0x10 => live 1 | 0x11 => live 4 | 0x12 => live 8 | 0x13 => live 1
  | _ => none

/-- Table RNG-8. -/
def ringAttr : Nat → Option AttrInfo
  | 0x00 => live 1 | 0x01 => live 4 | 0x02 => live 2 | 0x03 => live 1 | 0x04 => live 1 | 0x05 => live 2 | 0x06 => live 4
  | 0x07 => live 4 | 0x08 => live 4 | 0x09 => live 4
  | _ => none

/-- Tables SEC-9 to SEC-11. -/
def matrixAttr : Nat → Option AttrInfo
  | 0x00 => live 4 | 0x01 => live 4 | _ => none
def keyAttr (idx : Nat) : Nat → Option AttrInfo
  | 0x00 => live 1 | 0x01 => live 4 | 0x02 => live 8 | 0x03 => live 2
  | 0x04 => if idx = 26 ∨ idx = 27 then live 64 else none
  | _ => none
def counterAttr : Nat → Option AttrInfo
  | 0x00 => conf 4 0 | 0x01 => conf 1 0 | 0x10 => live 8 | 0x11 => act 8 false false | _ => none

/-- Table CLK-7. -/
def islandAttr : Nat → Option AttrInfo
  | 0x00 => live 1 | 0x01 => confLocal 1 0 | 0x02 => live 1 | 0x03 => live 4 | 0x04 => live 2 | 0x05 => live 4 | 0x06 => live 4
  | _ => none

/-- Table PWR-11: START_STATE's factory value is on but for MEM_HI (Table PWR-4); RETAIN's is 1 at index 5. -/
def domainAttr (idx : Nat) : Nat → Option AttrInfo
  | 0x00 => live 1 | 0x01 => confLocal 1 (if idx = 6 then 0 else 1) | 0x02 => confLocal 1 (if idx = 5 then 1 else 0)
  | 0x03 => live 2 | 0x04 => live 1
  | _ => none

/-- Tables BAL-9, CLK-8, RST-7, PKT-8, SEC-12, FIO-12, ALM-13, PRT-9 and PRT-10. -/
def deviceAttr : Nat → Option AttrInfo
  | 0x20 => confLocal 1 1 | 0x21 => confLocal 1 2 | 0x22 => confLocal 1 3 | 0x23 => confLocal 1 5
  | 0x24 => confLocal 1 0 | 0x25 => confLocal 1 0 | 0x26 => confLocal 1 0 | 0x27 => confLocal 1 0
  | 0x28 => live 1 | 0x29 => live 2
  | 0x2A => conf 4 0 | 0x2B => conf 1 4 | 0x2C => conf 2 180 | 0x2D => conf 2 1800 | 0x2E => conf 2 1620 | 0x2F => live 1
  | 0x30 => live 8 | 0x31 => live 4 | 0x32 => live 1 | 0x33 => live 4
  | 0x40 => live 1 | 0x41 => live 1 | 0x42 => live 4 | 0x43 => live 1 | 0x44 => live 1 | 0x45 => live 1
  | 0x50 => conf 2 600 | 0x51 => conf 1 0x18 | 0x52 => live 1 | 0x53 => live 4 | 0x54 => live 4 | 0x55 => live 4
  | 0x56 => live 4
  | 0x57 => conf 8 0x2060030305 | 0x58 => conf 8 0x2060030300 | 0x59 => conf 8 0x2060030305
  | 0x5A => conf 8 0x034B500203 | 0x5B => conf 8 0x034B500203 | 0x5C => conf 1 0x60 | 0x5D => conf 2 0x5245
  | 0x5E => conf 1 0
  | 0x60 => live 4 | 0x61 => live 2 | 0x62 => live 2 | 0x63 => live 1 | 0x64 => live 1 | 0x65 => conf 1 0
  | 0x70 => live 1 | 0x71 => live 4 | 0x72 => live 4 | 0x73 => live 4 | 0x74 => live 1 | 0x75 => live 4
  | 0x80 => live 4 | 0x81 => live 4 | 0x82 => live 4 | 0x83 => live 4 | 0x84 => live 4 | 0x85 => live 4
  | 0x86 => live 4 | 0x87 => live 4 | 0x88 => live 8 | 0x89 => live 8 | 0x8A => live 4 | 0x8B => live 4 | 0x8C => live 4
  | _ => none

/-- The number of indices of a class: AIN, DIN, DOUT of their chapters, Table ALM-1, and the others' chapters. LOG's
indices are those of POLICY. -/
def classSize (cls : Nat) : Nat :=
  if cls = cAIN then 16 else if cls = cDIN then 24 else if cls = cDOUT then 12 else if cls = cPOINT then 0x820
  else if cls = cGROUP then 128 else if cls = cINHIBIT then 256 else if cls = cSTATION then 16 else if cls = cROSTER then 16
  else if cls = cCLOCK then 1 else if cls = cLOG then 1024 else if cls = cPAIR then 1 else if cls = cRINGNODE then 16
  else if cls = cMATRIX then 1 else if cls = cKEY then 28 else if cls = cCOUNTER then 64 else if cls = cISLAND then 7
  else if cls = cDOMAIN then 12 else if cls = cDEVICE then 1 else 0

/-- The attribute at class, index and attribute code, if it exists on a manager. -/
def attrInfo (cls idx attr : Nat) : Option AttrInfo :=
  if classSize cls ≤ idx then none
  else if cls = cAIN then ainAttr attr else if cls = cDIN then dinAttr attr else if cls = cDOUT then doutAttr attr
  else if cls = cPOINT then pointAttr idx attr else if cls = cGROUP then groupAttr attr
  else if cls = cINHIBIT then inhibitAttr attr else if cls = cSTATION then stationAttr attr
  else if cls = cROSTER then rosterAttr attr else if cls = cCLOCK then clockAttr attr else if cls = cLOG then logAttr idx attr
  else if cls = cPAIR then pairAttr attr else if cls = cRINGNODE then ringAttr attr else if cls = cMATRIX then matrixAttr attr
  else if cls = cKEY then keyAttr idx attr else if cls = cCOUNTER then counterAttr attr
  else if cls = cISLAND then islandAttr attr else if cls = cDOMAIN then domainAttr idx attr
  else if cls = cDEVICE then deviceAttr attr else none

/-- The objects behind a worker's node field (Table RNG-12). -/
def onWorker (cls attr : Nat) : Bool :=
  if cls = cAIN ∨ cls = cDIN ∨ cls = cDOUT ∨ cls = cCLOCK ∨ cls = cLOG ∨ cls = cISLAND ∨ cls = cDOMAIN then true
  else if cls = cDEVICE then
    (decide (0x20 ≤ attr ∧ attr ≤ 0x29)) || (decide (0x30 ≤ attr ∧ attr ≤ 0x33)) || (decide (0x40 ≤ attr ∧ attr ≤ 0x45))
      || (decide (0x57 ≤ attr ∧ attr ≤ 0x5C)) || (decide (attr = 0x63 ∨ attr = 0x64))
      || (decide (0x70 ≤ attr ∧ attr ≤ 0x75)) || (decide (0x80 ≤ attr ∧ attr ≤ 0x8C))
  else false

/-- The attributes with a provisional form (R429). -/
def hasProvisional (cls attr : Nat) : Bool :=
  ((cls == cPOINT || cls == cGROUP || cls == cINHIBIT) && decide (attr < 16))
    || (cls == cSTATION && decide (attr ≤ 2)) || (cls == cROSTER && attr == 0) || (cls == cDEVICE && attr == 0x2F)
    || (cls == cDOUT && attr == 0)

/-! ### The configuration store -/

/-- The factory value of an attribute. -/
def factory (cls idx attr : Nat) : Nat :=
  match attrInfo cls idx attr with
  | some i => i.dflt
  | none => 0

/-- The configured value of an attribute, as the number its bytes spell. -/
def cfgOf (cfg : Sparse Nat) (cls idx attr : Nat) : Nat := sget (factory cls idx attr) cfg (key cls idx attr)

/-- The configured value of a signed attribute of n bytes. -/
def cfgInt (cfg : Sparse Nat) (n cls idx attr : Nat) : Int := signedOf n (cfgOf cfg cls idx attr)

/-- Write a configured value, keeping the store's canonical form. -/
def cfgSet (cfg : Sparse Nat) (cls idx attr v : Nat) : Sparse Nat :=
  sset (factory cls idx attr) cfg (key cls idx attr) v

/-- The indices of a class that have a stored value of an attribute. -/
def cfgIndices (cfg : Sparse Nat) (cls attr : Nat) : List Nat :=
  cfg.filterMap (fun e => if e.1 / 1048576 = cls ∧ e.1 % 256 = attr then some (e.1 / 256 % 4096) else none)

/-! ### The matrix (R138-R142) -/

def roleNo : Role → Nat
  | .owner => 0 | .cls => 1 | .chief => 2 | .watch => 3 | .service => 4 | .observer => 5

def roleOf : Nat → Option Role
  | 0 => some .owner | 1 => some .cls | 2 => some .chief | 3 => some .watch | 4 => some .service | 5 => some .observer
  | _ => none

/-- Rights r = 1, w = 2, x = 4, p = 8 (Table SEC-3) of a class in Table SEC-5, roles OWNER to OBSERVER in order. -/
def defaultRights (row group : Nat) : List Nat :=
  match row with
  | 0 | 1 | 2 => [15, 1, 15, 1, 13, 1]
  | 3 | 4 | 5 => [15, 1, 15, 5, 9, 1]
  | 6 | 7 => [7, 1, 7, 5, 1, 1]
  | 8 => [7, 1, 7, 1, 7, 1]
  | 9 => [7, 1, 7, 5, 5, 0]
  | 10 | 11 => [7, 1, 5, 1, 5, 1]
  | 12 => [7, 1, 0, 0, 0, 0]
  | 13 => [1, 0, 0, 0, 0, 0]
  | 14 => [3, 0, 0, 0, 0, 0]
  | 15 | 16 => [7, 1, 1, 1, 7, 1]
  | 17 =>
    if group = 15 then [4, 0, 4, 0, 4, 0] else if group = 2 then [3, 1, 3, 1, 1, 1] else if group = 5 then [3, 1, 1, 1, 1, 1]
    else if group = 6 then [3, 1, 1, 1, 1, 1] else [1, 1, 1, 1, 1, 1]
  | _ => [0, 0, 0, 0, 0, 0]

/-- The store key of a matrix cell. -/
def cellKey (row group role : Nat) : Nat := 96 * row + 6 * group + role

def defaultCell (row group role : Nat) : BitVec 4 := BitVec.ofNat 4 ((defaultRights row group).getD role 0)

/-- A cell of the matrix in force. -/
def cell (m : Sparse (BitVec 4)) (row group role : Nat) : BitVec 4 :=
  sget (defaultCell row group role) m (cellKey row group role)

/-- Whether new content of a cell keeps Table SEC-4's fixed cells (R139). -/
def fixedCellOk (row group role : Nat) (c : BitVec 4) : Bool :=
  if row = 12 then
    if role = 0 then c.extractLsb' 0 3 == 7#3 && c == 7#4 else if role = 1 then true else c == 0#4
  else if row = 13 then if role = 0 then c == 1#4 else c == 0#4
  else if row = 17 ∧ group = 6 then if role = 0 then c == 3#4 else c == 1#4
  else if row = 14 ∧ role = 4 then c == 0#4
  else if role = 5 then c &&& 14#4 == 0#4
  else true

/-- Whether a role holds a right (bit number) on an attribute group of a class. -/
def holds (m : Sparse (BitVec 4)) (cls group : Nat) (role : Role) (bit : Nat) : Bool :=
  match classRow cls with
  | some row => (cell m row group (roleNo role)).getLsbD bit
  | none => false

/-- The 48 bytes of a class row (R140). -/
def rowBytes (m : Sparse (BitVec 4)) (row : Nat) : List Byte :=
  (List.range 48).map (fun k =>
    BitVec.ofNat 8 ((cell m row (k / 3) (2 * (k % 3))).toNat + 16 * (cell m row (k / 3) (2 * (k % 3) + 1)).toNat))

/-- The cell that a row's bytes give (R140). -/
def rowCell (bytes : List Byte) (group role : Nat) : BitVec 4 :=
  BitVec.ofNat 4 (byteAt bytes (3 * group + role / 2) / (if role % 2 = 0 then 1 else 16))

/-- Whether every cell that a row's bytes would write keeps the fixed cells (R139). -/
def rowOk (row : Nat) (bytes : List Byte) : Bool :=
  (List.range 16).all (fun g => (List.range 6).all (fun r => fixedCellOk row g r (rowCell bytes g r)))

/-- Replace one class row. -/
def setRow (m : Sparse (BitVec 4)) (row : Nat) (bytes : List Byte) : Sparse (BitVec 4) :=
  (List.range 96).foldl
    (fun m k => sset (defaultCell row (k / 6) (k % 6)) m (cellKey row (k / 6) (k % 6)) (rowCell bytes (k / 6) (k % 6))) m

end Sys2Proof.Machine
end

