-- ==== Sys2Proof/Machine/Time.lean ====
section
/-! DEFINITION. The calendar (R246-R249), SECONDS (R248), the second marks and stamps (R251), the frame grid (R13, R61)
and the operations of the RTC that the commands share. -/

namespace Sys2Proof.Machine

/-! ### The calendar -/

/-- R247. -/
def isLeap (y : Nat) : Bool := (y % 4 == 0) && (y % 100 != 0 || y % 400 == 0)

def monthLen (y m : Nat) : Nat :=
  match m with
  | 2 => if isLeap y then 29 else 28
  | 4 | 6 | 9 | 11 => 30
  | _ => 31

/-- A date and time from 2000 to 2399 that exists (R247). -/
def dateOk (d : Date) : Bool :=
  decide (2000 ≤ d.year ∧ d.year ≤ 2399 ∧ 1 ≤ d.month ∧ d.month ≤ 12 ∧ 1 ≤ d.day ∧ d.day ≤ monthLen d.year d.month
    ∧ d.hour ≤ 23 ∧ d.min ≤ 59 ∧ d.sec ≤ 59)

/-- Days from 2000-01-01 to the first of January of a year. -/
def daysToYear (y : Nat) : Nat :=
  let n := y - 2000
  365 * n + (n + 3) / 4 - (n + 99) / 100 + (n + 399) / 400

/-- Days from the first of January to the first of a month. -/
def daysToMonth (y m : Nat) : Nat := ((List.range (m - 1)).map (fun k => monthLen y (k + 1))).sum

/-- Days from 2000-01-01 to a date. -/
def dayNo (d : Date) : Nat := daysToYear d.year + daysToMonth d.year d.month + (d.day - 1)

/-- Seconds from 2000-01-01 00:00:00 to a date and time taken as they stand. -/
def dateSecs (d : Date) : Nat := 86400 * dayNo d + 3600 * d.hour + 60 * d.min + d.sec

/-- The year that a day number lies in. -/
def yearOfDay (n : Nat) : Nat := 1999 + ((List.range 400).filter (fun k => daysToYear (2000 + k) ≤ n)).length

/-- The date and time a number of seconds after 2000-01-01 00:00:00. -/
def secsDate (n : Nat) : Date :=
  let day := n / 86400
  let y := yearOfDay day
  let r := day - daysToYear y
  let m := ((List.range 12).filter (fun k => daysToMonth y (k + 1) ≤ r)).length
  { year := y, month := m, day := r - daysToMonth y m + 1, hour := n % 86400 / 3600, min := n % 3600 / 60, sec := n % 60 }

/-- Seconds from 2000 to the end of 2399. -/
def calendarEnd : Nat := 86400 * daysToYear 2400

/-- SECONDS (R248): the fields less 3600 while DST is 1, modulo 2^32. -/
def Eave.seconds (e : Eave) : Nat := (dateSecs e.date + 2 ^ 32 - (if e.dst then 3600 else 0)) % 2 ^ 32

/-- The weekday after a move of the date fields by whole days (R255). -/
def weekdayAfter (w : Nat) (old new : Date) : Nat :=
  (((w : Int) + (dayNo new : Int) - (dayNo old : Int)) % 7).toNat

/-- Load new fields; the weekday follows the days that the fields move (R255). -/
def Eave.moveTo (e : Eave) (d : Date) : Eave := { e with date := d, weekday := weekdayAfter e.weekday e.date d }

/-- One second more, with the roll of R249. -/
def Eave.nextSecond (e : Eave) : Eave :=
  if calendarEnd ≤ dateSecs e.date + 1 then
    { e with date := { year := 2000, month := 1, day := 1, hour := 0, min := 0, sec := 0 }, dst := false,
             weekday := (e.weekday + 1) % 7, valid := false }
  else e.moveTo (secsDate (dateSecs e.date + 1))

/-! ### BCD (Table TIM-1) -/

def bcd (n : Nat) : Nat := 16 * (n / 10 % 10) + n % 10

/-- The value of a BCD byte with both nibbles at most 9. -/
def unBcd (b : Nat) : Option Nat := if b % 16 ≤ 9 ∧ b / 16 ≤ 9 then some (10 * (b / 16) + b % 16) else none

/-- RTC_BCD (Table TIM-1). -/
def Eave.bcdBytes (e : Eave) : List Byte :=
  [bcd e.date.sec, bcd e.date.min, bcd e.date.hour, bcd e.date.day, bcd e.date.month, bcd (e.date.year % 100),
   bcd (e.date.year / 100), b2n e.dst + 2 * e.weekday + 16 * b2n e.valid].map (BitVec.ofNat 8)

/-- Bytes 0-6 of TIME_SET as a date: every nibble at most 9 and every unused bit 0 (R246, R253). -/
def dateOfBcd (p : List Byte) : Option Date :=
  match unBcd (byteAt p 0), unBcd (byteAt p 1), unBcd (byteAt p 2), unBcd (byteAt p 3), unBcd (byteAt p 4),
    unBcd (byteAt p 5), unBcd (byteAt p 6) with
  | some s, some mi, some h, some d, some mo, some y, some c =>
    let dt : Date := { year := 100 * c + y, month := mo, day := d, hour := h, min := mi, sec := s }
    if dateOk dt then some dt else none
  | _, _, _, _, _, _, _ => none

/-! ### Marks and stamps (R251) -/

/-- SUBSEC: 32.768 kHz counts since the latest second boundary, at the crystal's own frequency. -/
def State.subsec (s : State) : Nat := min 32767 ((s.time - s.eave.secondAt) * 32768 / Config.ticksPerSecond)

/-- The second that a sample taken now belongs to. -/
def State.secNow (s : State) : Nat := s.eave.seconds

/-- The offset of a sample taken now: ticks since the latest mark, 0xFF_FFFF before the first mark (R251). -/
def State.offNow (s : State) : Nat :=
  if s.eave.marked then min 0xFFFFFF (since s.clk.batten s.eave.mark) else 0xFFFFFF

/-- Ticks from a mark to a sample, as an offset (R251). -/
def offFrom (m t : Batten) : Nat := min 0xFFFFFF (t - m).toNat

/-- The stamp of a sample taken at batten count t: the latest mark not later than t and its second. The node holds the latest
mark and the one before; a sample before the first mark carries its second and no offset (R251). -/
def State.stampAt (s : State) (t : Batten) : Nat × Nat :=
  if ¬ s.eave.marked then (s.eave.seconds, 0xFFFFFF)
  else if (t - s.eave.mark).toNat < 2 ^ 39 then (s.eave.seconds, offFrom s.eave.mark t)
  else (s.eave.prevSec, s.eave.prevMark.elim 0xFFFFFF (offFrom · t))

/-- A second mark at a batten count, at a State.time; the mark before it and the second `old` that it belonged to are kept. -/
def Eave.markAt (e : Eave) (old : Nat) (m : Batten) (time : Nat) : Eave :=
  { e with mark := m, marked := true, secondAt := time, prevMark := if e.marked then some e.mark else none, prevSec := old }

/-- A second mark on the present tick, after a second whose number was `old`. -/
def State.markSecond (s : State) (old : Nat) : State := { s with eave := s.eave.markAt old s.clk.batten s.time }

/-- Whether VALID is 0: the CLOCK_INVALID flag of records. -/
def State.clockInvalid (s : State) : Bool := !s.eave.valid

/-! ### The frame grid (R13, R61) -/

/-- Ticks since the present frame's start. -/
def State.offset (s : State) : Nat := since s.clk.batten s.clk.frameStart

/-- Move on to an offset of the present frame; no move if the offset is past. -/
def State.toOffset (s : State) (off : Nat) : State :=
  if s.offset < off then
    { s with clk := { s.clk with batten := s.clk.frameStart + BitVec.ofNat 40 off }, time := s.time + (off - s.offset) }
  else s

/-- Let n ticks pass. -/
def State.pass (s : State) (n : Nat) : State :=
  { s with clk := { s.clk with batten := s.clk.batten + BitVec.ofNat 40 n }, time := s.time + n }

/-- Whether the batten counter has come to a count, modulo 2^40 (R61). -/
def State.clockReached (s : State) (b : Batten) : Bool := decide ((s.clk.batten - b).toNat < 2 ^ 39)

/-- Move on to a batten count; no move if it is past. -/
def State.reach (s : State) (b : Batten) : State :=
  if s.clockReached b then s else { s with clk := { s.clk with batten := b }, time := s.time + (b - s.clk.batten).toNat }

/-- Ticks that have passed since a value of State.time. -/
def State.passed (s : State) (t : Nat) : Nat := s.time - t

/-- Ticks since release (R89). -/
def State.sinceRelease (s : State) : Nat := s.passed s.rst.release

/-- Milliseconds as ticks. -/
def msTicks (n : Nat) : Nat := n * Config.ticksPerMs

end Sys2Proof.Machine
end

