-- ==== Sys2Proof/Machine/Node.lean ====
section
/-! DEFINITION. What a node is at the moment: its straps (R86), its role, whether it runs, and short names for the
configuration it has in force. -/

namespace Sys2Proof.Machine

/-- The latched straps in the order BOOT0, BOOT1, CLKMODE, NODEROLE, UNITSEL (R29, R86). -/
def State.strap (s : State) (i : Nat) : Bool := s.rst.latched.getLsbD i

/-- NODEROLE 1: a worker (R86). -/
def State.isWorker (s : State) : Bool := s.strap 3
/-- UNITSEL 1 on a manager: unit B (R86). -/
def State.unitB (s : State) : Bool := !s.isWorker && s.strap 4
/-- The node number of records: 0 a manager, else the worker index. -/
def State.nodeNo (s : State) : Nat := if s.isWorker then s.ring.index else 0

/-- The node is out of reset. -/
def State.alive (s : State) : Bool := !s.rst.inReset
/-- The ports answer (R94). -/
def State.portsUp (s : State) : Bool := s.alive && s.rst.portsUp
/-- A port is powered: PORTS of a worker may be switched off (R50). -/
def State.portLive (s : State) (p : Port) : Bool :=
  s.portsUp && (p == .ring || p == .ridge || p == .internal || sget 1 s.clk.domains 9 == 1)
/-- READY has been reached (Table RST-7). -/
def State.isReady (s : State) : Bool := s.alive && (s.rst.phase == 0x0B#8)
/-- A solo or active manager: the unit that leads evaluation (R130, R331). A detached follower reads state 0 and is none
(R327). -/
def State.isActive (s : State) : Bool :=
  !s.isWorker && (s.pair.state == 0 || s.pair.state == 1) && !s.pair.detached
/-- A manager in state 2, 3 or 4. -/
def State.isStandby (s : State) : Bool := !s.isWorker && !(s.pair.state == 0 || s.pair.state == 1)
/-- A node in the maintenance state (R167). -/
def State.inMaint (s : State) : Bool := s.maint.mode != 0

/-- Sequencer debug is open: from the reply of DEBUG_UNLOCK on, to the next power-on class reset (R168, Table CMD-15). -/
def State.debugOpen (s : State) : Bool := s.maint.debugUnlocked && s.comm.tags.all (fun t => t.opcode != 0x0922#16)

/-- A configured value in force. -/
def State.cfg (s : State) (cls idx attr : Nat) : Nat := cfgOf s.peg.cfg cls idx attr
/-- A DEVICE value in force. -/
def State.dev (s : State) (attr : Nat) : Nat := cfgOf s.peg.cfg cDEVICE 0 attr

/-- COUNTERSIGN_REQUIRED in force (R164). -/
def State.countersign (s : State) : Bool := s.dev 0x65 == 1

/-- The node runs the factory configuration: nothing is stored (R93). -/
def State.factoryConfig (s : State) : Bool :=
  s.peg.cfg.isEmpty && s.peg.matrix.isEmpty && s.peg.seals.isEmpty

/-- An island at full rate and on its PLL (R76). -/
def State.islandExact (s : State) (i : Nat) : Bool := (sget Island.locked s.clk.islands i).state == 0

/-- A block is held in reset (R96). -/
def State.blockInReset (s : State) (b : Nat) : Bool := s.blocks.any (fun r => r.block == b && r.inReset)

/-- The boundary-scan control cells (Table BAL-11). -/
def controlCell (k : Nat) : Bool :=
  [10, 13, 18, 23, 28, 31, 34].contains k || (decide (44 ≤ k) && (k - 44) % 3 == 0)

/-- Test-Logic-Reset: IDCODE is loaded, and every control cell's update latch holds 0 (R39, R403). -/
def Jtag.toReset (j : Jtag) : Jtag :=
  { j with tap := .testLogicReset, ir := 1, tdo := none, bsr := j.bsr.zipIdx.map (fun x => x.1 && !controlCell x.2) }

/-- The ports across a reset, or switched off: everything but the levels that the outside drives. -/
def PortHw.afterReset (h : PortHw) : PortHw :=
  { PortHw.reset with
    u0 := { UartSt.reset with ctsHigh := h.u0.ctsHigh }, u1 := { UartSt.reset with ctsHigh := h.u1.ctsHigh },
    u2 := { UartSt.reset with ctsHigh := h.u2.ctsHigh }, jtag := { Jtag.reset with trstHigh := h.jtag.trstHigh } }

/-- A domain's state when nothing else is listed: on (R47). -/
def State.domainState (s : State) (d : Nat) : Nat := sget 1 s.clk.domains d

/-- A block takes no new transactions: it is held in reset, or it has been asked GRACEFUL to go idle (R96). -/
def State.blockClosed (s : State) (b : Nat) : Bool := s.blocks.any (fun r => r.block == b && (r.inReset || r.mode == 0))

/-- One tick passes: the batten counter counts on while the node is out of reset (R61, R62). -/
def State.tick (s : State) : State := if s.alive then s.pass 1 else { s with time := s.time + 1 }

/-- The next free value; the counter moves on (notes/assumptions/5.md). -/
def State.draw (s : State) : Nat × State := (Config.freeValue s.free, { s with free := s.free + 1 })

/-- n free bytes; the counter moves on by n. -/
def State.drawBytes (s : State) (n : Nat) : List Byte × State :=
  ((List.range n).map (fun k => BitVec.ofNat 8 (Config.freeValue (s.free + k))), { s with free := s.free + n })

end Sys2Proof.Machine
end

