-- ==== Sys2Proof/Machine/Records.lean ====
section
/-! DEFINITION. The event recorder, the seal ledger and the gutter log (R300-R320): the operations that every family
shares. The rows of the recorder's own events stand in LogCmds.lean. -/

namespace Sys2Proof.Machine

/-! ### The gutter log (R317) -/

/-- The frame of a gutter entry: the frame number, or before the first frame start the span of 125 000 ticks since
release (R317). -/
def State.gutterSpan (s : State) : Nat :=
  if s.clk.running then s.clk.frameNo.toNat else 2 ^ 32 + s.sinceRelease / Config.frameTicks

/-- Write a gutter entry: a repeat of the newest entry of the frame raises its REPEAT (R317). -/
def State.gutter (s : State) (kind source : Nat) (detail : Nat) : State :=
  let g := s.gut
  let fresh : Gutter :=
    { batten := s.clk.batten, sec := s.secNow, kind := kind, source := source, detail := BitVec.ofNat 24 detail, rep := 0,
      span := s.gutterSpan, erased := false }
  match g.entries.getLast? with
  | some e =>
    if ¬ e.erased ∧ e.kind = kind ∧ e.source = source ∧ e.span = s.gutterSpan then
      { s with gut := { g with entries := g.entries.dropLast ++ [{ e with rep := inc16 e.rep }] } }
    else
      { s with gut := { g with entries := (g.entries ++ [fresh]).drop (g.entries.length + 1 - 4096),
                               unsaved := min 4096 (g.unsaved + 1) } }
  | none => { s with gut := { g with entries := [fresh], unsaved := min 4096 (g.unsaved + 1) } }

/-- The 16 bytes of a gutter entry (Table REC-6); an erased one reads 0xFF (R68, R317). -/
def Gutter.bytes (e : Gutter) : List Byte :=
  if e.erased then List.replicate 16 0xFF#8
  else toLe 5 e.batten.toNat ++ toLe 4 e.sec ++ toLe 1 e.kind ++ toLe 1 e.source ++ toLe 3 e.detail.toNat ++ toLe 2 e.rep

/-! ### Records (R302, R303) -/

/-- Bytes 0-27 of a record (Table REC-3). -/
def Rec.body (r : Rec) : List Byte :=
  toLe 4 r.seq ++ toLe 4 r.sec ++ toLe 3 r.off ++ toLe 1 (r.sev % 8 + 8 * b2n r.unitB + 16 * r.node) ++ toLe 1 r.typ
    ++ toLe 1 (b2n r.clockInvalid + 2 * b2n r.unsync) ++ toLe 2 r.code ++ toLe 4 r.object.toNat ++ toLe 4 r.frame.toNat
    ++ (r.data ++ List.replicate 4 0#8).take 4

/-- COMMIT over 28 bytes: bit 31 set, below it the low 31 bits of the CRC-32 (R303). -/
def commitOf (body : List Byte) : Nat := 2 ^ 31 + crc32 body % 2 ^ 31

/-- The 32 bytes of a committed record. -/
def Rec.bytes (r : Rec) : List Byte := r.body ++ toLe 4 (commitOf r.body)

/-- The bytes of a slot as read: a record, or a torn slot's undefined content (R303). -/
def RecSlot.bytes (r : RecSlot) : List Byte :=
  match r.body with
  | some b => b.bytes
  | none => (List.range 32).map (fun k => BitVec.ofNat 8 (Config.freeValue (r.free + k)))

/-- An erased slot. -/
def erased32 : List Byte := List.replicate 32 0xFF#8

/-! ### Rate limits (R309-R312) -/

/-- Period and burst of an event code (R309). -/
def State.policyP (s : State) (code : Nat) : Nat := s.cfg cLOG code 0x21 % 65536
def State.policyB (s : State) (code : Nat) : Nat := s.cfg cLOG code 0x21 / 65536 % 256

/-- The bucket of a code. -/
def State.bucket (s : State) (code : Nat) : Bucket := sget Bucket.full s.recorder.buckets code

/-- A bucket below B gains a token for every 10 x P frames that have passed (R309). -/
def State.gainBucket (s : State) (code : Nat) : State :=
  let b := s.bucket code
  let due := 10 * s.policyP code
  let n := (s.clk.frameNo - b.since).toNat / due
  if b.spent = 0 ∨ n = 0 then s
  else
    let b' : Bucket := if b.spent ≤ n then Bucket.full else { spent := b.spent - n, since := b.since + BitVec.ofNat 32 (n * due) }
    { s with recorder := { s.recorder with buckets := sset Bucket.full s.recorder.buckets code b' } }

/-- The budget gains a token for every 1000 frames that have passed, up to 4096 (R310). -/
def State.gainBudget (s : State) : State :=
  let r := s.recorder
  let n := (s.clk.frameNo - r.budgetSince).toNat / 1000
  if r.budget ≥ 4096 ∨ n = 0 then s
  else { s with recorder := { r with budget := min 4096 (r.budget + n), budgetSince := r.budgetSince + BitVec.ofNat 32 (1000 * n) } }

/-- The gains of a frame, which come before its occurrences (R309). -/
def State.gainAll (s : State) : State :=
  ((s.recorder.buckets.map Prod.fst).foldl State.gainBucket s).gainBudget

/-- Take a budget token; the count of frames starts when the budget falls below 4096. -/
def Recorder.takeBudget (r : Recorder) (f : Frame) : Recorder :=
  { r with budget := r.budget - 1, budgetSince := if r.budget ≥ 4096 then f else r.budgetSince }

/-- Note a cause of the LOG event, with the code of its first occurrence (R314). -/
def Recorder.note (r : Recorder) (cause code : Nat) : Recorder :=
  if r.logCauses.any (fun c => c.1 == cause) then r else { r with logCauses := r.logCauses ++ [(cause, code)] }

/-- Suppress an occurrence into its code's summary counter (R309); causes 1 and 2 are losses (R314). -/
def State.suppress (s : State) (o : Occurrence) (cause : Nat) : State :=
  let r := s.recorder
  let m := sget Summary.zero r.summaries o.code
  let m' : Summary :=
    { count := inc16 m.count, sec := if m.count = 0 then o.sec else m.sec, off := if m.count = 0 then o.off else m.off,
      object := o.object, sev := max m.sev o.sev, causes := m.causes ||| 2 ^ cause }
  let r' := { r with summaries := sset Summary.zero r.summaries o.code m', suppressed := inc32 r.suppressed }
  { s with recorder :=
      if cause = 0 then r' else { r'.note cause o.code with lossFact := true, lossClear := 0 } }

/-- The record of an occurrence released in the present frame. -/
def State.recOf (s : State) (o : Occurrence) : Rec :=
  { seq := 0, sec := o.sec, off := o.off, sev := o.sev, unitB := s.unitB, node := s.nodeNo, typ := o.typ,
    clockInvalid := s.clockInvalid, unsync := o.unsync, code := o.code, object := o.object, frame := s.clk.frameNo,
    data := o.data }

/-- An occurrence at the release of a peg: its code's bucket, then the budget, then the ingress queue (R310, R312).
Nothing is recorded before the recorder opens (R305). -/
def State.occur (s : State) (o : Occurrence) : State :=
  if ¬ s.recorder.opened then s
  else
    let b := s.bucket o.code
    if s.policyB o.code ≤ b.spent then s.suppress o 0
    else
      let b' : Bucket := { spent := b.spent + 1, since := if b.spent = 0 then s.clk.frameNo else b.since }
      let s1 := { s with recorder := { s.recorder with buckets := sset Bucket.full s.recorder.buckets o.code b' } }
      if s1.recorder.budget = 0 then s1.suppress o 1
      else if 64 ≤ s1.recorder.queue.length then s1.suppress o 2
      else
        let r := s1.recorder.takeBudget s1.clk.frameNo
        { s1 with recorder := { r with queue := r.queue ++ [s1.recOf o] } }

/-- The SUMMARY of one code, if its bucket is full, a budget token is there and the queue has room (R311). -/
def State.summarise (s : State) (code : Nat) : State :=
  let m := sget Summary.zero s.recorder.summaries code
  if m.count = 0 ∨ (s.bucket code).spent ≠ 0 ∨ s.recorder.budget = 0 ∨ 64 ≤ s.recorder.queue.length then s
  else
    let r := s.recorder.takeBudget s.clk.frameNo
    let rec_ : Rec :=
      { seq := 0, sec := m.sec, off := m.off, sev := m.sev, unitB := s.unitB, node := s.nodeNo, typ := 5,
        clockInvalid := s.clockInvalid, unsync := false, code := code, object := m.object, frame := s.clk.frameNo,
        data := toLe 2 m.count ++ toLe 1 m.causes ++ toLe 1 m.sev }
    { s with recorder := { r with queue := r.queue ++ [rec_], summaries := sset Summary.zero r.summaries code Summary.zero } }

/-- Release order 4 of R17: the frame's gains, its records in order, then the summaries in code order (R309, R311). -/
def State.releaseRecords (s : State) (os : List Occurrence) : State :=
  let s1 := os.foldl State.occur s.gainAll
  (s1.recorder.summaries.map Prod.fst).foldl State.summarise s1

/-- A system event's occurrence with the snapshot stamp of the frame (R300, Table REC-2). -/
def State.sysOcc (s : State) (code sev : Nat) (object : Word) (data : List Byte) : Occurrence :=
  { code := code, sev := sev, typ := 3, object := object, sec := s.clk.snapSec, off := s.clk.snapOff, unsync := false,
    data := data }

/-- The laid-up record is queued, the lay-up is noted in EAVE and the counters go to NV (R160, R264, Table PWR-9). -/
def State.queueLayup (s : State) : State :=
  let s1 := s.occur (s.sysOcc 1009 2 0 (toLe 4 s.eave.wakeNext))
  { s1 with rst := { s1.rst with layupQueued := true }, eave := { s1.eave with layup := true }, savedCounters := s1.peg.counters }

/-- The snapshot time of one of the last frames. -/
def State.frameStamp (s : State) (f : Frame) : Nat × Nat :=
  match s.clk.starts.find? (fun e => e.1 == f) with
  | some e => if f = s.clk.frameNo then (s.clk.snapSec, s.clk.snapOff) else s.stampAt e.2
  | none => (s.clk.snapSec, s.clk.snapOff)

/-- A mark or a system event has no sample: its time is the snapshot time of the frame whose peg releases it (R300); the record of a
time step carries the new time (Table REC-2). -/
def Occurrence.restamp (o : Occurrence) (t : Nat × Nat) : Occurrence :=
  if (o.typ = 3 ∧ o.code ≠ 1010) ∨ o.typ = 4 then { o with sec := t.1, off := t.2 } else o

/-- An occurrence raised outside the frame: it enters the recorder at the next pegged frame (R300). -/
def State.later (s : State) (o : Occurrence) : State :=
  { s with recorder := { s.recorder with waiting := s.recorder.waiting ++ [o] } }

/-! ### Writing (R305-R307, R313) -/

/-- The weathering coat's size for the N in force. -/
def Recorder.weatherSize (r : Recorder) : Nat := 16384 - r.soleN

/-- The first weathering sector. -/
def Recorder.firstSector (r : Recorder) : Nat := r.soleN / 128

/-- The record that leaves for an incoming one of a severity (R306): a torn slot first, else the oldest of the lowest
severity present that does not exceed the incoming. -/
def Recorder.victim (r : Recorder) (sev : Nat) : Option Nat :=
  match r.weather.find? (fun e => e.body.isNone) with
  | some e => some e.place
  | none =>
    let sevs := r.weather.filterMap (fun e => e.body.map Rec.sev)
    let low := sevs.foldl min 7
    if sev < low then none
    else
      let cand := r.weather.filter (fun e => match e.body with | some b => b.sev == low | none => false)
      match cand with
      | [] => none
      | e :: es => some (es.foldl (fun a b => if b.seq < a.seq then b else a) e).place

/-- The next weathering place, entering the next erased sector when the write sector is full (R307). -/
def Recorder.advance (r : Recorder) : Recorder :=
  if (r.wplace + 1) % 128 ≠ 0 then { r with wplace := r.wplace + 1 }
  else
    match r.erased with
    | [] => { r with wplace := r.wplace + 1 }
    | n :: ns => { r with wplace := 128 * n, erased := ns }

/-- Put a slot at the next weathering place; its SEQ is used. -/
def Recorder.push (r : Recorder) (body : Option Rec) (free : Nat) : Recorder :=
  let r1 : Recorder :=
    { r with weather := r.weather ++ [{ place := r.wplace, body := body, seq := r.seqNext, free := free }],
             seqNext := r.seqNext + 1 }
  r1.advance

/-- Take the slot at a place out of the view. -/
def Recorder.remove (r : Recorder) (place : Nat) : Recorder :=
  { r with weather := r.weather.filter (fun e => e.place != place) }

/-- Put a slot at the next sole-coat place; its SEQ is used. -/
def Recorder.pushSole (r : Recorder) (body : Option Rec) (free : Nat) : Recorder :=
  { r with sole := r.sole ++ [{ place := r.sole.length, body := body, seq := r.seqNext, free := free }],
           seqNext := r.seqNext + 1 }

/-- Commit one record (R303, R305, R306). The new record is written first and the victim removed after it. -/
def Recorder.commit (r : Recorder) (x : Rec) : Recorder :=
  let x' := { x with seq := r.seqNext }
  if r.sole.length < r.soleN then r.pushSole (some x') 0
  else if r.weather.length < r.weatherSize then
    let r1 := r.push (some x') 0
    if r1.weather.length = r1.weatherSize ∧ ¬ r1.weatherFull then { r1.note 3 x.code with weatherFull := true } else r1
  else
    match r.victim x.sev with
    | none => { r.note 0 x.code with dropped := inc32 r.dropped, lossFact := true, lossClear := 0 }
    | some v => (r.remove v).push (some x') 0

/-- A write that a cut tears: the slot is used up, nothing is committed (R304). The SEQ it was to hold is used. -/
def Recorder.tear (r : Recorder) (free : Nat) : Recorder :=
  let r1 : Recorder := { r with torn := inc32 r.torn }
  if r.sole.length < r.soleN then r1.pushSole none free else r1.push none free

/-- The place that a torn write used. -/
def Recorder.tearPlace (r : Recorder) : Nat := if r.sole.length < r.soleN then r.sole.length else r.wplace

/-- Records of a sector that compaction must copy. -/
def Recorder.validIn (r : Recorder) (sector : Nat) : List RecSlot :=
  r.weather.filter (fun e => e.place / 128 == sector && e.body.isSome)

/-- The sector that is compacted next (R307): one whose erase count lies 1000 or more below the highest, else the one
with the most removed and torn slots, ties to the lowest erase count. -/
def Recorder.source (r : Recorder) : Option Nat :=
  let sectors := (List.range 144).filter
    (fun n => decide (r.firstSector ≤ n) && !(r.erased.contains n) && n != r.wplace / 128)
  let top := (r.erases.map Prod.snd).foldl max 0
  match sectors.find? (fun n => decide (sget 0 r.erases n + 1000 ≤ top)) with
  | some n => some n
  | none =>
    match sectors with
    | [] => none
    | n :: ns =>
      some (ns.foldl (fun a b =>
        let va := (r.validIn a).length
        let vb := (r.validIn b).length
        if vb < va ∨ (vb = va ∧ sget 0 r.erases b < sget 0 r.erases a) then b else a) n)

/-- Copy one record of the sector being compacted to the write position, with its own SEQ (R307). -/
def Recorder.copyOne (r : Recorder) (sector : Nat) : Recorder :=
  match r.validIn sector with
  | [] => r
  | e :: _ =>
    let r1 : Recorder := { r.remove e.place with weather := (r.remove e.place).weather ++ [{ e with place := r.wplace }] }
    r1.advance

/-- One slot's compaction work with n writes left; a source with nothing left to copy starts its erase (R307, R313). -/
def Recorder.compact (r : Recorder) (n : Nat) : Recorder :=
  let r1 :=
    match r.compacting with
    | some _ => r
    | none => if r.opened ∧ r.erased.length ≤ 1 ∧ r.erasing.isNone then { r with compacting := r.source } else r
  match r1.compacting with
  | none => r1
  | some k =>
    let r2 := (List.range n).foldl (fun r _ => r.copyOne k) r1
    if (r2.validIn k).isEmpty then { r2 with compacting := none, erasing := some k } else r2

/-- The weathering records in the order of LOG_READ (R308): SEQ order, oldest first. -/
def insertSeq (e : RecSlot) : List RecSlot → List RecSlot
  | [] => [e]
  | x :: xs => if e.seq ≤ x.seq then e :: x :: xs else x :: insertSeq e xs

def Recorder.weatherView (r : Recorder) : List RecSlot := r.weather.foldr insertSeq []

/-- The 32 bytes at a LOG_READ slot (R308). -/
def Recorder.readSlot (r : Recorder) (i : Nat) : List Byte :=
  if i < r.soleN then
    match r.sole[i]? with
    | some e => e.bytes
    | none => erased32
  else
    match r.weatherView[i - r.soleN]? with
    | some e => e.bytes
    | none => erased32

/-- REC_STATE (Table REC-9). -/
def Recorder.stateCode (r : Recorder) : Nat :=
  if ¬ r.opened then 0 else if r.sole.length < r.soleN then 1 else if r.weather.length < r.weatherSize then 2 else 3

/-! ### The seal ledger (R315, R316) -/

/-- The entries that slots hold, counter slot included (Table SEC-7). -/
def Recorder.ledgerEntries (r : Recorder) : Nat :=
  (r.ledger.filter (fun e => e.bytes.isSome)).length + (if r.counterWord.isSome then 1 else 0)

/-- The ledger number of the next entry written: a torn slot takes none (R315). -/
def Recorder.ledgerNext (r : Recorder) : Nat := (r.ledger.filter (fun e => e.bytes.isSome)).length + 1

/-- Commit one ledger entry, given its bytes 4-27, into the next free slot. -/
def Recorder.ledgerCommit (r : Recorder) (tail : List Byte) : Recorder :=
  let body := toLe 4 r.ledgerNext ++ tail
  { r with ledger := r.ledger ++ [{ bytes := some (body ++ toLe 4 (commitOf body)), free := 0 }] }

/-- The 32 bytes of LEDGER_ENTRY (R316). -/
def Recorder.ledgerRead (r : Recorder) (i : Nat) : List Byte :=
  if i = 63 then r.counterWord.getD erased32
  else
    match r.ledger[i]? with
    | some e =>
      match e.bytes with
      | some b => b
      | none => (List.range 32).map (fun k => BitVec.ofNat 8 (Config.freeValue (e.free + k)))
    | none => erased32

/-- A seal break: a ledger entry while slots 0-62 have room, else a count of the counter slot; the ledger number it takes,
0 if it was counted; the time is that of the break itself (R315, R316, Table REC-5). -/
def State.ledgerBreak (s : State) (kind breaker entry : Nat) (x : Seal) : Nat × State :=
  let r := s.recorder
  let at_ := s.stampAt s.clk.batten
  if r.ledger.length + r.ledgerQueue.length < 63 then
    let tail := toLe 4 at_.1 ++ toLe 3 at_.2
      ++ toLe 1 (6 + 8 * b2n s.unitB + 16 * s.nodeNo) ++ toLe 1 kind ++ toLe 1 breaker ++ toLe 2 entry
      ++ toLe 4 (key x.cls x.first x.attr) ++ toLe 2 x.count ++ toLe 1 x.scope ++ toLe 1 0 ++ toLe 4 s.clk.frameNo.toNat
    (r.ledgerNext + r.ledgerQueue.length, { s with recorder := { r with ledgerQueue := r.ledgerQueue ++ [tail] } })
  else
    (0, { s with recorder := { r with breaks := inc32 r.breaks, breakSec := at_.1 } })

/-! ### A cut (R304) -/

/-- What a node-level reset, a supply cut or a block reset does to writes in progress: of the k ledger entries and
records of the present slot a free number was complete, the next one may be torn, and the rest is not begun (R304). -/
def State.cutWrites (s : State) : State :=
  let r := s.recorder
  let total := r.ledgerWriting + r.writing
  if total = 0 then s
  else
    let (v, s0) := s.draw
    let whole := v % (total + 1)
    let (w, s1) := s0.draw
    let torn := w % 2 = 1 ∧ whole < total
    let nl := min whole r.ledgerWriting
    let r1 := (r.ledgerQueue.take nl).foldl Recorder.ledgerCommit r
    let r1 := { r1 with ledgerQueue := r.ledgerQueue.drop nl }
    let nr := whole - nl
    let r2 := (r.queue.take nr).foldl Recorder.commit r1
    let r2 := { r2 with queue := r.queue.drop nr, ledgerWriting := 0, writing := 0 }
    if ¬ torn then { s1 with recorder := r2 }
    else if nl < r.ledgerWriting then
      let s2 : State := { s1 with recorder := { r2 with
        ledger := r2.ledger ++ [{ bytes := none, free := s1.free }], ledgerQueue := r2.ledgerQueue.drop 1 }, free := s1.free + 32 }
      s2.gutter 0x07 1 r2.ledger.length
    else
      let r3 := r2.tear s1.free
      let s2 : State := { s1 with recorder := { r3 with queue := r2.queue.drop 1 }, free := s1.free + 32 }
      s2.gutter 0x07 0 r2.tearPlace

end Sys2Proof.Machine
end

