-- ==== Sys2Proof/Machine/Ops.lean ====
section
/-! DEFINITION. The operations that every command shares: the opcode table (R171), sessions and who they are (R110, R135),
the access check (R143), EXEC and EXACT (R74-R79), replies in SEQ order (R125), tags (R118-R120) and events (R132, R133). -/

namespace Sys2Proof.Machine

/-! ### The opcode table (Tables CMD-3 to CMD-18) -/

/-- Latency classes (Table CLK-5). -/
inductive Lat where
  | f | p | n | l
  deriving DecidableEq, Repr

/-- What the summary tables say of an opcode: its class, the fixed count in ticks (class F) or the maximum in ms (classes
N and L), and whether it is idempotent. -/
structure OpInfo where
  lat  : Lat
  time : Nat
  idem : Bool

def opInfo (op : Nat) : Option OpInfo :=
  match op with
  | 0x0100 => some { lat := .f, time := 13, idem := true }
  | 0x0101 => some { lat := .f, time := 16, idem := false }
  | 0x0102 => some { lat := .f, time := 48, idem := false }
  | 0x0103 => some { lat := .f, time := 180, idem := false }
  | 0x0104 => some { lat := .f, time := 13, idem := false }
  | 0x0105 => some { lat := .f, time := 13, idem := true }
  | 0x0200 => some { lat := .f, time := 18, idem := true }
  | 0x0201 => some { lat := .p, time := 0, idem := false }
  | 0x0202 => some { lat := .f, time := 18, idem := true }
  | 0x0210 => some { lat := .f, time := 14, idem := false }
  | 0x0211 => some { lat := .p, time := 0, idem := false }
  | 0x0212 => some { lat := .f, time := 14, idem := false }
  | 0x0300 => some { lat := .n, time := 40, idem := false }
  | 0x0301 => some { lat := .n, time := 40, idem := false }
  | 0x0302 => some { lat := .f, time := 20, idem := true }
  | 0x0310 => some { lat := .p, time := 0, idem := false }
  | 0x0311 => some { lat := .p, time := 0, idem := false }
  | 0x0400 => some { lat := .p, time := 0, idem := false }
  | 0x0401 => some { lat := .p, time := 0, idem := false }
  | 0x0402 => some { lat := .p, time := 0, idem := false }
  | 0x0403 => some { lat := .p, time := 0, idem := false }
  | 0x0410 => some { lat := .p, time := 0, idem := false }
  | 0x0411 => some { lat := .p, time := 0, idem := false }
  | 0x0412 => some { lat := .p, time := 0, idem := false }
  | 0x0420 => some { lat := .f, time := 18, idem := true }
  | 0x0500 => some { lat := .p, time := 0, idem := false }
  | 0x0501 => some { lat := .p, time := 0, idem := false }
  | 0x0502 => some { lat := .p, time := 0, idem := false }
  | 0x0503 => some { lat := .p, time := 0, idem := false }
  | 0x0504 => some { lat := .p, time := 0, idem := false }
  | 0x0510 => some { lat := .f, time := 16, idem := false }
  | 0x0511 => some { lat := .p, time := 0, idem := false }
  | 0x0512 => some { lat := .f, time := 40, idem := false }
  | 0x0600 => some { lat := .f, time := 18, idem := true }
  | 0x0601 => some { lat := .p, time := 0, idem := false }
  | 0x0602 => some { lat := .p, time := 0, idem := false }
  | 0x0610 => some { lat := .f, time := 18, idem := true }
  | 0x0611 => some { lat := .n, time := 3000, idem := false }
  | 0x0700 => some { lat := .l, time := 61000, idem := false }
  | 0x0701 => some { lat := .p, time := 0, idem := false }
  | 0x0702 => some { lat := .p, time := 0, idem := false }
  | 0x0703 => some { lat := .p, time := 0, idem := false }
  | 0x0704 => some { lat := .p, time := 0, idem := false }
  | 0x0705 => some { lat := .f, time := 24, idem := true }
  | 0x0800 => some { lat := .l, time := 200, idem := false }
  | 0x0801 => some { lat := .l, time := 500, idem := false }
  | 0x0802 => some { lat := .l, time := 100, idem := false }
  | 0x0803 => some { lat := .f, time := 24, idem := true }
  | 0x0900 => some { lat := .f, time := 18, idem := true }
  | 0x0901 => some { lat := .p, time := 0, idem := false }
  | 0x0902 => some { lat := .p, time := 0, idem := false }
  | 0x0903 => some { lat := .p, time := 0, idem := false }
  | 0x0910 => some { lat := .n, time := 120, idem := false }
  | 0x0911 => some { lat := .n, time := 120, idem := false }
  | 0x0920 => some { lat := .f, time := 15000, idem := true }
  | 0x0921 => some { lat := .p, time := 60, idem := false }
  | 0x0922 => some { lat := .n, time := 4000, idem := false }
  | 0x0A00 => some { lat := .n, time := 4000, idem := false }
  | 0x0A01 => some { lat := .n, time := 12, idem := false }
  | 0x0A02 => some { lat := .n, time := 900, idem := false }
  | 0x0A03 => some { lat := .f, time := 20, idem := false }
  | 0x0B00 => some { lat := .n, time := 25, idem := false }
  | 0x0B01 => some { lat := .n, time := 2000, idem := false }
  | 0x0B02 => some { lat := .n, time := 30, idem := false }
  | 0x0B03 => some { lat := .n, time := 22, idem := false }
  | 0x0B04 => some { lat := .f, time := 20, idem := true }
  | 0x0B05 => some { lat := .f, time := 22, idem := true }
  | 0x0B06 => some { lat := .f, time := 14, idem := false }
  | _ => none

/-- Whether an opcode is idempotent (R123). -/
def opIdem (op : Nat) : Bool :=
  match opInfo op with
  | some i => i.idem
  | none => false

/-- The fixed count of an opcode in ticks. -/
def opTicks (op : Nat) : Nat :=
  match opInfo op with
  | some i => i.time
  | none => 0

/-- The result period of a rate in ticks, as the maximum of a calibration counts it (Table AFE-3, Table CMD-7). -/
def periodTicks (rate : Nat) : Nat := if rate = 0 then 250000 else if rate = 1 then 208334 else if rate = 2 then 1250000 else 31250

/-- The opcodes a worker executes for its managers (R173). -/
def workerOps : List Nat :=
  [0x0200, 0x0201, 0x0202, 0x0300, 0x0301, 0x0302, 0x0510, 0x0512, 0x0600, 0x0610, 0x0611, 0x0B00, 0x0B01, 0x0B02, 0x0B03,
   0x0B04, 0x0B05, 0x0B06]

/-- The GUARD and IMAGE opcodes, under Table SEC-2 alone (R137). -/
def fixedRightOp (op : Nat) : Bool := op / 256 == 9 || op / 256 == 10

/-! ### Features (Table PKT-10) -/

def fBASE : Nat := 0
def fPROV : Nat := 1
def fDUP : Nat := 2
def fLONG : Nat := 3
def fEVENT : Nat := 4
def fEXACT : Nat := 5
def fRING : Nat := 6
def fPAIR : Nat := 7
def fBAM : Nat := 8
def fCANSEG : Nat := 9
def fCRYPT : Nat := 10

/-- The feature word the node offers: bits 0-10 (R116). -/
def offeredWord : BitVec 128 := 0x7FF#128

/-! ### Sessions -/

/-- A session open or opening on a port. -/
def State.sess? (s : State) (p : Port) (num : Half) : Option Sess :=
  s.comm.sessions.find? (fun x => x.port == p && x.num == num)

/-- Change one session. -/
def State.modSess (s : State) (p : Port) (num : Half) (f : Sess → Sess) : State :=
  { s with comm := { s.comm with
      sessions := s.comm.sessions.map (fun x => if x.port = p ∧ x.num = num then f x else x) } }

/-- Who sent a request: the role and slot of its session; session 0 is OBSERVER with BASE only (R111, R135). A request
that a manager has carried over a link was checked there (R370). -/
structure Who where
  role  : Role
  slot  : Fin 4
  feats : BitVec 128
  deriving DecidableEq, Repr

def State.who (s : State) (r : Req) : Who :=
  if r.port = .ring ∨ r.port = .ridge then { role := .owner, slot := 0, feats := offeredWord }
  else if r.session = 0 then { role := .observer, slot := 0, feats := 1 }
  else
    match s.sess? r.port r.session with
    | some x => { role := x.role, slot := x.slot, feats := x.features }
    | none => { role := .observer, slot := 0, feats := 1 }

/-- A session has accepted a feature. -/
def Who.has (w : Who) (f : Nat) : Bool := w.feats.getLsbD f

/-- The KEY index of a role's slot (Table SEC-6). -/
def keyIndex (role : Role) (slot : Fin 4) : Nat := 4 * roleNo role + slot.val

/-- The delivery state of OWNER slot 0 holds for a session (R154). -/
def State.deliverySession (s : State) (w : Who) : Bool :=
  w.role == .owner && w.slot == 0 && (sget Key.empty s.keys 0).state == 2

/-! ### Rights (R138, R143 step 1) -/

/-- The r, w, x and p bits. -/
def bR : Nat := 0
def bW : Nat := 1
def bX : Nat := 2
def bP : Nat := 3

/-- A matrix right of a role. -/
def State.may (s : State) (w : Who) (cls group bit : Nat) : Bool := holds s.peg.matrix cls group w.role bit

/-- The attributes that a session without BAM_SENTENCES does not see (Table PKT-10, R294). -/
def bamAttr (cls attr : Nat) : Bool :=
  (cls == cPOINT && (attr == 0x26 || attr == 0x36)) || (cls == cDEVICE && (attr == 0x5D || attr == 0x86 || attr == 0x87))

/-- The attribute behind an object ID for a session, if it is an object of this node. -/
def State.attrOf (w : Who) (o : Word) : Option AttrInfo :=
  if bamAttr (oidClass o) (oidAttr o) && !w.has fBAM then none else attrInfo (oidClass o) (oidIndex o) (oidAttr o)

/-- A worker as its managers know it. -/
def State.worker (s : State) (n : Nat) : Worker := sget Worker.none s.ring.workers n

/-- An admitted worker: STARTING, ADMITTED, LOST or LAID_UP (R143, Table RNG-8). -/
def State.workerKnown (s : State) (n : Nat) : Bool :=
  decide (1 ≤ n ∧ n ≤ 15) && [1, 2, 3, 5].contains (s.worker n).state

/-- The object's node field is one that the session can name: 0, or an admitted worker's with RING accepted; behind a
worker stand only the objects of Table RNG-12. -/
def State.nodeFieldOk (s : State) (w : Who) (o : Word) : Bool :=
  oidNode o == 0 || (w.has fRING && s.workerKnown (oidNode o) && onWorker (oidClass o) (oidAttr o))

/-- Read right on the attribute an object ID names. -/
def State.mayRead (s : State) (w : Who) (o : Word) : Bool :=
  match State.attrOf w o with
  | some i => i.read && s.may w (oidClass o) (oidAttr o / 16) bR
  | none => false

/-- Write right on the attribute an object ID names. -/
def State.mayWrite (s : State) (w : Who) (o : Word) : Bool :=
  match State.attrOf w o with
  | some i => i.write && s.may w (oidClass o) (oidAttr o / 16) bW
  | none => false

/-! ### Seals (R147, R148) -/

/-- Whether an intact seal covers an attribute, or the command group when the attribute is 0xF0. -/
def Seal.covers (x : Seal) (cls idx attr : Nat) : Bool :=
  x.cls == cls && decide (x.first ≤ idx ∧ idx < x.first + x.count)
    && (if x.scope = 0 then x.attr == attr else if x.scope = 1 then x.attr / 16 == attr / 16 else true)

/-- Whether a write of an attribute is sealed in a seal table. -/
def sealedIn (seals : Sparse Seal) (cls idx attr : Nat) : Bool :=
  seals.any (fun e => !e.2.broken && e.2.covers cls idx attr)

/-- A seal names an object of the node itself, never one behind a worker's node field (R147, R173). -/
def State.sealedObj (s : State) (o : Word) : Bool := oidNode o == 0 && sealedIn s.peg.seals (oidClass o) (oidIndex o) (oidAttr o)

/-- Broken seal entries (Table SEC-12). -/
def brokenSeals (seals : Sparse Seal) : Nat := (seals.filter (fun e => e.2.broken)).length

/-! ### Output queues -/

def Ports.get (q : Ports) : Port → PortQ
  | .host => q.host | .u0 => q.u0 | .u2 => q.u2 | .can0 => q.can0 | .can1 => q.can1 | .ridge => q.ridge | .ring => q.ring
  | .internal => q.inner

def Ports.set (q : Ports) (p : Port) (v : PortQ) : Ports :=
  match p with
  | .host => { q with host := v } | .u0 => { q with u0 := v } | .u2 => { q with u2 := v } | .can0 => { q with can0 := v }
  | .can1 => { q with can1 := v } | .ridge => { q with ridge := v } | .ring => { q with ring := v }
  | .internal => { q with inner := v }

/-- The packets waiting on a port. -/
def State.outQ (s : State) (p : Port) : List Packet := (s.comm.ports.get p).out

/-- Put a packet at the end of a port's output queue; a session counts what it is sent (R133, R381): every packet of the
session, front-end answers and replays among them, as it joins the queue (notes/assumptions/114.md). -/
def State.enqueue (s : State) (p : Port) (k : Packet) : State :=
  let s1 : State :=
    { s with comm := { s.comm with
        ports := s.comm.ports.set p { out := s.outQ p ++ [k] } } }
  s1.modSess p k.session (fun x => { x with sent := x.sent + 1 })

/-- The number of a port (Table PKT-11). -/
def portNo : Port → Nat
  | .host => 0 | .u0 => 1 | .u2 => 2 | .can0 => 3 | .can1 => 4 | .ridge => 5 | .ring => 6 | .internal => 7

/-- The tags of a port (Table PKT-5); U0 and U2 share theirs. -/
def portTags : Port → Nat
  | .host => 512 | .u0 => 64 | .u2 => 64 | .can0 => 64 | .can1 => 64 | .ridge => 128 | .ring => 128 | .internal => 64

/-- Two ports that share tags. -/
def sameTags (a b : Port) : Bool :=
  a == b || (a == .u0 && b == .u2) || (a == .u2 && b == .u0)

/-- Commands that the node itself carries to its workers: each holds an internal tag and a ring tag (Table PKT-5, R131). -/
def State.innerUsed (s : State) : Nat := (s.ring.cmds.filter (fun c => c.inner)).length

/-- Tags of a port in use; a worker command holds a ring tag as well (R131). -/
def State.tagsUsed (s : State) (p : Port) : Nat :=
  (s.comm.tags.filter (fun t => sameTags t.req.port p || (p == .ring && t.onRing))).length
    + (if p = .internal ∨ p = .ring then s.innerUsed else 0)

/-- A request that a manager carries to a worker: it holds a purlin-ring tag beside its port's (R131). -/
def State.forWorker (s : State) (op : Nat) (r : Req) : Bool := oidNode r.target != 0 && op != 0x0802 && !s.isWorker

def State.tagsFree (s : State) (p : Port) : Nat := portTags p - s.tagsUsed p

/-- Commands of a session in flight (R119). -/
def State.inFlight (s : State) (p : Port) (num : Half) : Nat :=
  (s.comm.tags.filter (fun t => t.req.port == p && t.req.session == num)).length

/-- Front-end answer slots in use on a port (R121): of answers that wait there, and of those that a link is sending. -/
def State.feUsed (s : State) (p : Port) : Nat :=
  ((s.outQ p).filter (fun k => k.frontEnd)).length
    + (s.comm.leaving.filter (fun l => l.port == p && l.packet.frontEnd)).length

/-! ### EXEC and EXACT (R74-R79) -/

/-- c of R79 for a message of L header and parameter bytes. -/
def tagBlocks (l : Nat) : Nat := ceilDiv (l + 9) 64 + 1

/-- Ticks that authentication adds: the request's tag check and the reply's tag (R79). -/
def authTicks (reqParams replyParams : Nat) : Nat :=
  (2 + 6 * tagBlocks (20 + reqParams)) + (1 + 6 * tagBlocks (20 + replyParams))

/-- Ticks of AES-256-GCM over n bytes (P14). -/
def gcmTicks (n : Nat) : Nat := 6 + ceilDiv n 16

/-- A port that is a link to another node (Table PKT-3). -/
def isLink (p : Port) : Bool := p == .ridge || p == .ring

/-- The islands on the path of an opcode (Table CLK-1, R76): the command sequencer, the memory, and the island of the port it
came by, LINKS for a link (P04), for all; SCAN where the evaluator's state is read or changed; HOUSE and NV for the logs. -/
def pathIslands (op : Nat) (p : Port) : List Nat :=
  [0, 3, if isLink p then 5 else 6] ++
    (if op / 256 = 6 then [2, 4] else if op = 0x0B04 then [2] else if op / 256 = 1 then [] else [1])

/-- The block of a port (Table RST-6). -/
def portBlock : Port → Nat
  | .host => 8 | .u0 => 9 | .u2 => 11 | .can0 => 12 | .can1 => 13 | .ridge => 6 | .ring => 7 | .internal => 0

/-- Whether a block is on the path of a command (R96): its port, the cryptographic engine of an authenticated one, and the
blocks that its family works on. -/
def onPath (block op : Nat) (p : Port) (auth : Bool) : Bool :=
  block == portBlock p || (block == 5 && (auth || op == 0x0920 || op == 0x0910))
    || ((block == 2 || block == 3) && op / 256 == 6)
    || (block == 4 && (op / 256 == 6 || op / 256 == 10 || decide ((opInfo op).map (·.lat) = some .n)))
    || ((block == 2 || block == 16) && op == 0x0B04) || (block == 1 && (pathIslands op p).contains 1)

/-- Islands on an opcode's path that are not exact now. -/
def State.badIslands (s : State) (op : Nat) (p : Port) : List Nat := (pathIslands op p).filter (fun i => !s.islandExact i)

/-- A block on the path of a request is in reset now (R76). -/
def State.blockOnPath (s : State) (op : Nat) (r : Req) : Bool :=
  s.blocks.any (fun b => b.inReset && onPath b.block op r.port (r.session != 0))

/-- EXEC saturates (R74). -/
def satExec (n : Nat) : Nat := min n 0xFFFFFFFF

/-! ### Replies -/

/-- The standby of the present frame: a change of role decided at its peg takes effect with the next one (R344). -/
def State.standbyNow (s : State) : Bool :=
  if s.pair.bound ∧ s.pair.lastRoleFrame = s.clk.frameNo + 1 then !s.isStandby else s.isStandby

/-- The FROM_STANDBY flag of a reply made ready now (R130). -/
def State.fromStandby (s : State) (w : Who) : Bool := s.standbyNow && w.has fPAIR

/-- K_rep of a request's session, empty in session 0 (R156). -/
def State.repKey (s : State) (r : Req) : List Byte :=
  if r.session = 0 then []
  else
    match s.sess? r.port r.session with
    | some x => x.kRep
    | none => []

/-- An attribute that is owner-private data: a counter's value or preset (R161). -/
def ownerPrivate (cls attr : Nat) : Bool := cls == cCOUNTER && (attr == 0x10 || attr == 0x11)

/-- The key under which a reply's parameters leave encrypted: a read of owner-private data (R156, R161). -/
def State.encKey (s : State) (t : Tag) (st : Status) : List Byte :=
  if st = .done ∧ (t.opcode = 0x0200 ∨ t.opcode = 0x0202) ∧ ownerPrivate (oidClass t.req.target) (oidAttr t.req.target) then
    match s.sess? t.req.port t.req.session with
    | some x => x.kEnc
    | none => []
  else []

/-- The packet of a reply. -/
def State.packet (s : State) (t : Tag) (st : Status) (params : List Byte) (exec : Nat) (exact more prov : Bool)
    (frame : Frame) : Packet :=
  let w := s.who t.req
  { session := t.req.session,
    shown := if t.opcode = 0x0102 ∧ st = .done then s.comm.lastNum else t.req.session,
    seq := t.req.seq, status := st, prov := prov, dup := t.dup,
    exact := exact && w.has fEXACT, standby := s.fromStandby w, more := more, event := false, frame := frame,
    exec := satExec exec, params := params, tagKey := s.repKey t.req, encKey := s.encKey t st, holdsTag := !more, tagNo := t.no,
    frontEnd := false }

/-- The largest reply part of a session (R105, R127). -/
def partSize (w : Who) : Nat := if w.has fLONG then 4096 else 256

/-- Cut parameters into parts of at most n bytes; at least one part. -/
def parts (n : Nat) (fuel : Nat) (bs : List Byte) : List (List Byte) :=
  match fuel with
  | 0 => [bs]
  | k + 1 => if bs.length ≤ n then [bs] else bs.take n :: parts n k (bs.drop n)

/-- The packets of one reply, a series if it is longer than the session's limit (R127). -/
def State.series (s : State) (t : Tag) (st : Status) (params : List Byte) (exec : Nat) (exact prov : Bool)
    (frame : Frame) : List Packet :=
  let ps := parts (partSize (s.who t.req)) params.length params
  ps.zipIdx.map (fun x => s.packet t st x.1 exec exact (decide (x.2 + 1 < ps.length)) prov frame)

/-- Whether an earlier reply of the session is still to leave (R125). -/
def State.mustWait (s : State) (t : Tag) : Bool :=
  s.comm.tags.any (fun u => u.req.port == t.req.port && u.req.session == t.req.session && !u.dup && !u.answered
      && decide (u.req.seq.toNat < t.req.seq.toNat))
    || s.comm.held.any (fun h => h.port == t.req.port && h.packet.session == t.req.session
      && decide (h.packet.seq.toNat < t.req.seq.toNat))

/-- The same tag: its number, with port, session, SEQ and whether it is a re-execution. -/
def sameTag (a b : Tag) : Bool :=
  a.no == b.no && a.req.port == b.req.port && a.req.session == b.req.session && a.req.seq == b.req.seq && a.dup == b.dup

/-- Change the tag of a command in flight. -/
def State.modTag (s : State) (t : Tag) (f : Tag → Tag) : State :=
  { s with comm := { s.comm with tags := s.comm.tags.map (fun u => if sameTag u t then f u else u) } }

/-- The window entry of a completed command: a non-idempotent reply of at most 256 bytes is kept, but for TIMEOUT (R123). -/
def completeEntry (op : Nat) (st : Status) (first : Packet) (len : Nat) (e : WinEntry) : WinEntry :=
  { e with complete := true, timedOut := decide (st = .timeout),
           cached := if opIdem op ∨ 256 < len ∨ st = .timeout then none else some first }

/-- Count a reply that misses exactness because of an island (Table CLK-7). -/
def State.countInexact (s : State) (i : Nat) : State :=
  { s with clk := { s.clk with
      islands := smod Island.locked s.clk.islands i (fun x => { x with inexact := inc32 x.inexact }) } }

/-- The tag is answered, and the window entry of its SEQ is complete (R123). -/
def State.completeTag (s : State) (t : Tag) (st : Status) (ks : List Packet) (len : Nat) : State :=
  (s.modTag t (fun u => { u with begun := true, answered := true })).modSess t.req.port t.req.session (fun x =>
    { x with window := x.window.map (fun e =>
        if e.seq = t.req.seq then
          match ks.head? with
          | some k => completeEntry t.opcode.toNat st k len e
          | none => e
        else e) })

/-- The packets go to the output queue, or are held while an earlier reply of the session is still to come (R125, R126). -/
def State.place (s : State) (t : Tag) (wait : Bool) (ks : List Packet) : State :=
  if wait then
    { s with comm := { s.comm with
        held := s.comm.held ++ ks.map (fun k => { port := t.req.port, admitAt := t.admitAt, packet := k }) } }
  else ks.foldl (fun s k => s.enqueue t.req.port k) s

/-- Make a reply ready: it takes its place in the session's order, it completes the window entry, and it leaves to the
output queue unless an earlier reply must go first (R123, R125, R126). Inexact islands are counted (Table CLK-7), but for a
denial, which changes no counter that others read (R159). -/
def State.ready (s : State) (t : Tag) (st : Status) (params : List Byte) (exec : Nat) (canBeExact prov : Bool)
    (frame : Frame) : State :=
  let bad := (s.badIslands t.opcode.toNat t.req.port ++ t.spoiled).dedup
  let wait := s.mustWait t
  let held := s.blockOnPath t.opcode.toNat t.req
  let exact := canBeExact && bad.isEmpty && !t.blockHit && !held && !wait
  let ks := s.series t st params exec exact prov frame
  let s1 := if st = .notAvailable ∨ st = .revoked then s else bad.foldl State.countInexact s
  (s1.completeTag t st ks params.length).place t wait ks

/-- Authentication's addition for a request of a session; of a series, each part is a message of its own (R79, R127). -/
def authAdd (t : Tag) (replyLen : Nat) : Nat :=
  if t.req.session = 0 then 0 else authTicks t.req.params.length replyLen

/-- Answer a class-F command at its fixed count (R75). While an island of its path is off full rate the count of Table CLK-6 no
longer holds and the spec gives no other (R67, R76): EXEC still names it, with EXACT 0 (notes/assumptions/115.md). -/
def State.answerF (s : State) (t : Tag) (st : Status) (params : List Byte) (count : Nat) : State :=
  s.ready t st params (count + authAdd t (min params.length (partSize (s.who t.req)))) true false s.clk.frameNo

/-- Answer a command after a physics path at a batten count, never exact (R75). -/
def State.answerAt (s : State) (t : Tag) (st : Status) (params : List Byte) (at_ : Batten) : State :=
  s.ready t st params (since at_ t.admitAt) false false s.clk.frameNo

/-- Answer a command after a physics path: EXEC is the time since admission, never exact; R79 adds to fixed counts only
(R75, R79, R172, notes/assumptions/101.md). -/
def State.answerLate (s : State) (t : Tag) (st : Status) (params : List Byte) (atLeast : Nat) : State :=
  s.ready t st params (max (since s.clk.batten t.admitAt) atLeast) false false s.clk.frameNo

/-- Answer a class-P command at the class-P reply point, 7 ticks after the peg decision (R75, P12). -/
def State.answerP (s : State) (t : Tag) (st : Status) (params : List Byte) : State :=
  let replyTag := if t.req.session = 0 then 0 else 1 + 6 * tagBlocks (20 + params.length)
  s.ready t st params (since s.clk.batten t.admitAt + 7 + replyTag) true false s.clk.frameNo

/-- The tag of a request in flight and not yet begun, or one that waits for an answer. -/
def State.tag? (s : State) (r : Req) : Option Tag :=
  s.comm.tags.find? (fun t => t.req.port == r.port && t.req.session == r.session && t.req.seq == r.seq && !t.answered)

/-- A front-end answer: no tag, no auth tag, EXEC and EXACT 0 (R121). -/
def State.feAnswer (s : State) (p : Port) (num : Half) (seq : Word) (st : Status) (params : List Byte) : State :=
  let k : Packet :=
    { session := num, shown := num, seq := seq, status := st, prov := false, dup := false, exact := false, standby := false,
      more := false, event := false, frame := s.clk.frameNo, exec := 0, params := params, tagKey := [], encKey := [],
      holdsTag := false, tagNo := 0, frontEnd := true }
  s.enqueue p k

/-- Close a session: its stage and transfer go with it (R180, R189); nothing is answered. -/
def State.closeSession (s : State) (p : Port) (num : Half) : State :=
  { s with
    comm := { s.comm with sessions := s.comm.sessions.filter (fun x => !(x.port == p && x.num == num)) },
    stage := match s.stage with
      | some (q, m, l) => if q = p ∧ m = num then none else some (q, m, l)
      | none => none,
    transfer := match s.transfer with
      | some x => if x.port = p ∧ x.session = num then none else some x
      | none => none }

/-- The last byte of a packet has left its port: its tag is free; a CLOSE reply closes its session (R112, R120). -/
def State.packetLeft (s : State) (p : Port) (k : Packet) : State :=
  if ¬ k.holdsTag then s
  else
    let mine (t : Tag) : Bool :=
      t.no == k.tagNo && t.req.port == p && t.req.session == k.session && t.req.seq == k.seq && t.answered
    let closes := s.comm.tags.any (fun t => mine t && t.opcode == 0x0104#16) && decide (k.status = .done)
    let s1 : State := { s with comm := { s.comm with tags := s.comm.tags.filter (fun t => !mine t) } }
    if closes then s1.closeSession p k.session else s1

/-- The head packet of a port's queue has left (R120, R121). -/
def State.sentHead (s : State) (p : Port) : State :=
  match s.outQ p with
  | [] => s
  | k :: ks => { s with comm := { s.comm with ports := s.comm.ports.set p { out := ks } } }.packetLeft p k

/-- The head packet of a link's queue goes to the link, which queues it as the cells or the packet that end with the bytes given; a
link that takes nothing drops it. Its tag or slot is free when those bytes have left (R120). -/
def State.headToLink (s : State) (p : Port) (last : Option (List Byte)) : State :=
  match s.outQ p, last with
  | k :: ks, some b =>
    { s with comm := { s.comm with
        ports := s.comm.ports.set p { out := ks }, leaving := s.comm.leaving ++ [{ port := p, bytes := b, packet := k }] } }
  | _, _ => s.sentHead p

/-- Bytes that still wait on a link. -/
def State.onLink (s : State) (b : List Byte) : Bool :=
  s.ridge.tx.contains b || s.ring.txA.contains b || s.ring.txB.contains b

/-- The packets whose last bytes have left a link, or will never leave it, let go of what they hold (R120, R121). -/
def State.settleLinks (s : State) : State :=
  let gone := s.comm.leaving.filter (fun l => !s.onLink l.bytes)
  let s1 : State := { s with comm := { s.comm with leaving := s.comm.leaving.filter (fun l => s.onLink l.bytes) } }
  gone.foldl (fun s l => s.packetLeft l.port l.packet) s1

/-- A frame or a train that is discarded (R108, R109). -/
def State.badFrame (s : State) : State := { s with comm := { s.comm with framingErrors := inc32 s.comm.framingErrors } }

/-! ### Events (R132, R133) -/

/-- Whether a session may be sent an event of a kind about an object. -/
def State.eventFor (s : State) (x : Sess) (kind : Nat) (o : Word) : Bool :=
  let w : Who := { role := x.role, slot := x.slot, feats := x.features }
  x.isOpen && w.has fEVENT && x.eventMask.getLsbD (kind - 1) && (kind != 5 || w.has fRING) && (kind != 6 || w.has fPAIR)
    && (o == 0 || s.may w (oidClass o) (oidAttr o / 16) bR)

/-- Send one event in a session now (R132). -/
def State.sendEvent (s : State) (x : Sess) (e : Event) : State :=
  let no := x.evtNo + 1
  let k : Packet :=
    { session := x.num, shown := x.num, seq := 0, status := .done, prov := false, dup := false, exact := false,
      standby := false, more := false, event := true, frame := e.frame, exec := 0,
      params := toLe 2 e.kind ++ toLe 2 no.toNat ++ toLe 4 e.object.toNat ++ e.data, tagKey := x.kRep, encKey := [],
      holdsTag := false, tagNo := 0, frontEnd := false }
  (s.modSess x.port x.num (fun y => { y with evtNo := no })).enqueue x.port k

/-- S - E is below 16 (R133). -/
def Sess.credit (x : Sess) : Bool := decide ((x.sent - x.echo).toNat < 16)

/-- The COALESCED event of a session's counts (R133). -/
def coalescedEvent (counts : List Nat) (f : Frame) : Event :=
  { kind := 10, object := 0, data := (counts.take 9).flatMap (toLe 2), frame := f }

/-- Send one waiting event of a session if it has credit; the first slot freed takes the COALESCED event. An event whose object
the role may no longer read under the generation in force is dropped (R132, R145). -/
def State.drainOne (s : State) (p : Port) (num : Half) : State :=
  match s.sess? p num with
  | none => s
  | some x =>
    match x.evtQueue with
    | [] => s
    | e :: es =>
      if ¬ x.credit then s
      else
        let s1 := if e.kind = 10 ∨ s.eventFor x e.kind e.object then s.sendEvent x e else s
        let tail := if x.coalesced.isEmpty then es
          else if x.eventMask.getLsbD 9 then es ++ [coalescedEvent x.coalesced s.clk.frameNo] else es
        s1.modSess p num (fun y => { y with evtQueue := tail, coalesced := [] })

/-- Send what a session's credit allows. -/
def State.drain (s : State) (p : Port) (num : Half) : State :=
  (List.range 64).foldl (fun s _ => s.drainOne p num) s

/-- An event for one session: sent, queued, or counted while the queue is full (R133). -/
def State.raiseFor (s : State) (e : Event) (x : Sess) : State :=
  if ¬ s.eventFor x e.kind e.object then s
  else if x.evtQueue.isEmpty ∧ x.coalesced.isEmpty ∧ x.credit then s.sendEvent x e
  else if x.coalesced.isEmpty ∧ x.evtQueue.length < 64 then
    s.modSess x.port x.num (fun y => { y with evtQueue := y.evtQueue ++ [e] })
  else
    s.modSess x.port x.num (fun y =>
      let c := if y.coalesced.isEmpty then List.replicate 9 0 else y.coalesced
      { y with coalesced := c.set (e.kind - 1) (inc16 (c.getD (e.kind - 1) 0)) })

/-- Raise an event for every session that selects it. -/
def State.raise (s : State) (kind : Nat) (object : Word) (data : List Byte) : State :=
  let e : Event := { kind := kind, object := object, data := data, frame := s.clk.frameNo }
  s.comm.sessions.foldl (fun s x => s.raiseFor e ((s.sess? x.port x.num).getD x)) s

/-! ### Batch and facts (R15, R278) -/

/-- Put a unit fact into the next frame's batch (Table TWN-16). -/
def State.admitItem (s : State) (i : BatchItem) : State := { s with admitted := s.admitted ++ [i] }

/-- An item that the unit itself admits: no session stands behind it. -/
def State.ownItem (s : State) (b : ItemBody) : BatchItem :=
  { body := b, forwarded := false, frame := s.clk.frameNo, gen := s.peg.gen, role := .observer, slot := 0,
    unitB := s.unitB, own := true }

/-- A unit fact of a system point (R278): point index from 0x800, this unit's SOURCES bit. -/
def State.fact (s : State) (point : Nat) (on : Bool) : State :=
  s.admitItem (s.ownItem (.fact point (b2n s.unitB) on))

end Sys2Proof.Machine
end

