-- ==== Sys2Proof/Machine/Operands.lean ====
section
/-! DEFINITION. How bytes spell requests (Table PKT-1), batch items and mirror entries (Table TWN-16): the readers and
writers of every operand form that more than one family uses. -/

namespace Sys2Proof.Machine

/-! ### Turwa requests (R103) -/

/-- A request as its bytes read. -/
structure RawReq where
  ver     : Nat
  flags   : Nat
  opcode  : Nat
  seq     : Word
  session : Half
  len     : Nat
  target  : Word
  echo    : Word
  deriving DecidableEq, Repr

/-- The header of a packet of at least 20 bytes (Table PKT-1). -/
def parseHeader (b : List Byte) : Option RawReq :=
  if b.length < 20 then none
  else some
    { ver := byteAt b 0, flags := byteAt b 1, opcode := leAt b 2 2, seq := BitVec.ofNat 32 (leAt b 4 4),
      session := BitVec.ofNat 16 (leAt b 8 2), len := leAt b 10 2, target := BitVec.ofNat 32 (leAt b 12 4),
      echo := BitVec.ofNat 32 (leAt b 16 4) }

/-- The SEQ and SESSION that an answer to a faulty packet echoes: 0 for what could not be read (R106). -/
def echoSeq (b : List Byte) : Word := if 8 ≤ b.length then BitVec.ofNat 32 (leAt b 4 4) else 0
def echoSession (b : List Byte) : Half := if 10 ≤ b.length then BitVec.ofNat 16 (leAt b 8 2) else 0

/-- The port of a number (Table PKT-11). -/
def portOf : Nat → Port
  | 0 => .host | 1 => .u0 | 2 => .u2 | 3 => .can0 | 4 => .can1 | 5 => .ridge | 6 => .ring | _ => .internal

/-- Whether packets of a port travel as segment trains (Table PKT-3). -/
def segmented : Port → Bool
  | .can0 => true | .can1 => true | .ring => true | _ => false

/-- The flag byte of a request. -/
def reqFlags (r : Req) : Nat := b2n r.wantProv + 2 * b2n (r.session != 0) + 4 * b2n (segmented r.port)

/-- Header and parameters of a request. -/
def reqBytes (op : Nat) (r : Req) (echo : Word) : List Byte :=
  toLe 1 1 ++ toLe 1 (reqFlags r) ++ toLe 2 op ++ toLe 4 r.seq.toNat ++ toLe 2 r.session.toNat ++ toLe 2 r.params.length
    ++ toLe 4 r.target.toNat ++ toLe 4 echo.toNat ++ r.params

/-- The request that a header and the bytes after it spell on a port. -/
def reqOf (p : Port) (h : RawReq) (params : List Byte) : Req :=
  { port := p, session := h.session, seq := h.seq, target := h.target, wantProv := h.flags.testBit 0, params := params }

/-! ### Status codes and reply headers (Table CMD-1, Table PKT-2) -/

def statusCode : Status → Nat
  | .done => 0 | .busyRetry => 1 | .noCredit => 2 | .notAvailable => 3 | .badParam => 4 | .sealed => 5 | .authFail => 6
  | .sessionStale => 7 | .seqOld => 8 | .revoked => 9 | .blockReset => 10 | .nodeLost => 11 | .notActive => 12
  | .unpegged => 13 | .timeout => 14 | .badState => 15 | .featureOff => 16

def statusOf : Nat → Status
  | 0 => .done | 1 => .busyRetry | 2 => .noCredit | 3 => .notAvailable | 4 => .badParam | 5 => .sealed | 6 => .authFail
  | 7 => .sessionStale | 8 => .seqOld | 9 => .revoked | 10 => .blockReset | 11 => .nodeLost | 12 => .notActive
  | 13 => .unpegged | 14 => .timeout | 15 => .badState | _ => .featureOff

/-! ### Batch items (Table TWN-16) -/

def itemKind : ItemBody → Nat
  | .command _ _ => 0 | .commit _ _ => 0 | .acn _ => 1 | .fact _ _ _ => 2 | .internal _ _ _ _ => 3

def itemPort : ItemBody → Nat
  | .command _ r => portNo r.port | .commit r _ => portNo r.port | _ => 7

def itemSession : ItemBody → Nat
  | .command _ r => r.session.toNat | .commit r _ => r.session.toNat | _ => 0

/-- The content bytes of an item. A committed stage is the STAGE_COMMIT followed by its SETs in order (log 15). -/
def itemContent : ItemBody → List Byte
  | .command op r => reqBytes op.toNat r 0
  | .commit r items => reqBytes 0x0211 r 0 ++ items.flatMap (fun x => reqBytes 0x0201 x 0)
  | .acn text => text
  | .fact p bit on => toLe 2 p ++ toLe 1 bit ++ toLe 1 (b2n on)
  | .internal c n l v => toLe 1 c ++ toLe 1 n ++ toLe 1 l ++ toLe 1 v

def roleSlot (role : Role) (slot : Fin 4) : Nat := roleNo role + 16 * slot.val

def BatchItem.bytes (i : BatchItem) : List Byte :=
  let c := itemContent i.body
  toLe 2 c.length ++ toLe 1 (itemKind i.body) ++ toLe 1 (b2n i.forwarded) ++ toLe 4 i.frame.toNat ++ toLe 4 i.gen.toNat
    ++ toLe 1 (roleSlot i.role i.slot + 64 * b2n i.unitB) ++ toLe 1 (itemPort i.body) ++ toLe 2 (itemSession i.body) ++ c

/-- The requests that follow each other in a content. -/
def parseReqs (fuel : Nat) (p : Port) (b : List Byte) : List (Nat × Req) :=
  match fuel with
  | 0 => []
  | k + 1 =>
    match parseHeader b with
    | none => []
    | some h => (h.opcode, reqOf p h (slice b 20 h.len)) :: parseReqs k p (b.drop (20 + h.len))

/-- The body that a content spells. -/
def parseBody (kind : Nat) (p : Port) (c : List Byte) : Option ItemBody :=
  match kind with
  | 0 =>
    match parseReqs 513 p c with
    | [] => none
    | (op, r) :: rest =>
      if op = 0x0211 then some (.commit r (rest.map Prod.snd)) else some (.command (BitVec.ofNat 16 op) r)
  | 1 => some (.acn c)
  | 2 => some (.fact (leAt c 0 2) (byteAt c 2) (byteAt c 3 == 1))
  | 3 => some (.internal (byteAt c 0) (byteAt c 1) (byteAt c 2) (byteAt c 3))
  | _ => none

/-- One batch item and the bytes after it. -/
def parseItem (b : List Byte) : Option (BatchItem × List Byte) :=
  let n := leAt b 0 2
  if b.length < 16 + n then none
  else
    match parseBody (byteAt b 2) (portOf (byteAt b 13)) (slice b 16 n), roleOf (byteAt b 12 % 16) with
    | some body, some role =>
      some ({ body := body, forwarded := byteAt b 3 == 1, frame := BitVec.ofNat 32 (leAt b 4 4),
              gen := BitVec.ofNat 32 (leAt b 8 4), role := role, slot := Fin.ofNat 4 (byteAt b 12 / 16), unitB :=
              (byteAt b 12).testBit 6, own := false }, b.drop (16 + n))
    | _, _ => none

def parseItems : Nat → List Byte → List BatchItem × List Byte
  | 0, b => ([], b)
  | n + 1, b =>
    match parseItem b with
    | none => ([], b)
    | some (i, rest) =>
      let (is, e) := parseItems n rest
      (i :: is, e)

/-! ### Line values by node -/

/-- The key of a node's AIN channel and DIN input in the pair's tables. -/
def ainKey (node ch : Nat) : Nat := 16 * node + ch
def dinKey (node inp : Nat) : Nat := 32 * node + inp

def State.ainIn (s : State) (node ch : Nat) : AinIn := sget AinIn.unknown s.ain (ainKey node ch)
def State.dinIn (s : State) (node inp : Nat) : DinIn := sget DinIn.unknown s.din (dinKey node inp)

/-- The values of the last pegged frame (R16). -/
def State.ainPeg (s : State) (node ch : Nat) : AinIn := sget AinIn.unknown s.peg.ain (ainKey node ch)
def State.dinPeg (s : State) (node inp : Nat) : DinIn := sget DinIn.unknown s.peg.din (dinKey node inp)

/-- The values that the attributes of this node's own lines show: of the last pegged frame, and on a worker, which pegs
nothing itself, of its last snapshot (R221, notes/assumptions/106.md). -/
def State.ainShown (s : State) (ch : Nat) : AinIn := if s.isWorker then s.ainIn 0 ch else s.ainPeg 0 ch
def State.dinShown (s : State) (inp : Nat) : DinIn := if s.isWorker then s.dinIn 0 inp else s.dinPeg 0 inp

/-- The AIN entry of a mirror (Table TWN-16). -/
def ainEntry (node ch : Nat) (v : AinIn) : List Byte :=
  toLe 1 node ++ toLe 1 ch ++ toLe 1 v.quality ++ toLe 1 0 ++ toLe 2 v.flags.toNat ++ toLe 2 0 ++ toLe 4 (ofSigned 4 v.value)

end Sys2Proof.Machine
end

