-- ==== Sys2Proof/Machine/Flags.lean ====
section
/-! DEFINITION. The flag and status bytes that the spec packs from bits: RFLAGS and reply bytes (Table PKT-2), DETAIL
(Table TWN-12), POINT STATE (Table ALM-8), PORT_STATUS and PORT_IRQ (Table PRT-2). -/

namespace Sys2Proof.Machine

/-- RFLAGS (Table PKT-2). -/
def Packet.rflags (k : Packet) : Nat :=
  b2n k.prov + 2 * b2n k.dup + 4 * b2n k.exact + 8 * b2n k.standby + 16 * b2n k.more + 32 * b2n k.event

/-- The header of a reply or event (Table PKT-2). -/
def Packet.header (k : Packet) : List Byte :=
  toLe 1 1 ++ toLe 1 k.rflags ++ toLe 2 (statusCode k.status) ++ toLe 4 k.seq.toNat ++ toLe 2 k.shown.toNat
    ++ toLe 2 k.params.length ++ toLe 4 k.frame.toNat ++ toLe 4 k.exec

/-- The parameters as they leave. Those of an encrypted packet stand in State as MSGNO, plaintext and a place for the GCM tag;
the header as sent is the additional data (R156). -/
def Packet.sentParams (k : Packet) : List Byte :=
  if k.encKey.isEmpty then k.params
  else
    let no := k.params.take 8
    let (c, tag) := gcmSeal k.encKey (toLe 2 k.session.toNat ++ [0x01, 0x00] ++ no) k.header (slice k.params 8 (k.params.length - 24))
    no ++ c ++ tag

/-- Header and parameters of a reply or event. -/
def Packet.bare (k : Packet) : List Byte := k.header ++ k.sentParams

/-- The bytes of a packet as it leaves a port: with the auth tag where it carries one (R105, R156). -/
def Packet.wire (k : Packet) : List Byte := if k.tagKey.isEmpty then k.bare else k.bare ++ authTag k.tagKey k.bare

/-- DETAIL of the pair (Table TWN-12). -/
def State.pairDetail (s : State) : Nat :=
  b2n s.pair.bound + 2 * b2n s.pair.detached + 4 * b2n s.pair.twinLost + 8 * b2n s.pair.refStart.isSome
    + 16 * b2n s.pair.unmirroredSince

/-- HRDY (R380): the port takes a packet. -/
def State.hrdy (s : State) : Bool := s.portLive .host && !s.blockClosed 8 && decide (s.feUsed .host < 4)

/-- PORT_IRQ with its live bit (Table PRT-2). -/
def State.portIrq (s : State) : BitVec 6 :=
  (s.hw.host.sticky &&& 0x3E#6) ||| (if (s.outQ .host).isEmpty then 0 else 1)

/-- HIRQ_N is pulled low (R383); it is released before start step 3 ends and while PORTS is off (R50, Table BAL-5). -/
def State.hirqLow (s : State) : Bool := s.portLive .host && (s.portIrq &&& s.hw.host.mask) != 0

/-- POINT STATE bits (Table ALM-8): bit 0 active, 1 unacknowledged, 2 shelved, 3 inhibited, 4 first-up, 5 sensor fault,
6 not evaluable, 7 condition. -/
def PointSt.stateByte (p : PointSt) : Nat :=
  b2n p.active + 2 * b2n p.unack + 4 * b2n p.shelved + 8 * b2n p.inhibited + 16 * b2n p.firstUp + 32 * b2n p.sensorFault
    + 64 * b2n p.notEval + 128 * b2n p.cond

/-- The low four bits of STATE: those that POINT_CHANGE, records and ALARM_LIST report. -/
def PointSt.low (p : PointSt) : Nat := p.stateByte % 16

end Sys2Proof.Machine
end

