-- ==== Sys2Proof/Machine/Balls.lean ====
section
/-! DEFINITION. The logic-region balls that the node drives (R24, R31, Tables BAL-5, BAL-8): what the node itself puts on each, what
boundary scan puts there instead (R39), and the level that results. A level that only the outside gives is free
(notes/assumptions/69.md). -/

namespace Sys2Proof.Machine

/-- The balls of Table BAL-5 with a driver in the logic region that the model follows. -/
inductive Ball where
  | rstoutN | pwron | hirqN | hrdy
  | hio (n : Fin 4)
  | uTx (u : Uart)
  | uRts (u : Uart)
  | canTx (c : CanNo)
  | sig (n : Fin 8)
  | tdo
  deriving DecidableEq, Repr

/-- The TAP is held in Test-Logic-Reset: TRST_N low, before start step 3 ends, or PORTS switched off (R94, R403, R405). -/
def State.tapHeld (s : State) : Bool := !s.hw.jtag.trstHigh || !s.portLive .host

/-- EXTEST is in force, so that the update latches drive the balls (Table PRT-8). -/
def State.extest (s : State) : Bool := !s.tapHeld && s.hw.jtag.ir == 0

def uartNo : Uart → Nat
  | .u0 => 0 | .u1 => 1 | .u2 => 2

/-- Byte k of a UART's configuration (Table PRT-9). -/
def State.uartCfg (s : State) (u : Uart) (k : Nat) : Nat := bitsAt (s.dev (0x57 + uartNo u)) (8 * k) 8

/-- PANEL_MODE of U2. -/
def State.panelMode (s : State) : Bool := (s.uartCfg .u2 5).testBit 1

/-! ### SIG functions (R31) -/

/-- Any pegged point is active and unacknowledged. -/
def Engine.alarm (e : Engine) : Bool := e.points.any (fun p => p.2.active && p.2.unack)

/-- The level of a SIG function: FRAME follows the frame start by 1 tick and PEGGED the peg decision by 3 (P19, P26); ALARM and HORN
are low while MEM_HI, which holds the engine's state, is off. INPUT drives nothing. -/
def State.sigFunc (s : State) (f : Nat) : Option Bool :=
  match f with
  | 0 => none
  | 1 => some s.isReady
  | 2 => some (s.isReady && s.isActive && s.rst.firstPeg)
  | 3 => some (s.clk.running && decide (1 ≤ s.offset ∧ s.offset < 17))
  | 4 => some (s.clk.running && decide (112503 ≤ s.offset ∧ s.offset < 112519) && decide (s.pair.lastPegFrame = s.clk.frameNo)
      && s.rst.firstPeg)
  | 5 => some (s.domainState 6 == 1 && s.peg.engine.alarm)
  | 6 => some (s.domainState 6 == 1 && s.peg.engine.horn)
  | _ => some false

/-! ### The node's own drive (Table BAL-5) -/

/-- The level outside the node's reach: free, by the ball's boundary-scan cell and the tick. -/
def State.outside (s : State) (cell : Nat) : Bool := Config.ballLevel cell s.time

/-- The configuration has been loaded, so that a SIG ball has its function (R31, Table RST-4). -/
def State.sigOn (s : State) : Bool :=
  s.alive && (decide (8 ≤ s.rst.phase.toNat ∧ s.rst.phase.toNat ≤ 0x0B) || s.rst.phase == 0x0E#8)

/-- The bits of a packet, a sentence or a panel frame are on a UART's line. -/
def State.uartSending (s : State) : Uart → Bool
  | .u0 => !(s.outQ .u0).isEmpty
  | .u1 => s.hw.drive1 && !s.hw.sentences.isEmpty
  | .u2 => if s.panelMode then s.hw.drive2 && !s.hw.panelq.isEmpty else !(s.outQ .u2).isEmpty

def State.canSending (s : State) : CanNo → Bool
  | .can0 => !(s.outQ .can0).isEmpty || !s.hw.can0.txq.isEmpty
  | .can1 => !(s.outQ .can1).isEmpty || !s.hw.can1.txq.isEmpty

/-- The first boundary-scan cell of a UART, a CAN controller and a SIG ball (Table BAL-11). -/
def uartCell (u : Uart) : Nat := 14 + 5 * uartNo u
def canCell : CanNo → Nat
  | .can0 => 29 | .can1 => 32
def sigCell (n : Nat) : Nat := 42 + 3 * n

/-- What the node itself drives on a ball, none for a ball it leaves alone: the reset state of Table BAL-5 while the ball's domain is
held in reset or off, else its function. A line that is sending carries bits whose timing the model does not follow. -/
def State.nodeDrive (s : State) : Ball → Option Bool
  | .rstoutN => if s.rst.rstoutLow then some false else none
  | .pwron => if s.eave.pwronLow then some false else none
  | .hirqN => if s.hirqLow then some false else none
  | .hrdy => some s.hrdy
  | .hio _ => none
  | .uTx u => some (if s.portLive .u0 ∧ s.uartSending u then s.outside (uartCell u + 2) else true)
  | .uRts u =>
    some (if ¬ s.portLive .u0 then true
      else
        match u with
        | .u0 => s.hw.u0.rtsHigh
        | .u1 => !s.hw.drive1
        | .u2 => if s.panelMode then !s.hw.drive2 else s.hw.u2.rtsHigh)
  | .canTx c => some (if s.portLive .u0 ∧ s.canSending c then s.outside (canCell c + 1) else true)
  | .sig n => if s.sigOn then s.sigFunc (s.dev (0x20 + n.val)) else none
  | .tdo => if s.portLive .host then s.hw.jtag.tdo else none

/-! ### Boundary scan (R39, Table BAL-11) -/

/-- The output cell and the control cell of a ball; an open-drain cell has no control. -/
def ballCells : Ball → Option (Nat × Option Nat)
  | .rstoutN => some (36, none)
  | .hirqN => some (11, none)
  | .hrdy => some (12, some 13)
  | .hio n => some (6 + n.val, some 10)
  | .uTx u => some (uartCell u + 2, some (uartCell u + 4))
  | .uRts u => some (uartCell u + 3, some (uartCell u + 4))
  | .canTx c => some (canCell c + 1, some (canCell c + 2))
  | .sig n => some (sigCell n.val + 1, some (sigCell n.val + 2))
  | .pwron | .tdo => none

/-- What a ball is driven with: under EXTEST its cells' update latches, where a control cell at 1 enables the driver and an open-drain
cell at 0 pulls low; else what the node drives (R39). -/
def State.ballDrive (s : State) (b : Ball) : Option Bool :=
  if ¬ s.extest then s.nodeDrive b
  else
    match ballCells b with
    | none => s.nodeDrive b
    | some (out, none) => if s.hw.jtag.bsr.getD out false then none else some false
    | some (out, some control) => if s.hw.jtag.bsr.getD control false then some (s.hw.jtag.bsr.getD out false) else none

/-- The level at a SIG ball: what drives it, else what the outside gives it. -/
def State.sigAt (s : State) (n : Fin 8) : Bool := (s.ballDrive (.sig n)).getD (s.outside (sigCell n.val))

/-- SIG_LEVEL (Table BAL-9). -/
def State.sigLevel (s : State) : Nat := ofBits ((List.finRange 8).map s.sigAt)

/-- The live levels of the strap balls (R30, Table BAL-9). -/
def State.strapsLive (s : State) : Nat := ofBits ((List.range 5).map (fun k => s.outside (37 + k)))

/-- What a boundary-scan cell captures: an input cell the level at its ball, an output cell what the node would drive, a control cell
whether it drives; none where the node has no value to give (Table BAL-11). -/
def State.cellLevel (s : State) (k : Nat) : Option Bool :=
  if 6 ≤ k ∧ k ≤ 9 then none
  else if k = 10 then some false
  else if k = 11 then some (!s.hirqLow)
  else if k = 12 then s.nodeDrive .hrdy
  else if k = 15 then some s.hw.u0.ctsHigh
  else if k = 20 then some s.hw.u1.ctsHigh
  else if k = 25 then some s.hw.u2.ctsHigh
  else if k = 16 then s.nodeDrive (.uTx .u0)
  else if k = 21 then s.nodeDrive (.uTx .u1)
  else if k = 26 then s.nodeDrive (.uTx .u2)
  else if k = 17 then s.nodeDrive (.uRts .u0)
  else if k = 22 then s.nodeDrive (.uRts .u1)
  else if k = 27 then s.nodeDrive (.uRts .u2)
  else if k = 30 then s.nodeDrive (.canTx .can0)
  else if k = 33 then s.nodeDrive (.canTx .can1)
  else if k = 13 ∨ k = 18 ∨ k = 23 ∨ k = 28 ∨ k = 31 ∨ k = 34 then some true
  else if k = 36 then some (!s.rst.rstoutLow)
  else if 42 ≤ k then
    let n : Fin 8 := Fin.ofNat 8 ((k - 42) / 3)
    if (k - 42) % 3 = 0 then some (s.sigAt n)
    else if (k - 42) % 3 = 1 then s.nodeDrive (.sig n)
    else some (s.nodeDrive (.sig n)).isSome
  else some (s.outside k)

end Sys2Proof.Machine
end

