-- ==== Sys2Proof/Machine/RidgeLink.lean ====
section
/-! DEFINITION. The ridge link (R322-R325): building, tagging and checking its packets. The rows of the link's own events
stand in Twin.lean. -/

namespace Sys2Proof.Machine

/-- Packet kinds (Table TWN-15). -/
def kACK : Nat := 0
def kMARKER : Nat := 1
def kMIRROR : Nat := 2
def kDIGEST : Nat := 3
def kFORWARD : Nat := 4
def kPAIRING : Nat := 5
def kSTATE : Nat := 6
def kCONTROL : Nat := 7
def kTURWA : Nat := 8
def kRINGDATA : Nat := 9
def kRELAY : Nat := 10

/-- The kinds that an unbound unit's link carries, untagged (R323). -/
def untaggedKind (k : Nat) : Bool := k == kMARKER || k == kPAIRING

/-- The tag of a packet: the first 16 bytes of HMAC-SHA-256 over LSN, KIND and payload (R323). -/
def ridgeTag (key : List Byte) (lsn kind : Nat) (payload : List Byte) : List Byte :=
  (hmac key (toLe 8 lsn ++ toLe 1 kind ++ payload)).take 16

/-- A link packet (Table TWN-14). -/
def ridgeBytes (tagged : Bool) (key : List Byte) (lsn kind ack : Nat) (payload : List Byte) : List Byte :=
  let body := toLe 8 lsn ++ toLe 1 kind ++ toLe 1 0 ++ toLe 2 payload.length ++ toLe 8 ack ++ payload
    ++ (if tagged then ridgeTag key lsn kind payload else [])
  body ++ toLe 4 (crc32 body)

/-- Send a packet on the ridge link; an unbound unit sends only MARKER and PAIRING. An ACK is not sent again (R322, R325). -/
def State.sendRidge (s : State) (kind : Nat) (payload : List Byte) : State :=
  if ¬ s.ridge.trained ∨ ¬ s.alive ∨ (¬ s.pair.bound ∧ ¬ untaggedKind kind) then s
  else
    let lsn := s.ridge.lsnOut + 1
    let b := ridgeBytes s.pair.bound s.ridge.keyOut lsn kind s.ridge.lsnAck payload
    { s with ridge := { s.ridge with
        lsnOut := lsn, tx := s.ridge.tx ++ [b], ackDue := none,
        unacked := if kind = kACK then s.ridge.unacked else s.ridge.unacked ++ [{ lsn := lsn, sends := 1, sentAt := s.time, bytes := b }] } }

/-- The highest sequence number received in order, given those received beyond it. -/
def inOrder : Nat → List Nat → Nat → Nat
  | 0, _, n => n
  | k + 1, seen, n => if seen.contains (n + 1) then inOrder k seen (n + 1) else n

/-- A whole packet with a good CRC and tag has been received: it is acknowledged, and acknowledges what it names (R325). -/
def Ridge.received (r : Ridge) (lsn ack time : Nat) (isAck : Bool) : Ridge :=
  let seen := lsn :: r.lsnSeen
  let n := inOrder seen.length seen r.lsnAck
  { r with lsnAck := n, lsnSeen := seen.filter (fun k => decide (n < k)),
           ackDue := if isAck then r.ackDue else some (r.ackDue.getD time),
           unacked := r.unacked.filter (fun u => decide (ack < u.lsn)) }

/-- Take a packet of an expected kind: its payload and the state after the link's own checks (R323, R325). A CRC fault
discards it without acknowledgement; a bad tag or an old sequence number is counted. -/
def State.takeRidge (s : State) (kind : Nat) (b : List Byte) : Option (List Byte) × State :=
  if ¬ s.alive ∨ ¬ s.ridge.trained ∨ b.length < 24 then (none, s)
  else
    let n := b.length
    if leAt b (n - 4) 4 ≠ crc32 (b.take (n - 4)) then (none, s.gutter 0x02 0 0)
    else
      let len := leAt b 10 2
      let lsn := leAt b 0 8
      let tagLen := if s.pair.bound then 16 else 0
      if n ≠ 24 + len + tagLen ∨ byteAt b 8 ≠ kind ∨ 4096 < len ∨ (¬ s.pair.bound ∧ ¬ untaggedKind kind) then (none, s)
      else
        let payload := slice b 20 len
        let failed (s : State) : State := { s with pair := { s.pair with linkAuthFails := inc32 s.pair.linkAuthFails } }
        if s.pair.bound ∧ slice b (20 + len) 16 ≠ ridgeTag s.ridge.keyIn lsn kind payload then (none, failed s)
        else
          let r := s.ridge.received lsn (leAt b 12 8) s.time (kind == kACK)
          if lsn ≤ s.ridge.lsnIn then (none, failed { s with ridge := r })
          else (some payload, { s with ridge := { r with lsnIn := lsn } })

/-- Forward a class-P item that the standby has admitted (R130, Table TWN-15). -/
def State.sendForward (s : State) (i : BatchItem) : State :=
  s.sendRidge kFORWARD (toLe 2 (s.ridge.lsnOut % 65536) ++ toLe 2 0 ++ BatchItem.bytes { i with forwarded := true })

/-- A standby hands its items to the active: not while it has still to take the active's state, when they wait (R130, R347). -/
def State.forwards (s : State) : Bool := s.isStandby && (s.pair.state == 2 || (s.pair.state == 3 && s.pair.resyncStep == 5))

/-- The items that wait here and that the active does not have yet go to it (R130). -/
def State.forwardWaiting (s : State) : State :=
  let s1 := (s.admitted.filter (fun i => !i.forwarded)).foldl State.sendForward s
  { s1 with admitted := s.admitted.map (fun i => { i with forwarded := true }) }

/-- A unit's own item joins the next batch; the standby's goes to the active, and is kept until it is pegged (R130, R211,
R278). -/
def State.submit (s : State) (b : ItemBody) : State :=
  let i : BatchItem := { s.ownItem b with forwarded := s.forwards }
  if s.forwards then (s.admitItem i).sendForward i else s.admitItem i

end Sys2Proof.Machine
end

