-- ==== Sys2Proof/Machine/RingLink.lean ====
section
/-! DEFINITION. The purlin ring's link (R356-R361): building, tagging, queuing and checking cells, and command trains
(R370). The rows of the ring's own events stand in RingCmds.lean and RingFrame.lean. -/

namespace Sys2Proof.Machine

/-! Cell kinds (Table RNG-10). -/
def cTOKEN : Nat := 1
def cRELAY : Nat := 2
def cCLAIM : Nat := 3
def cDATA : Nat := 4
def cTRAIN : Nat := 5
def cSCAN : Nat := 6
def cADMIT : Nat := 7
def cRESEND : Nat := 8

/-- A cell as its bytes read. -/
structure Cell where
  kind  : Nat
  orig  : Nat
  ctr   : Nat
  frame : Frame
  body  : List Byte
  deriving DecidableEq, Repr

/-- The originator code of a node (Table RNG-10). -/
def State.ringOrig (s : State) : Nat :=
  if s.isWorker then (if s.ring.index = 0 then 0xFF else s.ring.index) else if s.unitB && s.pair.bound then 0x81 else 0x80

/-- The ring key held, empty if none. -/
def State.ringKey (s : State) : List Byte := (sget Key.empty s.keys 25).value

/-- Serial numbers of unit A and unit B as the ring's tag derivation takes them (R359). -/
def State.mgrSerials (s : State) : Word × Word :=
  if s.isWorker then (s.ring.mgrA, s.ring.mgrB)
  else if s.unitB && s.pair.bound then (s.pair.twinSerial, Config.serial) else (Config.serial, s.pair.twinSerial)

/-- The tag key under a ring key (R359). -/
def cellKeyOf (ringKey : List Byte) (a b : Word) : List Byte :=
  hkdf ringKey [] (ascii "ZGN-PRL" ++ toLe 4 a.toNat ++ toLe 4 b.toNat) 32

def State.cellTagKey (s : State) : List Byte := cellKeyOf s.ringKey s.mgrSerials.1 s.mgrSerials.2

/-- Header and body of a cell (Table RNG-10). -/
def cellBare (c : Cell) : List Byte :=
  toLe 1 c.kind ++ toLe 1 c.orig ++ toLe 2 c.body.length ++ toLe 8 c.ctr ++ toLe 4 c.frame.toNat ++ c.body

/-- The tag over the cell from byte 1 to the end of its body (R359). -/
def cellTag (key : List Byte) (c : Cell) : List Byte := (hmac key ((cellBare c).drop 1)).take 16

/-- Whether a cell carries a tag (R359, R361): SCAN and RESEND do not, ADMIT by its step. -/
def cellTagged (c : Cell) : Bool :=
  c.kind != cSCAN && c.kind != cRESEND && !(c.kind == cADMIT && byteAt c.body 0 == 2)

/-- The bytes of a cell under a tag key, with the CRC-32 (R358). -/
def cellBytes (key : List Byte) (c : Cell) : List Byte :=
  let b := cellBare c ++ (if cellTagged c then cellTag key c else [])
  b ++ toLe 4 (crc32 b)

/-- Priority of a cell kind (R360): TOKEN, RELAY and CLAIM first, then DATA, then the rest. -/
def cellPrio (kind : Nat) : Nat := if kind = 1 ∨ kind = 2 ∨ kind = 3 then 0 else if kind = 4 then 1 else 2

/-- Put a cell into a queue behind those of its priority or higher; the head is being sent (R360). -/
def queueCell (q : List (List Byte)) (b : List Byte) : List (List Byte) :=
  match q with
  | [] => [b]
  | h :: rest =>
    h :: (rest.filter (fun x => decide (cellPrio (byteAt x 0) ≤ cellPrio (byteAt b 0))) ++ [b]
      ++ rest.filter (fun x => decide (cellPrio (byteAt b 0) < cellPrio (byteAt x 0))))

/-- The newest cell of each kind, newest first. -/
def noteSent (l : List (List Byte × Nat)) (b : List Byte) (n : Nat) : List (List Byte × Nat) :=
  (b, n) :: l.filter (fun e => byteAt e.1 0 != byteAt b 0)

/-- The other port. -/
def otherSide : RingSide → RingSide
  | .a => .b | .b => .a

/-- Whether the purlin-ring block can send: out of reset and the segment trained. -/
def State.ringUp (s : State) (side : RingSide) : Bool :=
  s.alive && !s.blockInReset 7 && (match side with | .a => s.ring.trainedA | .b => s.ring.trainedB)

/-- Put bytes on a port of the ring. -/
def State.putCell (s : State) (side : RingSide) (b : List Byte) (again : Nat) : State :=
  if ¬ s.ringUp side then s
  else
    match side with
    | .a => { s with ring := { s.ring with txA := queueCell s.ring.txA b, sentA := noteSent s.ring.sentA b again } }
    | .b => { s with ring := { s.ring with txB := queueCell s.ring.txB b, sentB := noteSent s.ring.sentB b again } }

/-- The next cell of this node, and the counter moved on; the stored counter follows at least once every 2^20 (R361). -/
def State.newCell (s : State) (kind : Nat) (frame : Frame) (body : List Byte) : Cell × State :=
  let n := s.ring.counterOut + 1
  ({ kind := kind, orig := s.ringOrig, ctr := n, frame := frame, body := body },
    { s with ring := { s.ring with
        counterOut := n, counterStored := if s.ring.counterStored + 2 ^ 20 ≤ n then n else s.ring.counterStored } })

/-- Originate a cell on one port. A member without the ring key adds none but SCAN and ADMIT cells (R359, R374). -/
def State.sendCell (s : State) (side : RingSide) (kind : Nat) (frame : Frame) (body : List Byte) : State :=
  if s.ringKey.isEmpty ∧ kind ≠ cSCAN ∧ kind ≠ cADMIT ∧ kind ≠ cRESEND then s
  else
    let (c, s1) := s.newCell kind frame body
    s1.putCell side (cellBytes s.cellTagKey c) 0

/-- The port on which a manager reaches the workers: the chain runs from unit A's port B, or a solo manager's, to unit B's
port A (R356). -/
def State.ringPort (s : State) : RingSide := if s.unitB && s.pair.bound then .a else .b

/-- A cell whose CRC holds, as it reads; an empty answer for a bad one. -/
def parseCell (b : List Byte) : Option Cell :=
  let n := b.length
  let len := leAt b 2 2
  if n < 20 ∨ leAt b (n - 4) 4 ≠ crc32 (b.take (n - 4)) then none
  else
    let c : Cell :=
      { kind := byteAt b 0, orig := byteAt b 1, ctr := leAt b 4 8, frame := BitVec.ofNat 32 (leAt b 12 4),
        body := slice b 16 len }
    if n = 20 + len + (if cellTagged c then 16 else 0) then some c else none

/-- The tag bytes of a cell. -/
def cellTagBytes (b : List Byte) : List Byte := slice b (16 + leAt b 2 2) 16

/-- The gutter entry of a CRC failure and the request for the cell again (R358). -/
def State.badCell (s : State) (side : RingSide) : State :=
  let s1 := s.gutter 0x03 (match side with | .a => 0 | .b => 1) 0
  s1.sendCell side cRESEND s.clk.frameNo [0, 0, 0, 0]

/-- Whether this node accepts a cell: a good tag, the present or previous frame, a counter above the last one accepted
from its originator (R359). -/
def State.acceptable (s : State) (c : Cell) (b : List Byte) : Bool :=
  !s.ringKey.isEmpty && (cellTagBytes b == cellTag s.cellTagKey c)
    && (c.frame == s.clk.frameNo || c.frame + 1 == s.clk.frameNo || (s.isWorker && !s.clk.running)
      || (s.isWorker && (c.kind == cTOKEN || c.kind == cRELAY) && c.frame == s.clk.frameNo + 1))
    && decide (sget 0 s.ring.lastIn c.orig < c.ctr)

/-- Note an accepted cell. -/
def State.noteCell (s : State) (c : Cell) : State :=
  { s with ring := { s.ring with lastIn := sset 0 s.ring.lastIn c.orig c.ctr } }

/-- A cell that is not accepted. -/
def State.failCell (s : State) : State := { s with ring := { s.ring with tagFails := inc32 s.ring.tagFails } }

/-- A member forwards a cell in its direction of travel; a manager's end takes it off the ring (R358). -/
def State.forwardCell (s : State) (side : RingSide) (b : List Byte) : State :=
  if s.isWorker then s.putCell (otherSide side) b 0 else s

/-! ### Command trains (R370) -/

/-- Cut bytes into segments of at most 84 data bytes. -/
def segments (fuel : Nat) (bs : List Byte) : List (List Byte) :=
  match fuel with
  | 0 => [bs]
  | k + 1 => if bs.length ≤ 84 then [bs] else bs.take 84 :: segments k (bs.drop 84)

/-- Send a train to a destination (Table RNG-11). -/
def State.sendTrain (s : State) (side : RingSide) (tagNo dest ringSeq : Nat) (bytes : List Byte) : State :=
  let ss := segments bytes.length bytes
  ss.zipIdx.foldl (fun s x =>
    let last := decide (x.2 + 1 = ss.length)
    let body := toLe 2 tagNo ++ toLe 1 dest ++ toLe 1 (x.2 % 128 + 128 * b2n last) ++ toLe 1 x.1.length ++ toLe 1 0
      ++ toLe 4 ringSeq ++ toLe 2 0 ++ x.1
    s.sendCell side cTRAIN s.clk.frameNo body) s

/-- Carry a request to a worker: by this unit's ring port, by the ridge link when the standby is the nearer manager, or by
port A of a solo manager when the worker is on its far chain (R370, R371). -/
def State.carry (s : State) (worker ringSeq op : Nat) (r : Req) : State :=
  let bytes := reqBytes op { r with port := .ring } 0
  if ¬ (s.worker worker).relay then s.sendTrain s.ringPort 0 worker ringSeq bytes
  else if s.pair.state = 0 then s.sendTrain (otherSide s.ringPort) 0 worker ringSeq bytes
  else s.sendRidge kTURWA (toLe 2 (ringSeq % 65536) ++ toLe 2 0 ++ reqBytes op { r with port := .ridge } 0)

/-- A command that ended TIMEOUT, and whose repeat keeps its ring sequence number (R370). -/
def State.carried? (s : State) (r : Req) : Option Carried :=
  s.ring.carried.find? (fun c => c.port == r.port && c.session == r.session && c.seq == r.seq)

/-- The carriage of a command to a worker begins, under its ring sequence number. -/
def State.carryCmd (s : State) (c : RingCmd) : State :=
  let s1 : State :=
    { s with ring := { s.ring with
        ringSeq := max s.ring.ringSeq c.ringSeq, cmds := s.ring.cmds.filter (fun x => x.ringSeq != c.ringSeq) ++ [c] } }
  s1.carry c.worker c.ringSeq c.opcode.toNat c.req

/-- The class-L command that a request to a worker becomes: its ring sequence number, its maximum, and a train to the
worker (R131, R370). A repeat after TIMEOUT goes under the number of its original. -/
def State.startRingCmd (s : State) (t : Tag) (maxTicks : Nat) : State :=
  let n := match s.carried? t.req with | some c => c.ringSeq | none => s.ring.ringSeq + 1
  (s.modTag t (fun u => { u with begun := true })).carryCmd
    { worker := oidNode t.req.target, inner := false, got := [], denied := none, ringSeq := n, opcode := t.opcode, req := t.req,
      admitAt := t.admitAt, maxTicks := maxTicks }

/-- Whether a command of the node itself finds an internal tag and a ring tag (Table PKT-5). -/
def State.innerFree (s : State) : Bool := decide (0 < s.tagsFree .internal ∧ 0 < s.tagsFree .ring)

/-- A pegged command of the node itself goes to its worker, or waits for its tags (R118, R173). -/
def State.carryInner (s : State) (op : Half) (r : Req) (maxTicks : Nat) : State :=
  if ¬ s.innerFree then { s with ring := { s.ring with waiting := s.ring.waiting ++ [(op, r)] } }
  else
    s.carryCmd
      { worker := oidNode r.target, inner := true, got := [], denied := none, ringSeq := s.ring.ringSeq + 1, opcode := op, req := r,
        admitAt := s.clk.batten, maxTicks := maxTicks }

/-- A denied class-L command waits for its maximum (R159). -/
def State.denyL (s : State) (t : Tag) (st : Status) (maxTicks : Nat) : State :=
  let cmd : RingCmd :=
    { worker := 0, inner := false, got := [], denied := some st, ringSeq := 0, opcode := t.opcode, req := t.req, admitAt := t.admitAt,
      maxTicks := maxTicks }
  { s.modTag t (fun u => { u with begun := true }) with ring := { s.ring with cmds := s.ring.cmds ++ [cmd] } }

/-- A RING event and record of the managers (R376, Table RNG-7); the record is returned for the peg. -/
def State.ringEventData (s : State) (cause worker : Nat) : List Byte :=
  let w := s.worker worker
  toLe 1 cause ++ toLe 1 worker ++ toLe 1 s.ring.state ++ toLe 1 (if worker = 0 then 0 else w.state)
    ++ toLe 4 (if worker = 0 then 0 else w.serial.toNat)

def State.ringRecord (s : State) (cause worker : Nat) : Occurrence :=
  s.sysOcc 1014 5 (0x04100000#32)
    (toLe 1 cause ++ toLe 1 worker ++ toLe 1 s.ring.state ++ toLe 1 (if worker = 0 then 0 else (s.worker worker).state))

/-- Tell of a ring change: the event at once, the record at the next peg (R300, R376). -/
def State.tellRing (s : State) (cause worker : Nat) : State :=
  (s.raise 5 (0x04100000#32) (s.ringEventData cause worker)).later (s.ringRecord cause worker)

end Sys2Proof.Machine
end

