-- ==== Sys2Proof/Machine/Front.lean ====
section
/-! DEFINITION. The port front end (R94, R95, R106, R109-R124) and the path of an admitted command through the checks of
R143: what every opcode row shares. -/

namespace Sys2Proof.Machine

/-! ### Before READY (R94, R95) -/

/-- Sessions open or opening, session 0 not counted (Table PKT-8). -/
def State.sessionsOpen (s : State) : Nat := (s.comm.sessions.filter (fun x => x.num != 0)).length

/-- HELLO's reply parameters (Table PKT-4). -/
def State.helloParams (s : State) (p : Port) : List Byte :=
  toLe 16 offeredWord.toNat ++ toLe 1 32 ++ toLe 1 s.sessionsOpen ++ toLe 2 4096 ++ toLe 2 (portTags p) ++ toLe 1 64
    ++ [s.rst.phase] ++ toLe 4 Config.serial.toNat

/-- The retry-after in ms (R95). -/
def State.retryAfter (s : State) : Nat :=
  if s.rst.phase = 0x0D then 0xFFFF
  else if s.rst.phase = 0x0C ∨ s.rst.phase = 0x0E then 1000
  else max 10 (10 * ceilDiv (msTicks 380 - s.sinceRelease) (msTicks 10))

/-- PING's reply parameters (R95). -/
def State.pingParams (s : State) : List Byte :=
  if s.rst.phase = 0x0B then [0x0B, 0, 0, 0] else [s.rst.phase, 0] ++ toLe 2 s.retryAfter

/-- BUSY_RETRY with its retry-after (R95). -/
def State.busy (s : State) (r : Req) : State := s.feAnswer r.port r.session r.seq .busyRetry (toLe 2 s.retryAfter)

/-- The start-up slot is in use: a HELLO or PING answered before READY has not left yet (R94). -/
def State.startSlotUsed (s : State) (p : Port) : Bool := (s.outQ p).any (fun k => k.frontEnd && decide (k.status = .done))

/-- A packet between the end of start step 3 and READY (Table RST-5). -/
def State.startAnswer (s : State) (op : Nat) (r : Req) : State :=
  if s.startSlotUsed r.port then s.busy r
  else if op = 0x0100 then s.feAnswer r.port r.session r.seq .done (s.helloParams r.port)
  else if op = 0x0105 then s.feAnswer r.port r.session r.seq .done s.pingParams
  else s.busy r

/-- The port that a download boot listens on, if the node waits for one (R87, R88, R92). -/
def State.downloadPort (s : State) : Option Port :=
  if s.rst.phase = 0x0D then some .u0
  else if s.rst.phase = 0x0C then some (if s.strap 0 then .u0 else .host) else none

/-- Session 0 of the download port takes the IMAGE opcodes (R87). -/
def State.downloadOp (s : State) (op : Nat) (r : Req) : Bool :=
  r.session == 0 && op / 256 == 10 && (s.downloadPort == some r.port)

/-! ### Admission (R106, R117-R124) -/

/-- An opcode that the session's features make unknown (Table PKT-10). -/
def unknownFor (w : Who) (op : Nat) : Bool :=
  (op / 256 == 7 && op != 0x0705 && !w.has fPAIR) || (op / 256 == 8 && op != 0x0803 && !w.has fRING)
    || (opInfo op).isNone

/-- The faults of a request that depend on its session: LEN, WANT_PROVISIONAL and the opcode (R105, R106, R117, R128). -/
def requestFault (w : Who) (op : Nat) (r : Req) : Bool :=
  decide (partSize w < r.params.length) || (r.wantProv && (!w.has fPROV || op != 0x0200)) || unknownFor w op

/-- Give a request its tag, and the ring tag of a worker command; its command is not begun. An island off full rate or a block
in reset on its path at this tick already costs the reply its exactness (R76). -/
def State.allot (s : State) (op : Nat) (r : Req) (dup : Bool) : State :=
  let t : Tag :=
    { req := r, opcode := BitVec.ofNat 16 op, admitAt := s.clk.batten, gen := s.peg.gen, dup := dup, begun := false,
      answered := false, matrix := s.peg.matrix, onRing := s.forWorker op r, spoiled := s.badIslands op r.port, blockHit := s.blockOnPath op r,
      no := s.comm.tagNext }
  { s with comm := { s.comm with tags := s.comm.tags ++ [t], tagNext := s.comm.tagNext + 1 } }

/-- Whether a request can take a command slot (R119); a worker command needs a ring tag too (R131). A request that a link
carries belongs to no session of this node. -/
def State.hasSlot (s : State) (op : Nat) (r : Req) : Bool :=
  decide (0 < s.tagsFree r.port) && (isLink r.port || decide (s.inFlight r.port r.session < 64))
    && (!s.forWorker op r || decide (0 < s.tagsFree .ring))

/-- NO_CREDIT (R119). -/
def State.noCredit (s : State) (r : Req) : State :=
  { s with comm := { s.comm with noCredits := inc32 s.comm.noCredits } }.feAnswer r.port r.session r.seq .noCredit []

/-- The window after a new request (R122, R123). -/
def Sess.admitted (x : Sess) (op : Nat) (r : Req) : Sess :=
  let e : WinEntry :=
    { seq := r.seq, opcode := BitVec.ofNat 16 op, target := r.target, complete := false, cached := none, timedOut := false }
  { x with high := r.seq, window := (x.window ++ [e]).drop (x.window.length + 1 - 64),
           settledAt := if op = 0x0100 ∨ op = 0x0105 ∨ op = 0x0103 ∨ op = 0x0101 ∨ x.settledAt.isSome then x.settledAt else some r.seq }

/-- The original of a repeat is still in flight: its command is not complete, or its reply has not left (R118, R124). A command
carried out again after TIMEOUT counts as its original. -/
def State.stillInFlight (s : State) (e : WinEntry) (op : Nat) (r : Req) : Bool :=
  !e.complete || s.comm.tags.any (fun t => t.req.port == r.port && t.req.session == r.session && t.req.seq == r.seq
    && (!t.dup || !opIdem op))

/-- A repeat within the window (R124). -/
def State.repeated (s0 : State) (x : Sess) (op : Nat) (r : Req) : State :=
  let s : State := { s0 with comm := { s0.comm with duplicates := inc32 s0.comm.duplicates } }
  match x.window.find? (fun e => e.seq == r.seq) with
  | none => s.feAnswer r.port r.session r.seq .seqOld []
  | some e =>
    if e.opcode.toNat ≠ op ∨ e.target ≠ r.target then s.feAnswer r.port r.session r.seq .badParam []
    else if ¬ x.features.getLsbD fDUP then s.feAnswer r.port r.session r.seq .seqOld []
    else if s.stillInFlight e op r then s
    else if opIdem op ∨ e.timedOut then
      if ¬ s.hasSlot op r then s.noCredit r
      else
        (s.allot op r true).modSess r.port r.session (fun y => { y with window := y.window.map (fun z =>
          if z.seq = r.seq ∧ z.timedOut then { z with complete := false, timedOut := false } else z) })
    else
      match e.cached with
      | some k => s.enqueue r.port { k with dup := true, frontEnd := true, holdsTag := false }
      | none => s

/-- Admit a request of an open session, or answer it from the front end (R119, R122, R124). -/
def State.admitInSession (s : State) (x : Sess) (op : Nat) (r : Req) : State :=
  let h := x.high.toNat
  let n := r.seq.toNat
  if h = 0xFFFFFFFF ∧ n = 0 then s.feAnswer r.port r.session r.seq .badState []
  else if n = 0 then s.feAnswer r.port r.session r.seq .badParam []
  else if h + 1 < n then s.feAnswer r.port r.session r.seq .badParam []
  else if n = h + 1 then
    if ¬ s.hasSlot op r then s.noCredit r
    else (s.allot op r false).modSess r.port r.session (fun y => y.admitted op r)
  else if h < n + 64 then s.repeated x op r
  else s.feAnswer r.port r.session r.seq .seqOld []

/-- OPEN in session 0 while 32 sessions are open or opening: the front end's BUSY_RETRY, which admits nothing (R112, R121). -/
def State.openLimit (s : State) (op : Nat) (r : Req) : Bool :=
  op == 0x0102 && r.session == 0 && decide (32 ≤ s.sessionsOpen)

/-- What the header alone tells the front end: the packet names a session that is not open on its port (R110), or it has a
fault that depends on the session's features (R106, R117). Such a request has no effect. -/
def State.frontFault (s : State) (op : Nat) (r : Req) : Option Status :=
  let stale : Bool :=
    match s.sess? r.port r.session with
    | none => r.session != 0 && !isLink r.port
    | some x => !x.isOpen && op != 0x0103
  if stale = true then some .sessionStale
  else if requestFault (s.who r) op r then some .badParam
  else none

/-- The front end's decision on a request whose header and tag are good: session, faults, then SEQ (R106, R110, R122).
The sender's CREDIT_ECHO and the time of the packet are noted where a session stands behind it (R113, R133). -/
def State.frontReq (s0 : State) (op : Nat) (r : Req) (echo : Option Word) : State :=
  match s0.frontFault op r with
  | some st => s0.feAnswer r.port r.session r.seq st []
  | none =>
    let s := s0.modSess r.port r.session (fun x => { x with lastSeen := s0.clk.batten, echo := echo.getD x.echo, tagFails := 0 })
    match s.sess? r.port r.session with
    | none =>
      if s.openLimit op r then s.feAnswer r.port r.session r.seq .busyRetry (toLe 2 1000)
      else if ¬ s.hasSlot op r then s.noCredit r
      else s.allot op r false
    | some x => s.admitInSession x op r

/-- Faults that a link's own request shows (R106): it comes as it was admitted, without its auth tag (Table TWN-15). -/
def carriedFault (p : Port) (h : RawReq) (n : Nat) : Bool :=
  h.ver != 1 || decide (8 ≤ h.flags) || n != 20 + h.len || decide (4096 < h.len) || (h.flags.testBit 2 != segmented p)
    || (opInfo h.opcode).isNone

/-- A request that a link brings whole: its header is checked and it is admitted, under the session and the SEQ that it has on this
link (R106, R370). -/
def State.linkReq (s : State) (p : Port) (session : Half) (seq : Word) (bytes : List Byte) : State :=
  match parseHeader bytes with
  | none => s.feAnswer p session seq .badParam []
  | some h =>
    if carriedFault p h bytes.length then s.feAnswer p session seq .badParam []
    else
      let r : Req := { reqOf p h (slice bytes 20 h.len) with session := session, seq := seq, wantProv := p == .ridge && h.flags.testBit 0 }
      s.frontReq h.opcode r none

/-- A node that answers as a whole: ready, or waiting for the image that this request belongs to. -/
def State.serves (s : State) (op : Nat) (r : Req) : Bool :=
  s.isReady || s.downloadOp op r || (s.isWorker && r.port == .ring)

/-! ### Bytes from a port (R106-R109) -/

/-- Faults of a request's header that its bytes alone show (R106). -/
def headerFault (p : Port) (h : RawReq) (n : Nat) : Bool :=
  let auth := h.flags.testBit 1
  h.ver != 1 || decide (8 ≤ h.flags) || n != 20 + h.len + (if auth then 16 else 0) || decide (4096 < h.len)
    || (auth != (h.session != 0)) || (h.flags.testBit 2 != segmented p) || (opInfo h.opcode).isNone

/-- Sixteen consecutive tag failures in an open session close it (R157). -/
def State.tagFailed (s : State) (x : Sess) (r : Req) : State :=
  let s1 : State := { s with comm := { s.comm with authFails := inc32 s.comm.authFails } }
  let s2 := (s1.modSess x.port x.num (fun y => { y with tagFails := y.tagFails + 1 })).feAnswer r.port r.session r.seq .authFail []
  if 16 ≤ x.tagFails + 1 then s2.closeSession x.port x.num else s2

/-- The start of the lock that eight consecutive failures bring (R157), with its record (Table REC-2). -/
def State.lockout (s : State) (k : KeyLock) : State :=
  s.later (s.sysOcc 1011 3 0 (toLe 1 (portNo k.port) ++ toLe 1 (k.key / 4) ++ toLe 1 (k.key % 4)
    ++ toLe 1 (min 255 (ceilDiv k.lockS 60))))

/-- The lock entry of a port and key slot. -/
def State.lockOf (s : State) (p : Port) (key : Nat) : KeyLock :=
  match s.comm.locks.find? (fun k => k.port == p && k.key == key) with
  | some k => k
  | none => { port := p, key := key, fails := 0, lockS := 60, locked := false, endsAt := 0 }

def State.setLock (s : State) (k : KeyLock) : State :=
  { s with comm := { s.comm with
      locks := s.comm.locks.filter (fun x => !(x.port == k.port && x.key == k.key)) ++ [k] } }

/-- A failed PROVE counts against its port and key slot; the eighth in a row locks the slot (R157). -/
def State.proveFailed (s : State) (x : Sess) : State :=
  let k := s.lockOf x.port (keyIndex x.role x.slot)
  if k.locked then s
  else if k.fails + 1 < 8 then s.setLock { k with fails := k.fails + 1 }
  else
    let k' : KeyLock :=
      { k with fails := 0, locked := true, endsAt := s.clk.batten + BitVec.ofNat 40 (k.lockS * Config.ticksPerSecond) }
    (s.setLock k').lockout k'

/-- A packet of bytes arrives whole at a port: R94 before READY, then R106 onward. Commands are admitted, not executed:
the opcode's own row executes them (notes/assumptions/7.md). -/
def State.frontBytes (s : State) (p : Port) (b : List Byte) : State :=
  if ¬ s.portLive p ∨ s.blockClosed (portBlock p) then s
  else
    match parseHeader b with
    | none => s.feAnswer p (echoSession b) (echoSeq b) .badParam []
    | some h =>
      let r := reqOf p h (slice b 20 h.len)
      if headerFault p h b.length then s.feAnswer p (echoSession b) (echoSeq b) .badParam []
      else if ¬ s.serves h.opcode r then s.startAnswer h.opcode r
      else
        match (if h.session = 0 then none else s.sess? p h.session) with
        | none => s.frontReq h.opcode r (some h.echo)
        | some x =>
          let body := b.take (20 + h.len)
          if (s.frontFault h.opcode r).isSome ∨ slice b (20 + h.len) 16 = authTag x.kReq body then
            s.frontReq h.opcode r (some h.echo)
          else if ¬ x.isOpen then
            let s1 : State := { s with comm := { s.comm with authFails := inc32 s.comm.authFails } }
            ((s1.proveFailed x).closeSession p x.num).feAnswer p h.session h.seq .authFail []
          else s.tagFailed x r

/-! ### Denial (R159) -/

/-- What a command entry says of its opcode: its access (step 1), its seal check (step 2), whether it moves owner-private
data (step 3), its state and parameters (step 4), and what it does. -/
structure Cmd where
  op     : Nat
  access : State → Who → Req → Bool
  sealed : State → Who → Req → Bool
  priv   : State → Who → Req → Bool
  check  : State → Who → Req → Option Status
  run    : State → Tag → Who → State

/-- The latency class of an opcode's row: CONSENT ISSUE is N; DOMAIN_SET with LAID_UP is P (Table CMD-14, Table CMD-17). -/
def rowLat (op : Nat) (r : Req) : Lat :=
  if op = 0x0921 then (if byteAt r.params 0 = 0 then .n else .p)
  else if op = 0x0B03 then (if byteAt r.params 0 = 2 then .p else .n)
  else
    match opInfo op with
    | some i => i.lat
    | none => .f

/-- A SET of the session that holds the stage: it is staged, whatever node its target is on (R180). -/
def State.staging (s : State) (op : Nat) (r : Req) : Bool :=
  op == 0x0201 && (match s.stage with
    | some (p, n, _) => p == r.port && n == r.session
    | none => false)

/-- The latency class of a request: F for a SET that is staged (R180), L for a worker target (R173), else its row's. -/
def State.latOf (s : State) (op : Nat) (r : Req) : Lat :=
  if s.staging op r then .f else if s.forWorker op r then .l else rowLat op r

/-- The fixed count of a request, as its parameters give it (Tables CMD-5, CMD-11, CMD-14). -/
def fixedCount (op : Nat) (r : Req) : Nat :=
  if op = 0x0600 then 18 + 8 * byteAt r.params 2
  else if op = 0x0610 then 18 + 4 * byteAt r.params 2
  else if op = 0x0900 then 18 + 8 * byteAt r.params 1
  else if op = 0x0201 then 18
  else opTicks op

/-- The key under which a worker's attribute stands, as the managers last set it (notes/assumptions/36.md). -/
def workerKey (node cls idx attr : Nat) : Nat := node * 268435456 + key cls idx attr

/-- The maximum of a calibration in ticks, for a result rate (Table CMD-7). -/
def calMax (rate : Nat) (r : Req) : Nat := (byteAt r.params 0 + 2) * periodTicks rate + msTicks 40

/-- The stated maximum of a class-L command in ticks: that of its row, 40 ms more than the row's for an island or a domain, else
40 ms (R173, R191, Tables CMD-7, CMD-11 to CMD-13, CMD-17). -/
def State.linkTicks (s : State) (op : Nat) (r : Req) : Nat :=
  if op / 256 = 7 ∨ op / 256 = 8 ∨ op = 0x0611 ∨ op = 0x0B01 then msTicks (opTicks op)
  else if op = 0x0B02 ∨ op = 0x0B03 then msTicks (40 + opTicks op)
  else if op = 0x0B00 then msTicks (25 + leAt r.params 2 2)
  else if op = 0x0300 ∨ op = 0x0301 then
    calMax (sget (factory cAIN (oidIndex r.target) 0x11) s.peg.cfg (workerKey (oidNode r.target) cAIN (oidIndex r.target) 0x11)) r
  else msTicks 40

/-- NV programming of the oldest class-N command starts: a command admitted under an earlier generation is checked again, and one that
the generation in force denies ends REVOKED (R145). GUARD and IMAGE rights never change (R137); a denied command stays denied
(R174). -/
def State.startHead (s : State) : State :=
  match s.nvOps with
  | [] => s
  | o :: rest =>
    let op := o.opcode.toNat
    let w := s.who o.req
    let held : Bool :=
      if op = 0x0300 ∨ op = 0x0301 then s.may w cAIN 15 bX else if op = 0x0611 then s.may w cLOG 15 bX else true
    let denied : Bool := match o.work with | .denied _ => true | _ => false
    if o.started then s
    else if o.gen = s.peg.gen ∨ isLink o.req.port ∨ denied = true ∨ held = true then { s with nvOps := { o with started := true } :: rest }
    else { s with nvOps := { o with started := true, work := .denied .revoked } :: rest }

/-- A class-N command joins the NV work; its completion answers it. -/
def State.queueNv (s : State) (t : Tag) (w : NvWork) : State :=
  State.startHead { s.modTag t (fun u => { u with begun := true }) with
    nvOps := s.nvOps ++ [{ req := t.req, opcode := t.opcode, gen := t.gen, work := w, started := false }] }

/-- Answer a refused command at the tick of its class (R159). -/
def State.deny (s : State) (t : Tag) (st : Status) : State :=
  let op := t.opcode.toNat
  match s.latOf op t.req with
  | .f => s.answerF t st [] (fixedCount op t.req)
  | .p =>
    if s.isWorker then s.answerLate t st [] 0
    else
    let x : PegReply :=
      { frame := s.clk.frameNo, port := t.req.port, session := t.req.session, seq := t.req.seq, status := st, params := [] }
    { s.modTag t (fun u => { u with begun := true }) with refusedP := s.refusedP ++ [x] }
  | .n => s.queueNv t (.denied st)
  | .l => s.denyL t st (s.linkTicks op t.req)

/-! ### The order of checks (R143) -/

/-- Session 0 is enabled on a port (R111). -/
def State.session0On (s : State) (p : Port) : Bool :=
  match p with
  | .ring | .ridge | .internal => true
  | p => (s.dev 0x51).testBit (portNo p)

/-- The commands that a port, a session or a node as such does not take (R111, R377). -/
def State.portDenies (s : State) (op : Nat) (r : Req) : Bool :=
  if op = 0x0100 ∨ op = 0x0105 ∨ s.downloadOp op r then false
  else if s.isWorker ∧ r.port ≠ .ring then true
  else r.session == 0 && op != 0x0102 && !s.session0On r.port

/-- What a session under the delivery key may issue (R154). -/
def deliveryOp (op : Nat) (r : Req) : Bool :=
  [0x0100, 0x0101, 0x0103, 0x0104, 0x0105, 0x0920].contains op || (op == 0x0910 && byteAt r.params 0 == 0)

/-- The classes of the non-attribute opcodes that exist behind a worker's node field (R427). -/
def workerClass (op : Nat) (o : Word) : Bool :=
  if op = 0x0200 ∨ op = 0x0201 ∨ op = 0x0202 then onWorker (oidClass o) (oidAttr o)
  else [cAIN, cDIN, cDOUT, cCLOCK, cLOG, cISLAND, cDOMAIN, cDEVICE, 0].contains (oidClass o)

/-- Step 1 of R143: the port, the node field and the cell. What a link brings was checked where it came in (R370). -/
def State.accessOk (s : State) (c : Cmd) (w : Who) (r : Req) : Bool :=
  if s.portDenies c.op r then false
  else if isLink r.port then true
  else if oidNode r.target ≠ 0 ∧ c.op ≠ 0x0802 then
    w.has fRING && workerOps.contains c.op && s.workerKnown (oidNode r.target) && workerClass c.op r.target && c.access s w r
  else c.access s w r

/-- The matrix that was in force when a command was admitted. -/
def State.asAdmitted (s : State) (t : Tag) : State := { s with peg := { s.peg with matrix := t.matrix } }

/-- The first step of R143 that fails; access is decided under the generation in force at admission. -/
def State.verdict (s : State) (c : Cmd) (t : Tag) : Option Status :=
  let r := t.req
  let w := s.who r
  if ¬ (s.asAdmitted t).accessOk c w r then some .notAvailable
  else if c.sealed s w r then some .sealed
  else if c.priv s w r ∧ ¬ w.has fCRYPT then some .featureOff
  else if s.deliverySession w ∧ r.session ≠ 0 ∧ ¬ deliveryOp c.op r then some .badState
  else if s.forWorker c.op r ∧ ¬ s.staging c.op r then none
  else c.check s w r

/-- Put a class-P command into the batch (R15, P11); a standby forwards it (R130). -/
def State.admitP (s : State) (t : Tag) (w : Who) (body : ItemBody) : State :=
  let i : BatchItem :=
    { body := body, forwarded := s.forwards, frame := s.clk.frameNo, gen := t.gen, role := w.role, slot := w.slot,
      unitB := s.unitB, own := true }
  let s1 := (s.modTag t (fun u => { u with begun := true })).admitItem i
  if s.forwards then s1.sendForward i else s1

/-- A command for a worker: class P joins the batch first (R173), every other is carried at once; a standby hands it to
the active manager (Table CMD-19). Where it is placed on the link it is checked under the generation in force, and ends REVOKED if
that denies it (R145, R175, notes/assumptions/122.md). -/
def State.toWorker (s : State) (c : Cmd) (t : Tag) (w : Who) : State :=
  if rowLat c.op t.req = .p then s.admitP t w (.command t.opcode t.req)
  else if ¬ s.accessOk c w t.req then s.denyL t .revoked (s.linkTicks c.op t.req)
  else if s.isStandby then
    (s.modTag t (fun u => { u with begun := true })).sendRidge kTURWA
      (toLe 2 (t.req.seq.toNat % 65536) ++ toLe 2 0 ++ reqBytes c.op { t.req with port := .ridge } 0)
  else s.startRingCmd t (s.linkTicks c.op t.req)

/-- Decide an admitted command in the order of R143, and carry it out or refuse it. -/
def State.perform (s : State) (c : Cmd) (t : Tag) : State :=
  let w := s.who t.req
  match s.verdict c t with
  | some st => s.deny t st
  | none => if s.forWorker c.op t.req ∧ ¬ s.staging c.op t.req then s.toWorker c t w else c.run s t w

/-! ### Replies to commands that came over a link -/

/-- The place of a train in the worker's window: each manager numbers its own trains (notes/assumptions/45.md). -/
def trainKey (orig n : Nat) : Nat := n + 4294967296 * orig

/-- A worker's replies leave as trains to the manager that asked (R370); they are kept for the train window. -/
def State.flushRing (s : State) : State :=
  (s.outQ .ring).foldl (fun s k =>
    let n := k.seq.toNat
    let src := sget 0 s.ring.trainFrom n
    let s1 : State :=
      { s with ring := { s.ring with
          trainReplies := (s.ring.trainReplies ++ [(trainKey (src % 256) n, k.bare)]).drop (s.ring.trainReplies.length + 1 - 64) } }
    let side : RingSide := if src / 256 = 0 then .a else .b
    let s2 := s1.sendTrain side (n % 65536) (src % 256) n k.bare
    s2.headToLink .ring (if s2.ringUp side then ((match side with | .a => s2.ring.sentA | .b => s2.ring.sentB).head?).map Prod.fst
      else none)) s

/-- Replies to Turwa packets that the twin forwarded go back over the ridge link (Table TWN-15). -/
def State.flushRidge (s : State) : State :=
  (s.outQ .ridge).foldl (fun s k =>
    let s1 := s.sendRidge kTURWA (toLe 2 (k.seq.toNat % 65536) ++ toLe 1 1 ++ toLe 1 0 ++ k.bare)
    s1.headToLink .ridge (if s1.ridge.tx.length = s.ridge.tx.length then none else s1.ridge.tx.getLast?)) s

def State.flush (s : State) : State := s.flushRing.flushRidge.settleLinks

/-- The admitted request of an opcode that waits to be carried out. -/
def State.waiting? (s : State) (op : Nat) (r : Req) : Option Tag :=
  s.comm.tags.find? (fun t => t.req.port == r.port && t.req.session == r.session && t.req.seq == r.seq && !t.answered && !t.begun
    && t.opcode.toNat == op)

/-- Whether an opcode row speaks of a request that has been admitted. Session 0 has no sequence window, so there a request that
has begun does not stand for a new one of the same SEQ (R111). -/
def State.admittedAlready (s : State) (op : Nat) (r : Req) : Bool :=
  (s.tag? r).isSome && (r.session != 0 || (s.waiting? op r).isSome)

/-- The blocks that a command works in, its port's apart (Table RST-6). -/
def State.worksIn (s : State) (op : Nat) (r : Req) : List Nat :=
  if s.forWorker op r then [7]
  else if op / 256 = 6 then (if op = 0x0611 then [2, 4] else [2])
  else if op = 0x0B04 then [2, 16]
  else if op = 0x0910 then [4, 5]
  else if op = 0x0920 then [5]
  else if op = 0x0300 ∨ op = 0x0301 ∨ op = 0x0911 ∨ op = 0x0922 ∨ op / 256 = 10 ∨ (op = 0x0921 ∧ byteAt r.params 0 = 0) then [4]
  else []

/-- A command that came after the request to reset a block it works in: the block takes no new transaction, so it waits (R96). -/
def State.blockHolds (s : State) (op : Nat) (t : Tag) : Bool :=
  s.blocks.any (fun b => (b.inReset || b.mode == 0) && (s.worksIn op t.req).contains b.block
    && s.comm.tags.any (fun u => u.req == b.req && decide (u.no < t.no)))

/-- An opcode row: the request, if no tag holds it yet, passes the front end; an admitted command is decided and carried
out once (notes/assumptions/7.md). A port whose block closes takes no new request (R96). -/
def State.execute (s : State) (c : Cmd) (r : Req) : State :=
  if ¬ s.portLive r.port then s
  else if ¬ s.serves c.op r then s.startAnswer c.op r
  else if ¬ s.admittedAlready c.op r ∧ s.blockClosed (portBlock r.port) then s
  else
    let s1 := if s.admittedAlready c.op r then s else s.frontReq c.op r none
    match s1.waiting? c.op r with
    | none => s1
    | some t => if s1.blockHolds c.op t then s1 else (s1.perform c t).flush

/-! ### Entries of a common form -/

/-- No seal binds the opcode, and it moves no owner-private data. -/
def noSeal (_ : State) (_ : Who) (_ : Req) : Bool := false
/-- The x right in a class's command group. -/
def xRight (cls : Nat) (s : State) (w : Who) (_ : Req) : Bool := s.may w cls 15 bX
/-- The r right in a group of a class. -/
def rRight (cls group : Nat) (s : State) (w : Who) (_ : Req) : Bool := s.may w cls group bR
/-- One of a list of roles (Table SEC-2). -/
def roleIn (l : List Role) (_ : State) (w : Who) (_ : Req) : Bool := l.contains w.role
/-- TARGET names an object that exists (R158). -/
def targetExists (r : Req) : Bool := (classRow (oidClass r.target)).isSome && decide (oidIndex r.target < classSize (oidClass r.target))
/-- The x right in the command group of the class that TARGET names (R171). -/
def targetX (s : State) (w : Who) (r : Req) : Bool := targetExists r && s.may w (oidClass r.target) 15 bX
/-- A right in a group of a class, and a TARGET that exists. -/
def xObj (cls : Nat) (s : State) (w : Who) (r : Req) : Bool := s.may w cls 15 bX && targetExists r
def rObj (cls group : Nat) (s : State) (w : Who) (r : Req) : Bool := s.may w cls group bR && targetExists r
/-- The command group of the object that TARGET names is sealed by scope 1 or 2 (R148). -/
def groupSealed (s : State) (_ : Who) (r : Req) : Bool :=
  oidNode r.target == 0 && s.peg.seals.any (fun e => !e.2.broken && e.2.scope != 0 && e.2.covers (oidClass r.target) (oidIndex r.target) 0xF0)
/-- A class-P command whose effect is decided at its peg. -/
def runP (s : State) (t : Tag) (w : Who) : State := s.admitP t w (.command t.opcode t.req)
/-- BAD_PARAM unless a condition holds. -/
def need (ok : Bool) : Option Status := if ok then none else some .badParam
/-- The parameters have exactly a length. -/
def lenIs (n : Nat) (r : Req) : Bool := r.params.length == n
/-- TARGET is an object of a class at an index that exists. -/
def targetIs (cls : Nat) (r : Req) : Bool := oidClass r.target == cls && decide (oidIndex r.target < classSize cls)

end Sys2Proof.Machine
end

