-- ==== Sys2Proof/Machine/ProvOps.lean ====
section
/-! DEFINITION. What a batch item may do to the provisional result (R15, R17, R276): the operations the appliers share, the
configuration digest (R141, R348) and the rights that a peg checks again (R145). -/

namespace Sys2Proof.Machine

/-! ### The shadow queues -/

def Prov.addEvent (p : Prov) (kind : Nat) (object : Word) (data : List Byte) : Prov :=
  { p with events := p.events ++ [{ kind := kind, object := object, data := data, frame := p.frame }] }

def Prov.addRecord (p : Prov) (o : Occurrence) : Prov := { p with records := p.records ++ [o] }

def Prov.addEffect (p : Prov) (e : Effect) : Prov := { p with effects := p.effects ++ [e] }

/-- What an applied item answers: the result, its status and its reply parameters. -/
structure Applied where
  prov   : Prov
  status : Status
  params : List Byte
  deriving DecidableEq, Repr

/-- An item that completes with a status and changes nothing. -/
def Prov.refuse (p : Prov) (st : Status) : Applied := { prov := p, status := st, params := [] }

/-- An item that completes DONE. -/
def Prov.ok (p : Prov) (params : List Byte) : Applied := { prov := p, status := .done, params := params }

/-- The state as the batch sees it at an item's place: the pegged data of the provisional result (R145). -/
def State.under (s : State) (p : Prov) : State := { s with peg := p.st }

/-- Actor byte: role and slot (Table SEC-14). -/
def BatchItem.actor (i : BatchItem) : Nat := roleSlot i.role i.slot

/-! ### The configuration digest (R141, R177, R348) -/

/-- Whether a stored attribute belongs to one node and stays out of the digest (R178, R348). -/
def localKey (k : Nat) : Bool :=
  match attrInfo (k / 1048576) (k / 256 % 4096) (k % 256) with
  | some i => i.local_
  | none => false

/-- The bytes of a seal entry in the digest and in a configuration copy. -/
def Seal.bytes (n : Nat) (x : Seal) : List Byte :=
  toLe 1 n ++ toLe 1 x.cls ++ toLe 2 x.first ++ toLe 2 x.count ++ toLe 1 x.scope ++ toLe 1 x.attr ++ toLe 1 (b2n x.broken)
    ++ toLe 1 0

/-- The configuration's bytes: what the digest covers, in one order (notes/assumptions/16.md). -/
def Pegged.configBytes (p : Pegged) : List Byte :=
  (p.cfg.filter (fun e => !localKey e.1)).flatMap (fun e => toLe 4 e.1 ++ toLe 16 e.2)
    ++ p.matrix.flatMap (fun e => toLe 2 e.1 ++ toLe 1 e.2.toNat) ++ toLe 4 p.gen.toNat
    ++ p.seals.flatMap (fun e => e.2.bytes e.1) ++ toLe 1 p.swapHours

/-- The 32 bytes of the configuration digest. -/
def Pegged.digest (p : Pegged) : List Byte := (Config.configDigest p.configBytes ++ List.replicate 32 0#8).take 32

/-! ### Class-N work (R145, R159, R172) -/

/-- A session closed with its key drops its commands that are not yet at their commit point, wherever they wait; nothing of it is
answered (R113, R145, R153). What has been placed on the ring, or has begun, goes on. -/
def State.dropCommands (s : State) (p : Port) (n : Half) : State :=
  let mine (r : Req) : Bool := r.port == p && r.session == n
  let keep (i : BatchItem) : Bool :=
    match i.body with
    | .command _ r => !(i.own && mine r)
    | .commit r _ => !(i.own && mine r)
    | _ => true
  { s with
    comm := { s.comm with tags := s.comm.tags.filter (fun t => !mine t.req || t.answered) },
    admitted := s.admitted.filter keep, batch := s.batch.filter keep,
    nvOps := s.nvOps.filter (fun o => !mine o.req || o.started), refusedP := s.refusedP.filter (fun o => !(o.port == p && o.session == n)),
    blocks := s.blocks.filter (fun b => !mine b.req || b.inReset), afe := { s.afe with cals := s.afe.cals.filter (fun c => !mine c.req) },
    clk := { s.clk with
      rateReqs := s.clk.rateReqs.filter (fun q => !mine q.req || q.begun),
      domainReqs := s.clk.domainReqs.filter (fun q => !mine q.req || q.begun) },
    ring := { s.ring with cmds := s.ring.cmds.filter (fun c => !mine c.req || c.denied.isNone) } }

/-- Close the sessions opened under a key slot (R113, R152, R153). -/
def State.closeUnder (s : State) (idx : Nat) : State :=
  let gone := s.comm.sessions.filter (fun x => x.num != 0 && keyIndex x.role x.slot == idx)
  gone.foldl (fun s x => (s.closeSession x.port x.num).dropCommands x.port x.num) s

/-! ### Encrypted parameters (R156) -/

/-- Open the encrypted parameters at an offset: MSGNO, ciphertext of n bytes, GCM tag. MSGNO must be the next of the
session; the header is the additional data. The result, and the session's count moved on. -/
def State.decrypt (s : State) (t : Tag) (off n : Nat) : Option (List Byte × State) :=
  match s.sess? t.req.port t.req.session with
  | none => none
  | some x =>
    let p := t.req.params
    let no := leAt p off 8
    let iv := toLe 2 x.num.toNat ++ [0x00, 0x00] ++ toLe 8 no
    let aad := (reqBytes t.opcode.toNat t.req x.echo).take 20
    if no ≠ x.msgIn + 1 then none
    else
      match gcmOpen x.kEnc iv aad (slice p (off + 8) n) (slice p (off + 8 + n) 16) with
      | none => none
      | some m => some (m, s.modSess x.port x.num (fun y => { y with msgIn := no }))

end Sys2Proof.Machine
end

