-- ==== Sys2Proof/Machine/Attr.lean ====
section
/-! DEFINITION. What every attribute reads as, which values it takes, and what a write of it does (R6, R178, R428 and the
attribute tables of every chapter). -/

namespace Sys2Proof.Machine

/-! ### Reading -/

def State.ainSt (s : State) (ch : Nat) : AfeCh := sget AfeCh.start s.afe.ch ch
def State.dinSt (s : State) (i : Nat) : DinSt := sget DinSt.start s.fio.din i
def State.doutSt (s : State) (o : Nat) : DoutSt := sget DoutSt.start s.fio.dout o
def State.pointSt (s : State) (p : Nat) : PointSt := sget PointSt.idle s.peg.engine.points p
def State.stationSt (s : State) (i : Nat) : StationSt := sget StationSt.idle s.peg.engine.stations i
def State.islandSt (s : State) (i : Nat) : Island := sget Island.locked s.clk.islands i

/-- Calibration terms of a channel for a mode: offset, gain error in ppm, seconds of the last calibration, source (R214). -/
def State.calTerms (s : State) (ch mode : Nat) : Int × Int × Nat × Nat :=
  let c := s.ainSt ch
  let f := Config.factoryCal ch mode
  if c.calField.contains mode then
    ((c.calOffset.lookup mode).getD f.1, (c.calGain.lookup mode).getD f.2, sget 0 c.calAt mode, 1)
  else (f.1, f.2, 0, 0)

def State.ainMode (s : State) (ch : Nat) : Nat := s.cfg cAIN ch 0x10

/-- DISAGREE of a line, whichever unit raised it (R211). -/
def State.disagrees (s : State) (line : Nat) : Bool := s.peg.disagree.contains line || s.peg.disagree.contains (128 + line)

/-- Table AFE-9. -/
def State.readAin (s : State) (ch attr : Nat) : Nat :=
  let v := s.ainShown ch
  let c := s.ainSt ch
  let t := s.calTerms ch (s.ainMode ch)
  match attr with
  | 0x00 => ofSigned 4 v.value | 0x01 => ofSigned 4 v.eng | 0x02 => v.quality | 0x03 => (v.flags.toNat &&& 0x2FF) + 256 * b2n (s.disagrees ch)
  | 0x04 => ofSigned 4 c.own | 0x05 => v.frame.toNat
  | 0x20 => ofSigned 4 t.1 | 0x21 => ofSigned 4 t.2.1 | 0x22 => t.2.2.2
  | 0x30 => c.clampCount | 0x31 => b2n c.clampSticky | 0x32 => c.disagreeCount | 0x33 => ofSigned 4 s.afe.dieTemp
  | _ => 0

/-- FLAGS of an input (Table FIO-10). -/
def State.dinFlags (s : State) (i : Nat) : Nat :=
  let v := s.dinShown i
  b2n v.stale + 2 * b2n (v.quality == 2) + 4 * b2n (s.disagrees (64 + i)) + 8 * b2n v.unsync
    + 16 * b2n (s.dinSt i).lostSinceRead

/-- Table FIO-10. -/
def State.readDin (s : State) (i attr : Nat) : Nat :=
  let v := s.dinShown i
  let d := s.dinSt i
  match attr with
  | 0x00 => b2n v.state | 0x01 => v.quality | 0x02 => b2n d.ownState | 0x03 => s.dinFlags i | 0x04 => v.edge.toNat
  | 0x05 => v.edgeSec | 0x06 => v.frame.toNat
  | 0x30 => d.cos | 0x31 => d.glitches | 0x32 => d.lost | 0x33 => d.disagreeCount
  | _ => 0

/-- E of R230: the pegged state of an output of this node; on a worker the word it executes. -/
def State.outputE (s : State) (o : Nat) : Bool :=
  if s.isWorker then s.ring.execWord.getLsbD o else s.peg.engine.outputs.contains o

def State.modDout (s : State) (o : Nat) (f : DoutSt → DoutSt) : State :=
  { s with fio := { s.fio with dout := smod DoutSt.start s.fio.dout o f } }

/-- A safe state as a level (Table FIO-8). -/
def safeLevel (state : Nat) (held : Bool) : Bool := if state = 0 then false else if state = 1 then true else held

/-- The last output word bit that the die has received since VFLD came up (Table FIO-8). -/
def State.heldBit (s : State) (o : Nat) : Bool := s.fld.haveWord && s.fld.word.getLsbD o

/-- E of R230, with the safe state while the node is in the maintenance state. -/
def State.expected (s : State) (o : Nat) : Bool :=
  if s.inMaint then safeLevel (s.cfg cDOUT o 0x10) (s.heldBit o) else s.outputE o

/-- Where E has changed the read-back comparison is suspended from now on (R230). -/
def State.markE (s old : State) : State :=
  (List.range 12).foldl (fun s o =>
    if old.expected o = s.expected o then s
    else s.modDout o (fun d => { d with lastE := s.expected o, blank := some s.clk.batten })) s

/-- A forced output of this node (R182). -/
def State.forced (s : State) (o : Nat) : Bool := s.peg.engine.forces.any (fun f => f.node == 0 && f.output == o)

/-- Table FIO-11. -/
def State.readDout (s : State) (o attr : Nat) : Nat :=
  let d := s.doutSt o
  match attr with
  | 0x00 => b2n (s.outputE o) | 0x01 => b2n d.readback | 0x02 => b2n d.conducting
  | 0x03 =>
    b2n d.overload + 2 * b2n d.openWire + 4 * b2n d.overTemp + 8 * b2n d.fault
      + 16 * b2n (s.fld.safe.getLsbD (o / 4)) + 32 * b2n (s.forced o)
      + 64 * b2n (s.fio.link != 2 || s.fio.stale)
  | 0x04 => d.sample.toNat
  | 0x30 => d.overloads | 0x31 => d.thermals | 0x32 => d.readbacks | 0x33 => d.switches
  | _ => 0

/-- Table ALM-8, group 0x0. -/
def State.readPoint (s : State) (p attr : Nat) : Nat :=
  let x := s.pointSt p
  match attr with
  | 0x00 => x.stateByte | 0x01 => x.sub | 0x02 => x.chFrame.toNat | 0x03 => x.chBatten.toNat | 0x04 => x.chSec
  | 0x05 => x.shelveEnd.toNat | 0x06 => ofSigned 4 x.value | 0x07 => x.ackBy.toNat | 0x08 => x.sources.toNat
  | _ => 0

/-- The points of a group that exist: configured points that name it and system points that do. -/
def State.groupPoints (s : State) (g : Nat) : List Nat :=
  (cfgIndices s.peg.cfg cPOINT 0x32).filter (fun p => s.cfg cPOINT p 0x32 == g)

/-- Table ALM-9. -/
def State.readGroup (s : State) (g attr : Nat) : Nat :=
  let ps := (s.groupPoints g).map s.pointSt
  let act := (ps.filter PointSt.active).length
  let un := (ps.filter PointSt.unack).length
  match attr with
  | 0x00 => b2n (act != 0) + 2 * b2n (un != 0)
  | 0x01 => sget 0xFFFF s.peg.engine.firstUp g
  | 0x02 => act | 0x03 => un
  | _ => 0

/-- Table ALM-10: the rule's state; re-arm runs while a rule was last true within 10 × REARM frames (R280). -/
def State.readInhibit (s : State) (n attr : Nat) : Nat :=
  let r := sget (false, none) s.peg.engine.rules n
  match attr with
  | 0x00 =>
    b2n r.1 + 2 * b2n (!r.1 && (match r.2 with
      | some m => decide ((s.clk.frameNo - m).toNat < 10 * s.cfg cINHIBIT n 0x17)
      | none => false))
  | _ => 0

/-- The dead-man timer's seconds to expiry at a frame (R289). -/
def State.deadmanLeft (s : State) (x : StationSt) : Nat :=
  match x.dmStart with
  | none => 0
  | some f =>
    let gone := (s.clk.frameNo - f).toNat
    if x.dmExpired ∨ 100 * s.dev 0x2D ≤ gone then 0 else ceilDiv (100 * s.dev 0x2D - gone) 100

def StationSt.callCode (x : StationSt) : Nat :=
  if x.attending then 3 else if x.called then (if x.silenced then 2 else 1) else 0

def StationSt.dmCode (x : StationSt) : Nat :=
  if x.dmExpired then 3 else if x.dmStart.isNone then 0 else if x.dmWarned then 2 else 1

/-- Table ALM-11. -/
def State.readStation (s : State) (n attr : Nat) : Nat :=
  let x := s.stationSt n
  match attr with
  | 0x00 => x.callCode | 0x01 => x.dmCode | 0x02 => s.deadmanLeft x | 0x03 => x.callCount
  | _ => 0

/-- EVT_FILL and overflow bits. -/
def Eave.fill (e : Eave) : Nat := e.evt0.fifo.length % 16 + 16 * (e.evt1.fifo.length % 16)
def Eave.overflowBits (e : Eave) : Nat := b2n e.evt0.overflow + 2 * b2n e.evt1.overflow

/-- Table TIM-3. -/
def State.readClock (s : State) (attr : Nat) : Nat :=
  let e := s.eave
  match attr with
  | 0x00 => leNat e.bcdBytes | 0x01 => e.seconds | 0x02 => s.subsec | 0x03 => e.weekday | 0x04 => b2n e.dst
  | 0x05 => b2n e.valid | 0x06 => if e.marked then e.mark.toNat else 0
  | 0x10 => b2n e.evt0.level + 2 * b2n e.evt1.level | 0x15 => e.fill | 0x16 => e.overflowBits
  | 0x22 => e.discState | 0x23 => ofSigned 4 (clip32 e.lastOffset) | 0x24 => e.steps | 0x25 => e.ppsErrors
  | 0x26 => ofSigned 1 e.trim
  | 0x30 => e.wakeNext | 0x31 => e.wakeInterval | 0x32 => if s.isWorker then 0 else e.wakeEvt.toNat | 0x33 => b2n e.layup
  | 0x35 => e.wakeCause | 0x40 => e.charger.toNat | 0x41 => if s.sup.vio then e.chargerState else 4 | 0x50 => e.scratch
  | _ => 0

/-- Table REC-9; a worker holds no ledger (Table RNG-12). -/
def State.readLog (s : State) (idx attr : Nat) : Nat :=
  let r := s.recorder
  match attr with
  | 0x00 => r.stateCode | 0x01 => r.seqNext | 0x02 => r.weather.length | 0x03 => r.dropped | 0x04 => r.suppressed
  | 0x05 => r.torn | 0x06 => r.budget | 0x07 => r.queue.length | 0x08 => (r.erases.map Prod.snd).foldl max 0
  | 0x10 => s.gut.entries.length | 0x11 => s.gut.allowance | 0x12 => s.gut.lastSave
  | 0x20 => if r.opened then r.soleN else s.cfg cLOG 0 0x20
  | 0x21 => s.policyP idx + 65536 * s.policyB idx + 16777216 * (s.policyB idx - (s.bucket idx).spent)
  | 0x40 => leNat (if s.isWorker then erased32 else r.ledgerRead idx)
  | _ => 0

/-- NEXT_SWAP_FRAME (R345). -/
def State.nextSwap (s : State) : Nat :=
  if s.peg.swapHours = 0 then 0 else (s.pair.lastRoleFrame + BitVec.ofNat 32 (360000 * s.peg.swapHours)).toNat

/-- Table TWN-12. -/
def State.readPair (s : State) (attr : Nat) : Nat :=
  let p := s.pair
  match attr with
  | 0x00 => p.state | 0x01 => s.pairDetail | 0x02 => p.ownClaim.toNat | 0x03 => s.fio.twinClaim.toNat | 0x04 => p.streak
  | 0x05 => p.epoch | 0x06 => p.mismatches | 0x07 => p.missed | 0x08 => p.takeovers | 0x09 => p.lastRoleFrame.toNat
  | 0x0A => p.lastRefFrame.toNat | 0x0B => p.refResult | 0x0C => p.twinSerial.toNat | 0x0D => Config.pairLevel.toNat
  | 0x0E => p.twinLevel.toNat | 0x0F => p.linkAuthFails | 0x10 => s.peg.swapHours | 0x11 => s.nextSwap
  | 0x12 => p.lastDigest | 0x13 => p.resyncAttempts
  | _ => 0

/-- Worker indices in a list as a bit mask. -/
def maskOf (l : List Nat) : Nat := (l.map (fun n => 2 ^ n)).sum

/-- ADMITTED: workers STARTING, ADMITTED, LOST or LAID_UP. -/
def State.admittedMask (s : State) : Nat := maskOf ((List.range 16).filter s.workerKnown)

/-- Table RNG-8. -/
def State.readRing (s : State) (n attr : Nat) : Nat :=
  let w := s.worker n
  if n = 0 then
    match attr with
    | 0x00 => s.ring.state | 0x02 => s.admittedMask | 0x05 => s.ring.closingNs | 0x07 => s.ring.wrapped
    | 0x08 => s.ring.tagFails | 0x09 => s.ring.resends | _ => 0
  else
    match attr with
    | 0x00 => w.state | 0x01 => w.serial.toNat | 0x03 => (w.missedBits.filter id).length | 0x04 => w.reach.toNat
    | 0x05 => w.cableNs | 0x06 => w.lastFrame.toNat | 0x07 => w.losses | _ => 0

/-- LOCK_S: the lock's remaining seconds, rounded up, on the port of the read (R157). -/
def State.lockLeft (s : State) (p : Port) (i : Nat) : Nat :=
  let k := s.lockOf p i
  if k.locked ∧ since k.endsAt s.clk.batten < 2 ^ 39 then ceilDiv (since k.endsAt s.clk.batten) Config.ticksPerSecond else 0

/-- Table SEC-11. -/
def State.readKey (s : State) (p : Port) (i attr : Nat) : Nat :=
  let k := sget Key.empty s.keys i
  match attr with
  | 0x00 => k.state | 0x01 => k.loadedAt
  | 0x02 => if k.state = 0 then 0 else leNat ((sha256 (ascii "ZGN-FP" ++ k.value)).take 8)
  | 0x03 => s.lockLeft p i | 0x04 => leNat (k.value.take 64)
  | _ => 0

/-- Full frequency of an island in kHz (Table CLK-1). -/
def islandKhz : Nat → Nat
  | 0 => 150000 | 1 => 200000 | 2 => 50000 | 3 => 200000 | 4 => 100000 | 5 => 250000 | _ => 100000

/-- The role of a node for Tables PWR-4 and CLK-2: 0 manager in a pair, 1 solo with workers, 2 solo without, 3 worker. -/
def State.roleColumn (s : State) : Nat :=
  if s.isWorker then 3 else if s.pair.bound then 0 else if s.admittedMask ≠ 0 then 1 else 2

/-- Table PWR-4: a domain that DOMAIN_SET may switch. -/
def State.switchable (s : State) (d : Nat) : Bool :=
  match s.roleColumn with
  | 2 => d == 8
  | 3 => d == 6 || d == 9
  | _ => false

/-- Table CLK-2: an island that may be throttled. -/
def State.throttles (s : State) (i : Nat) : Bool :=
  match i with
  | 1 | 3 => s.roleColumn == 2 || s.roleColumn == 3
  | 5 => s.roleColumn == 2
  | _ => true

/-- START_RATE as it reads and as a start takes it: 0 where Table CLK-2 does not permit the configured rate for the node's present role
(R65). -/
def State.startRate (s : State) (i : Nat) : Nat := if s.throttles i then s.cfg cISLAND i 0x01 else 0

/-- START_STATE as it reads: a domain that Table PWR-4 fixes on reads 1. -/
def State.startState (s : State) (d : Nat) : Nat := if s.switchable d then s.cfg cDOMAIN d 0x01 else 1

/-- The value that a configuration attribute reads as. -/
def State.readCfg (s : State) (cls idx attr : Nat) : Nat :=
  if cls = cISLAND then s.startRate idx else if cls = cDOMAIN ∧ attr = 0x01 then s.startState idx else s.cfg cls idx attr

/-- FREQ_KHZ: the island's rate, or the crawl clock while it is off its PLL: 25 MHz, 12.5 MHz where HOUSE goes to or from
quarter rate (R70). -/
def Island.khz (x : Island) (i : Nat) : Nat :=
  if x.state < 2 then islandKhz i / 2 ^ x.rate else if i = 2 ∧ (x.rate = 2 ∨ x.target = 2) then 12500 else 25000

/-- Table CLK-7. -/
def State.readIsland (s : State) (i attr : Nat) : Nat :=
  let x := s.islandSt i
  match attr with
  | 0x00 => x.rate | 0x02 => x.state | 0x03 => x.khz i | 0x04 => x.lastLock | 0x05 => x.relocks | 0x06 => x.inexact
  | _ => 0

/-- The rail of a domain as an index of Supplies.mv. -/
def railOf (d : Nat) : Nat := if d = 0 then 0 else if d = 1 then 1 else if d ≤ 9 then 2 else if d = 10 then 3 else 4

/-- Table PWR-11: a domain lost through its supply reads 3 (R57). EAVE_COLD has a meaning at index 0 only; at the others it reads 0, which
no rule states (notes/assumptions/120.md). -/
def State.readDomain (s : State) (d attr : Nat) : Nat :=
  match attr with
  | 0x00 => if (d = 10 ∧ ¬ s.sup.vafe) ∨ (d = 11 ∧ ¬ s.sup.vfld) then 3 else s.domainState d
  | 0x03 => s.sup.mv.getD (railOf d) 0 | 0x04 => if d = 0 then b2n s.rst.cold else 0
  | _ => 0

/-- Tables BAL-9, CLK-8, RST-7, PKT-8, SEC-12, FIO-12, ALM-13, PRT-10. -/
def canStateBytes (c : CanSt) : List Byte :=
  toLe 1 c.state ++ toLe 1 (min 255 c.tec) ++ toLe 1 c.recCount ++ toLe 1 (b2n c.lone) ++ toLe 2 c.busOffs ++ toLe 2 c.protoExc

def State.readDevice (s : State) (attr : Nat) : Nat :=
  match attr with
  | 0x28 => s.sigLevel | 0x29 => s.rst.latched.toNat + 256 * s.strapsLive
  | 0x2F => s.peg.engine.callout
  | 0x30 => s.clk.batten.toNat | 0x31 => s.clk.frameNo.toNat | 0x32 => s.clk.refState | 0x33 => ofSigned 4 s.clk.refPpb
  | 0x40 => s.rst.cause | 0x41 => s.rst.phase.toNat | 0x42 => s.rst.readyTicks | 0x43 => b2n s.rst.resetNMasked
  | 0x44 => s.eave.startFails | 0x45 => s.rst.bootImage
  | 0x52 => s.sessionsOpen | 0x53 => s.comm.noCredits | 0x54 => s.comm.authFails | 0x55 => s.comm.duplicates
  | 0x56 => s.comm.framingErrors
  | 0x60 => s.peg.gen.toNat | 0x61 => brokenSeals s.peg.seals | 0x62 => s.peg.seals.length | 0x63 => if s.debugOpen then 3 else s.maint.mode
  | 0x64 => s.fuse
  | 0x70 => s.fio.link | 0x71 => s.fio.crcUp | 0x72 => s.fio.crcDown | 0x73 => s.fio.twinClaim.toNat
  | 0x74 => s.fio.claimState.toNat % 32 | 0x75 => s.fio.claimBad
  | 0x80 => s.hw.u0.overruns | 0x81 => s.hw.u1.overruns | 0x82 => s.hw.u2.overruns
  | 0x83 => s.hw.u0.lineErrors | 0x84 => s.hw.u1.lineErrors | 0x85 => s.hw.u2.lineErrors
  | 0x86 => s.hw.sentBad | 0x87 => s.hw.sentIgnored
  | 0x88 => leNat (canStateBytes s.hw.can0) | 0x89 => leNat (canStateBytes s.hw.can1)
  | 0x8A => s.hw.can0.discards | 0x8B => s.hw.can1.discards | 0x8C => s.hw.bcastLost
  | _ => 0

/-- The value of an attribute that is not configuration. -/
def State.readLive (s : State) (p : Port) (cls idx attr : Nat) : Nat :=
  if cls = cAIN then s.readAin idx attr else if cls = cDIN then s.readDin idx attr else if cls = cDOUT then s.readDout idx attr
  else if cls = cPOINT then s.readPoint idx attr else if cls = cGROUP then s.readGroup idx attr
  else if cls = cINHIBIT then s.readInhibit idx attr else if cls = cSTATION then s.readStation idx attr
  else if cls = cROSTER then b2n (s.peg.engine.duty == some idx) else if cls = cCLOCK then s.readClock attr
  else if cls = cLOG then s.readLog idx attr else if cls = cPAIR then s.readPair attr else if cls = cRINGNODE then s.readRing idx attr
  else if cls = cMATRIX then (if attr = 0 then s.peg.gen.toNat else s.peg.lastMatrixFrame.toNat)
  else if cls = cKEY then s.readKey p idx attr else if cls = cCOUNTER then (sget Counter.zero s.peg.counters idx).value
  else if cls = cISLAND then s.readIsland idx attr else if cls = cDOMAIN then s.readDomain idx attr
  else if cls = cDEVICE then s.readDevice attr else 0

/-- The value of an attribute on this node, at the length of its type. POLICY and SOLE_N read through the recorder. -/
def State.readAttr (s : State) (p : Port) (cls idx attr : Nat) : List Byte :=
  match attrInfo cls idx attr with
  | none => []
  | some i =>
    toLe i.len (if i.cfg ∧ ¬ (cls = cLOG) then s.readCfg cls idx attr else s.readLive p cls idx attr)

/-! ### Values in range -/

/-- A character of a LABEL: printable ASCII except the reserved characters of IEC 61162-1 (Table ALM-8); the set is the
standard's (notes/assumptions/18.md). -/
def labelChar (b : Byte) : Bool :=
  decide (0x20 ≤ b.toNat ∧ b.toNat ≤ 0x7E) && !([0x21, 0x24, 0x2A, 0x2C, 0x5C, 0x5E, 0x7E].contains b.toNat)

/-- Whether n is between two bounds. -/
def within (n lo hi : Nat) : Bool := decide (lo ≤ n ∧ n ≤ hi)

/-- A value that names an output (R285). -/
def outOk (v : Nat) : Bool :=
  let o := BitVec.ofNat 32 v
  v == 0 || (oidClass o == cDOUT && decide (oidIndex o < 12) && oidAttr o == 0)

/-- UART configuration bytes (Table PRT-9, R384-R386). -/
def uartCfgOk (n v : Nat) : Bool :=
  let b := toLe 8 v
  let baud := byteAt b 0
  (if n = 1 then baud == 0 || baud == 3 else decide (baud ≤ 8)) && decide (byteAt b 1 ≤ 7 ∧ byteAt b 2 ≤ 7)
    && within (byteAt b 3) 1 127 && within (byteAt b 4) 1 127 && decide (byteAt b 4 < byteAt b 3)
    && decide (byteAt b 5 < (if n = 2 then 4 else 2)) && byteAt b 6 == 0 && byteAt b 7 == 0

/-- CAN configuration bytes (Table PRT-9, R393): a data rate is not below the nominal rate. -/
def canCfgOk (v : Nat) : Bool :=
  let b := toLe 8 v
  decide (byteAt b 0 ≤ 4 ∧ byteAt b 1 ≤ 4) && within (byteAt b 2) 60 90 && within (byteAt b 3) 60 90
    && decide (byteAt b 4 < 4) && byteAt b 5 == 0 && byteAt b 6 == 0 && byteAt b 7 == 0

/-- An inhibit term's bytes: OP 0-4, reserved bytes 0 (R280). -/
def termOk (v : Nat) : Bool := let b := toLe 12 v; decide (byteAt b 4 ≤ 4) && leAt b 5 3 == 0

/-- The reserved ranges of each attribute's own value, from its home chapter; v is the unsigned number of its bytes. -/
def State.valueOk (s : State) (cls idx attr v : Nat) : Bool :=
  if cls = cAIN then
    match attr with
    | 0x10 => decide (v ≤ 0x0A) | 0x11 => decide (v ≤ 3) | 0x12 => decide (v ≤ 2) | 0x13 => v == 2 || v == 4
    | 0x14 => decide (v ≤ 100000) | 0x15 => decide (v ≤ 15) || v == 0xFF | 0x23 => v == 1 | 0x31 => v == 0 | _ => true
  else if cls = cDIN then
    match attr with
    | 0x10 => v == 1 || v == 3 | 0x11 => decide (1 ≤ v) | 0x12 => decide (v ≤ 1) | 0x13 => decide (v ≤ 3)
    | 0x14 => decide (v ≤ 1023) | _ => true
  else if cls = cDOUT then
    match attr with
    | 0x10 => decide (v ≤ 2) | 0x11 => within v 1 1000 | 0x12 => decide (v ≤ 1) | 0x13 => within v 1 1000 | _ => true
  else if cls = cPOINT then
    if 0x800 ≤ idx ∧ ¬ [0x20, 0x21, 0x25, 0x32, 0x34, 0x35, 0x36, 0x37].contains attr then false
    else
    match attr with
    | 0x11 => decide (v < 2 ^ 31) | 0x12 => within v 1 60 | 0x20 => decide (v ≤ 6000) | 0x21 => decide (v ≤ 6000)
    | 0x22 => decide (v ≤ 7) | 0x23 => decide (v ≤ 7)
    | 0x24 => decide (v ≤ 28800)
    | 0x25 => decide (v ≤ 1) | 0x26 => decide (v ≤ 1)
    | 0x30 => decide (v ≤ 8)
    | 0x32 => decide (v ≤ 127) || v == 0xFF | 0x33 => decide (v ≤ 31) | 0x34 => decide (v ≤ 1023) | 0x35 => outOk v
    | 0x36 => decide (v ≤ 9999999) | 0x37 => (toLe 16 v).all labelChar | _ => true
  else if cls = cGROUP then
    match attr with
    | 0x10 => outOk v | 0x11 => (toLe 16 v).all labelChar | _ => true
  else if cls = cINHIBIT then
    match attr with
    | 0x10 | 0x11 | 0x12 | 0x13 => termOk v | 0x14 => decide (v ≤ 1)
    | 0x15 => decide (v % 256 ≤ 2) && decide (v / 16777216 = 0) | 0x16 => decide (v ≤ 2048) | 0x17 => decide (v ≤ 6000)
    | _ => true
  else if cls = cSTATION then
    match attr with
    | 0x10 => decide (v ≤ 1) | 0x11 => outOk v | 0x12 => outOk v | 0x13 => decide (v ≤ 127) | 0x14 => decide (v ≤ 254)
    | 0x15 => decide (v ≤ 3600) | 0x16 => (toLe 16 v).all labelChar | _ => true
  else if cls = cROSTER then
    match attr with
    | 0x10 => decide (v ≤ 15) || v == 0xFF | 0x11 => decide (v ≤ 127) | 0x12 => decide (v ≤ 1439) | _ => true
  else if cls = cCLOCK then
    match attr with
    | 0x11 => decide (v ≤ 15) | 0x12 => within v 1 31 | 0x13 => decide (v ≤ 1023) | 0x14 => decide (v ≤ 1023)
    | 0x20 => decide (v ≤ 2)
    | 0x21 => let z := signedOf 2 v; decide (-720 ≤ z ∧ z ≤ 840 ∧ z % 15 = 0)
    | 0x26 => v != 0x80 | 0x33 => v == 0 | 0x34 => within v 30 3600 | _ => true
  else if cls = cLOG then within v 256 4096 && v % 128 == 0
  else if cls = cCOUNTER then if attr = 0x01 then decide (v ≤ 3) else true
  else if cls = cISLAND then decide (v ≤ 2) && (v == 0 || s.throttles idx)
  else if cls = cDOMAIN then
    if attr = 0x01 then decide (v ≤ 1) && s.switchable idx else decide (v ≤ 1) && idx == 5
  else if cls = cDEVICE then
    match attr with
    | 0x2A => outOk v | 0x2B => decide (v ≤ 7) | 0x2C => within v 10 3600 | 0x2D => within v 300 7200 | 0x2E => decide (60 ≤ v)
    | 0x50 => within v 10 3600 | 0x51 => decide (v < 32)
    | 0x57 => uartCfgOk 0 v | 0x58 => uartCfgOk 1 v | 0x59 => uartCfgOk 2 v | 0x5A => canCfgOk v | 0x5B => canCfgOk v
    | 0x5C => within v 1 111 | 0x5D => within (v % 256) 0x41 0x5A && within (v / 256) 0x41 0x5A | 0x5E => decide (v ≤ 2)
    | 0x65 => decide (v ≤ 1)
    | a => if 0x20 ≤ a ∧ a ≤ 0x27 then decide (v ≤ 6) else true
  else true

/-! ### Objects as a write would leave them (R428, R195, R198, R293) -/

/-- Classes that a kind's source may have (Table ALM-2). -/
def kindTakes (kind cls : Nat) : Bool :=
  match kind with
  | 7 => cls == cDIN || cls == cDOUT
  | 8 => cls == cAIN || cls == cDIN
  | _ => cls == cAIN

/-- R269: KIND, SOURCE and LIMIT together. -/
def State.pointOk (s : State) (cfg : Sparse Nat) (p : Nat) : Bool :=
  let k := cfgOf cfg cPOINT p 0x30
  let o := BitVec.ofNat 32 (cfgOf cfg cPOINT p 0x31)
  if k = 0 ∨ k = 9 then true
  else
    kindTakes k (oidClass o) && decide (oidIndex o < classSize (oidClass o)) && oidAttr o == 0
      && (oidNode o == 0 || s.workerKnown (oidNode o)) && (k != 7 || decide (cfgOf cfg cPOINT p 0x10 ≤ 1))

/-- R280: TARGET and COUNT together. -/
def inhibitOk (cfg : Sparse Nat) (n : Nat) : Bool :=
  let t := cfgOf cfg cINHIBIT n 0x15
  let c := cfgOf cfg cINHIBIT n 0x16
  let first := t / 256 % 65536
  match t % 256 with
  | 1 => within c 1 2048 && decide (first + c ≤ 0x800)
  | 2 => decide (first < 128)
  | _ => true

/-- A mode's excitation: 0 none, 1 current, 2 voltage. -/
def excOf (mode : Nat) : Nat := if mode = 1 ∨ mode = 2 then 1 else if mode = 3 then 2 else 0

/-- R195: a pair's modes and excitation level. -/
def ainPairOk (cfg : Sparse Nat) (ch : Nat) : Bool :=
  let a := excOf (cfgOf cfg cAIN (2 * (ch / 2)) 0x10)
  let b := excOf (cfgOf cfg cAIN (2 * (ch / 2) + 1) 0x10)
  !((a == 1 && b == 2) || (a == 2 && b == 1))
    && !((a == 2 || b == 2) && cfgOf cfg cAIN ch 0x12 == 2)

/-- R198: CJ_SOURCE names a channel in an RTD mode. -/
def cjOk (cfg : Sparse Nat) (ch : Nat) : Bool :=
  let c := cfgOf cfg cAIN ch 0x15
  c == 0xFF || excOf (cfgOf cfg cAIN c 0x10) == 1

/-- R293: an ALERT_ID that no other point carries. -/
def alertUnique (cfg : Sparse Nat) (p : Nat) : Bool :=
  let a := cfgOf cfg cPOINT p 0x36
  a == 0 || (cfgIndices cfg cPOINT 0x36).all (fun q => q == p || cfgOf cfg cPOINT q 0x36 != a)

/-- Whether an object that a write of an attribute touches is valid as the configuration then stands. -/
def State.objectOk (s : State) (cfg : Sparse Nat) (cls idx attr : Nat) : Bool :=
  if cls = cPOINT then
    (if attr = 0x30 ∨ attr = 0x31 ∨ attr = 0x10 then s.pointOk cfg idx else true)
      && (if attr = 0x36 then alertUnique cfg idx else true)
  else if cls = cINHIBIT then (if attr = 0x15 ∨ attr = 0x16 then inhibitOk cfg idx else true)
  else if cls = cAIN then
    (if attr = 0x10 ∨ attr = 0x12 then ainPairOk cfg idx else true) && (if attr = 0x15 then cjOk cfg idx else true)
      && (if attr = 0x16 ∨ attr = 0x17 then cfgOf cfg cAIN idx 0x16 != cfgOf cfg cAIN idx 0x17 else true)
  else if cls = cDEVICE then
    (if attr = 0x2D ∨ attr = 0x2E then decide (cfgOf cfg cDEVICE 0 0x2E < cfgOf cfg cDEVICE 0 0x2D) else true)
  else if cls = cCOUNTER then true
  else true

/-! ### Writing -/

/-- A pair of channels is excited (Table AFE-2). -/
def pairExcited (cfg : Sparse Nat) (ch : Nat) : Bool :=
  excOf (cfgOf cfg cAIN (2 * (ch / 2)) 0x10) != 0 || excOf (cfgOf cfg cAIN (2 * (ch / 2) + 1) 0x10) != 0

/-- One attribute on several indices. -/
def cfgSetAll (cfg : Sparse Nat) (cls attr v : Nat) (idx : List Nat) : Sparse Nat :=
  idx.foldl (fun c i => cfgSet c cls i attr v) cfg

/-- A configuration write with what R195, R219 and R235 make it carry along: EXC_LEVEL of a pair, RATE of an excited pair, TYPE of a
group of eight, SAFE_TIMEOUT_MS of a group of four. -/
def writeCfg (cfg : Sparse Nat) (cls idx attr v : Nat) : Sparse Nat :=
  let two := [2 * (idx / 2), 2 * (idx / 2) + 1]
  if cls = cAIN ∧ attr = 0x12 then cfgSetAll cfg cls attr v two
  else if cls = cAIN ∧ attr = 0x11 ∧ pairExcited cfg idx then cfgSetAll cfg cls attr v two
  else if cls = cAIN ∧ attr = 0x10 then
    let c := cfgSet cfg cls idx attr v
    if pairExcited c idx ∧ ¬ pairExcited cfg idx then cfgSetAll c cAIN 0x11 (cfgOf c cAIN (2 * (idx / 2)) 0x11) two else c
  else if cls = cDIN ∧ attr = 0x10 then cfgSetAll cfg cls attr v ((List.range 8).map (fun k => 8 * (idx / 8) + k))
  else if cls = cDOUT ∧ attr = 0x11 then cfgSetAll cfg cls attr v ((List.range 4).map (fun k => 4 * (idx / 4) + k))
  else cfgSet cfg cls idx attr v

/-- The number that a SET's value spells. -/
def setValue (r : Req) : Nat := leNat r.params

end Sys2Proof.Machine
end

