-- ==== Sys2Proof/Machine/Reconfig.lean ====
section
/-! DEFINITION. What a pegged change of the configuration does at once outside it: the AFE's channels (R209, R210), the input
groups (R219) and the CAN controllers (R393). -/

namespace Sys2Proof.Machine

/-! ### AFE channels -/

def State.modCh (s : State) (ch : Nat) (f : AfeCh → AfeCh) : State :=
  { s with afe := { s.afe with ch := smod AfeCh.start s.afe.ch ch f } }

/-- A channel starts over: windows that began before now form no result, and there is none until the first of the new grid
(R209). -/
def AfeCh.restart (now : Batten) (c : AfeCh) : AfeCh :=
  { c with
    cleanAt := some now, last := none, latched := none, crossing := none, result := none }

/-- The unit drives a channel from a count on, or stops driving it: its excitation and its burn-out current, and its shunt if
the mode has one (R207, R210). -/
def State.driveCh (s : State) (ch : Nat) (on : Bool) (t : Batten) : State :=
  let closes := on && s.ainMode ch == 8
  s.modCh ch (fun c =>
    { c with drives := on, turnAt := none, shuntClosed := closes, shuntAt := none, overcurrent := c.overcurrent && closes,
             closedAt := if closes ∧ ¬ c.shuntClosed then some t else c.closedAt })

/-- What the unit drives in the state that the last good frame ordered: nothing in listen mode (R209, R210). -/
def State.driveAll (s : State) : State := (List.range 16).foldl (fun s ch => s.driveCh ch (!s.afe.listen) s.clk.batten) s

/-- After a peg: channels whose MODE or RATE changed start over, and a new MODE is driven as it needs (R209). -/
def State.afeReconfig (s : State) (old : Sparse Nat) : State :=
  let changed (ch attr : Nat) : Bool := cfgOf old cAIN ch attr != s.cfg cAIN ch attr
  let s1 := (List.range 16).foldl (fun s ch =>
    if changed ch 0x10 ∨ changed ch 0x11 then s.modCh ch (AfeCh.restart s.clk.batten) else s) s
  (List.range 16).foldl (fun s ch => if changed ch 0x10 then s.driveCh ch (s.ainSt ch).drives s.clk.batten else s) s1

/-! ### Inputs -/

def State.modPin (s : State) (i : Nat) (f : DiPin → DiPin) : State :=
  { s with fld := { s.fld with pins := smod DiPin.start s.fld.pins i f } }

/-- Inputs and outputs whose configuration changed: a record for each is written to the field die in the slots that follow (R232). -/
def State.recordsDue (s : State) (old : Sparse Nat) : State :=
  let changed (cls i : Nat) : Bool := (List.range 5).any (fun k => cfgOf old cls i (0x10 + k) != s.cfg cls i (0x10 + k))
  let due (cls n : Nat) : List (Nat × Nat) := ((List.range n).filter (changed cls)).map (fun i => (cls, i))
  let l := due cDIN 24 ++ due cDOUT 12
  { s with fio := { s.fio with cfgDue := s.fio.cfgDue.filter (fun x => !l.contains x) ++ l } }

/-- A change of TYPE restarts debounce on the inputs of its group from their present level, with no event (R219). -/
def State.dinReconfig (s : State) (old : Sparse Nat) : State :=
  (List.range 24).foldl (fun s i =>
    if cfgOf old cDIN i 0x10 = s.cfg cDIN i 0x10 then s
    else s.modPin i (fun p => { p with debounced := p.level, pending := none })) s

/-! ### CAN controllers -/

def State.can (s : State) : CanNo → CanSt
  | .can0 => s.hw.can0 | .can1 => s.hw.can1

def State.modCan (s : State) (c : CanNo) (f : CanSt → CanSt) : State :=
  match c with
  | .can0 => { s with hw := { s.hw with can0 := f s.hw.can0 } }
  | .can1 => { s with hw := { s.hw with can1 := f s.hw.can1 } }

def canNo : CanNo → Nat
  | .can0 => 0 | .can1 => 1

/-- Byte k of a controller's configuration (Table PRT-9). -/
def State.canCfg (s : State) (c : CanNo) (k : Nat) : Nat := bitsAt (s.dev (0x5A + canNo c)) (8 * k) 8

/-- The state codes after a change of configuration: off without a nominal rate, else error-active at the least. -/
def State.canConfig (s : State) : State :=
  [CanNo.can0, CanNo.can1].foldl (fun s c =>
    s.modCan c (fun x => { x with state := if s.canCfg c 0 = 0 then 0 else max 1 x.state })) s

/-- Everything that follows a configuration that was different before. -/
def State.reconfigured (s : State) (old : Sparse Nat) : State :=
  if s.peg.cfg = old then s else (((s.afeReconfig old).dinReconfig old).recordsDue old).canConfig

end Sys2Proof.Machine
end

