-- ==== Sys2Proof/Machine/ObjectCmds.lean ====
section
/-! DEFINITION. The OBJECT family (R127-R129, R180, Tables CMD-5, CMD-6): reads, writes and the stage. -/

namespace Sys2Proof.Machine

/-! ### Encrypted replies (R156, R161) -/

def privTarget (_ : State) (_ : Who) (r : Req) : Bool := ownerPrivate (oidClass r.target) (oidAttr r.target)

/-- Plaintext cut into messages that fill one reply part each, numbered from n. -/
def privateParts (n : Nat) (ps : List (List Byte)) : List Byte :=
  ps.zipIdx.flatMap (fun x => toLe 8 (n + x.2) ++ x.1 ++ List.replicate 16 0#8)

/-- Answer a read with encrypted parameters: each reply of a series is a message of its own, sealed as it leaves (Packet.sentParams,
notes/assumptions/19.md). -/
def State.answerPrivate (s : State) (t : Tag) (m : List Byte) (count : Nat) : State :=
  match s.sess? t.req.port t.req.session with
  | none => s.answerF t .notAvailable [] count
  | some x =>
    let ps := parts (partSize (s.who t.req) - 24) m.length m
    let s1 := s.modSess x.port x.num (fun y => { y with msgOut := y.msgOut + ps.length })
    s1.answerF t .done (privateParts (x.msgOut + 1) ps) count

/-! ### Reads -/

/-- GET's and GET_RANGE's fixed count for n bytes of value (P05, P08, Table CMD-5). -/
def getCount (n : Nat) : Nat := 18 + ceilDiv (n - 32) 32

/-- A GET's count: a provisional read takes 18 ticks, permitted or denied, whatever its length (R128, P07). -/
def readCount (r : Req) (n : Nat) : Nat := if r.wantProv then 18 else getCount n

/-- GET's access: the read right, and the provisional right for a provisional read (R128). -/
def getAccess (s : State) (w : Who) (r : Req) : Bool :=
  s.mayRead w r.target && (!r.wantProv || s.may w (oidClass r.target) (oidAttr r.target / 16) bP)

/-- A GET's value with what R129 returns for it: value, PROVISIONAL and FRAME. The provisional result is shown from 5.000 ms. -/
def State.getValue (s : State) (r : Req) : List Byte × Bool × Frame :=
  let cls := oidClass r.target
  let read (u : State) : List Byte := u.readAttr r.port cls (oidIndex r.target) (oidAttr r.target)
  if r.wantProv ∧ hasProvisional cls (oidAttr r.target) then
    match s.prov with
    | some p => if 62500 ≤ s.offset then (read (s.under p), true, p.frame) else (read s, false, s.pair.lastPegFrame)
    | none => (read s, false, s.pair.lastPegFrame)
  else (read s, false, s.clk.frameNo)

/-- Reading DIN FLAGS clears bit 4 of FLAGS, edges lost since the last read (Table FIO-10). -/
def State.afterRead (s : State) (o : Word) : State :=
  if oidClass o = cDIN ∧ oidAttr o = 0x03 then
    { s with fio := { s.fio with
        din := smod DinSt.start s.fio.din (oidIndex o) (fun d => { d with lostSinceRead := false }) } }
  else s

def State.runGet (s : State) (t : Tag) : State :=
  let (v, prov, f) := s.getValue t.req
  let count := readCount t.req v.length
  if ownerPrivate (oidClass t.req.target) (oidAttr t.req.target) then s.answerPrivate t v (count + gcmTicks v.length)
  else (s.ready t .done v (count + authAdd t (min v.length (partSize (s.who t.req)))) true prov f).afterRead t.req.target

def cmdGetAttr : Cmd :=
  { op := 0x0200, access := getAccess, sealed := noSeal, priv := privTarget, check := fun _ _ r => need (lenIs 0 r),
    run := fun s t _ => s.runGet t }

/-- GET (R128, R129, R143). -/
def execGetAttr (r : Req) (s : State) : Host.Outcome State Fault Refusal := .next (s.execute cmdGetAttr r)

/-- The object IDs of a GET_RANGE. -/
def rangeOids (r : Req) : List Word :=
  (List.range (leAt r.params 0 2)).map (fun k => r.target + BitVec.ofNat 32 (256 * k))

/-- GET_RANGE's access: every index of the range exists and may be read. A COUNT outside 1 to 4096 names no range, and
the object at TARGET alone is looked at. -/
def rangeAccess (s : State) (w : Who) (r : Req) : Bool :=
  s.mayRead w r.target
    && (decide (4096 < leAt r.params 0 2)
      || (decide (oidIndex r.target + leAt r.params 0 2 ≤ max (oidIndex r.target + 1) (classSize (oidClass r.target)))
        && (rangeOids r).all (s.mayRead w)))

def State.runGetRange (s : State) (t : Tag) : State :=
  let r := t.req
  let v := (rangeOids r).flatMap (fun o => s.readAttr r.port (oidClass o) (oidIndex o) (oidAttr o))
  if ownerPrivate (oidClass r.target) (oidAttr r.target) then s.answerPrivate t v (getCount v.length + gcmTicks v.length)
  else (rangeOids r).foldl State.afterRead (s.answerF t .done v (getCount v.length))

def cmdGetRange : Cmd :=
  { op := 0x0202, access := rangeAccess, sealed := noSeal, priv := privTarget,
    check := fun _ _ r => need (lenIs 2 r && decide (1 ≤ leAt r.params 0 2 ∧ leAt r.params 0 2 ≤ 4096)),
    run := fun s t _ => s.runGetRange t }

/-- GET_RANGE (R127). -/
def execGetRange (r : Req) (s : State) : Host.Outcome State Fault Refusal := .next (s.execute cmdGetRange r)

/-! ### SET -/

/-- The stage of a session, if it holds it. -/
def State.stageOf (s : State) (r : Req) : Option (List Req) :=
  match s.stage with
  | some (p, n, l) => if p = r.port ∧ n = r.session then some l else none
  | none => none

/-- A SET of COUNTERSIGN_REQUIRED to 1 while KEY index 26 is empty (R164). -/
def State.lacksKey26 (s : State) (r : Req) : Bool :=
  oidClass r.target == cDEVICE && oidAttr r.target == 0x65 && setValue r == 1 && (sget Key.empty s.keys 26).state == 0

/-- A SET's own value: its length and range (Table CMD-5); COUNTERSIGN_REQUIRED needs KEY index 26 (R164), SOLE_N an unopened
recorder (R305). Of a worker's attribute the worker judges the rest. -/
def State.setCheck (s : State) (r : Req) : Option Status :=
  let cls := oidClass r.target
  let attr := oidAttr r.target
  match attrInfo cls (oidIndex r.target) attr with
  | none => some .notAvailable
  | some i =>
    if ownerPrivate cls attr then need (lenIs (i.len + 24) r)
    else if ¬ (lenIs i.len r ∧ s.valueOk cls (oidIndex r.target) attr (setValue r)) then some .badParam
    else if s.forWorker 0x0201 r then none
    else if s.lacksKey26 r then some .badState
    else if cls = cLOG ∧ attr = 0x20 ∧ s.recorder.opened then some .badState
    else none

/-- A stage's limits (R180). -/
def stageRoom (l : List Req) (r : Req) : Bool :=
  decide (l.length < 512) && decide ((l.map (fun x => x.params.length)).sum + r.params.length ≤ 16384)

/-- The effect of a write that does not live in the configuration store: which unit it acts on is decided at the peg. -/
def setEffect (cls idx attr v : Nat) : Option Effect :=
  if cls = cAIN ∧ attr = 0x23 then some (.calRestore idx)
  else if cls = cAIN ∧ attr = 0x31 then some (.clampClear idx)
  else if cls = cCLOCK ∧ attr = 0x33 then some .endLayup
  else if cls = cCLOCK ∧ attr = 0x50 then some (.scratch v)
  else if cls = cCLOCK ∧ attr = 0x26 then some (.nodeLocal (key cls idx attr) v)
  else if cls = cCOUNTER ∧ attr = 0x11 then some (.counterPreset idx v)
  else none

/-- Whether an attribute belongs to one node (Table CMD-21). -/
def nodeLocalAttr (cls idx attr : Nat) : Bool :=
  match attrInfo cls idx attr with
  | some i => i.local_
  | none => false

/-- One write in the provisional result: a node-local one applies only on the unit that admitted it or, forwarded, on the
standby (R178). -/
def applyWrite (s : State) (p : Prov) (i : BatchItem) (r : Req) : Prov :=
  let cls := oidClass r.target
  let idx := oidIndex r.target
  let attr := oidAttr r.target
  let v := setValue r
  if nodeLocalAttr cls idx attr ∧ i.unitB ≠ s.unitB then p
  else
    match setEffect cls idx attr v with
    | some e => p.addEffect e
    | none =>
      if cls = cLOG ∧ attr = 0x20 ∧ s.recorder.opened then p
      else { p with st := { p.st with cfg := writeCfg p.st.cfg cls idx attr v } }

/-- SET at its place in the batch (R145, R148, R428). The unit that admitted a SET of COUNTERSIGN_REQUIRED looks again for KEY
index 26, which belongs to it alone (R164). -/
def applySetAttr (s : State) (p : Prov) (i : BatchItem) (r : Req) : Applied :=
  let cls := oidClass r.target
  let idx := oidIndex r.target
  let attr := oidAttr r.target
  if sealedIn p.st.seals cls idx attr then p.refuse .sealed
  else if i.unitB = s.unitB ∧ s.lacksKey26 r then p.refuse .badState
  else
    let p1 := applyWrite s p i r
    if s.objectOk p1.st.cfg cls idx attr then p1.ok [] else p.refuse .badParam

/-- A provisional result that is the pegged state itself. -/
def State.provNow (s : State) : Prov :=
  { frame := s.clk.frameNo, st := s.peg, lanesAgree := true, effects := [], replies := [], events := [], records := [],
    sentences := [], changed := [], stationChanged := [], applied := 0, digest := 0 }

/-- What a node-local write does outside the store: RTC_TRIM_PPM in EAVE, the clamp and the calibration of a channel, the
scratch. -/
def State.localEffect (s : State) (e : Effect) : State :=
  match e with
  | .nodeLocal o v =>
    if o = key cCLOCK 0 0x26 then { s with eave := { s.eave with trim := signedOf 1 v } } else s
  | .clampClear ch =>
    { s with afe := { s.afe with ch := smod AfeCh.start s.afe.ch ch (fun c => { c with clampSticky := false }) } }
  | .calRestore ch =>
    let m := s.ainMode ch
    { s with afe := { s.afe with ch := smod AfeCh.start s.afe.ch ch (fun c =>
        { c with calField := c.calField.filter (· != m), calOffset := sdel c.calOffset m, calGain := sdel c.calGain m,
                 calAt := sdel c.calAt m }) } }
  | .scratch v => { s with eave := { s.eave with scratch := v } }
  | _ => s

/-- A worker carries out a SET that its manager sent, at once (R173, notes/assumptions/20.md). -/
def State.workerWrite (s : State) (t : Tag) : State :=
  let a := applySetAttr s s.provNow (s.ownItem (.command t.opcode t.req)) { t.req with target := t.req.target &&& 0x0FFFFFFF#32 }
  let s1 : State := a.prov.effects.foldl State.localEffect { s with peg := a.prov.st, cfgDirty := some (s.cfgDirty.getD s.clk.batten) }
  if a.status = .done then (s1.reconfigured s.peg.cfg).answerLate t .done [] 0 else s.answerLate t a.status [] 0

/-- SET admitted: staged while the session holds the stage, else it joins the batch (R180). A preset is opened first
(R156). -/
def State.runSet (s : State) (t : Tag) (w : Who) : State :=
  if s.isWorker then s.workerWrite t
  else
    match (if ownerPrivate (oidClass t.req.target) (oidAttr t.req.target) then s.decrypt t 0 8 else some (t.req.params, s)) with
    | none => s.deny t .badParam
    | some (m, s0) =>
      let r := { t.req with params := m }
      match s.stageOf t.req with
      | some l =>
        let s1 : State := { s0 with stage := some (t.req.port, t.req.session, l ++ [r]) }
        s1.answerF t .done [] 18
      | none => s0.admitP t w (.command t.opcode r)

def cmdSetAttr : Cmd :=
  { op := 0x0201, access := fun s w r => s.mayWrite w r.target,
    sealed := fun s _ r => s.sealedObj r.target, priv := privTarget,
    check := fun s _ r =>
      match s.setCheck r, s.stageOf r with
      | some st, _ => some st
      | none, some l => if stageRoom l r then none else some .badState
      | none, none => none
    run := fun s t w => s.runSet t w }

/-- SET (R178, R180). -/
def execSetAttr (r : Req) (s : State) : Host.Outcome State Fault Refusal := .next (s.execute cmdSetAttr r)

/-! ### The stage (R180) -/

def cmdStageBegin : Cmd :=
  { op := 0x0210, access := xRight cDEVICE, sealed := noSeal, priv := noSeal,
    check := fun s _ r =>
      if ¬ lenIs 0 r then some .badParam
      else
        match s.stage with
        | some (p, n, _) => if p = r.port ∧ n = r.session then none else some .badState
        | none => none
    run := fun s t _ =>
      let s1 : State := { s with stage := some (t.req.port, t.req.session, []) }
      s1.answerF t .done (s.peg.digest.take 4) 14 }

/-- STAGE_BEGIN (R180). -/
def execStageBegin (r : Req) (s : State) : Host.Outcome State Fault Refusal := .next (s.execute cmdStageBegin r)

/-- Configured points (R64): points of a KIND other than OFF, system points not counted. -/
def pointCount (cfg : Sparse Nat) : Nat :=
  ((cfgIndices cfg cPOINT 0x30).filter (fun p => decide (p < 0x800) && cfgOf cfg cPOINT p 0x30 != 0)).length

/-- The point limit of R64: on a solo manager without workers, 1024 at half rate of SCAN or MEM, 512 at quarter rate. -/
def pointLimit (rate : Nat) : Nat := if rate = 0 then 2048 else if rate = 1 then 1024 else 512

def State.pointLimitNow (s : State) : Nat := pointLimit (max (s.islandSt 1).rate (s.islandSt 3).rate)

/-- A commit would raise the point count beyond the limit in force (R64). -/
def State.raisesBeyond (s : State) (old new : Sparse Nat) : Bool :=
  decide (s.pointLimitNow < pointCount new) && decide (pointCount old < pointCount new)

/-- The configuration of a node as this unit holds it: its own, or what its managers last set of a worker's
(notes/assumptions/36.md). -/
def nodeCfg (cfg : Sparse Nat) (node : Nat) : Sparse Nat :=
  (cfg.filter (fun e => e.1 / 268435456 == node)).map (fun e => (e.1 % 268435456, e.2))

/-- A worker's attribute as a SET through the pair leaves it in the managers' own notes, which scale its values and judge a later
write of its objects; what belongs to the worker alone is not noted (R178). -/
def noteWorkerSet (cfg : Sparse Nat) (r : Req) : Sparse Nat :=
  let cls := oidClass r.target
  let idx := oidIndex r.target
  let attr := oidAttr r.target
  if nodeLocalAttr cls idx attr then cfg
  else
    (writeCfg (nodeCfg cfg (oidNode r.target)) cls idx attr (setValue r)).foldl (fun c e =>
      if e.1 / 1048576 = cls then sset (factory cls (e.1 / 256 % 4096) (e.1 % 256)) c (oidNode r.target * 268435456 + e.1) e.2 else c) cfg

/-- The configuration that a stage's items leave. -/
def stageCfg (s : State) (p : Prov) (i : BatchItem) (items : List Req) : Prov :=
  items.foldl (fun p r =>
    if oidNode r.target = 0 then applyWrite s p i r else { p with st := { p.st with cfg := noteWorkerSet p.st.cfg r } }) p

/-- Every object that the items write, of the node or of a worker, is valid as they leave it (R195, R428). -/
def State.stageValid (s : State) (cfg : Sparse Nat) (items : List Req) : Bool :=
  items.all (fun r => s.objectOk (nodeCfg cfg (oidNode r.target)) (oidClass r.target) (oidIndex r.target) (oidAttr r.target))

/-- STAGE_COMMIT at its peg: the rights of every item again (R145), seals (R148), validity (R428), the point limit (R64), then every
item in order; a worker's are carried to it (R180). -/
def applyStageCommit (s : State) (p : Prov) (i : BatchItem) (items : List Req) : Applied :=
  let u := s.under p
  let w : Who := { role := i.role, slot := i.slot, feats := offeredWord }
  if ¬ items.all (fun r => u.mayWrite w r.target) then p.refuse .revoked
  else if items.any (fun r => oidNode r.target == 0 && sealedIn p.st.seals (oidClass r.target) (oidIndex r.target) (oidAttr r.target)) then
    p.refuse .sealed
  else
    let p1 := stageCfg s p i items
    let p2 := (items.filter (fun r => oidNode r.target != 0)).foldl (fun p r => p.addEffect (.workerCmd 0x0201 { r with port := .internal })) p1
    if ¬ s.stageValid p2.st.cfg items ∨ s.raisesBeyond p.st.cfg p2.st.cfg
      ∨ (i.unitB = s.unitB ∧ items.any (fun r => oidNode r.target == 0 && s.lacksKey26 r)) then p.refuse .badState
    else p2.ok (toLe 2 items.length)

/-- STAGE_COMMIT joins the batch as one item, and the stage is gone (R180). -/
def State.runCommit (s : State) (t : Tag) (w : Who) : State :=
  match s.stageOf t.req with
  | none => s.deny t .badState
  | some l => { s with stage := none }.admitP t w (.commit t.req l)

/-- Call-out states 1 to 4 (R287). -/
def Engine.calling (e : Engine) : Bool := decide (1 ≤ e.callout ∧ e.callout ≤ 4)

def cmdStageCommit : Cmd :=
  { op := 0x0211, access := xRight cDEVICE,
    sealed := fun s _ r =>
      match s.stageOf r with
      | some l => l.any (fun x => s.sealedObj x.target)
      | none => false
    priv := noSeal,
    check := fun s _ r =>
      match s.stageOf r with
      | none => some .badState
      | some l =>
        if ¬ lenIs 2 r then some .badParam
        else
          let cfg := (stageCfg s s.provNow (s.ownItem (.commit r l)) l).st.cfg
          if leAt r.params 0 2 ≠ l.length ∨ s.peg.engine.calling ∨ s.raisesBeyond s.peg.cfg cfg ∨ ¬ s.stageValid cfg l then
            some .badState
          else none
    run := fun s t w => s.runCommit t w }

/-- STAGE_COMMIT (R180). -/
def execStageCommit (r : Req) (s : State) : Host.Outcome State Fault Refusal := .next (s.execute cmdStageCommit r)

def cmdStageDrop : Cmd :=
  { op := 0x0212, access := xRight cDEVICE, sealed := noSeal, priv := noSeal,
    check := fun s _ r => if (s.stageOf r).isNone then some .badState else need (lenIs 0 r)
    run := fun s t _ =>
      let n := ((s.stageOf t.req).getD []).length
      let s1 : State := { s with stage := none }
      s1.answerF t .done (toLe 2 n) 14 }

/-- STAGE_DROP (R180). -/
def execStageDrop (r : Req) (s : State) : Host.Outcome State Fault Refusal := .next (s.execute cmdStageDrop r)

end Sys2Proof.Machine
end

