-- ==== Sys2Proof/Machine/Diag.lean ====
section
/-! DEFINITION. The DIAG family (R48, R69, R85, R96-R99, R190, R191, R419, Tables CMD-17, CMD-18) and the events that
complete it: block resets, relocks, domain switching and self-tests. -/

namespace Sys2Proof.Machine

/-! ### The wrapper (R96, Table RST-6) -/

/-- Count an occurrence in a reset counter of EAVE (R99). -/
def Eave.count (e : Eave) (i : Nat) : Eave := { e with counters := lset e.counters i (inc16 (e.counters.getD i 0)) }

/-- Tags in flight that a block holds: those that came by its port, those whose work is queued in it, or those that its family's
work answers (Table RST-6). -/
def State.holdsTag (s : State) (block : Nat) (t : Tag) : Bool :=
  let op := t.opcode.toNat
  !t.answered &&
    (if 8 ≤ block ∧ block ≤ 13 ∨ block = 6 then portBlock t.req.port == block
     else if block = 2 then op / 256 == 6 || op == 0x0B04
     else if block = 4 then s.nvOps.any (fun o => o.req == t.req)
     else if block = 5 then op == 0x0910 || op == 0x0920
     else if block = 7 then s.ring.cmds.any (fun c => c.req == t.req)
     else if block = 16 then op == 0x0B04
     else false)

/-- Answer each of a list of tags with a status. -/
def State.answerAll (s : State) (ts : List Tag) (st : Status) : State := ts.foldl (fun s t => s.answerLate t st [] 0) s

/-- The replies and events that wait on a port go with its queue; the tags they held are free (Table RST-6). -/
def State.emptyOut (s : State) (p : Port) : State := (s.outQ p).foldl (fun s _ => s.sentHead p) s

/-- What a block loses when it is reset, its tags apart. A record write under way is cut with the housekeeping sequencer, the
recorder manager or the NV controller (R304). -/
def State.blockLoses (s : State) (block : Nat) : State :=
  match block with
  | 1 => { s with prov := none }
  | 2 | 3 | 4 => s.cutWrites
  | 6 => { s with ridge := { s.ridge with trained := false, unacked := [], tx := [], ackDue := none } }
  | 7 => { s with ring := { s.ring with trainedA := false, trainedB := false, txA := [], txB := [], trainBuf := [],
                                        downSince := some s.clk.batten } }
  | 8 => { s with hw := { s.hw with host := { s.hw.host with readOut := [] } } }
  | 9 => State.emptyOut { s with hw := { s.hw with u0 := { s.hw.u0 with rx := [], tx := [], spoiled := false } } } .u0
  | 10 => { s with hw := { s.hw with sentences := [], u1 := { s.hw.u1 with rx := [], tx := [], spoiled := false } } }
  | 11 => State.emptyOut { s with hw := { s.hw with panelq := [], u2 := { s.hw.u2 with rx := [], tx := [], spoiled := false } } } .u2
  | 12 => { s with hw := { s.hw with can0 := { s.hw.can0 with trains := [], tec := 0, recCount := 0, lone := false,
                                                              ackErrors := 0, state := min 1 s.hw.can0.state } } }
  | 13 => { s with hw := { s.hw with can1 := { s.hw.can1 with trains := [], tec := 0, recCount := 0, lone := false,
                                                              ackErrors := 0, state := min 1 s.hw.can1.state } } }
  | 14 => { s with afe := { s.afe with linkUp := false, failedFrames := 0 } }
  | 15 => { s with fio := { s.fio with link := 0 } }
  | _ => s

/-- The transactions that a block has outstanding: a command that came after the BLOCK_RESET and still waits for the block is none of
them (R96), and the tag of the BLOCK_RESET itself is exempt (R98). -/
def State.blockTags (s : State) (block : Nat) (own : Req) : List Tag :=
  let older (t : Tag) : Bool := s.comm.tags.all (fun u => u.req != own || decide (t.no < u.no))
  s.comm.tags.filter (fun t =>
    s.holdsTag block t && (t.begun || older t)
      && !(t.req.port == own.port && t.req.session == own.session && t.req.seq == own.seq))

/-- The wrapper completes a block's transactions with BLOCK_RESET (R96); the number completed. What the block holds is lost first,
so that the answers stand in an empty queue. Commands on the block's path lose EXACT. -/
def State.wrapper (s : State) (block : Nat) (own : Req) : Nat × State :=
  let ts := s.blockTags block own
  let s1 : State := { s with comm := { s.comm with tags := s.comm.tags.map (fun t =>
    if onPath block t.opcode.toNat t.req.port (t.req.session != 0) then { t with blockHit := true } else t) } }
  let gone (r : Req) : Bool := ts.any (fun t => t.req == r)
  let s2 : State := (s1.blockLoses block).answerAll ts .blockReset
  (ts.length,
    { s2 with nvOps := s2.nvOps.filter (fun o => !gone o.req),
              ring := { s2.ring with cmds := s2.ring.cmds.filter (fun c => !gone c.req) } })

/-- Hold a block in reset for its 64 ticks, after the wrapper has completed its transactions; the completion is written to
the gutter log (R98). -/
def State.startBlock (s : State) (b : BlockReset) (mode : Nat) : State :=
  let (n, s1) := s.wrapper b.block b.req
  let b' : BlockReset := { b with mode := mode, inReset := true, completed := n }
  State.gutter { s1 with blocks := s1.blocks.map (fun x => if x.req = b.req then b' else x) } 0x05 b.block (n % 65536 + 65536 * mode)

/-- The island of a block (Table CLK-1). -/
def blockIsland (block : Nat) : Nat :=
  match block with
  | 0 => 0 | 1 => 1 | 2 => 2 | 3 => 2 | 4 => 4 | 5 => 0 | 6 => 5 | 7 => 5 | 16 => 2
  | 14 | 15 => 7
  | _ => 6

/-- The island of a block is relocking, so its reset waits (R72). -/
def State.blockWaits (s : State) (block : Nat) : Bool := (s.islandSt (blockIsland block)).state == 2

/-- The block lies in a domain that is switched off, so its reset cannot be executed (R50). -/
def State.blockOff (s : State) (b : Nat) : Bool :=
  ((b == 6 || b == 7) && s.domainState 8 != 1) || (decide (8 ≤ b ∧ b ≤ 13) && s.domainState 9 != 1)

/-- BLOCK_RESET's refusals (R50, R97, Table RST-6). -/
def State.blockCheck (s : State) (mode : Nat) (r : Req) : Option Status :=
  let b := byteAt r.params 0
  let t := leAt r.params 2 2
  if ¬ lenIs 4 r ∨ byteAt r.params 1 ≠ mode ∨ 16 < b ∨ (mode = 0 ∧ ¬ (1 ≤ t ∧ t ≤ 1000)) ∨ (mode = 1 ∧ t ≠ 0) then some .badParam
  else if mode = 0 ∧ (b = 1 ∨ b = 14 ∨ b = 15) then some .badParam
  else if b = 0 ∨ (b = 1 ∧ s.isActive) ∨ s.blockOff b then some .badState
  else none

/-- A new block reset, asked for and not yet in reset. -/
def State.askBlock (s : State) (t : Tag) (mode : Nat) : State × BlockReset :=
  let b : BlockReset := { block := byteAt t.req.params 0, mode := mode, inReset := false, idle := false,
                           completed := 0, req := t.req }
  ({ s.modTag t (fun u => { u with begun := true }) with blocks := s.blocks ++ [b] }, b)

def cmdBlockResetGraceful : Cmd :=
  { op := 0x0B00, access := xRight cDEVICE, sealed := noSeal, priv := noSeal, check := fun s _ r => s.blockCheck 0 r,
    run := fun s t _ => (s.askBlock t 0).1 }

/-- BLOCK_RESET GRACEFUL: the block is asked to go idle (R96). -/
def execBlockResetGraceful (r : Req) (s : State) : Host.Outcome State Fault Refusal := .next (s.execute cmdBlockResetGraceful r)

/-- BLOCK_RESET IMMEDIATE's effect: the reset starts at once, or once the block's island is back on its PLL (R72). -/
def State.runBlockImmediate (s : State) (t : Tag) : State :=
  let (s1, b) := s.askBlock t 1
  if s1.blockWaits b.block ∨ s.blockInReset b.block then s1 else s1.startBlock b 1

def cmdBlockResetImmediate : Cmd :=
  { op := 0x0B00, access := xRight cDEVICE, sealed := noSeal, priv := noSeal, check := fun s _ r => s.blockCheck 1 r,
    run := fun s t _ => s.runBlockImmediate t }

/-- BLOCK_RESET IMMEDIATE (R96). -/
def execBlockResetImmediate (r : Req) (s : State) : Host.Outcome State Fault Refusal := .next (s.execute cmdBlockResetImmediate r)

/-- The first graceful request for a block that waits for idle. -/
def State.gracefulOf (s : State) (b : Nat) : Option BlockReset := s.blocks.find? (fun x => x.block == b && x.mode == 0 && !x.inReset)

/-- BLOCK_IDLE: the block has finished its outstanding transactions, reports idle and is reset; nothing is left for the wrapper to
complete (R96). In a relocking island the reset starts once the island is back (R72). -/
def execBlockIdle (block : Fin 17) (s : State) : Host.Outcome State Fault Refusal :=
  .next (match s.gracefulOf block.val with
    | none => s
    | some b =>
      if ¬ (s.blockTags block.val b.req).isEmpty ∨ s.blockInReset block.val then s
      else if s.blockWaits block.val then
        { s with blocks := s.blocks.map (fun x => if x.req = b.req then { x with idle := true } else x) }
      else s.startBlock b 0)

/-- The timeout of a graceful request has passed (R96). -/
def State.gracefulOver (s : State) (b : BlockReset) : Bool :=
  match s.tag? b.req with
  | some t => decide (msTicks (leAt b.req.params 2 2) ≤ since s.clk.batten t.admitAt)
  | none => true

/-- FALLBACK: the graceful timeout has passed; the node proceeds as IMMEDIATE (R96). -/
def execFallback (block : Fin 17) (s : State) : Host.Outcome State Fault Refusal :=
  .next (match s.gracefulOf block.val with
    | none => s
    | some b =>
      if s.gracefulOver b = true ∧ ¬ s.blockWaits block.val ∧ ¬ s.blockInReset block.val then s.startBlock b 2 else s)

/-- The next reset of a block that may begin: it was asked IMMEDIATE, or it reported idle, or its timeout has passed. -/
def State.nextBlock (s : State) (block : Nat) : Option (BlockReset × Nat) :=
  if s.blockInReset block ∨ s.blockWaits block then none
  else
    match s.blocks.find? (fun x => x.block == block && (x.mode == 1 || x.idle || s.gracefulOver x)) with
    | none => none
    | some x => some (x, if x.mode = 1 then 1 else if x.idle then 0 else 2)

/-- Begin the next reset of a block, if one may begin. -/
def State.startNext (s : State) (block : Nat) : State :=
  match s.nextBlock block with
  | some (x, mode) => s.startBlock x mode
  | none => s

/-- A block is back in service (Table RST-6): a standby's evaluator resynchronises, the field link trains again; the ridge and ring
train through their own rows, and the AFE link returns with its slots. -/
def State.blockBack (s : State) (block : Nat) : State :=
  match block with
  | 1 => if s.isStandby ∧ s.pair.state = 2 then
      { s with pair := { s.pair with state := 3, resyncStep := 0, resyncOk := 0 } } else s
  | 15 => { s with fio := { s.fio with link := if s.sup.vfld then 1 else 0, trainLeft := if s.sup.vfld then 100 else 0 } }
  | _ => s

/-- BLOCK_RESET_COMPLETE: after the 64 ticks the block re-initialises, the reset is counted, and the command is answered
(R96, R98). The next request for the block starts. -/
def execBlockResetComplete (block : Fin 17) (s : State) : Host.Outcome State Fault Refusal :=
  .next (match s.blocks.find? (fun x => x.block == block.val && x.inReset) with
    | none => s
    | some b =>
      let s1 := s.pass 64
      let s2 : State := { s1 with blocks := s1.blocks.erase b, eave := s1.eave.count 15 }
      let s3 := s2.blockBack block.val
      let s4 := match s3.tag? b.req with
        | some t => s3.answerLate t .done (toLe 1 b.mode ++ toLe 2 b.completed) 0
        | none => s3
      (s4.startNext block.val).flush)

/-! ### SELFTEST (R190) -/

def cmdSelftest : Cmd :=
  { op := 0x0B01, access := xRight cDEVICE, sealed := noSeal, priv := noSeal,
    check := fun s _ r =>
      let m := leAt r.params 0 2
      if ¬ (lenIs 2 r ∧ m < 256) then some .badParam
      else if (m.testBit 0 ∧ (¬ s.isWorker ∨ s.domainState 6 ≠ 1)) ∨ ((m.testBit 3 ∨ m.testBit 4) ∧ s.domainState 8 ≠ 1)
        ∨ (m.testBit 3 ∧ s.pair.bound ∧ ¬ s.inMaint)
        ∨ (m.testBit 4 ∧ s.admittedMask ≠ 0 ∧ ¬ s.inMaint) ∨ (m.testBit 7 ∧ s.pair.bound ∧ s.isActive) then some .badState
      else none
    run := fun s t _ =>
      { s.modTag t (fun u => { u with begun := true }) with
        selftest := s.selftest ++ [(t.req, BitVec.ofNat 16 (leAt t.req.params 0 2))] } }

/-- SELFTEST (R190). -/
def execSelftest (r : Req) (s : State) : Host.Outcome State Fault Refusal := .next (s.execute cmdSelftest r)

/-- SELFTEST_COMPLETE: the tests of the mask that passed and those that failed are answered; the golden-vector test on a
standby is a referee run: a pass adds 1 to its health, a fail sets it to 0 (R190, R329, R338). -/
def execSelftestComplete (passed : Half) (s : State) : Host.Outcome State Fault Refusal :=
  .next (match s.selftest with
    | [] => s
    | (r, m) :: rest =>
      let ok := m &&& passed
      let bad := m &&& ~~~passed
      let s1 : State := { s with selftest := rest }
      let s2 : State :=
        if ¬ s1.isStandby ∨ ¬ m.getLsbD 7 then s1
        else { s1 with pair := { s1.pair with streak := if bad.getLsbD 7 then 0 else min 15 (s1.pair.streak + 1)
                                              refResult := if bad.getLsbD 7 then 2 else 1, lastRefFrame := s1.clk.frameNo } }
      match s2.tag? r with
      | some t => (s2.answerLate t .done (toLe 2 ok.toNat ++ toLe 2 bad.toNat) 0).flush
      | none => s2)

/-! ### ISLAND_RATE (R64, R69-R73) -/

/-- The rate of an island would take the configured points beyond R64's limit. -/
def State.overLimit (s : State) (island rate : Nat) : Bool :=
  !s.isWorker && (island == 1 || island == 3)
    && decide (pointLimit (max rate (s.islandSt (if island = 1 then 3 else 1)).rate) < pointCount s.peg.cfg)

def cmdIslandRate : Cmd :=
  { op := 0x0B02, access := xObj cISLAND, sealed := noSeal, priv := noSeal,
    check := fun s _ r =>
      let v := byteAt r.params 0
      let i := oidIndex r.target
      if ¬ (lenIs 1 r ∧ v ≤ 2 ∧ targetIs cISLAND r) then some .badParam
      else if ¬ s.throttles i ∨ s.overLimit i v ∨ 2 ≤ (s.clk.rateReqs.filter (fun q => q.island == i)).length then
        some .badState
      else none
    run := fun s t _ =>
      let v := byteAt t.req.params 0
      let i := oidIndex t.req.target
      if (s.islandSt i).rate = v ∧ ¬ s.clk.rateReqs.any (fun q => q.island == i) then
        s.answerLate t .done (toLe 2 (s.islandSt i).lastLock) 0
      else
        { s.modTag t (fun u => { u with begun := true }) with
          clk := { s.clk with
            rateReqs := s.clk.rateReqs ++ [{ island := i, rate := v, req := t.req, frame := s.clk.frameNo, begun := false }] } } }

/-- ISLAND_RATE (R64, R69, R72). -/
def execIslandRate (r : Req) (s : State) : Host.Outcome State Fault Refusal := .next (s.execute cmdIslandRate r)

/-- Change one island. -/
def State.modIsland (s : State) (i : Nat) (f : Island → Island) : State :=
  { s with clk := { s.clk with islands := smod Island.locked s.clk.islands i f } }

/-- The island leaves its PLL: every command in flight whose path takes it loses EXACT (R76). -/
def State.spoil (s : State) (i : Nat) : State :=
  { s with comm := { s.comm with tags := s.comm.tags.map (fun t =>
      if (pathIslands t.opcode.toNat t.req.port).contains i then { t with spoiled := (i :: t.spoiled).dedup } else t) } }

/-- Start the first waiting request of an island that was admitted in an earlier frame. -/
def State.relockIsland (s : State) (i : Nat) : State :=
  match s.clk.rateReqs.find? (fun q => q.island == i && !q.begun && q.frame != s.clk.frameNo) with
  | none => s
  | some q =>
    if s.clk.rateReqs.any (fun x => x.island == i && x.begun) then s
    else if (s.islandSt i).rate = q.rate ∧ (s.islandSt i).state < 2 then
      let s1 : State := { s with clk := { s.clk with rateReqs := s.clk.rateReqs.erase q } }
      match s1.tag? q.req with
      | some t => s1.answerLate t .done (toLe 2 (s1.islandSt i).lastLock) 0
      | none => s1
    else
      let s1 := (s.modIsland i (fun x => { x with state := 2, target := q.rate, relocks := inc32 x.relocks,
                                                  retargetAt := s.clk.batten })).spoil i
      { s1 with clk := { s1.clk with rateReqs := s1.clk.rateReqs.map (fun x => if x = q then { x with begun := true } else x) } }

/-- RELOCK_POINT: at tick 115 000 each island with a waiting request goes to the crawl clock; a relock point applies one rate to an
island (R69, R71, R72). -/
def execRelockPoint (s : State) : Host.Outcome State Fault Refusal :=
  .next (if ¬ s.alive ∨ ¬ s.clk.running ∨ 115000 < s.offset then s
    else ((List.range 7).foldl State.relockIsland (s.toOffset 115000)).flush)

/-! ### DOMAIN_SET (R47-R49, R54, R191) -/

/-- The blocks of a switchable domain (Table PWR-1). -/
def domainBlocks (d : Nat) : List Nat := if d = 8 then [6, 7] else if d = 9 then [8, 9, 10, 11, 12, 13] else []

/-- The ports of a worker that is served over the ring alone: every register, queue and driver in its reset state, and the TAP in
Test-Logic-Reset (R50, Table BAL-5). -/
def State.portsOff (s : State) : State :=
  let s1 := ([.host, .u0, .u2, .can0, .can1] : List Port).foldl State.emptyOut s
  { s1 with hw := s1.hw.afterReset }

/-- Begin the switching of one request: a switch-off completes the domain's transactions as an IMMEDIATE block reset does
(R48). -/
def State.beginDomain (s : State) (q : DomainReq) : State :=
  let s1 := if q.on then s else (domainBlocks q.domain).foldl (fun s b => (s.wrapper b q.req).2) s
  let s2 := if ¬ q.on ∧ q.domain = 9 then s1.portsOff else s1
  { s2 with clk := { s2.clk with
      domains := sset 1 s2.clk.domains q.domain 2,
      domainReqs := s2.clk.domainReqs.map (fun x => if x = q then { x with begun := true } else x) } }

/-- The island of a domain (Table CLK-1), 7 for none. -/
def domainIsland (d : Nat) : Nat := if d = 6 then 3 else if d = 8 then 5 else if d = 9 then 6 else 7

/-- A request of a domain has been carried out: the command is answered (R48). -/
def State.domainDone (s : State) (q : DomainReq) : State :=
  let s1 : State := { s with clk := { s.clk with
    domains := sset 1 s.clk.domains q.domain (b2n q.on), domainReqs := s.clk.domainReqs.erase q } }
  match s1.tag? q.req with
  | some t => s1.answerLate t .done (toLe 1 (b2n q.on)) 0
  | none => s1

/-- Serve the requests of a domain whose slot has come, in admission order, until one must switch: a domain that is in the
requested state answers at once, and none begins while the domain's island relocks (R48, R49). -/
def State.serveDomain (d : Nat) : Nat → State → State
  | 0, s => s
  | n + 1, s =>
    match s.clk.domainReqs.find? (fun q => q.domain == d) with
    | none => s
    | some q =>
      if ¬ q.due ∨ q.begun ∨ (s.islandSt (domainIsland d)).state = 2 then s
      else if s.domainState d = b2n q.on then State.serveDomain d n (s.domainDone q)
      else s.beginDomain q

def State.serveDomains (s : State) (ds : List Nat) : State :=
  ds.foldl (fun s d => State.serveDomain d s.clk.domainReqs.length s) s

/-- The housekeeping slot brings the requests of earlier frames due (R48). -/
def State.switchDomains (s : State) : State :=
  State.serveDomains
    { s with clk := { s.clk with domainReqs := s.clk.domainReqs.map (fun q => { q with due := q.due || q.frame != s.clk.frameNo }) } }
    (List.range 12)

/-- DOMAIN_SWITCH_COMPLETE: the domain is in the requested state and the command is answered; the next request of the same
domain follows if its slot has come (R48). -/
def execDomainSwitchComplete (domain : Fin 12) (s : State) : Host.Outcome State Fault Refusal :=
  .next (match s.clk.domainReqs.find? (fun q => q.domain == domain.val && q.begun) with
    | none => s
    | some q => ((s.domainDone q).serveDomains [domain.val]).flush)

/-- Requests that waited for an island's lock go on: the block resets of its blocks (R72) and its domain's switching (R49). -/
def State.afterLock (s : State) (i : Nat) : State :=
  let s1 := ((List.range 17).filter (fun b => blockIsland b == i)).foldl State.startNext s
  s1.serveDomains ((List.range 12).filter (fun d => domainIsland d == i))

/-- LOCK_CONFIRMED: 2 + L + 27 ticks after the PLL was retargeted the island is back on it; the gutter log notes the lock time, and
the command's reply is ready 7 ticks later (R69, R71). A lock after a loss without a command ends the same way (R73). Islands
relock independently: the tick is each island's own. -/
def execLockConfirmed (island : Fin 7) (lockTicks : Nat) (s : State) : Host.Outcome State Fault Refusal :=
  .next (if (s.islandSt island.val).state ≠ 2 ∨ ¬ s.alive then s
    else
      let i := island.val
      let loss := (s.islandSt i).lossAt.isSome
      let back := (s.islandSt i).retargetAt + BitVec.ofNat 40 (2 + lockTicks + 27)
      let s1 := s.reach back
      let s2 := s1.modIsland i (fun x =>
        { x with rate := x.target, state := if x.target = 0 then 0 else 1, lastLock := lockTicks % 65536, lossAt := none })
      let s3 := s2.gutter 0x04 i (lockTicks % 65536 + 65536 * b2n loss)
      let s4 := match s3.clk.rateReqs.find? (fun q => q.island == i && q.begun) with
        | none => s3
        | some q =>
          let s4 : State := { s3 with clk := { s3.clk with rateReqs := s3.clk.rateReqs.erase q } }
          match s4.tag? q.req with
          | some t => s4.answerAt t .done (toLe 2 (lockTicks % 65536)) (back + 7)
          | none => s4
      (s4.afterLock i).flush)

/-- PLL_LOCK_LOSS: the island goes to the crawl clock and its PLL is retargeted to the same rate (R73). -/
def execPllLockLoss (island : Fin 7) (s : State) : Host.Outcome State Fault Refusal :=
  .next (if ¬ s.alive ∨ 2 ≤ (s.islandSt island.val).state then s
    else
      let i := island.val
      let s1 := (s.modIsland i (fun x =>
        { x with state := 2, target := x.rate, relocks := inc32 x.relocks, lossAt := some s.clk.batten,
                 retargetAt := s.clk.batten })).spoil i
      s1.gutter 0x04 i 65536)

/-- DOMAIN_SET's refusals for OFF and ON. -/
def State.domainCheck (s : State) (v : Nat) (r : Req) : Option Status :=
  if ¬ (lenIs 1 r ∧ byteAt r.params 0 = v ∧ targetIs cDOMAIN r) then some .badParam
  else if ¬ s.switchable (oidIndex r.target) then some .badState else none

def State.askDomain (s : State) (t : Tag) (on : Bool) : State :=
  { s.modTag t (fun u => { u with begun := true }) with
    clk := { s.clk with domainReqs := s.clk.domainReqs
      ++ [{ domain := oidIndex t.req.target, on := on, req := t.req, frame := s.clk.frameNo, due := false, begun := false }] } }

def cmdDomainSetOff : Cmd :=
  { op := 0x0B03, access := xObj cDOMAIN, sealed := noSeal, priv := noSeal, check := fun s _ r => s.domainCheck 0 r,
    run := fun s t _ => s.askDomain t false }

/-- DOMAIN_SET OFF (R47, R48). -/
def execDomainSetOff (r : Req) (s : State) : Host.Outcome State Fault Refusal := .next (s.execute cmdDomainSetOff r)

def cmdDomainSetOn : Cmd :=
  { op := 0x0B03, access := xObj cDOMAIN, sealed := noSeal, priv := noSeal, check := fun s _ r => s.domainCheck 1 r,
    run := fun s t _ => s.askDomain t true }

/-- DOMAIN_SET ON (R47, R48). -/
def execDomainSetOn (r : Req) (s : State) : Host.Outcome State Fault Refusal := .next (s.execute cmdDomainSetOn r)

/-- The laid-up order at its peg: the reply says on, since the entry follows it (R55, R191). -/
def applyDomainLaidUp (_ : State) (p : Prov) (_ : BatchItem) (_ : Req) : Applied :=
  if p.st.engine.calling then p.refuse .badState else (p.addEffect .laidUp).ok [1]

def cmdDomainSetLaidUp : Cmd :=
  { op := 0x0B03, access := xObj cDOMAIN, sealed := noSeal, priv := noSeal,
    check := fun s _ r =>
      if ¬ (lenIs 1 r ∧ byteAt r.params 0 = 2 ∧ targetIs cDOMAIN r ∧ oidIndex r.target = 0) then some .badParam
      else if s.isWorker ∨ s.peg.engine.calling ∨ s.stage.isSome then some .badState else none
    run := runP }

/-- DOMAIN_SET LAID_UP (R54, R191). -/
def execDomainSetLaidUp (r : Req) (s : State) : Host.Outcome State Fault Refusal := .next (s.execute cmdDomainSetLaidUp r)

/-! ### AGING_READ, RESET_COUNTERS_READ, NODE_RESET -/

/-- AGING_READ's bytes (Table CMD-18); the shifts of an island not read yet are 0. -/
def State.agingBytes (s : State) (i : Nat) : List Byte :=
  let a := sget Aging.none s.aging i
  let f := Config.agingFirst i
  let never := a == Aging.none
  toLe 4 a.osc ++ toLe 2 a.leak ++ toLe 4 (if never then 0 else ofSigned 4 (Config.agingPpm a.osc f.1))
    ++ toLe 2 (if never then 0 else ofSigned 2 (Config.agingLeak a.leak f.2)) ++ toLe 1 a.trend ++ [0] ++ toLe 4 a.frame.toNat

def cmdAgingRead : Cmd :=
  { op := 0x0B04, access := rObj cISLAND 1, sealed := noSeal, priv := noSeal,
    check := fun _ _ r => need (lenIs 0 r && targetIs cISLAND r),
    run := fun s t _ => s.answerF t .done (s.agingBytes (oidIndex t.req.target)) 20 }

/-- AGING_READ (R419). -/
def execAgingRead (r : Req) (s : State) : Host.Outcome State Fault Refusal := .next (s.execute cmdAgingRead r)

def cmdResetCountersRead : Cmd :=
  { op := 0x0B05, access := rRight cDEVICE 4, sealed := noSeal, priv := noSeal, check := fun _ _ r => need (lenIs 0 r),
    run := fun s t _ => s.answerF t .done (s.eave.counters.flatMap (toLe 2)) 22 }

/-- RESET_COUNTERS_READ (R99). -/
def execResetCountersRead (r : Req) (s : State) : Host.Outcome State Fault Refusal := .next (s.execute cmdResetCountersRead r)

/-- The reset that an admitted command orders (R85). -/
def State.commandedBy (s : State) (t : Tag) (powerOn : Bool) : Commanded :=
  { powerOn := powerOn, frame := s.clk.frameNo, at_ := s.time - since s.clk.batten t.admitAt, tagNo := t.no }

/-- NODE_RESET's effect: answered, and the reset waits for NODE_RESET_START (R85). -/
def State.runNodeReset (s : State) (t : Tag) (powerOn : Bool) : State :=
  let s1 := s.answerF t .done [] 14
  { s1 with rst := { s1.rst with commanded := some (s.commandedBy t powerOn) } }

def cmdNodeResetWarm : Cmd :=
  { op := 0x0B06, access := xRight cDEVICE, sealed := noSeal, priv := noSeal,
    check := fun _ _ r => need (lenIs 1 r && byteAt r.params 0 == 0), run := fun s t _ => s.runNodeReset t false }

/-- NODE_RESET, mode 0 (R85). -/
def execNodeResetWarm (r : Req) (s : State) : Host.Outcome State Fault Refusal := .next (s.execute cmdNodeResetWarm r)

def cmdNodeResetPowerOn : Cmd :=
  { op := 0x0B06, access := xRight cDEVICE, sealed := noSeal, priv := noSeal,
    check := fun _ _ r => need (lenIs 1 r && byteAt r.params 0 == 1), run := fun s t _ => s.runNodeReset t true }

/-- NODE_RESET, mode 1 (R85). -/
def execNodeResetPowerOn (r : Req) (s : State) : Host.Outcome State Fault Refusal := .next (s.execute cmdNodeResetPowerOn r)

end Sys2Proof.Machine
end

