-- ==== Sys2Proof/Machine/Engine.lean ====
section
/-! DEFINITION. The alarm engine's steps over a provisional result (R268-R290, R293-R297, Table ALM-3): conditions, delays, inhibition,
shelving, groups, horn, call-out, outputs, and what each frame puts into its shadow queues. -/

namespace Sys2Proof.Machine

/-! ### Access to the provisional engine -/

def Prov.c (p : Prov) (cls idx attr : Nat) : Nat := cfgOf p.st.cfg cls idx attr
def Prov.ci (p : Prov) (cls idx attr : Nat) : Int := cfgInt p.st.cfg 4 cls idx attr
def Prov.pt (p : Prov) (n : Nat) : PointSt := sget PointSt.idle p.st.engine.points n
def Prov.engine (p : Prov) (f : Engine → Engine) : Prov := { p with st := { p.st with engine := f p.st.engine } }
def Prov.setPt (p : Prov) (n : Nat) (x : PointSt) : Prov :=
  p.engine (fun e => { e with points := sset PointSt.idle e.points n x })
def Prov.station (p : Prov) (n : Nat) : StationSt := sget StationSt.idle p.st.engine.stations n
def Prov.setStation (p : Prov) (n : Nat) (x : StationSt) : Prov :=
  p.engine (fun e => { e with stations := sset StationSt.idle e.stations n x })

def pointOid (n : Nat) : Word := oid 0 cPOINT n 0

/-- Frames from f to n (R13). -/
def framesSince (n f : Frame) : Nat := (n - f).toNat

/-- A point's severity in force (R273). -/
def Prov.severity (p : Prov) (n : Nat) : Nat := if (p.pt n).sensorFault then p.c cPOINT n 0x23 else p.c cPOINT n 0x22

/-- A value that the spec's format does not hold is free (notes/assumptions/24.md). -/
def fit32 (x : Int) : Int := if -2147483648 ≤ x ∧ x ≤ 2147483647 then x else Config.outOfRange x

/-! ### Sources (R269, R272) -/

/-- What a point reads of its source in this frame's snapshot. -/
structure Src where
  quality : Nat
  cal     : Bool
  eng     : Int
  bit     : Bool
  /-- a debounced edge of this snapshot: its stamp -/
  edge    : Option (Batten × Nat × Nat)

/-- The state of an output as pegged in the previous frame. -/
def outputBit (e : Engine) (o : Word) : Bool := e.outputs.contains (16 * oidNode o + oidIndex o)

def State.src (s : State) (o : Word) : Src :=
  if oidClass o = cAIN then
    let v := s.ainIn (oidNode o) (oidIndex o)
    { quality := v.quality, cal := v.flags.getLsbD 9, eng := v.eng, bit := false, edge := none }
  else if oidClass o = cDIN then
    let v := s.dinIn (oidNode o) (oidIndex o)
    { quality := v.quality, cal := false, eng := 0, bit := v.state,
      edge := if v.fresh then some (v.edge, v.edgeSec, v.edgeOff) else none }
  else { quality := 0, cal := false, eng := 0, bit := outputBit s.peg.engine o, edge := none }

def Prov.srcOid (p : Prov) (n : Nat) : Word := BitVec.ofNat 32 (p.c cPOINT n 0x31)

/-! ### Stamps (R275) -/

/-- The frame's snapshot time. -/
def State.snapStamp (s : State) : Batten × Nat × Nat := (s.clk.frameStart, s.clk.snapSec, s.clk.snapOff)

/-- The time of a change that completes now: a DI edge's own stamp when the delay is zero, else the snapshot's. -/
def changeStamp (s : State) (p : Prov) (n delay : Nat) : Batten × Nat × Nat :=
  if p.c cPOINT n 0x30 = 7 ∧ delay = 0 then ((s.src (p.srcOid n)).edge).getD s.snapStamp else s.snapStamp

/-- Note a change of a point. -/
def PointSt.stamp (x : PointSt) (f : Frame) (t : Batten × Nat × Nat) (cause : Nat) : PointSt :=
  { x with chFrame := f, chBatten := t.1, chSec := t.2.1, chOff := t.2.2, cause := cause }

/-- Become active and unacknowledged (R283). -/
def PointSt.activate (x : PointSt) (sub : Nat) (f : Frame) (t : Batten × Nat × Nat) (cause : Nat) : PointSt :=
  { x.stamp f t cause with active := true, unack := true, sub := sub, ackBy := 0xFF }

/-- Become inactive; an unacknowledged point stays so: it is returned (R283). -/
def PointSt.deactivate (x : PointSt) (f : Frame) (t : Batten × Nat × Nat) (cause : Nat) : PointSt :=
  { x.stamp f t cause with active := false, sub := 0, sensorFault := false }

/-- Become inactive and acknowledged at once (R281, Table ALM-5). -/
def PointSt.drop (x : PointSt) (f : Frame) (t : Batten × Nat × Nat) (cause : Nat) : PointSt :=
  { x.deactivate f t cause with unack := false }

/-- Acknowledge (R283). -/
def PointSt.acked (x : PointSt) (by_ : Nat) (f : Frame) (t : Batten × Nat × Nat) : PointSt :=
  { x.stamp f t 1 with unack := false, ackBy := BitVec.ofNat 8 by_ }

/-! ### Step 4: conditions (Table ALM-2, R270-R272) -/

/-- The frame from which a condition that changes now counts: no evaluated frame lies between the last peg and this one
(R274). -/
def State.countFrom (s : State) (p : Prov) : Frame := if s.rst.firstPeg then s.pair.lastPegFrame + 1 else p.frame

/-- Hold a condition's value, or note that it changed. -/
def PointSt.setCond (x : PointSt) (c : Bool) (from_ : Frame) : PointSt :=
  if x.cond = c ∧ x.since.isSome then x else { x with cond := c, since := some from_ }

/-- Above a limit, with hysteresis. -/
def judgeHigh (old : Bool) (v lim hyst : Int) : Bool := if lim < v then true else if v ≤ lim - hyst then false else old
/-- Below a limit, with hysteresis. -/
def judgeLow (old : Bool) (v lim hyst : Int) : Bool := if v < lim then true else if lim + hyst ≤ v then false else old

/-- A RATE condition from a slope (Table ALM-2, kind 5). -/
def judgeRate (old : Bool) (slope lim hyst : Int) : Bool :=
  if lim = 0 then false else if 0 < lim then judgeHigh old slope lim hyst else judgeLow old slope lim hyst

/-- Points of a deviation set (R271). -/
def Prov.devOthers (p : Prov) (n : Nat) : List Nat :=
  (cfgIndices p.st.cfg cPOINT 0x30).filter (fun q =>
    q != n && p.c cPOINT q 0x30 == 6 && p.c cPOINT q 0x33 == p.c cPOINT n 0x33)

/-- The deviation of a point, none with fewer than two other GOOD points (R271). -/
def deviation (s : State) (p : Prov) (n : Nat) (eng : Int) : Option Int :=
  let good := ((p.devOthers n).map (fun q => s.src (p.srcOid q))).filter (fun x => x.quality == 0)
  if good.length < 2 then none
  else some (fit32 (eng - ((good.map Src.eng).sum).tdiv good.length))

/-- The slope of R270 from the ring with the present sample in front; none if it is not evaluable. -/
def slopeOf (ring : List (Int × Nat)) (w : Nat) : Option Int :=
  match ring.head?, ring[w]? with
  | some a, some b => if a.2 = 0 ∧ b.2 = 0 ∧ w ≠ 0 then some (fit32 ((a.1 - b.1).tdiv w)) else none
  | _, _ => none

/-- Not evaluable: the condition is false and STATE bit 6 is set (R272). -/
def PointSt.notEvaluable (x : PointSt) (from_ : Frame) : PointSt := { x.setCond false from_ with notEval := true }

/-- An evaluated analog point. -/
def evalAnalog (s : State) (p : Prov) (n : Nat) (x : PointSt) (q : Src) : PointSt :=
  let k := p.c cPOINT n 0x30
  let lim := p.ci cPOINT n 0x10
  let hyst := p.ci cPOINT n 0x11
  let from_ := s.countFrom p
  if k = 6 then
    match deviation s p n q.eng with
    | none => x.notEvaluable from_
    | some d =>
      { x.setCond (judgeHigh x.cond (if d < 0 then -d else d) lim hyst) from_ with value := d, notEval := false }
  else
    let c := if k = 1 ∨ k = 3 then judgeHigh x.cond q.eng lim hyst else judgeLow x.cond q.eng lim hyst
    { x.setCond c from_ with value := q.eng, notEval := false }

/-- A RATE point: at every hundredth frame a sample is stored and the slope judged; between them the condition keeps its
value (R270, R272). -/
def evalRate (s : State) (p : Prov) (n : Nat) (x : PointSt) (q : Src) : PointSt :=
  if p.frame.toNat % 100 ≠ 0 then x
  else
    let y := { x with rate := ((q.eng, q.quality) :: x.rate).take 61 }
    if q.quality = 2 ∨ q.quality = 3 ∨ q.cal then y
    else
      match slopeOf y.rate (p.c cPOINT n 0x12) with
      | none => y.notEvaluable (s.countFrom p)
      | some v =>
        { y.setCond (judgeRate y.cond v (p.ci cPOINT n 0x10) (p.ci cPOINT n 0x11)) (s.countFrom p) with
          value := v, notEval := false }

/-- Consecutive snapshots at UNKNOWN (R272). -/
def PointSt.countUnknown (x : PointSt) (q : Nat) : PointSt := { x with unkRun := if q = 3 then min 3 (x.unkRun + 1) else 0 }

/-- Step 4 for one point. -/
def evalPoint (s : State) (p : Prov) (n : Nat) (x0 : PointSt) : PointSt :=
  let k := p.c cPOINT n 0x30
  let from_ := s.countFrom p
  if k = 0 then { x0.setCond false from_ with notEval := false, rate := [], unkRun := 0 }
  else if k = 9 then x0.setCond (x0.sources != 0) from_
  else
    let q := s.src (p.srcOid n)
    if k = 8 then
      { x0.setCond (q.quality == 1 || q.quality == 3) from_ with value := if q.quality = 1 ∨ q.quality = 3 then 1 else 0 }
    else
      let x := x0.countUnknown q.quality
      if k = 5 then evalRate s p n x q
      else if q.quality = 2 ∨ q.quality = 3 ∨ (q.quality = 1 ∧ q.cal) then x
      else if k = 7 then
        { x.setCond (q.bit == (p.ci cPOINT n 0x10 == 1)) from_ with value := if q.bit then 1 else 0, notEval := false }
      else evalAnalog s p n x q

/-! ### Step 3: inhibit rules (R280) -/

/-- The points of a group in a configuration. -/
def groupMembers (cfg : Sparse Nat) (g : Nat) : List Nat :=
  (cfgIndices cfg cPOINT 0x32).filter (fun n => cfgOf cfg cPOINT n 0x32 == g)

/-- A term over the states pegged in the previous frame; none if it is unused. -/
def State.term (s : State) (t : Nat) : Option Bool :=
  let o := BitVec.ofNat 32 (t % 2 ^ 32)
  let op := t / 2 ^ 32 % 256
  let thr := signedOf 4 (t / 2 ^ 64 % 2 ^ 32)
  let node := oidNode o
  let i := oidIndex o
  let there := decide (i < classSize (oidClass o)) && (node == 0 || s.workerKnown node)
  let level (b : Bool) : Bool := if op = 1 then b else if op = 2 then !b else false
  if op = 0 then none
  else if ¬ there then some false
  else if oidClass o = cAIN then
    let v := s.ainPeg node i
    some (v.quality != 3 && (if op = 3 then decide (thr < v.eng) else if op = 4 then decide (v.eng < thr) else false))
  else if oidClass o = cDIN then some ((s.dinPeg node i).quality != 3 && level (s.dinPeg node i).state)
  else if oidClass o = cDOUT then some (level (outputBit s.peg.engine o))
  else if oidClass o = cPOINT ∧ node = 0 then some (level (s.pointSt i).active)
  else if oidClass o = cGROUP ∧ node = 0 then
    some (level ((groupMembers s.peg.cfg i).any (fun n => (s.pointSt n).active || (s.pointSt n).unack)))
  else some false

/-- Whether a rule is true. -/
def ruleTrue (s : State) (p : Prov) (n : Nat) : Bool :=
  let used := [0x10, 0x11, 0x12, 0x13].filterMap (fun a => s.term (p.c cINHIBIT n a))
  !used.isEmpty && (if p.c cINHIBIT n 0x14 = 0 then used.all id else used.any id)

/-- Rules with a term, a target or a state. -/
def Prov.ruleList (p : Prov) : List Nat :=
  ((p.st.cfg.filterMap (fun (e : Nat × Nat) => if e.1 / 1048576 = cINHIBIT then some (e.1 / 256 % 4096) else none))
    ++ p.st.engine.rules.map Prod.fst).dedup

/-- Evaluate one rule. -/
def evalRule (s : State) (p : Prov) (n : Nat) : Prov :=
  let old := sget (false, none) p.st.engine.rules n
  let new := if ruleTrue s p n then (true, some p.frame) else (false, old.2)
  p.engine (fun e => { e with rules := sset (false, none) e.rules n new })

/-- A rule inhibits in this frame: it is true, or was last true less than 10 × REARM frames ago. -/
def Prov.ruleHolds (p : Prov) (n : Nat) : Bool :=
  let r := sget (false, none) p.st.engine.rules n
  r.1 || (match r.2 with
    | some m => decide (framesSince p.frame m < 10 * p.c cINHIBIT n 0x17)
    | none => false)

/-- A rule's target takes in a point. -/
def Prov.ruleTargets (p : Prov) (n pt : Nat) : Bool :=
  let t := p.c cINHIBIT n 0x15
  let first := t / 256 % 65536
  match t % 256 with
  | 1 => decide (first ≤ pt ∧ pt < first + p.c cINHIBIT n 0x16)
  | 2 => p.c cPOINT pt 0x32 == first
  | _ => false

/-- A point is inhibited in this frame. -/
def Prov.inhibits (p : Prov) (pt : Nat) : Bool := p.ruleList.any (fun n => p.ruleHolds n && p.ruleTargets n pt)

/-! ### Step 5: delays, sensor fault, inhibition, shelving (R273, R274, R281, R282) -/

/-- SHELVE_EXPIRY: shelving ends at its end frame; a point whose condition is then true becomes active and unacknowledged and is
announced (R282, Table ALM-5). -/
def shelveExpiryPt (s : State) (p : Prov) (_ : Nat) (x : PointSt) : PointSt :=
  if x.shelved ∧ frameGe p.frame x.shelveEnd then { x.stamp p.frame s.snapStamp 3 with shelved := false, shelveEnd := 0 } else x

/-- What follows the end of shelving, by its end frame or by UNSHELVE, in the frame it ends: a point whose condition is true, or that the
sensor-fault override holds active, is announced (R273, R282). -/
def announcePt (s : State) (p : Prov) (n : Nat) (was : PointSt) (x : PointSt) : PointSt :=
  if was.shelved ∧ ¬ x.shelved ∧ ¬ x.inhibited ∧ (x.cond ∨ x.sensorFault) then
    x.activate (if x.sensorFault then 10 else p.c cPOINT n 0x30) p.frame s.snapStamp 3
  else x

/-- Inhibition begins or ends; an active point becomes inactive and acknowledged with its beginning (R281). -/
def inhibitPt (s : State) (p : Prov) (n : Nat) (x : PointSt) : PointSt :=
  let now := p.inhibits n
  if now ∧ ¬ x.inhibited then { (if x.active then x.drop p.frame s.snapStamp 4 else x.stamp p.frame s.snapStamp 4) with inhibited := true }
  else if ¬ now ∧ x.inhibited then { x.stamp p.frame s.snapStamp 5 with inhibited := false, since := some p.frame }
  else x

/-- The sensor-fault override begins at the third snapshot at UNKNOWN, and ends when the source is GOOD or HELD again (R273). -/
def sensorFaultPt (s : State) (p : Prov) (n : Nat) (x : PointSt) : PointSt :=
  let k := p.c cPOINT n 0x30
  if k = 0 ∨ k = 8 ∨ k = 9 then x
  else
    let q := (s.src (p.srcOid n)).quality
    if 3 ≤ x.unkRun ∧ ¬ x.sensorFault ∧ ¬ x.inhibited then
      if x.active then { x.stamp p.frame s.snapStamp 6 with sensorFault := true, sub := 10 }
      else { x.activate 10 p.frame s.snapStamp 6 with sensorFault := true }
    else if x.sensorFault ∧ (q = 0 ∨ q = 2) then
      { x.stamp p.frame s.snapStamp 6 with sensorFault := false, sub := k, since := some p.frame }
    else x

/-- The condition has held its value for a delay in steps of 10 frames (R274). -/
def heldFor (p : Prov) (x : PointSt) (delay : Nat) : Bool :=
  match x.since with
  | some f => decide (10 * delay ≤ framesSince p.frame f) && frameGe p.frame f
  | none => false

/-- ON_DELAY_EXPIRY (R274). -/
def onDelayPt (s : State) (p : Prov) (n : Nat) (x : PointSt) : PointSt :=
  let d := p.c cPOINT n 0x20
  if x.cond ∧ ¬ x.active ∧ ¬ x.inhibited ∧ heldFor p x d then
    x.activate (p.c cPOINT n 0x30) p.frame (changeStamp s p n d) 0
  else x

/-- OFF_DELAY_EXPIRY (R274). -/
def offDelayPt (s : State) (p : Prov) (n : Nat) (x : PointSt) : PointSt :=
  let d := p.c cPOINT n 0x21
  if ¬ x.cond ∧ x.active ∧ ¬ x.sensorFault ∧ heldFor p x d then x.deactivate p.frame (changeStamp s p n d) 0 else x

/-- KIND OFF: an active point becomes inactive and acknowledged (Table ALM-5). -/
def kindOffPt (s : State) (p : Prov) (n : Nat) (x : PointSt) : PointSt :=
  if p.c cPOINT n 0x30 = 0 ∧ (x.active ∨ x.unack) then x.drop p.frame s.snapStamp 7 else x

/-- Step 5 for one point. -/
def delaysPt (s : State) (p : Prov) (n : Nat) (x : PointSt) : PointSt :=
  let x1 := kindOffPt s p n x
  let x2 := inhibitPt s p n (shelveExpiryPt s p n x1)
  let x3 := announcePt s p n (s.pointSt n) x2
  offDelayPt s p n (onDelayPt s p n (sensorFaultPt s p n x3))

/-- The points that have a configuration or a state: every other is OFF and idle. -/
def Prov.pointList (p : Prov) : List Nat :=
  (cfgIndices p.st.cfg cPOINT 0x30 ++ p.st.engine.points.map Prod.fst).dedup

/-- Apply a point step to every point. -/
def Prov.eachPoint (p : Prov) (f : Nat → PointSt → PointSt) : Prov :=
  p.pointList.foldl (fun q n => q.setPt n (f n (q.pt n))) p

/-! ### Step 6: groups and first-up (R279) -/

/-- The groups that points name. -/
def Prov.groups (p : Prov) : List Nat := (p.st.cfg.filterMap (fun (e : Nat × Nat) =>
  if e.1 / 1048576 = cPOINT ∧ e.1 % 256 = 0x32 then some e.2 else none)).dedup.filter (fun g => decide (g < 128))

/-- Earlier change time, then lower index. -/
def earlier (s : State) (a b : Nat × PointSt) : Nat × PointSt :=
  let age (x : PointSt) : Nat := (x.chBatten - s.clk.frameStart + 2 ^ 39).toNat
  if age b.2 < age a.2 ∨ (age b.2 = age a.2 ∧ b.1 < a.1) then b else a

/-- A point that became active in this frame and may be first-up. -/
def candidate (s : State) (p : Prov) (n : Nat) : Bool :=
  let x := p.pt n
  x.active && !x.shelved && !x.inhibited && (!(s.pointSt n).active || (s.pointSt n).shelved)

/-- First-up of one group. -/
def groupStep (s : State) (p : Prov) (g : Nat) : Prov :=
  let ms := groupMembers p.st.cfg g
  let clear := ms.all (fun n => !(p.pt n).active && !(p.pt n).unack)
  let old := sget 0xFFFF p.st.engine.firstUp g
  let new :=
    if clear then 0xFFFF
    else if old ≠ 0xFFFF then old
    else
      match (ms.filter (candidate s p)).map (fun n => (n, p.pt n)) with
      | [] => 0xFFFF
      | a :: as => (as.foldl (earlier s) a).1
  let p1 := p.engine (fun e => { e with firstUp := sset 0xFFFF e.firstUp g new })
  ms.foldl (fun q n => q.setPt n { q.pt n with firstUp := new == n }) p1

/-- A point without a group carries no first-up mark. -/
def Prov.stepGroups (p : Prov) (s : State) : Prov :=
  let p1 := p.groups.foldl (groupStep s) p
  p1.eachPoint (fun n x => if p1.c cPOINT n 0x32 = 0xFF then { x with firstUp := false } else x)

/-! ### Step 7: horn (R284) -/

def hornPoint (p : Prov) (n : Nat) : Bool :=
  let x := p.pt n
  x.unack && !x.shelved && !x.inhibited && decide (p.c cDEVICE 0 0x2B ≤ p.severity n)

def Prov.stepHorn (p : Prov) (s : State) : Prov :=
  let ps := p.pointList
  let sounds := ps.any (fun n => hornPoint p n && candidate s p n)
  let any := ps.any (hornPoint p)
  p.engine (fun e => { e with horn := (e.horn || sounds) && any })

/-! ### Step 8: call-out (R287-R289) -/

/-- The set U of R287 is not empty. -/
def Prov.uAny (p : Prov) : Bool :=
  p.pointList.any (fun n => let x := p.pt n; x.unack && !x.shelved && !x.inhibited && p.c cPOINT n 0x25 == 1)

def Prov.enabled (p : Prov) (n : Nat) : Bool := p.c cSTATION n 0x10 == 1

/-- The duty station: that of the duty entry, if it names an enabled one. -/
def Prov.dutyStation (p : Prov) : Option Nat :=
  match p.st.engine.duty with
  | none => none
  | some d => let n := p.c cROSTER d 0x10; if n < 16 ∧ p.enabled n then some n else none

/-- Stations that are being called, as bits. -/
def Prov.calledBits (p : Prov) : Nat := maskOf ((List.range 16).filter (fun n => (p.station n).called))

/-- The attending station, 0xFF none. -/
def Prov.attendingNo (p : Prov) : Nat := ((List.range 16).find? (fun n => (p.station n).attending)).getD 0xFF

/-- A CALLOUT event and its record (R296, R297, Table ALM-7, Table REC-2). -/
def Prov.callEvent (s : State) (p : Prov) (cause : Nat) (station : Option Nat) : Prov :=
  let e := p.st.engine
  let o : Word := match station with | some n => oid 0 cSTATION n 0 | none => 0
  let p1 := p.addEvent 3 o
    (toLe 1 e.callout ++ toLe 1 (e.duty.getD 0xFF) ++ toLe 2 p.calledBits ++ toLe 1 cause ++ toLe 1 p.attendingNo ++ toLe 2 0)
  p1.addRecord (s.sysOcc 1012 (if cause = 6 then 7 else 4) o
    (toLe 1 e.callout ++ toLe 1 cause ++ toLe 1 (station.getD 0xFF) ++ toLe 1 p.attendingNo))

/-- Set who is called in the present state; a change of state ends silence at every station (R290). A new call is counted. -/
def Prov.callStations (p : Prov) (l : List Nat) (newState : Bool) : Prov :=
  (List.range 16).foldl (fun q n =>
    let x := q.station n
    let c := l.contains n
    q.setStation n { x with
      called := c, silenced := x.silenced && !newState && c, attending := x.attending && q.st.engine.callout == 4 && !c,
      callCount := if c ∧ ¬ x.called then inc32 x.callCount else x.callCount }) p

/-- The one station of a list that is not being called yet, if there is just one (notes/assumptions/66.md). -/
def Prov.soleNew (p : Prov) (l : List Nat) : Option Nat :=
  match l.filter (fun n => !(p.station n).called) with
  | [n] => some n
  | _ => none

/-- Enter a call-out state: one event, which names the station concerned, or the one station that it begins to call. -/
def Prov.enterCall (s : State) (p : Prov) (st : Nat) (l : List Nat) (cause : Nat) (station : Option Nat) : Prov :=
  let p1 := p.engine (fun e => { e with callout := st, entered := p.frame, accepted := none })
  Prov.callEvent s (p1.callStations l true) cause (if station.isSome then station else p.soleNew l)

def Prov.allEnabled (p : Prov) : List Nat := (List.range 16).filter p.enabled

/-- Enter DUTY_CALL with a duty station, else ALL_CALL. -/
def Prov.startCall (s : State) (p : Prov) (cause : Nat) : Prov :=
  match p.dutyStation with
  | some d => Prov.enterCall s p 2 [d] cause (some d)
  | none => Prov.enterCall s p 3 p.allEnabled 2 none

/-- The call delay in seconds: the duty station's, else the lowest enabled station's (R287). -/
def Prov.callDelay (p : Prov) : Nat :=
  match p.dutyStation with
  | some d => p.c cSTATION d 0x15
  | none => match p.allEnabled.head? with | some n => p.c cSTATION n 0x15 | none => 60

/-- CALL_DELAY_EXPIRY: the delay has elapsed in state DELAY. -/
def Prov.callDelayStep (p : Prov) (s : State) : Prov :=
  if p.st.engine.callout = 1 ∧ 100 * p.callDelay ≤ framesSince p.frame p.st.engine.uSince then Prov.startCall s p 1 else p

/-- ESCALATION_EXPIRY: ESCALATE_S without acceptance moves DUTY_CALL to ALL_CALL. -/
def Prov.escalationStep (p : Prov) (s : State) : Prov :=
  if p.st.engine.callout = 2 ∧ 100 * p.c cDEVICE 0 0x2C ≤ framesSince p.frame p.st.engine.entered then
    Prov.enterCall s p 3 p.allEnabled 2 none
  else p

/-- ATTENDANCE_EXPIRY: 600 s after acceptance with U not empty the call starts again. -/
def Prov.attendanceStep (p : Prov) (s : State) : Prov :=
  match p.st.engine.accepted with
  | some f => if p.st.engine.callout = 4 ∧ p.uAny ∧ 60000 ≤ framesSince p.frame f then Prov.startCall s p 1 else p
  | none => p

/-- A dead-man timer has expired. -/
def Prov.dmExpired (p : Prov) : Bool := (List.range 16).any (fun n => (p.station n).dmExpired)

/-- U's part in the state machine: a call starts when it fills and ends when it empties. -/
def Prov.uStep (p : Prov) (s : State) : Prov :=
  let u := p.uAny
  let c := p.st.engine.callout
  if u ∧ c = 0 then
    let p1 := p.engine (fun e => { e with callout := 1, uSince := p.frame, entered := p.frame })
    Prov.callEvent s (p1.callStations [] true) 0 none
  else if ¬ u ∧ (c = 1 ∨ c = 2 ∨ c = 4 ∨ (c = 3 ∧ ¬ p.dmExpired)) then Prov.enterCall s p 0 [] 4 none
  else p

/-- A change of duty during DUTY_CALL moves the call; the escalation runs on (R287). -/
def Prov.dutyStep (p : Prov) (s : State) : Prov :=
  if p.st.engine.callout ≠ 2 then p
  else
    match p.dutyStation with
    | none => Prov.enterCall s p 3 p.allEnabled 7 none
    | some d => if (p.station d).called then p else Prov.callEvent s (p.callStations [d] false) 7 (some d)

/-- In ALL_CALL every enabled station is called; one that is enabled meanwhile is called by an event of its own (R287, R296). -/
def Prov.allCallStep (s : State) (p : Prov) : Prov :=
  if p.st.engine.callout ≠ 3 then p
  else
    let q := p.callStations p.allEnabled false
    if p.allEnabled.all (fun n => (p.station n).called) then q else Prov.callEvent s q 2 (p.soleNew p.allEnabled)

/-- DEADMAN_WARNING of one station (R289). -/
def Prov.deadmanWarnStep (p : Prov) (s : State) (n : Nat) : Prov :=
  let x := p.station n
  match x.dmStart with
  | some f =>
    if ¬ x.dmWarned ∧ ¬ x.dmExpired ∧ 100 * p.c cDEVICE 0 0x2E ≤ framesSince p.frame f then
      let p1 := p.setStation n { x with dmWarned := true }
      Prov.callEvent s { p1 with stationChanged := p1.stationChanged ++ [n] } 5 (some n)
    else p
  | none => p

/-- Set or clear a SOURCES bit of a system point (R278). -/
def Prov.setSource (p : Prov) (pt bit : Nat) (on : Bool) : Prov :=
  let x := p.pt pt
  let m : Word := 1#32 <<< bit
  p.setPt pt { x with sources := if on then x.sources ||| m else x.sources &&& ~~~m }

/-- DEADMAN_EXPIRY of one station: SOURCES of 0x811, the point active at once, ALL_CALL (R289). -/
def Prov.deadmanExpiryStep (p : Prov) (s : State) (n : Nat) : Prov :=
  let x := p.station n
  match x.dmStart with
  | some f =>
    if ¬ x.dmExpired ∧ 100 * p.c cDEVICE 0 0x2D ≤ framesSince p.frame f then
      let p1 := (p.setStation n { x with dmExpired := true, dmWarned := true }).setSource 0x811 n true
      let y := (p1.pt 0x811).setCond true p.frame
      let p2 := p1.setPt 0x811 (if y.active ∨ y.inhibited then y else y.activate 9 p.frame s.snapStamp 0)
      let p3 := { p2 with stationChanged := p2.stationChanged ++ [n] }
      if p3.st.engine.callout = 3 then Prov.callEvent s p3 6 (some n) else Prov.enterCall s p3 3 p3.allEnabled 6 (some n)
    else p
  | none => p

/-- Step 8. -/
def Prov.stepCallout (p : Prov) (s : State) : Prov :=
  let p1 := (p.uStep s).dutyStep s
  let p2 := ((p1.callDelayStep s).escalationStep s).attendanceStep s
  let p3 := (List.range 16).foldl (fun q n => (q.deadmanWarnStep s n).deadmanExpiryStep s n) p2
  Prov.allCallStep s p3

/-! ### Step 1: roster (R286) -/

/-- Minute of ship's time. -/
def Eave.minute (e : Eave) : Nat := 60 * e.date.hour + e.date.min

/-- The entry that a minute of a weekday makes duty. -/
def Prov.scheduled (p : Prov) (weekday minute : Nat) : Option Nat :=
  (List.range 16).find? (fun n => (p.c cROSTER n 0x11).testBit weekday && p.c cROSTER n 0x12 == minute)

/-- ROSTER_SCHEDULE: on the first frame of a minute the scheduled entry becomes duty. -/
def Prov.rosterStep (p : Prov) (s : State) : Prov :=
  let m := s.eave.minute
  if p.st.engine.lastMinute = some m then p
  else
    let p1 := p.engine (fun e => { e with lastMinute := some m })
    match p1.scheduled s.eave.weekday m with
    | some n => p1.engine (fun e => { e with duty := some n })
    | none => p1

/-- Duty at READY: the entry whose scheduled start lies latest in the 7 days before (R286). -/
def State.dutyAtReady (s : State) : Option Nat :=
  let m := s.eave.minute
  let age (n d : Nat) : Nat :=
    let st := s.cfg cROSTER n 0x12
    let back := (s.eave.weekday + 7 - d) % 7
    if back = 0 then (if st ≤ m then m - st else 7 * 1440 + m - st) else 1440 * back + m - st
  let all := (List.range 16).flatMap (fun n =>
    ((List.range 7).filter (fun d => (s.cfg cROSTER n 0x11).testBit d)).map (fun d => (n, age n d)))
  match all with
  | [] => none
  | a :: as => some (as.foldl (fun x y => if y.2 < x.2 ∨ (y.2 = x.2 ∧ y.1 < x.1) then y else x) a).1

/-! ### Step 9: outputs (R182, R285, R290) -/

/-- FORCE_LIMIT_EXPIRY: forces whose limit has passed end (R182). -/
def Prov.forceStep (p : Prov) : Prov :=
  p.engine (fun e => { e with forces := e.forces.filter (fun f => !frameGe p.frame f.endsAt) })

/-- Flashing at 1 Hz. -/
def flashOn (f : Frame) : Bool := decide (f.toNat % 100 < 50)

/-- A group's lamp. -/
def groupLamp (p : Prov) (g : Nat) : Bool :=
  let ms := ((groupMembers p.st.cfg g).map p.pt).filter (fun x => !x.shelved && !x.inhibited)
  if ms.any PointSt.unack then flashOn p.frame else ms.any PointSt.active

/-- A station is in its dead-man pre-warning. -/
def StationSt.prewarn (x : StationSt) : Bool := x.dmWarned && !x.dmExpired && x.dmStart.isSome

/-- A station's lamp and buzzer (R290). -/
def stationLamp (p : Prov) (n : Nat) : Bool :=
  let x := p.station n
  if x.called ∨ x.prewarn then flashOn p.frame else x.attending
def stationBuzzer (p : Prov) (n : Nat) : Bool :=
  let x := p.station n
  if x.called then !x.silenced
  else if x.attending ∨ x.silenced then false
  else
    x.prewarn && (match x.dmStart with
      | some f => decide ((framesSince p.frame f - 100 * p.c cDEVICE 0 0x2E) % 500 < 100)
      | none => false)

/-- Output places that an attribute of a class names where a condition holds. -/
def Prov.named (p : Prov) (cls attr : Nat) (on : Nat → Bool) : List Nat :=
  (cfgIndices p.st.cfg cls attr).filterMap (fun n =>
    let o := BitVec.ofNat 32 (p.c cls n attr)
    if o ≠ 0 ∧ on n then some (16 * oidNode o + oidIndex o) else none)

/-- The output vector: the OR of every source, forced outputs in their forced state; an output of a worker that is not
admitted drives nothing (R285). -/
def Prov.outputs (p : Prov) (s : State) : List Nat :=
  let on := p.named cPOINT 0x35 (fun n => let x := p.pt n; x.active && !x.shelved && !x.inhibited)
    ++ p.named cGROUP 0x10 (groupLamp p) ++ p.named cSTATION 0x11 (stationLamp p) ++ p.named cSTATION 0x12 (stationBuzzer p)
    ++ p.named cDEVICE 0x2A (fun _ => p.st.engine.horn)
  let forced (k : Nat) : Option Force := p.st.engine.forces.find? (fun f => 16 * f.node + f.output == k)
  (List.range 256).filter (fun k =>
    (k < 16 || s.workerKnown (k / 16)) &&
      (match forced k with
        | some f => f.on
        | none => on.contains k))

/-! ### Step 9: bridge alerts (R293-R295) -/

/-- Priority of a severity: 0 alarm, 1 warning, 2 caution, 3 none. -/
def alertPrio (sev : Nat) : Nat := if 6 ≤ sev then 0 else if 4 ≤ sev then 1 else if 2 ≤ sev then 2 else 3

/-- The alert state of a point: 0 N, 1 V, 2 S, 3 A, 4 U. A caution has only active, sent as A, and N (notes/assumptions/25.md). -/
def Prov.alertOf (p : Prov) (n : Nat) : Nat :=
  let x := p.pt n
  let pr := alertPrio (p.severity n)
  if p.c cPOINT n 0x36 = 0 ∨ pr = 3 ∨ x.shelved ∨ x.inhibited then 0
  else if pr = 2 then (if x.active then 3 else 0)
  else if x.active then
    if ¬ x.unack then 3
    else
      match x.silenceEnd with
      | some f => if frameGe p.frame f then 1 else 2
      | none => 1
  else if x.unack then 4 else 0

/-- An ALF waits for its point. -/
def Prov.sendAlf (p : Prov) (n : Nat) : Prov := { p with sentences := p.sentences ++ [{ kind := 0, point := n, text := [] }] }

/-- An alert's state changes: the revision rises and ALF leaves (R294). A silence that has ended is forgotten. -/
def alertStep (p : Prov) (n : Nat) : Prov :=
  let x := p.pt n
  let a := p.alertOf n
  let quiet := match x.silenceEnd with
    | some f => if frameGe p.frame f ∨ ¬ x.unack then none else some f
    | none => none
  if a = x.alert then if quiet = x.silenceEnd then p else p.setPt n { x with silenceEnd := quiet }
  else (p.setPt n { x with alert := a, alfRev := x.alfRev % 99 + 1, alfFrame := p.frame, silenceEnd := quiet }).sendAlf n

/-- ALF_REPEAT: 60 s after the last ALF of an alert that is not N (R294). -/
def alfRepeatStep (p : Prov) (n : Nat) : Prov :=
  let x := p.pt n
  if x.alert ≠ 0 ∧ 6000 ≤ framesSince p.frame x.alfFrame then (p.setPt n { x with alfFrame := p.frame }).sendAlf n else p

/-- ALC_LIST: every 30 s while an alert is not N (R294). -/
def Prov.alcStep (p : Prov) (s : State) : Prov :=
  if p.pointList.any (fun n => (p.pt n).alert != 0) ∧ 3000 ≤ framesSince p.frame s.hw.lastAlc
    ∧ ¬ p.sentences.any (fun x => x.kind == 1) then
    { p with sentences := p.sentences ++ [{ kind := 1, point := 0, text := [] }] }
  else p

/-! ### Step 9: events and records (R296, R297) -/

/-- POINT event DATA (Table ALM-7). -/
def pointData (p : Prov) (n : Nat) : List Byte :=
  let x := p.pt n
  toLe 1 x.stateByte ++ toLe 1 x.sub ++ toLe 1 (p.severity n) ++ toLe 1 x.cause ++ toLe 5 x.chBatten.toNat ++ [0]
    ++ toLe 4 x.chSec ++ toLe 4 (ofSigned 4 x.value)

/-- The event and the record of one point whose STATE changed against the state pegged before. -/
def tellPoint (s : State) (p : Prov) (n : Nat) : Prov :=
  let x := p.pt n
  let was := s.pointSt n
  let low := x.low != was.low
  if ¬ (low ∨ x.sensorFault ≠ was.sensorFault) then p
  else
    let p1 := p.addEvent 1 (pointOid n) (pointData p n)
    if ¬ low then p1
    else
      let o : Occurrence :=
        { code := p.c cPOINT n 0x34, sev := p.severity n, typ := 0, object := pointOid n, sec := x.chSec, off := x.chOff, unsync := false,
          data := toLe 1 x.stateByte ++ toLe 1 x.sub ++ toLe 1 x.cause ++ [x.ackBy] }
      { p1.addRecord o with changed := p1.changed ++ [n] }

/-- GROUP event DATA as an engine and a configuration give it. -/
def groupData (cfg : Sparse Nat) (e : Engine) (g : Nat) : List Byte :=
  let ps := (groupMembers cfg g).map (sget PointSt.idle e.points)
  let act := (ps.filter PointSt.active).length
  let un := (ps.filter PointSt.unack).length
  toLe 1 (b2n (act != 0) + 2 * b2n (un != 0)) ++ [0] ++ toLe 2 (sget 0xFFFF e.firstUp g) ++ toLe 2 act ++ toLe 2 un

/-- A GROUP event when the group's state or first-up changes (R296). -/
def tellGroup (s : State) (p : Prov) (g : Nat) : Prov :=
  let new := groupData p.st.cfg p.st.engine g
  let old := groupData s.peg.cfg s.peg.engine g
  if new.take 4 = old.take 4 then p else p.addEvent 2 (oid 0 cGROUP g 0) new

/-! ### Step 10 (R335) -/

/-- STATE of every point in index order, from the sparse table. -/
def stateBytes : Nat → Nat → Sparse PointSt → List Byte
  | 0, _, _ => []
  | k + 1, i, (j, x) :: m => if i = j then BitVec.ofNat 8 x.stateByte :: stateBytes k (i + 1) m else 0 :: stateBytes k (i + 1) ((j, x) :: m)
  | k + 1, i, [] => 0 :: stateBytes k (i + 1) []

/-- Output words of the sixteen node fields. -/
def outputWords (e : Engine) : List Byte :=
  (List.range 16).flatMap (fun n => toLe 2 (maskOf ((List.range 12).filter (fun o => e.outputs.contains (16 * n + o)))))

/-- What the frame digest covers. -/
def digestInput (frame : Frame) (st : Pegged) (applied : Nat) : List Byte :=
  let e := st.engine
  toLe 4 frame.toNat ++ toLe 4 st.gen.toNat ++ toLe 2 applied ++ outputWords e ++ stateBytes 2080 0 e.points
    ++ toLe 1 e.callout ++ toLe 1 (e.duty.getD 0xFF) ++ toLe 1 (b2n e.horn)
    ++ (List.range 16).flatMap (fun n => let x := sget StationSt.idle e.stations n; toLe 1 x.callCode ++ toLe 1 x.dmCode)

/-- The frame digest: the first 8 bytes of SHA-256 as a little-endian number. -/
def frameDigest (frame : Frame) (st : Pegged) (applied : Nat) : Nat := leNat ((sha256 (digestInput frame st applied)).take 8)

/-! ### The steps after the batch -/

/-- System points whose fact is itself pegged state: seal broken (R149), output forced (R182) and measurement disagreement
(R211, R221); the units' bits (notes/assumptions/26.md). -/
def Prov.ownFacts (p : Prov) (s : State) : Prov :=
  let bits : List Nat := if s.pair.bound then [0, 1] else [b2n s.unitB]
  let put (q : Prov) (pt : Nat) (on : Bool) : Prov := bits.foldl (fun q b => q.setSource pt b on) q
  let forced := put (put p 0x803 (brokenSeals p.st.seals != 0)) 0x80D (p.st.engine.forces.any (fun f => f.node == 0))
  (forced.setSource 0x80E 0 (p.st.disagree.any (fun k => decide (k < 128)))).setSource 0x80E 1
    (p.st.disagree.any (fun k => decide (128 ≤ k)))

/-- Steps 3 to 9 over a provisional result whose batch has been applied. -/
def Prov.evaluate (p : Prov) (s : State) : Prov :=
  let p1 := p.ruleList.foldl (evalRule s) p
  let p2 := (p1.forceStep).ownFacts s
  let p3 := p2.eachPoint (fun n x => evalPoint s p2 n x)
  let p4 := p3.eachPoint (fun n x => delaysPt s p3 n x)
  let p5 := (p4.stepGroups s).stepHorn s
  let p6 := ((p5.stepCallout s).stepGroups s).stepHorn s
  let p7 := p6.engine (fun e => { e with outputs := p6.outputs s })
  let ps := p7.pointList
  let p8 := (ps.foldl alertStep p7)
  let p9 := (ps.foldl alfRepeatStep p8).alcStep s
  let p10 := ps.foldl (tellPoint s) p9
  let p11 := p10.groups.foldl (tellGroup s) p10
  let p12 : Prov := { p11 with st := { p11.st with ain := s.ain, din := s.din } }
  { p12 with digest := frameDigest p12.frame p12.st p12.applied }

end Sys2Proof.Machine
end

