-- ==== Sys2Proof/Machine/AlarmCmds.lean ====
section
/-! DEFINITION. The ALARM family and the forcing of outputs (R182, R183, R282-R289, Tables CMD-7 to CMD-9). -/

namespace Sys2Proof.Machine

/-- EFFECT. -/
def effect (b : Bool) : List Byte := [BitVec.ofNat 8 (b2n b)]

/-! ### ACK -/

/-- Acknowledge one point if it is unacknowledged. -/
def ackPoint (s : State) (actor : Nat) (p : Prov) (n : Nat) : Prov :=
  let x := p.pt n
  if x.unack then p.setPt n (x.acked actor p.frame s.snapStamp) else p

/-- The points that an ACK names. -/
def ackTargets (p : Prov) (r : Req) : List Nat :=
  if oidClass r.target = cGROUP then groupMembers p.st.cfg (oidIndex r.target) else [oidIndex r.target]

/-- ACK at its peg (R283). -/
def applyAck (s : State) (p : Prov) (i : BatchItem) (r : Req) : Applied :=
  let ns := ackTargets p r
  (ns.foldl (ackPoint s i.actor) p).ok (effect (ns.any (fun n => (p.pt n).unack)))

def cmdAck : Cmd :=
  { op := 0x0400, access := targetX, sealed := noSeal, priv := noSeal,
    check := fun _ _ r => need (lenIs 0 r && (targetIs cPOINT r || targetIs cGROUP r)), run := runP }

/-- ACK (R283). -/
def execAck (r : Req) (s : State) : Host.Outcome State Fault Refusal := .next (s.execute cmdAck r)

/-! ### SILENCE -/

/-- SILENCE at its peg: the horn, or a station's buzzer (R284, R290). -/
def applySilence (_ : State) (p : Prov) (_ : BatchItem) (r : Req) : Applied :=
  if r.target = 0 then
    (p.engine (fun e => { e with horn := false })).ok (effect p.st.engine.horn)
  else
    let n := oidIndex r.target
    let x := p.station n
    let does := !x.silenced && (x.called || x.prewarn)
    (if does then { p.setStation n { x with silenced := true } with stationChanged := p.stationChanged ++ [n] } else p).ok (effect does)

def cmdSilence : Cmd :=
  { op := 0x0401, access := fun s w r => if r.target = 0 then s.may w cDEVICE 15 bX else targetX s w r, sealed := noSeal,
    priv := noSeal, check := fun _ _ r => need (lenIs 0 r && (r.target == 0 || targetIs cSTATION r)), run := runP }

/-- SILENCE (R284, R290). -/
def execSilence (r : Req) (s : State) : Host.Outcome State Fault Refusal := .next (s.execute cmdSilence r)

/-! ### SHELVE, UNSHELVE -/

/-- SHELVE at its peg (R282). -/
def applyShelve (s : State) (p : Prov) (_ : BatchItem) (r : Req) : Applied :=
  let n := oidIndex r.target
  let d := leAt r.params 0 2
  if p.c cPOINT n 0x24 < d then p.refuse .badParam
  else
    let x := p.pt n
    let end_ := p.frame + BitVec.ofNat 32 (100 * d)
    let y := { x with shelved := true, shelveEnd := end_ }
    (p.setPt n (if x.shelved then y else y.stamp p.frame s.snapStamp 2)).ok
      (effect (!x.shelved || x.shelveEnd != end_) ++ toLe 4 end_.toNat)

def cmdShelve : Cmd :=
  { op := 0x0402, access := xObj cPOINT, sealed := noSeal, priv := noSeal,
    check := fun s _ r =>
      need (lenIs 2 r && targetIs cPOINT r && decide (1 ≤ leAt r.params 0 2 ∧ leAt r.params 0 2 ≤ s.cfg cPOINT (oidIndex r.target) 0x24)),
    run := runP }

/-- SHELVE (R282). -/
def execShelve (r : Req) (s : State) : Host.Outcome State Fault Refusal := .next (s.execute cmdShelve r)

/-- UNSHELVE at its peg (R282). -/
def applyUnshelve (s : State) (p : Prov) (_ : BatchItem) (r : Req) : Applied :=
  let n := oidIndex r.target
  let x := p.pt n
  (if x.shelved then p.setPt n { x.stamp p.frame s.snapStamp 3 with shelved := false, shelveEnd := 0 } else p).ok (effect x.shelved)

def cmdUnshelve : Cmd :=
  { op := 0x0403, access := xObj cPOINT, sealed := noSeal, priv := noSeal,
    check := fun _ _ r => need (lenIs 0 r && targetIs cPOINT r), run := runP }

/-- UNSHELVE (R282). -/
def execUnshelve (r : Req) (s : State) : Host.Outcome State Fault Refusal := .next (s.execute cmdUnshelve r)

/-! ### DUTY_SELECT, CALL_ACCEPT -/

/-- DUTY_SELECT at its peg (R286). -/
def applyDutySelect (_ : State) (p : Prov) (_ : BatchItem) (r : Req) : Applied :=
  let n := oidIndex r.target
  if p.c cROSTER n 0x10 = 0xFF then p.refuse .badState
  else (p.engine (fun e => { e with duty := some n })).ok (effect (p.st.engine.duty != some n))

def cmdDutySelect : Cmd :=
  { op := 0x0410, access := xObj cROSTER, sealed := noSeal, priv := noSeal,
    check := fun s _ r =>
      if ¬ (lenIs 0 r && targetIs cROSTER r) then some .badParam
      else if s.cfg cROSTER (oidIndex r.target) 0x10 = 0xFF then some .badState else none
    run := runP }

/-- DUTY_SELECT (R286). -/
def execDutySelect (r : Req) (s : State) : Host.Outcome State Fault Refusal := .next (s.execute cmdDutySelect r)

/-- A station accepts the call and attends (R287, R288). -/
def acceptCall (s : State) (p : Prov) (n : Nat) : Prov :=
  let p1 := p.engine (fun e => { e with callout := 4, entered := p.frame, accepted := some p.frame })
  let p2 := p1.callStations [] true
  Prov.callEvent s (p2.setStation n { p2.station n with attending := true }) 3 (some n)

/-- CALL_ACCEPT at its peg (R288): refused unless its station is being called; a second acceptance in one frame has
EFFECT 0 (Table ALM-5). -/
def applyCallAccept (s : State) (p : Prov) (_ : BatchItem) (r : Req) : Applied :=
  let n := oidIndex r.target
  if ¬ p.enabled n then p.refuse .badState
  else if (p.station n).called then (acceptCall s p n).ok (effect true)
  else if p.st.engine.accepted = some p.frame ∧ (s.stationSt n).called then p.ok (effect false)
  else p.refuse .badState

def cmdCallAccept : Cmd :=
  { op := 0x0411, access := xObj cSTATION, sealed := noSeal, priv := noSeal,
    check := fun _ _ r => need (lenIs 0 r && targetIs cSTATION r), run := runP }

/-- CALL_ACCEPT (R288). -/
def execCallAccept (r : Req) (s : State) : Host.Outcome State Fault Refusal := .next (s.execute cmdCallAccept r)

/-! ### DEADMAN_RESET (R289) -/

/-- DEADMAN_RESET at its peg. An expired timer counts as running; restart, start and stop clear its SOURCES bit. -/
def applyDeadman (_ : State) (p : Prov) (_ : BatchItem) (r : Req) : Applied :=
  let n := oidIndex r.target
  let a := byteAt r.params 0
  let x := p.station n
  if a ≠ 1 ∧ x.dmStart.isNone then p.refuse .badState
  else
    let y := { x with dmStart := if a = 2 then none else some p.frame, dmWarned := false, dmExpired := false }
    let p1 := (p.setStation n y).setSource 0x811 n false
    { p1 with stationChanged := p1.stationChanged ++ [n] }.ok (effect true)

def deadmanCheck (a : Nat) (_ : State) (_ : Who) (r : Req) : Option Status :=
  need (lenIs 1 r && byteAt r.params 0 == a && targetIs cSTATION r)

def cmdDeadmanResetRestart : Cmd :=
  { op := 0x0412, access := xObj cSTATION, sealed := noSeal, priv := noSeal, check := deadmanCheck 0, run := runP }

/-- DEADMAN_RESET restart. -/
def execDeadmanResetRestart (r : Req) (s : State) : Host.Outcome State Fault Refusal := .next (s.execute cmdDeadmanResetRestart r)

def cmdDeadmanResetStart : Cmd :=
  { op := 0x0412, access := xObj cSTATION, sealed := noSeal, priv := noSeal, check := deadmanCheck 1, run := runP }

/-- DEADMAN_RESET start. -/
def execDeadmanResetStart (r : Req) (s : State) : Host.Outcome State Fault Refusal := .next (s.execute cmdDeadmanResetStart r)

def cmdDeadmanResetStop : Cmd :=
  { op := 0x0412, access := xObj cSTATION, sealed := noSeal, priv := noSeal, check := deadmanCheck 2, run := runP }

/-- DEADMAN_RESET stop. -/
def execDeadmanResetStop (r : Req) (s : State) : Host.Outcome State Fault Refusal := .next (s.execute cmdDeadmanResetStop r)

/-! ### ALARM_LIST (R183) -/

/-- The entry of one point. -/
def listEntry (s : State) (n : Nat) : List Byte :=
  let x := s.pointSt n
  toLe 2 n ++ toLe 1 x.low ++ toLe 1 (s.provNow.severity n) ++ toLe 4 x.chFrame.toNat

/-- The points of an ALARM_LIST: pegged state from the first index on, any set bit of the filter selects. -/
def listPoints (s : State) (r : Req) : List Nat :=
  let f := BitVec.ofNat 4 (byteAt r.params 0)
  ((s.peg.engine.points.filter (fun e => decide (oidIndex r.target ≤ e.1) && (BitVec.ofNat 4 e.2.low &&& f) != 0)).map Prod.fst).take
    (leAt r.params 1 2)

def cmdAlarmList : Cmd :=
  { op := 0x0420, access := rObj cPOINT 0, sealed := noSeal, priv := noSeal,
    check := fun _ _ r => need (lenIs 3 r && targetIs cPOINT r && decide (byteAt r.params 0 < 16)),
    run := fun s t _ =>
      let ns := listPoints s t.req
      let v := toLe 2 ns.length ++ ns.flatMap (listEntry s)
      s.answerF t .done v (getCount v.length) }

/-- ALARM_LIST (R183). -/
def execAlarmList (r : Req) (s : State) : Host.Outcome State Fault Refusal := .next (s.execute cmdAlarmList r)

/-! ### OUTPUT_FORCE, OUTPUT_RELEASE (R182) -/

/-- OUTPUT_FORCE at its peg: a second force replaces the state and restarts the limit. EFFECT is 1 if the output's bit in the
vector pegged before differs from the forced state. -/
def applyOutputForce (s : State) (p : Prov) (_ : BatchItem) (r : Req) : Applied :=
  let o := oidIndex r.target
  let on := byteAt r.params 0 == 1
  let f : Force := { node := 0, output := o, on := on, endsAt := p.frame + BitVec.ofNat 32 (100 * leAt r.params 1 2) }
  (p.engine (fun e => { e with forces := e.forces.filter (fun x => !(x.node == 0 && x.output == o)) ++ [f] })).ok
    (effect (outputBit s.peg.engine r.target != on))

def cmdOutputForce : Cmd :=
  { op := 0x0310, access := xObj cDOUT, sealed := groupSealed, priv := noSeal,
    check := fun _ _ r =>
      need (lenIs 3 r && targetIs cDOUT r && decide (byteAt r.params 0 ≤ 1) && within (leAt r.params 1 2) 1 3600),
    run := runP }

/-- OUTPUT_FORCE (R182). -/
def execOutputForce (r : Req) (s : State) : Host.Outcome State Fault Refusal := .next (s.execute cmdOutputForce r)

/-- OUTPUT_RELEASE at its peg: the force ends; EFFECT is known when the frame's output vector is (`Prov.releaseEffects`). -/
def applyOutputRelease (_ : State) (p : Prov) (_ : BatchItem) (r : Req) : Applied :=
  let o := oidIndex r.target
  (p.engine (fun e => { e with forces := e.forces.filter (fun x => !(x.node == 0 && x.output == o)) })).ok (effect false)

def cmdOutputRelease : Cmd :=
  { op := 0x0311, access := xObj cDOUT, sealed := groupSealed, priv := noSeal,
    check := fun _ _ r => need (lenIs 0 r && targetIs cDOUT r), run := runP }

/-- OUTPUT_RELEASE (R182). -/
def execOutputRelease (r : Req) (s : State) : Host.Outcome State Fault Refusal := .next (s.execute cmdOutputRelease r)

end Sys2Proof.Machine
end

