-- ==== Sys2Proof/Machine/TimeCmds.lean ====
section
/-! DEFINITION. The TIME family (R184, R253, R254, R259, R262, R263, Table CMD-10). The class-P members take effect at
their peg: an applier decides the status against the clock as the batch's earlier items leave it, and the peg moves the
clock. -/

namespace Sys2Proof.Machine

/-! ### The clock at a peg -/

/-- The fields moved by an hour, if they stay within 2000 to 2399 (R253). -/
def Eave.hourMoved (e : Eave) (add : Bool) : Option Date :=
  let n := dateSecs e.date
  if add then (if n + 3600 < calendarEnd then some (secsDate (n + 3600)) else none)
  else if 3600 ≤ n then some (secsDate (n - 3600)) else none

/-- What a TIME effect does to the clock at batten count t and State.time `now` (R253, R254, R263). -/
def Eave.timeEffect (e : Eave) (t : Batten) (now : Nat) (x : Effect) : Eave :=
  match x with
  | .timeSet f =>
    match dateOfBcd (f.map (BitVec.ofNat 8)) with
    | some d => { e.markAt e.seconds t now with date := d, slew := 0, slewOn := false, valid := true }
    | none => e
  | .timeShift n => { e with slew := n, slewOn := false }
  | .hourAdd =>
    match e.hourMoved true with
    | some d => { e.moveTo d with dst := true }
    | none => e
  | .hourSub =>
    match e.hourMoved false with
    | some d => { e.moveTo d with dst := false }
    | none => e
  | .weekdaySet d => { e with weekday := d }
  | .wakeSet first interval evt =>
    { e with wakeNext := first, wakeInterval := interval, wakeEvt := BitVec.ofNat 2 evt }
  | _ => e

/-- The clock as the effects of a batch leave it. -/
def State.eaveUnder (s : State) (p : Prov) : Eave := p.effects.foldl (fun e x => e.timeEffect s.clk.batten s.time x) s.eave

/-! ### TIME_SET -/

/-- A date and time that TIME_SET may load: valid, and with SECONDS at least 0 (R253). -/
def timeOk (dst : Bool) (params : List Byte) : Bool :=
  match dateOfBcd params with
  | some d => !dst || decide (3600 ≤ dateSecs d)
  | none => false

/-- TIME_SET at its peg. -/
def applyTimeSet (s : State) (p : Prov) (_ : BatchItem) (r : Req) : Applied :=
  if timeOk (s.eaveUnder p).dst r.params then (p.addEffect (.timeSet (r.params.map BitVec.toNat))).ok [] else p.refuse .badParam

def cmdTimeSet : Cmd :=
  { op := 0x0500, access := xRight cCLOCK, sealed := noSeal, priv := noSeal,
    check := fun s _ r => need (lenIs 7 r && timeOk s.eave.dst r.params), run := runP }

/-- TIME_SET (R253). -/
def execTimeSet (r : Req) (s : State) : Host.Outcome State Fault Refusal := .next (s.execute cmdTimeSet r)

/-! ### TIME_SHIFT -/

/-- TIME_SHIFT's n. -/
def shiftOf (r : Req) : Int := signedOf 4 (leAt r.params 0 4)

/-- TIME_SHIFT at its peg: BAD_STATE while a slew runs or an earlier item of the batch started one; n = 0 changes nothing
(R254). -/
def applyTimeShift (s : State) (p : Prov) (_ : BatchItem) (r : Req) : Applied :=
  if (s.eaveUnder p).slew ≠ 0 then p.refuse .badState
  else if shiftOf r = 0 then p.ok [] else (p.addEffect (.timeShift (shiftOf r))).ok []

def cmdTimeShift : Cmd :=
  { op := 0x0501, access := xRight cCLOCK, sealed := noSeal, priv := noSeal,
    check := fun _ _ r => need (lenIs 4 r && decide (-32768 ≤ shiftOf r ∧ shiftOf r ≤ 32768)), run := runP }

/-- TIME_SHIFT (R254). -/
def execTimeShift (r : Req) (s : State) : Host.Outcome State Fault Refusal := .next (s.execute cmdTimeShift r)

/-! ### HOUR_ADD, HOUR_SUB -/

/-- HOUR_ADD at its peg: BAD_STATE if DST is set or the move would leave the calendar (R253). -/
def applyHourAdd (s : State) (p : Prov) (_ : BatchItem) (_ : Req) : Applied :=
  let e := s.eaveUnder p
  if e.dst ∨ (e.hourMoved true).isNone then p.refuse .badState else (p.addEffect .hourAdd).ok []

def cmdHourAdd : Cmd :=
  { op := 0x0502, access := xRight cCLOCK, sealed := noSeal, priv := noSeal, check := fun _ _ r => need (lenIs 0 r), run := runP }

/-- HOUR_ADD (R253). -/
def execHourAdd (r : Req) (s : State) : Host.Outcome State Fault Refusal := .next (s.execute cmdHourAdd r)

/-- HOUR_SUB at its peg: BAD_STATE if DST is clear or the move would leave the calendar (R253). -/
def applyHourSub (s : State) (p : Prov) (_ : BatchItem) (_ : Req) : Applied :=
  let e := s.eaveUnder p
  if ¬ e.dst ∨ (e.hourMoved false).isNone then p.refuse .badState else (p.addEffect .hourSub).ok []

def cmdHourSub : Cmd :=
  { op := 0x0503, access := xRight cCLOCK, sealed := noSeal, priv := noSeal, check := fun _ _ r => need (lenIs 0 r), run := runP }

/-- HOUR_SUB (R253). -/
def execHourSub (r : Req) (s : State) : Host.Outcome State Fault Refusal := .next (s.execute cmdHourSub r)

/-! ### WEEKDAY_SET -/

def applyWeekdaySet (_ : State) (p : Prov) (_ : BatchItem) (r : Req) : Applied :=
  (p.addEffect (.weekdaySet (byteAt r.params 0))).ok []

def cmdWeekdaySet : Cmd :=
  { op := 0x0504, access := xRight cCLOCK, sealed := noSeal, priv := noSeal,
    check := fun _ _ r => need (lenIs 1 r && decide (byteAt r.params 0 ≤ 6)), run := runP }

/-- WEEKDAY_SET (R253, R255). -/
def execWeekdaySet (r : Req) (s : State) : Host.Outcome State Fault Refusal := .next (s.execute cmdWeekdaySet r)

/-! ### CHARGER_SET -/

/-- The state of the charger after its setting: it charges while VIO is there (R259). -/
def chargerStart (code : Nat) : Nat := if code % 8 = 0 then 0 else 1

/-- CHARGER_SET's effect: the setting goes to EAVE and to NV (R259). -/
def State.setCharger (s : State) (v : Nat) : State :=
  { s with eave := { s.eave with
      charger := BitVec.ofNat 8 v, chargerNv := BitVec.ofNat 8 v, chargerState := chargerStart v, chargerAt := s.time } }

def cmdChargerSet : Cmd :=
  { op := 0x0510, access := xRight cCLOCK, sealed := noSeal, priv := noSeal,
    check := fun _ _ r => need (lenIs 2 r && decide (byteAt r.params 0 ≤ 4 ∧ byteAt r.params 1 ≤ 2)),
    run := fun s t _ =>
      (s.setCharger (byteAt t.req.params 0 + 8 * byteAt t.req.params 1)).answerF t .done [] 16 }

/-- CHARGER_SET (R259). -/
def execChargerSet (r : Req) (s : State) : Host.Outcome State Fault Refusal := .next (s.execute cmdChargerSet r)

/-! ### WAKE_SET -/

/-- A first wake that lies later than SECONDS, less than 2^31 seconds ahead (R248, R263). -/
def wakeAhead (now first : Nat) : Bool :=
  let d := (first + 2 ^ 32 - now % 2 ^ 32) % 2 ^ 32
  decide (0 < d ∧ d < 2 ^ 31)

def applyWakeSet (_ : State) (p : Prov) (_ : BatchItem) (r : Req) : Applied :=
  (p.addEffect (.wakeSet (leAt r.params 0 4) (leAt r.params 4 2) (byteAt r.params 6))).ok []

def cmdWakeSet : Cmd :=
  { op := 0x0511, access := xRight cCLOCK, sealed := noSeal, priv := noSeal,
    check := fun s _ r =>
      need (lenIs 7 r && wakeAhead s.secNow (leAt r.params 0 4) && decide (leAt r.params 4 2 ≤ 10080 ∧ byteAt r.params 6 ≤ 3)),
    run := runP }

/-- WAKE_SET (R263). -/
def execWakeSet (r : Req) (s : State) : Host.Outcome State Fault Refusal := .next (s.execute cmdWakeSet r)

/-! ### BACKUP_EVENTS_READ -/

/-- One entry's 8 bytes (Table CMD-10). -/
def EvtEntry.bytes (input : Nat) (e : EvtEntry) : List Byte :=
  toLe 4 e.sec ++ toLe 2 e.frac ++ toLe 1 input ++ toLe 1 (b2n e.rising)

/-- A drain removes the recorded entries that were returned; an overflow bit clears when the FIFO is empty (R262). -/
def EvtIn.drained (x : EvtIn) : EvtIn :=
  let rest := x.fifo.filter (fun e => !e.recorded)
  { x with fifo := rest, overflow := x.overflow && !rest.isEmpty }

def Eave.backupBytes (e : Eave) : List Byte :=
  toLe 1 e.evt0.fifo.length ++ toLe 1 e.evt1.fifo.length ++ toLe 1 e.overflowBits ++ [0]
    ++ e.evt0.fifo.flatMap (EvtEntry.bytes 0) ++ e.evt1.fifo.flatMap (EvtEntry.bytes 1)

def cmdBackupEventsRead : Cmd :=
  { op := 0x0512, access := rRight cCLOCK 1, sealed := noSeal, priv := noSeal,
    check := fun _ _ r => need (lenIs 1 r && decide (byteAt r.params 0 ≤ 1)),
    run := fun s t _ =>
      let s1 := s.answerF t .done s.eave.backupBytes 40
      if byteAt t.req.params 0 = 1 then
        { s1 with eave := { s1.eave with evt0 := s1.eave.evt0.drained, evt1 := s1.eave.evt1.drained } }
      else s1 }

/-- BACKUP_EVENTS_READ (R262). -/
def execBackupEventsRead (r : Req) (s : State) : Host.Outcome State Fault Refusal := .next (s.execute cmdBackupEventsRead r)

end Sys2Proof.Machine
end

