-- ==== Sys2Proof/Machine/Rtc.lean ====
section
/-! DEFINITION. The RTC's own events (R249-R251, R254, R256-R258), the trickle charger (R259), the backup event inputs
(R261, R262), wake and PWRON (R55, R56, R263). -/

namespace Sys2Proof.Machine

/-! ### Seconds (R249, R251, R254) -/

/-- The slew after a second that it may have changed: each second of it takes up to 2048 counts (R254). -/
def slewLeft (n : Int) : Int := if 2048 ≤ n then n - 2048 else if n ≤ -2048 then n + 2048 else 0

/-- The second boundary in EAVE. A slew begins with the first second that starts after it was ordered. -/
def Eave.second (e : Eave) (time : Nat) : Eave :=
  let n := if e.slewOn then slewLeft e.slew else e.slew
  { e.nextSecond with secondAt := time, slew := n, slewOn := decide (n ≠ 0) }

/-- RTC_SECOND: the fields go on, and the node out of reset marks the second on this tick. A follower that is locked takes
the leader's marks and fields instead (R256). -/
def execRtcSecond (s : State) : Host.Outcome State Fault Refusal :=
  .next (if ¬ s.sup.eave ∨ (s.alive ∧ s.clk.refState = 2) then s
    else
      let s1 : State := { s with eave := s.eave.second s.time }
      if s1.alive then s1.markSecond s.eave.seconds else s1)

/-! ### Discipline (R257, R258) -/

/-- The node keeps the system's time and disciplines it from PPS and ZDA. -/
def State.disciplines (s : State) : Bool :=
  s.alive && s.sup.eave && !s.isWorker && s.pair.leads && (s.cfg cCLOCK 0 0x20 == 1)

/-- DISC_STATE after a change of leadership, lock or SOURCE (Table TIM-3). -/
def State.discUpdate (s : State) : State :=
  let now :=
    if ¬ s.isWorker ∧ s.pair.leads then
      (if s.cfg cCLOCK 0 0x20 ≠ 1 then 1 else if 2 ≤ s.eave.discState ∧ s.eave.discState ≤ 4 then s.eave.discState else 2)
    else if s.clk.refState = 2 then 0 else if s.clk.refState = 3 then 5 else 1
  if now = s.eave.discState then s
  else { s with eave := { s.eave with discState := now, discAt := s.time, labelled := 0, lastPps := none, ppsLabelled := false, lockedSince := none } }

/-- The record of a step (Table REC-2): its time is the new time. -/
def State.steppedRecord (s : State) (old : Nat) : Occurrence :=
  { code := 1010, sev := 3, typ := 3, object := 0x02000000#32, sec := s.eave.seconds, off := 0, unsync := false,
    data := toLe 4 old }

/-- Step the RTC: the fields are loaded, VALID is set, and the step is counted and recorded (R250, R258). -/
def State.stepClock (s : State) (d : Date) : State :=
  let old := s.eave.seconds
  let e := s.eave.moveTo d
  let s1 : State := { s with eave := { e with valid := true, steps := inc32 e.steps, stepTo := none } }
  s1.later (s1.steppedRecord old)

/-- An edge that lies 12 500 000 ± 12 500 ticks after the previous valid one; the first edge starts the sequence. -/
def State.ppsValid (s : State) : Bool :=
  match s.eave.lastPps with
  | none => true
  | some m => let d := since s.clk.batten m; decide (12487500 ≤ d ∧ d ≤ 12512500)

/-- PPS_EDGE: a valid edge is noted and carries a step that waits for it; any other is counted and ignored (R258). -/
def execPpsEdge (s : State) : Host.Outcome State Fault Refusal :=
  .next (if ¬ s.disciplines then s
    else if ¬ s.ppsValid then { s with eave := { s.eave with ppsErrors := inc32 s.eave.ppsErrors } }
    else
      let n := if s.eave.ppsLabelled then s.eave.labelled else 0
      let s1 : State := { s with eave := { s.eave with
        lastPps := some s.clk.batten, ppsLabelled := false, labelled := n,
        discState := if s.eave.discState = 3 then 3 else 2 } }
      match s1.eave.stepTo with
      | none => s1
      | some d =>
        (s1.stepClock d).markSecond s1.eave.seconds)

/-- Seconds since 2000 of the labelled ship's time: UTC + ZONE_OFFSET_MIN + 60 min × DST (R258); none outside the
calendar. -/
def State.shipSecs (s : State) (utc : Date) : Option Nat :=
  let n : Int := (dateSecs utc : Int) + 60 * cfgInt s.peg.cfg 2 cCLOCK 0 0x21 + (if s.eave.dst then 3600 else 0)
  if 0 ≤ n ∧ n < calendarEnd then some n.toNat else none

/-- The error in ticks of a ship's time against a stamp of the RTC: both read as SECONDS (R258). -/
def State.labelError (s : State) (ship : Nat) (stamp : Nat × Nat) : Int :=
  let std := (ship + 2 ^ 32 - (if s.eave.dst then 3600 else 0)) % 2 ^ 32
  let off := if s.eave.marked then stamp.2 else s.time - s.eave.secondAt
  signedOf 4 ((std + 2 ^ 32 - stamp.1) % 2 ^ 32) * Config.ticksPerSecond - off

/-- A correction by slew, unless one runs (R254, R258). -/
def Eave.slewBy (e : Eave) (err : Int) : Eave :=
  if e.slew ≠ 0 then e else { e with slew := max (-32768) (min 32768 (Config.slewCounts err)), slewOn := false }

/-- Label the latest valid edge with a ship's time: E is corrected by slew or, above 1 s, by a step at the next valid edge;
no correction starts while a slew runs, and the third consecutive labelled edge locks (R258). -/
def State.labelEdge (s : State) (utc : Date) (ship : Nat) (edge : Batten) : State :=
  let err := s.labelError ship (s.stampAt edge)
  let n := s.eave.labelled + 1
  let lock := decide (3 ≤ n)
  let e : Eave := { s.eave with
    ppsLabelled := true, labelled := n, lastOffset := clip32 err, label := some utc,
    discState := if lock then 3 else s.eave.discState,
    lockedSince := if lock ∧ s.eave.discState ≠ 3 then some s.time else s.eave.lockedSince }
  if err.natAbs ≤ Config.ticksPerSecond then { s with eave := e.slewBy err }
  else if e.slew = 0 ∧ ship + 1 < calendarEnd then { s with eave := { e with stepTo := some (secsDate (ship + 1)) } } else { s with eave := e }

/-- A time label in UTC arrives (R258, R401): 10 to 900 ms after the latest valid edge it labels that edge; in ZDA_ONLY it
corrects errors of 2 s or more by a step. -/
def State.timeLabel (s : State) (utc : Date) : State :=
  if ¬ s.disciplines ∨ ¬ dateOk utc then s
  else
    match s.shipSecs utc with
    | none => s
    | some ship =>
      if s.eave.discState = 4 then
        let err := s.labelError ship (s.secNow, s.offNow)
        if 2 * Config.ticksPerSecond ≤ err.natAbs ∧ s.eave.slew = 0 then (s.stepClock (secsDate ship)).markSecond s.eave.seconds else s
      else
        match s.eave.lastPps with
        | none => s
        | some edge =>
          let d := since s.clk.batten edge
          if s.eave.ppsLabelled ∨ d < msTicks 10 ∨ msTicks 900 < d then s else s.labelEdge utc ship edge

/-- ZDA_ONLY: no valid PPS edge for 3 s (R258). -/
def execZdaOnly (s : State) : Host.Outcome State Fault Refusal :=
  let quiet : Nat := match s.eave.lastPps with
    | some m => since s.clk.batten m
    | none => s.passed s.eave.discAt
  .next (if s.disciplines ∧ 3 * Config.ticksPerSecond ≤ quiet then
    { s with eave := { s.eave with discState := 4, lastPps := none, ppsLabelled := false, labelled := 0, lockedSince := none } }
  else s)

/-- RTC_TRIM_UPDATE: after a whole hour of LOCKED the trim takes the measured rate, within its range (R258, Table TIM-3). -/
def execRtcTrimUpdate (ppm : Int) (s : State) : Host.Outcome State Fault Refusal :=
  .next (match s.eave.lockedSince with
    | some t =>
      if s.disciplines ∧ s.eave.discState = 3 ∧ 3600 * Config.ticksPerSecond ≤ s.passed t then
        { s with eave := { s.eave with trim := max (-127) (min 127 ppm), lockedSince := some s.time } }
      else s
    | none => s)

/-- A follower takes the leader's time (R256): fields, weekday, DST, VALID and the latest mark. When it first locks, a
difference in SECONDS counts one step and writes a gutter entry of kind 0x09. A mark of 0 is that of a leader without one
(Table TIM-3, SECOND_MARK). -/
def State.takeTime (s : State) (d : Date) (dst : Bool) (weekday : Nat) (valid : Bool) (mark : Option Batten)
    (first : Bool) : State :=
  let old := s.eave.seconds
  let e : Eave := { s.eave with date := d, dst := dst, weekday := weekday, valid := valid }
  let e1 : Eave := match mark with
    | some m =>
      if m = 0 then { e with mark := 0, marked := false }
      else if m = s.eave.mark ∧ s.eave.marked then e
      else e.markAt old m (s.time - since s.clk.batten m)
    | none => e
  let moved := signedOf 4 ((e1.seconds + 2 ^ 32 - old) % 2 ^ 32)
  if first ∧ moved ≠ 0 then
    State.gutter { s with eave := { e1 with steps := inc32 e1.steps } } 0x09 0 (ofSigned 3 moved)
  else { s with eave := e1 }

/-! ### Trickle charger (R259) -/

def State.chargerTo (s : State) (n : Nat) : State := { s with eave := { s.eave with chargerState := n, chargerAt := s.time } }

/-- The charger runs: EAVE has its supply, VIO is above its threshold and a current is set. -/
def State.chargerOn (s : State) : Bool := s.sup.eave && s.sup.vio && (s.eave.charger.toNat % 8 != 0)

/-- CHARGER_TERMINATION: VBACK has reached the termination voltage. -/
def execChargerTermination (s : State) : Host.Outcome State Fault Refusal :=
  .next (if s.chargerOn ∧ s.eave.chargerState = 1 then s.chargerTo 2 else s)

/-- CHARGER_RESTART: VBACK lies 100 mV below the termination voltage. -/
def execChargerRestart (s : State) : Host.Outcome State Fault Refusal :=
  .next (if s.chargerOn ∧ s.eave.chargerState = 2 then s.chargerTo 1 else s)

/-- NO_ELEMENT: VBACK is still below 1.0 V after 10 s of charging. -/
def execNoElement (s : State) : Host.Outcome State Fault Refusal :=
  .next (if s.chargerOn ∧ s.eave.chargerState = 1 ∧ 10 * Config.ticksPerSecond ≤ s.passed s.eave.chargerAt then s.chargerTo 3 else s)

/-- CHARGER_RETRY: 60 s after NO_ELEMENT it tries again. -/
def execChargerRetry (s : State) : Host.Outcome State Fault Refusal :=
  .next (if s.chargerOn ∧ s.eave.chargerState = 3 ∧ 60 * Config.ticksPerSecond ≤ s.passed s.eave.chargerAt then s.chargerTo 1 else s)

/-! ### Wake and PWRON (R55, R56, R263) -/

/-- A wake with its cause: a laid-up node releases PWRON, once the 100 ms are over; a node entering the lay-up keeps it
for then; a running node does nothing. -/
def State.wake (s : State) (cause : Nat) : State :=
  if s.eave.laidUp then
    { s with eave := { s.eave with wakePending := some (s.eave.wakePending.getD cause), pwronLow := s.eave.pwronHeld } }
  else if s.rst.layingUp.isSome then
    { s with eave := { s.eave with wakePending := some (s.eave.wakePending.getD cause) } }
  else s

/-- SECONDS has reached WAKE_NEXT. -/
def Eave.wakeReached (e : Eave) : Bool :=
  e.wakeNext != 0 && decide ((e.seconds + 2 ^ 32 - e.wakeNext) % 2 ^ 32 < 2 ^ 31)

/-- WAKE_DUE: WAKE_NEXT moves on by the interval, or becomes 0; a laid-up node wakes (R263). -/
def execWakeDue (s : State) : Host.Outcome State Fault Refusal :=
  .next (if ¬ s.sup.eave ∨ ¬ s.eave.wakeReached then s
    else
      let next := if s.eave.wakeInterval = 0 then 0 else (s.eave.wakeNext + 60 * s.eave.wakeInterval) % 2 ^ 32
      State.wake { s with eave := { s.eave with wakeNext := next } } 1)

/-- PWRON_HOLD_END: the 100 ms are over, and a wake that fell due in them, or a rise of VIO, releases PWRON (R56). -/
def execPwronHoldEnd (s : State) : Host.Outcome State Fault Refusal :=
  .next (if s.sup.eave ∧ s.eave.pwronHeld ∧ msTicks 100 ≤ s.passed s.eave.pwronAt then
    { s with eave := { s.eave with pwronHeld := false, pwronLow := s.eave.pwronLow && s.eave.wakePending.isNone,
                                   wakePending := if s.eave.laidUp then s.eave.wakePending else none } }
  else s)

/-- The recorder has nothing left to write (R55, Table PWR-9). -/
def Recorder.drained (r : Recorder) : Bool :=
  r.queue.isEmpty && r.ledgerQueue.isEmpty && r.writing == 0 && r.ledgerWriting == 0

/-- LAID_UP_SHUTDOWN: the laid-up record has been queued in the slot of frame n+1, that frame is over, and the ingress queue has
drained: the domains go off, the AON clocks stop, and PWRON is driven low (R55, Table PWR-9). What the node holds outside EAVE and NV is gone with its supplies. -/
def execLaidUpShutdown (s : State) : Host.Outcome State Fault Refusal :=
  .next (match s.rst.layingUp with
    | none => s
    | some n =>
      if ¬ s.alive ∨ ¬ s.recorder.drained ∨ ¬ s.rst.layupQueued ∨ s.clk.frameNo = n ∨ s.offset < Config.frameTicks then s
      else
        { s with
          eave := { s.eave with laidUp := true, pwronLow := true, pwronHeld := true, pwronAt := s.time, lastFrame := s.clk.frameNo },
          sup := { s.sup with vcore := false, vio := false, vaux := false, vpll := false },
          rst := { s.rst with inReset := true, powerOn := true, held := [0], layingUp := none, layupQueued := false, cold := false, began := s.time, portsUp := false } })

/-! ### Backup events (R261, R262) -/

def Eave.evt (e : Eave) (i : Fin 2) : EvtIn := if i = 0 then e.evt0 else e.evt1
def Eave.setEvt (e : Eave) (i : Fin 2) (x : EvtIn) : Eave := if i = 0 then { e with evt0 := x } else { e with evt1 := x }

/-- EVT_EDGE: a new level is sampled. Its stamp is SECONDS and 1/1024 s at this sample; a return to the accepted level ends
the filter (R261). -/
def execEvtEdge (input : Fin 2) (level : Bool) (s : State) : Host.Outcome State Fault Refusal :=
  .next (if ¬ s.sup.eave then s
    else
      let x := s.eave.evt input
      let p := if level = x.accepted then none
        else if level = x.level then x.pending else some (s.secNow, s.subsec / 32)
      { s with eave := s.eave.setEvt input { x with
          level := level, pending := p, since := if level = x.level then x.since else s.time } })

/-- The edges an input keeps: 0 none, 1 rising, 2 falling, 3 both (EVT_EDGES). -/
def edgeKept (mode : Nat) (rising : Bool) : Bool := if rising then mode.testBit 0 else mode.testBit 1

/-- Take the oldest recorded entry out. -/
def dropRecorded : List EvtEntry → Option (List EvtEntry)
  | [] => none
  | e :: es => if e.recorded then some es else (dropRecorded es).map (e :: ·)

/-- A kept edge enters the FIFO of 8: full, it takes the place of the oldest recorded entry of a running node, or is
dropped and the overflow bit set (R262). -/
def EvtIn.keep (x : EvtIn) (running : Bool) (e : EvtEntry) : EvtIn :=
  if x.fifo.length < 8 then { x with fifo := x.fifo ++ [e] }
  else
    match (if running then dropRecorded x.fifo else none) with
    | some l => { x with fifo := l ++ [e] }
    | none => { x with overflow := true }

/-- EVT_FILTER_ACCEPT: the level has held for EVT_FILTER_MS; an edge that EVT_EDGES selects is kept, and wakes a laid-up
manager whose WAKE_EVT enables it (R261, R263). -/
def execEvtFilterAccept (input : Fin 2) (s : State) : Host.Outcome State Fault Refusal :=
  .next (match (s.eave.evt input).pending with
    | none => s
    | some (sec, frac) =>
      if ¬ s.sup.eave ∨ s.passed (s.eave.evt input).since < msTicks (s.cfg cCLOCK 0 0x12) then s
      else
        let x := s.eave.evt input
        let y : EvtIn := { x with accepted := x.level, pending := none }
        if ¬ edgeKept (bitsAt (s.cfg cCLOCK 0 0x11) (2 * input.val) 2) x.level then { s with eave := s.eave.setEvt input y }
        else
          let z := y.keep s.alive { sec := sec, frac := frac, rising := x.level, recorded := false }
          let s1 : State := { s with eave := s.eave.setEvt input z }
          if s1.eave.wakeEvt.getLsbD input.val then s1.wake (2 + input.val) else s1)

/-! ### EAVE_COLD_START -/

/-- EAVE after its supply has returned: nothing is kept, and PWRON is released. The charger's setting stays in NV (R259). -/
def Eave.afterLoss (e : Eave) (time : Nat) : Eave :=
  { Eave.cold with counters := List.replicate 19 0, chargerNv := e.chargerNv, secondAt := time }

/-- EAVE_COLD_START: the supply rises above its threshold after a loss (R43, R250, Table TIM-3). -/
def execEaveColdStart (s : State) : Host.Outcome State Fault Refusal :=
  .next (if s.sup.eave then s
    else { s with eave := s.eave.afterLoss s.time, sup := { s.sup with eave := true }, rst := { s.rst with cold := true } })

end Sys2Proof.Machine
end

