-- ==== Sys2Proof/Machine/LogCmds.lean ====
section
/-! DEFINITION. The LOG family (R300, R308, R309, R317, R319, Table CMD-11) and the recorder's own events (R309, R310,
R313, R314, R316, R319). -/

namespace Sys2Proof.Machine

/-! ### LOG_READ, GUTTER_READ -/

/-- The most records or entries that a session may ask for (Table CMD-11). -/
def readLimit (w : Who) (short long : Nat) : Nat := if w.has fLONG then long else short

/-- A first slot and a count that stay within a number of slots. -/
def rangeOk (w : Who) (r : Req) (short long slots : Nat) : Bool :=
  let k := byteAt r.params 2
  lenIs 3 r && decide (1 ≤ k ∧ k ≤ readLimit w short long) && decide (leAt r.params 0 2 + k ≤ slots)

def cmdLogRead : Cmd :=
  { op := 0x0600, access := rRight cLOG 0, sealed := noSeal, priv := noSeal,
    check := fun _ w r => need (rangeOk w r 8 128 16384),
    run := fun s t _ =>
      let a := leAt t.req.params 0 2
      let k := byteAt t.req.params 2
      s.answerF t .done ((List.range k).flatMap (fun i => s.recorder.readSlot (a + i))) (18 + 8 * k) }

/-- LOG_READ (R308). -/
def execLogRead (r : Req) (s : State) : Host.Outcome State Fault Refusal := .next (s.execute cmdLogRead r)

/-- The 16 bytes of a GUTTER_READ entry (R317): 0xFF at or beyond the fill. -/
def GutterLog.read (g : GutterLog) (i : Nat) : List Byte :=
  match g.entries[i]? with
  | some e => e.bytes
  | none => List.replicate 16 0xFF#8

/-- GUTTER_READ's k: up to 256 with LONG_PARAMS, where the byte 0 stands for none. -/
def cmdGutterRead : Cmd :=
  { op := 0x0610, access := rRight cLOG 1, sealed := noSeal, priv := noSeal,
    check := fun _ w r => need (rangeOk w r 16 256 4096),
    run := fun s t _ =>
      let a := leAt t.req.params 0 2
      let k := byteAt t.req.params 2
      s.answerF t .done ((List.range k).flatMap (fun i => s.gut.read (a + i))) (18 + 4 * k) }

/-- GUTTER_READ (R317). -/
def execGutterRead (r : Req) (s : State) : Host.Outcome State Fault Refusal := .next (s.execute cmdGutterRead r)

/-! ### LOG_MARK, LOG_POLICY -/

/-- LOG_MARK at its peg: one record in each unit (R300, Tables REC-2 to REC-4). -/
def applyLogMark (s : State) (p : Prov) (_ : BatchItem) (r : Req) : Applied :=
  (p.addRecord { s.sysOcc 1016 3 (BitVec.ofNat 32 (leAt r.params 0 4)) (slice r.params 4 4) with typ := 4 }).ok []

def cmdLogMark : Cmd :=
  { op := 0x0601, access := xRight cLOG, sealed := noSeal, priv := noSeal, check := fun _ _ r => need (lenIs 8 r), run := runP }

/-- LOG_MARK (R300). -/
def execLogMark (r : Req) (s : State) : Host.Outcome State Fault Refusal := .next (s.execute cmdLogMark r)

/-- LOG_POLICY at its peg: the policy is set and the bucket is full again (R309). -/
def applyLogPolicy (_ : State) (p : Prov) (_ : BatchItem) (r : Req) : Applied :=
  let code := leAt r.params 0 2
  let v := leAt r.params 2 2 + 65536 * byteAt r.params 4
  let p1 : Prov := { p with st := { p.st with cfg := cfgSet p.st.cfg cLOG code 0x21 v } }
  (p1.addEffect (.refillBucket code)).ok []

/-- A code, a period and a burst in their ranges (R309). -/
def policyOk (r : Req) : Bool :=
  decide (leAt r.params 0 2 ≤ 1023 ∧ 1 ≤ leAt r.params 2 2 ∧ leAt r.params 2 2 ≤ 6000 ∧ 1 ≤ byteAt r.params 4 ∧ byteAt r.params 4 ≤ 15)

def cmdLogPolicy : Cmd :=
  { op := 0x0602, access := fun s w _ => s.may w cLOG 2 bW, sealed := noSeal, priv := noSeal,
    check := fun _ _ r => need (lenIs 5 r && policyOk r), run := runP }

/-- LOG_POLICY (R309). -/
def execLogPolicy (r : Req) (s : State) : Host.Outcome State Fault Refusal := .next (s.execute cmdLogPolicy r)

/-! ### GUTTER_SAVE (R319) -/

/-- A save that lies less than 600 s back, or is under way. -/
def State.savedLately (s : State) : Bool :=
  (s.gut.haveSave && decide ((s.secNow + 2 ^ 32 - s.gut.lastSave) % 2 ^ 32 < 600)) || s.nvOps.any (fun o => o.work == .gutterSave)

def cmdGutterSave : Cmd :=
  { op := 0x0611, access := xRight cLOG, sealed := noSeal, priv := noSeal,
    check := fun s _ r => if ¬ lenIs 0 r then some .badParam else if s.savedLately then some .badState else none,
    run := fun s t _ => s.queueNv t .gutterSave }

/-- GUTTER_SAVE (R319). -/
def execGutterSave (r : Req) (s : State) : Host.Outcome State Fault Refusal := .next (s.execute cmdGutterSave r)

/-- The save itself: the entries written since the last one, newest first in choice, up to the allowance; what is passed
over is never saved. The save ring holds 4096 entries; a 0x0D entry follows (R319, Table REC-7). The number saved. -/
def State.saveGutter (s : State) : Nat × State :=
  let g := s.gut
  let new := (g.entries.drop (g.entries.length - min (min g.unsaved g.entries.length) g.allowance)).filter (fun e => !e.erased)
  let n := new.length
  let ring := g.saved ++ new
  let s1 : State := { s with gut := { g with
    saved := ring.drop (ring.length - 4096), unsaved := 0, allowance := g.allowance - n,
    gainFrom := if g.allowance = 8192 then s.time else g.gainFrom, lastSave := s.secNow, haveSave := true } }
  (n, s1.gutter 0x0D 0 n)

/-- SAVE_ALLOWANCE_GAIN: 4096 entries every 24 h, up to 8192, the hours counted from when the allowance fell below that or last
gained (R319; notes/assumptions/125.md). -/
def execSaveAllowanceGain (s : State) : Host.Outcome State Fault Refusal :=
  let day := 86400 * Config.ticksPerSecond
  .next (if s.passed s.gut.gainFrom < day then s
    else { s with gut := { s.gut with allowance := min 8192 (s.gut.allowance + 4096), gainFrom := s.gut.gainFrom + day } })

/-! ### The recorder's own events -/

/-- BUCKET_TOKEN_GAIN: the bucket of a code gains its token once its frames have passed (R309). -/
def execBucketTokenGain (code : Fin 1024) (s : State) : Host.Outcome State Fault Refusal := .next (s.gainBucket code.val)

/-- BUDGET_TOKEN_GAIN: the budget gains its token once 1000 frames have passed (R310). -/
def execBudgetTokenGain (s : State) : Host.Outcome State Fault Refusal := .next s.gainBudget

/-- RECORDER_LOSS_CLEAR: 360 000 pegged frames without a loss clear the fact; the point follows through the next frame's
batch (R314). -/
def execRecorderLossClear (s : State) : Host.Outcome State Fault Refusal :=
  .next (if s.recorder.lossFact ∧ 360000 ≤ s.recorder.lossClear then
    { s with recorder := { s.recorder with lossFact := false, lossClear := 0 } }
  else s)

/-- The bytes of a counter word (Table REC-11). -/
def counterWordBytes (n sec : Nat) : List Byte :=
  let body := toLe 4 n ++ toLe 4 sec ++ List.replicate 20 0#8
  body ++ toLe 4 (commitOf body)

/-- LEDGER_COUNTER_WORD: breaks beyond the 63rd that no word carries yet are written, at most every 600 s (R316). -/
def execLedgerCounterWord (s : State) : Host.Outcome State Fault Refusal :=
  let r := s.recorder
  let due : Bool := match r.counterAt with
    | some t => decide (600 ≤ (s.secNow + 2 ^ 32 - t) % 2 ^ 32)
    | none => true
  .next (if ¬ s.alive ∨ r.breaks = r.breaksSaved ∨ due = false then s
    else { s with recorder := { r with
      counterWord := some (counterWordBytes r.breaks r.breakSec), counterAt := some s.secNow, breaksSaved := r.breaks } })

/-- SECTOR_ERASE_COMPLETE: the sector joins the erased ones; queued records can be written again (R307, R313). -/
def execSectorEraseComplete (s : State) : Host.Outcome State Fault Refusal :=
  .next (match s.recorder.erasing with
    | none => s
    | some k => { s with recorder := { s.recorder with
        erasing := none, erased := s.recorder.erased ++ [k],
        erases := sset 0 s.recorder.erases k (sget 0 s.recorder.erases k + 1) } })

end Sys2Proof.Machine
end

