-- ==== Sys2Proof/Machine/Afe.lean ====
section
/-! DEFINITION. The sensor front end (R193-R216): conversion to native units, calibration (R181, R214), quality and flags
(R207, R208), the window grid (R201-R203), the way of a result to the snapshot (R204), roles (R209, R210, R212, R213), the AFE
die's own events, and the calibration commands. -/

namespace Sys2Proof.Machine

/-! ### Numbers -/

/-- The measured value corrected by offset and gain error (R214): exact where the quotient is. -/
def corrected (x offset gain : Int) : Int :=
  if gain = 0 then x - offset
  else if (1000000 + gain) ≠ 0 ∧ ((x - offset) * 1000000) % (1000000 + gain) = 0 then (x - offset) * 1000000 / (1000000 + gain)
  else Config.calCorrected x offset gain

/-- The mean of averaged results, exact where it is whole (R181). -/
def meanOf (l : List Int) : Int :=
  if l.length ≠ 0 ∧ l.sum % (l.length : Int) = 0 then l.sum / (l.length : Int) else Config.calMean l

/-- The gain error in ppm of an offset-corrected mean against the applied reference, exact where it is whole. -/
def gainError (x ref : Int) : Int :=
  if ref ≠ 0 ∧ ((x - ref) * 1000000) % ref = 0 then (x - ref) * 1000000 / ref else Config.calGain x ref

/-- Modes 4 to 7 are the thermocouples, 1 and 2 the RTDs (Table AFE-1). -/
def isTc (mode : Nat) : Bool := decide (4 ≤ mode ∧ mode ≤ 7)
def isRtd (mode : Nat) : Bool := mode == 1 || mode == 2

/-- The modes with excitation, whose windows reverse it (Table AFE-1, R202). -/
def excitedMode (mode : Nat) : Bool := isRtd mode || mode == 3

/-- Reporting limits of a mode in native units (Table AFE-6c). -/
def limitsOf (mode : Nat) : Int × Int :=
  if isRtd mode then (-200000, 850000)
  else if mode = 3 then (-10500000, 10500000)
  else if isTc mode then Config.tcTableEnds mode
  else if mode = 8 then (0, 24000000)
  else if mode = 9 then (-500000, 10500000)
  else (-10500000, 10500000)

/-- The span that ENG maps onto ENG_LO to ENG_HI, none for RTD and TC (Table AFE-9). -/
def spanOf (mode : Nat) : Option (Int × Int) :=
  if mode = 8 then some (4000000, 20000000) else if mode = 9 then some (0, 10000000)
  else if mode = 10 then some (-10000000, 10000000) else if mode = 3 then some (0, 10000000) else none

/-- ENG of a value (Table AFE-9): rounded toward zero, saturating. -/
def engOf (mode : Nat) (lo hi v : Int) : Int :=
  match spanOf mode with
  | some (a, b) => clip32 (lo + ((v - a) * (hi - lo)).tdiv (b - a))
  | none => v

/-- ENG under a configuration. -/
def engIn (cfg : Sparse Nat) (ch : Nat) (v : Int) : Int :=
  engOf (cfgOf cfg cAIN ch 0x10) (cfgInt cfg 4 cAIN ch 0x16) (cfgInt cfg 4 cAIN ch 0x17) v

/-! ### Conversion -/

/-- The cold-junction temperature that a thermocouple channel uses and whether its source is GOOD (R198). -/
def State.coldJunction (s : State) (ch : Nat) : Int × Bool :=
  let src := s.cfg cAIN ch 0x15
  if src = 0xFF then
    (s.afe.dieTemp, s.sup.vafe && s.afe.linkUp && decide (-55000 ≤ s.afe.dieTemp ∧ s.afe.dieTemp ≤ 150000))
  else ((s.ainSt src).own, (s.ainSt src).ownQuality == 0)

/-- The EMF that a thermocouple reading stands for: measured, plus the cold junction's. -/
def State.tcTotal (s : State) (ch mode : Nat) (raw : Int) : Int := raw + Config.tcEmf mode (s.coldJunction ch).1

/-- Resistance at the element: a 2-wire RTD's leads are subtracted (R197). -/
def State.rtdOhms (s : State) (ch : Nat) (raw : Int) : Int :=
  if s.cfg cAIN ch 0x13 = 2 then raw - (s.cfg cAIN ch 0x14 : Int) else raw

/-- The measured value in native units before calibration (R194, R197, R198). -/
def State.measured (s : State) (ch : Nat) (raw : Int) : Int :=
  let mode := s.ainMode ch
  if isRtd mode then Config.rtdTemperature (mode == 2) (s.rtdOhms ch raw)
  else if isTc mode then Config.tcTemperature mode (s.tcTotal ch mode raw)
  else raw

/-- OPEN, OVER_RANGE, UNDER_RANGE of a reading (Table AFE-5): the AFE's own open detection in the modes that have it, and
the thresholds. -/
def State.rangeFlags (s : State) (ch : Nat) (raw v : Int) (openWire : Bool) : Bool × Bool × Bool :=
  let mode := s.ainMode ch
  let (lo, hi) := limitsOf mode
  if mode = 8 then (decide (v < 1000000), decide (21000000 < v), decide (1000000 ≤ v ∧ v < 3600000))
  else if isRtd mode then
    (openWire, decide (hi < v), decide (v < lo ∨ s.rtdOhms ch raw < (if mode = 2 then 185200 else 18520)))
  else if isTc mode then
    let e := s.tcTotal ch mode raw
    let (a, b) := Config.tcEmfEnds mode
    (openWire || decide (80000000 < raw), decide (b < e), decide (e < a))
  else if mode = 3 then (openWire, decide (hi < v), decide (v < lo))
  else (false, decide (hi < v), decide (v < lo))

/-- A calibration of the channel is in progress, from its admission to its terms' writing in NV (R181). -/
def State.calRuns (s : State) (ch : Nat) : Bool :=
  s.afe.cals.any (fun x => x.channel == ch)
    || s.nvOps.any (fun o => match o.work with | .calibrate c _ _ _ _ _ _ => c == ch | _ => false)

/-- The other channel of the pair (R193). -/
def partner (ch : Nat) : Nat := if ch % 2 = 0 then ch + 1 else ch - 1

/-- The pair's voltage source limits, as either of its channels shows (R196). -/
def State.excLimited (s : State) (ch : Nat) : Bool :=
  let shows (c : Nat) : Bool := ((s.ainSt c).result.map AfeResult.excLimit).getD false
  (s.ainMode ch == 3 || s.ainMode (partner ch) == 3) && (shows ch || shows (partner ch))

/-- The channel carries its last pegged value: in frame m of a role change (R212), and after a takeover until its first clean result,
for the frames of Table AFE-7 at most (R213). -/
def State.afeHolds (s : State) (ch : Nat) : Bool :=
  match s.afe.heldIn with
  | none => false
  | some m =>
    let rate := s.cfg cAIN ch 0x11
    let longest := if rate = 3 then 1 else if rate = 2 then 29 else 5
    frameGe s.clk.frameNo m && decide (framesSince s.clk.frameNo m
      < (if s.afe.takenOver ∧ (s.ainSt ch).result.isNone then longest else 1))

/-- What one channel reports at a snapshot: value, quality, flags (R208, Table AFE-6a). -/
def State.ainReading (s : State) (ch : Nat) : Int × Nat × BitVec 16 :=
  let c := s.ainSt ch
  let mode := s.ainMode ch
  let cal := s.calRuns ch
  let bits (open_ ov under exc cj clamp held : Bool) : BitVec 16 :=
    BitVec.ofNat 16 (ofBits [open_, ov, under, c.overcurrent, exc, cj, clamp, held, false, cal])
  let unknown : Int × Nat × BitVec 16 := (c.own, 3, bits false false false false false c.clampNow false)
  let held : Int × Nat × BitVec 16 := ((s.ainPeg 0 ch).value, 2, bits false false false false false c.clampNow true)
  if mode = 0 ∨ ¬ s.sup.vafe then unknown
  else if ¬ s.afe.linkUp then (if s.afe.failedFrames ≤ 1 then held else unknown)
  else if s.afeHolds ch then held
  else
    match c.result with
    | none => unknown
    | some r =>
      let t := s.calTerms ch mode
      let v := corrected (s.measured ch r.raw) t.1 t.2.1
      let (op, ov, under) := s.rangeFlags ch r.raw v r.openWire
      let exc := s.excLimited ch
      let cj := isTc mode && !(s.coldJunction ch).2
      let clamp := c.clampNow || r.clamped
      let (lo, hi) := limitsOf mode
      let under1 := !op && under
      let over1 := !op && ov && !under1
      let clipped := if isRtd mode ∧ under1 then lo else max lo (min hi v)
      let q := if op ∨ c.overcurrent then 3 else if over1 ∨ under1 ∨ exc ∨ cj ∨ clamp ∨ cal then 1 else 0
      (clipped, q, bits op over1 under1 exc cj clamp false)

/-- A result that has arrived in SCAN is the channel's newest one; with the first whose windows began after the shunt's closing
OVERCURRENT clears (R199, R204). -/
def State.arrive (s : State) (ch : Nat) : State :=
  match (s.ainSt ch).crossing with
  | none => s
  | some (t, r) =>
    if s.clockReached t then
      s.modCh ch (fun c => { c with crossing := none, result := some r, overcurrent := c.overcurrent && !(r.settled && c.shuntAt.isNone) })
    else s

/-- One channel's snapshot: its own measurement is taken, and a conduction since the last snapshot is used up (R206). -/
def State.snapAin (s : State) (ch : Nat) : State :=
  let (v, q, f) := s.ainReading ch
  s.modCh ch (fun c => { c with own := v, ownQuality := q, ownFlags := f, clampNow := false })

/-- The channels in the order of the snapshot: a thermocouple's cold junction comes before it (R198). -/
def State.snapOrder (s : State) : List Nat :=
  let tc (ch : Nat) : Bool := isTc (s.ainMode ch)
  (List.range 16).filter (fun ch => !tc ch) ++ (List.range 16).filter tc

/-- The snapshot of the sixteen channels, from the results that are in SCAN (R204). -/
def State.snapAfe (s : State) : State :=
  let s1 : State := if s.afe.linkUp then s else { s with afe := { s.afe with failedFrames := s.afe.failedFrames + 1 } }
  let s2 := (List.range 16).foldl State.arrive s1
  s2.snapOrder.foldl State.snapAin s2

/-- A channel's own reading as a line value of the pair (Table AFE-9). -/
def State.ownAin (s : State) (ch : Nat) : AinIn :=
  let c := s.ainSt ch
  { value := c.own, eng := engIn s.peg.cfg ch c.own, quality := c.ownQuality, flags := c.ownFlags, frame := s.clk.frameNo }

/-! ### The window grid (R201, Table AFE-3) -/

/-- Ticks of the whole grid: the frame counter's wrap (R201). -/
def gridCycle : Nat := 2 ^ 32 * Config.frameTicks

/-- The grid position of a tick of a frame: ticks since the origin, tick 123 750 of frame 0xFFFF_FFFF. -/
def gridAt (f : Frame) (tick : Nat) : Nat := (f.toNat * Config.frameTicks + tick + 1250) % gridCycle

/-- The number, counted from the origin, of the window that holds a grid position. -/
def windowNo (rate p : Nat) : Nat :=
  if rate = 0 then p / 250000
  else if rate = 1 then 3 * (p / 625000) + (if p % 625000 < 208333 then 0 else if p % 625000 < 416666 then 1 else 2)
  else if rate = 2 then p / 1250000
  else p / 31250

/-- The grid position at which a window begins. -/
def windowStart (rate n : Nat) : Nat :=
  if rate = 0 then 250000 * n
  else if rate = 1 then 625000 * (n / 3) + 208333 * (n % 3)
  else if rate = 2 then 1250000 * n
  else 31250 * n

/-- The window before one: before window 0 lies the last of the old grid, where it ends on the origin; else that one is discarded at the
wrap (R201). -/
def windowBefore (rate n : Nat) : Option Nat :=
  if n ≠ 0 then some (n - 1) else if windowStart rate (windowNo rate (gridCycle - 1) + 1) = gridCycle then some (windowNo rate (gridCycle - 1)) else none

/-- Grid ticks from a position on to a later one, over the wrap. -/
def gridGap (p q : Nat) : Nat := (q + gridCycle - p) % gridCycle

/-- The first window boundary at or after a position, as ticks from it. -/
def toBoundary (rate p : Nat) : Nat :=
  let n := windowNo rate p
  if windowStart rate n = p then 0 else min (windowStart rate (n + 1)) gridCycle - p

/-- The polarity of a window's excitation: positive where its number is even (R202). -/
def positiveWindow (n : Nat) : Bool := n % 2 == 0

/-- A channel's RATE in force. -/
def State.ainRate (s : State) (ch : Nat) : Nat := s.cfg cAIN ch 0x11

/-- The present grid position. -/
def State.gridPos (s : State) : Nat := gridAt s.clk.frameNo s.offset

/-- The number of a channel's window under way. -/
def State.windowNow (s : State) (ch : Nat) : Nat := windowNo (s.ainRate ch) s.gridPos

/-- The batten count at which the window that began last with a number began. -/
def State.windowBegan (s : State) (ch n : Nat) : Batten :=
  s.clk.batten - BitVec.ofNat 40 (gridGap (windowStart (s.ainRate ch) n) s.gridPos)

/-- What this unit puts on EXCkA and EXCkB: nothing, or its source with the polarity of the window under way; the source reverses at
every boundary (R195, R202, R210). -/
def State.excitation (s : State) (pair : Nat) : Option Bool :=
  let on (ch : Nat) : Bool := excitedMode (s.ainMode ch) && (s.ainSt ch).drives
  if s.sup.vafe ∧ (on (2 * pair) ∨ on (2 * pair + 1)) then some (positiveWindow (s.windowNow (2 * pair))) else none

/-- The burn-out current of 50 nA on a sense pair (R207). -/
def State.burnOut (s : State) (ch : Nat) : Bool :=
  s.sup.vafe && (isTc (s.ainMode ch) || s.ainMode ch == 3) && (s.ainSt ch).drives

/-- The AFE gives the present tick no weight in a channel's conversion: the first 800 ticks of a window that follows a reversal, and of
the window at whose start the shunt was handed over (R202, R212). -/
def State.blank (s : State) (ch : Nat) : Bool :=
  let first := decide (gridGap (windowStart (s.ainRate ch) (s.windowNow ch)) s.gridPos < 800)
  first && (excitedMode (s.ainMode ch)
    || (s.ainMode ch == 8 && (s.ainSt ch).shuntMoved == some (s.windowBegan ch (s.windowNow ch))))

/-! ### Settings, listen and roles (R209, R210, R212, R213) -/

/-- Load the channel settings in force into the AFE die (R209). -/
def State.loadAfe (s : State) : State :=
  let s1 := (List.range 16).foldl (fun s ch => s.modCh ch (AfeCh.restart s.clk.batten)) s
  State.driveAll { s1 with afe := { s1.afe with settingsLoaded := true } }

/-- The batten count of tick 123 750 of the present frame, at which a change of role reaches the AFE (R212, R213). -/
def State.roleTick (s : State) : Batten := s.clk.frameStart + BitVec.ofNat 40 123750

/-- A channel turns over at a boundary that has come: an incoming unit drives it from there; an outgoing one stops, but for its shunt,
which it opens 400 ticks later (R212). -/
def State.turnCh (s : State) (ch : Nat) : State :=
  match (s.ainSt ch).turnAt with
  | none => s
  | some t =>
    if ¬ s.clockReached t then s
    else
      let s1 := s.modCh ch (fun c => { c with shuntMoved := some t })
      if ¬ s.afe.listen then s1.driveCh ch true t
      else if s.ainMode ch = 8 ∧ ¬ s.clockReached (t + 400#40) then s1.modCh ch (fun c => { c with drives := false })
      else s1.driveCh ch false t

/-- Every hand-over that is due (R212). -/
def State.turnAfe (s : State) : State := (List.range 16).foldl State.turnCh s

/-- A channel is to change over at a batten count. -/
def State.turnLater (s : State) (ch : Nat) (t : Batten) : State := s.modCh ch (fun c => { c with turnAt := some t })

/-- At a takeover the windows in progress and the results that depend on them are discarded, and every source starts at tick
123 750 of the frame before m (R213). -/
def State.afeTakeover (s : State) (m : Frame) : State :=
  let s1 : State := { s with afe := { s.afe with listen := false, heldIn := some m, takenOver := true } }
  ((List.range 16).foldl (fun s ch => (s.modCh ch (AfeCh.restart s.roleTick)).turnLater ch s.roleTick) s1).turnAfe

/-- At a hand-over the channels are HELD in frame m, and excitation, burn-out current and shunt of a channel move at its first window
boundary at or after tick 123 750 of the frame before (R212). -/
def State.afeHandover (s : State) (m : Frame) : State :=
  let listen := s.isStandby
  let s1 : State := { s with afe := { s.afe with listen := listen, heldIn := some m, takenOver := false } }
  ((List.range 16).foldl (fun s ch =>
    if (s.ainSt ch).drives = !listen then s
    else
      s.turnLater ch (s.roleTick + BitVec.ofNat 40 (toBoundary (s.ainRate ch) (gridAt s.clk.frameNo 123750)))) s1).turnAfe

/-! ### The die's own events -/

/-- The AFE die runs under loaded settings and its link is up. -/
def State.afeRuns (s : State) : Bool := s.sup.vafe && s.afe.linkUp && s.afe.settingsLoaded

/-- The averaging of a calibration takes one more result (R181). -/
def State.calTake (s : State) (ch : Nat) (raw : Int) (bad : Bool) : State :=
  match s.afe.cals.find? (fun x => x.channel == ch) with
  | none => s
  | some c =>
    let mode := s.ainMode ch
    let x := if isTc mode ∧ c.span.isNone then Config.tcTemperature mode raw else s.measured ch raw
    let c' : Cal := { c with left := c.left - 1, results := c.results ++ [x], bad := c.bad || bad }
    if c'.left ≠ 0 then { s with afe := { s.afe with cals := s.afe.cals.map (fun y => if y.channel = ch then c' else y) } }
    else
      let t := s.calTerms ch mode
      let mean := meanOf c'.results
      let zero := if mode = 8 then 4000000 + 4 * t.2.1 else 0
      let work : NvWork :=
        if c'.bad then .denied .badState
        else
          match c.span with
          | none => .calibrate ch mode (fit32 (mean - zero)) t.2.1 mean (fit32 (mean - zero)) true
          | some ref =>
            let g := gainError (mean - t.1) ref
            .calibrate ch mode t.1 g mean g (decide (g.natAbs ≤ 20000))
      State.startHead
        { s with
          afe := { s.afe with cals := s.afe.cals.filter (fun y => y.channel != ch) },
          nvOps := s.nvOps ++ [{ req := c.req, opcode := if c.span.isNone then 0x0300 else 0x0301, gen := c.gen, work := work, started := false }] }

/-- The window of a channel whose end is next to be latched, and the state at its latch tick, 25 ticks after its end: the window that
ended last, if the node has not yet had it, else the one under way, if its latch tick lies in this frame (R201, R204). -/
def State.windowEnd (s : State) (ch : Nat) : Option Nat × State :=
  let rate := s.ainRate ch
  let open_ := windowNo rate (gridGap 25 s.gridPos)
  let ended := windowBefore rate open_
  if ended ≠ none ∧ ((s.ainSt ch).last.map Prod.fst) ≠ ended then (ended, s)
  else
    let latch := s.offset + gridGap (gridGap 25 s.gridPos) (windowStart rate (open_ + 1))
    if latch < Config.frameTicks ∧ windowStart rate (open_ + 1) ≤ gridCycle then (some open_, s.toOffset latch) else (none, s)

/-- The result of a window and the one before: the mean of the two conversions, each with its window's polarity where the mode has
excitation (R203). -/
def resultOf (mode n m : Nat) (x y : Int) : Int :=
  let signed (k : Nat) (v : Int) : Int := if excitedMode mode ∧ ¬ positiveWindow k then -v else v
  meanOf [signed m y, signed n x]

/-- A clamp conducts in a window: CLAMP_STICKY is set, and CLAMP_COUNT counts the window once (R206). -/
def AfeCh.conduct (n : Nat) (c : AfeCh) : AfeCh :=
  if c.clampWin = some n ∨ c.clampPrev = some n then { c with clampSticky := true }
  else { c with clampSticky := true, clampCount := inc32 c.clampCount, clampWin := some n, clampPrev := c.clampWin }

/-- A count is not earlier than another, modulo 2^40; with none to compare it always holds. -/
def notBefore (t : Batten) : Option Batten → Bool
  | none => true
  | some b => decide ((t - b).toNat < 2 ^ 39)

/-- The result that the end of window n gives, if the window before it has been converted too and began under the settings and the
excitation in force (R203, R209, R213). -/
def State.formResult (s : State) (ch n : Nat) (m : AfeMeasure) : Option AfeResult :=
  let c := s.ainSt ch
  match c.last, windowBefore (s.ainRate ch) n with
  | some (k, y), some b =>
    let began := s.windowBegan ch b
    if k = b ∧ notBefore began c.cleanAt then
      some
        { raw := resultOf (s.ainMode ch) n b m.raw y, openWire := m.openWire, excLimit := m.excLimit,
          clamped := [some n, some b].any (fun w => w == c.clampWin || w == c.clampPrev),
          settled := !c.drives || (c.shuntAt.isNone && notBefore began c.closedAt) }
    else none
  | _, _ => none

/-- AFE_RESULT_LATCH: a window of a channel has ended, with the conversion m.raw of it. Its result rests on that window and the one
before, and stands in the die from 25 ticks after the window's end (R203, R204). -/
def execAfeResultLatch (channel : Fin 16) (m : AfeMeasure) (s : State) : Host.Outcome State Fault Refusal :=
  let ch := channel.val
  let (w, s0) := s.windowEnd ch
  .next (match w with
    | none => s
    | some n =>
      if ¬ s.afeRuns ∨ s.ainMode ch = 0 ∨ ¬ s.clk.running then s
      else
        let s1 := s0.turnAfe
        let s2 := if m.clamped then s1.modCh ch (AfeCh.conduct n) else s1
        let r := s2.formResult ch n m
        let s3 := s2.modCh ch (fun c =>
          { c with last := some (n, m.raw), latched := match r with
                                                       | some x => some (s2.clk.batten, x)
                                                       | none => c.latched })
        match r with
        | none => s3
        | some x =>
          let t := s.calTerms ch (s.ainMode ch)
          let v := corrected (s.measured ch x.raw) t.1 t.2.1
          (s3.calTake ch x.raw (x.clamped || (s.rangeFlags ch x.raw v x.openWire).1)).flush)

/-- SHUNT_OPEN: more than 32 mA in the loop opens the shunt, and the second is timed from it (R199). -/
def execShuntOpen (channel : Fin 16) (s0 : State) : Host.Outcome State Fault Refusal :=
  let s := s0.turnAfe
  .next (if ¬ s.sup.vafe ∨ s.ainMode channel.val ≠ 8 ∨ ¬ (s.ainSt channel.val).shuntClosed then s
    else s.modCh channel.val (fun c => { c with shuntClosed := false, shuntAt := some s.clk.batten, overcurrent := true }))

/-- SHUNT_CLOSE: 1 s after its opening the shunt closes again (R199). -/
def execShuntClose (channel : Fin 16) (s0 : State) : Host.Outcome State Fault Refusal :=
  let s := s0.turnAfe
  .next (match (s.ainSt channel.val).shuntAt with
    | none => s
    | some t =>
      if ¬ s.sup.vafe ∨ since s.clk.batten t < Config.ticksPerSecond then s
      else s.modCh channel.val (fun c => { c with shuntClosed := true, shuntAt := none, closedAt := some s.clk.batten }))

/-- CLAMP_CONDUCTION: a clamp conducts in the window under way, and the first snapshot after it is SUSPECT (R206). -/
def execClampConduction (channel : Fin 16) (s : State) : Host.Outcome State Fault Refusal :=
  let n := s.windowNow channel.val
  .next (if ¬ s.sup.vafe then s else s.modCh channel.val (fun c => { c.conduct n with clampNow := true }))

/-- AFE_LISTEN_TIMEOUT: 2 500 ticks without a good flashing frame: every channel listens (R209). -/
def execAfeListenTimeout (s : State) : Host.Outcome State Fault Refusal :=
  .next (if ¬ s.sup.vafe ∨ s.passed s.afe.lastGood < 2500 then s
    else State.driveAll { s with afe := { s.afe with listen := true, linkUp := false } })

/-- The listen order of the logic's frames: on a standby, on a detached unit, and on a bound manager that does not know yet whether it
leads; never on a worker or a solo manager (R210, notes/assumptions/62.md). -/
def State.listenOrder (s : State) : Bool :=
  !s.isWorker && (s.isStandby || s.pair.detached || (s.pair.bound && !s.pair.leads))

/-- The tick at which the present flashing slot began. -/
def State.slotStart (s : State) : Batten :=
  if s.alive then s.clk.frameStart + BitVec.ofNat 40 (s.offset / Config.slotTicks * Config.slotTicks) else s.clk.batten

/-- A result latched at or before the slot began leaves in it, and is in SCAN 40 ticks after the slot's start (R204, P30). -/
def State.carryResult (s0 : State) (ch : Nat) : State :=
  let s := s0.arrive ch
  match (s.ainSt ch).latched with
  | some (t, r) =>
    if notBefore s.slotStart (some t) then s.modCh ch (fun c => { c with latched := none, crossing := some (s.slotStart + 40#40, r) }) else s
  | none => s

/-- A good flashing frame each way: the link is up; a die that holds no settings is given those in force, the frame orders the listen
state or its end, and the latched results leave (R204, R209, R210). -/
def State.afeSlot (s : State) : State :=
  if ¬ s.sup.vafe ∨ ¬ s.alive ∨ s.blockInReset 14 ∨ ¬ s.rst.portsUp then s
  else
    let listen := s.listenOrder
    let s1 : State := { s with afe := { s.afe with linkUp := true, failedFrames := 0, listen := listen, lastGood := s.time } }
    let s2 := if s1.afe.settingsLoaded ∨ ¬ s1.isReady then s1 else s1.loadAfe
    let s3 := if s.afe.listen ≠ listen then s2.driveAll else s2.turnAfe
    (List.range 16).foldl State.carryResult s3

/-! ### CAL_ZERO, CAL_SPAN, CAL_READ (R181, R214) -/

/-- The positive range of a mode in native units: a CAL_SPAN reference lies in its upper half (R214). -/
def positiveRange (mode : Nat) : Int :=
  if isRtd mode then 850000 else if mode = 3 then 10000000 else if isTc mode then (Config.tcTableEnds mode).2
  else if mode = 8 then 24000000 else 10500000

/-- What CAL_ZERO and CAL_SPAN share of their checks. -/
def State.calCheck (s : State) (r : Req) (len : Nat) : Option Status :=
  let ch := oidIndex r.target
  if ¬ (lenIs len r ∧ targetIs cAIN r ∧ 1 ≤ byteAt r.params 0 ∧ byteAt r.params 0 ≤ 64) then some .badParam
  else if s.ainMode ch = 0 ∨ s.calRuns ch then some .badState
  else none

/-- Begin the averaging. -/
def State.startCal (s : State) (t : Tag) (span : Option Int) : State :=
  let c : Cal :=
    { channel := oidIndex t.req.target, left := byteAt t.req.params 0, results := [], span := span, bad := false, req := t.req,
      gen := t.gen }
  { s.modTag t (fun u => { u with begun := true }) with afe := { s.afe with cals := s.afe.cals ++ [c] } }

def cmdCalZero : Cmd :=
  { op := 0x0300, access := xObj cAIN, sealed := groupSealed, priv := noSeal, check := fun s _ r => s.calCheck r 1,
    run := fun s t _ => s.startCal t none }

/-- CAL_ZERO (R181). -/
def execCalZero (r : Req) (s : State) : Host.Outcome State Fault Refusal := .next (s.execute cmdCalZero r)

/-- CAL_SPAN's applied reference. -/
def spanRef (r : Req) : Int := signedOf 4 (leAt r.params 1 4)

def cmdCalSpan : Cmd :=
  { op := 0x0301, access := xObj cAIN, sealed := groupSealed, priv := noSeal,
    check := fun s _ r =>
      match s.calCheck r 5 with
      | some st => some st
      | none =>
        let p := positiveRange (s.ainMode (oidIndex r.target))
        need (decide (p ≤ 2 * spanRef r ∧ spanRef r ≤ p)),
    run := fun s t _ => s.startCal t (some (spanRef t.req)) }

/-- CAL_SPAN (R181, R214). -/
def execCalSpan (r : Req) (s : State) : Host.Outcome State Fault Refusal := .next (s.execute cmdCalSpan r)

def cmdCalRead : Cmd :=
  { op := 0x0302, access := rObj cAIN 2, sealed := noSeal, priv := noSeal,
    check := fun _ _ r => need (lenIs 0 r && targetIs cAIN r),
    run := fun s t _ =>
      let ch := oidIndex t.req.target
      let c := s.calTerms ch (s.ainMode ch)
      s.answerF t .done (toLe 4 (ofSigned 4 c.1) ++ toLe 4 (ofSigned 4 c.2.1) ++ toLe 4 c.2.2.1 ++ toLe 1 c.2.2.2) 20 }

/-- CAL_READ (R214). -/
def execCalRead (r : Req) (s : State) : Host.Outcome State Fault Refusal := .next (s.execute cmdCalRead r)

/-- The new terms are written to NV for the mode they were taken in (R181, R214). -/
def State.storeCal (s : State) (ch mode : Nat) (offset gain : Int) : State :=
  s.modCh ch (fun c =>
    { c with calField := if c.calField.contains mode then c.calField else c.calField ++ [mode],
             calOffset := sput c.calOffset mode offset, calGain := sput c.calGain mode gain, calAt := sset 0 c.calAt mode s.secNow })

end Sys2Proof.Machine
end

