-- ==== Sys2Proof/Machine/Field.lean ====
section
/-! DEFINITION. Field inputs and outputs (R217-R245): the field die with its claim arbiter, the flashing link, the logic
half, and the snapshot of both. -/

namespace Sys2Proof.Machine

/-! ### Small accessors -/

def FieldDie.pin (f : FieldDie) (i : Nat) : DiPin := sget DiPin.start f.pins i
def FieldDie.stage (f : FieldDie) (o : Nat) : DoStage := sget DoStage.clear f.stages o
def State.modStage (s : State) (o : Nat) (f : DoStage → DoStage) : State :=
  { s with fld := { s.fld with stages := smod DoStage.clear s.fld.stages o f } }
def State.modDin (s : State) (i : Nat) (f : DinSt → DinSt) : State :=
  { s with fio := { s.fio with din := smod DinSt.start s.fio.din i f } }

/-- n ticks have passed since State.time was t: the die's times run on in a reset of the logic (R231). -/
def State.elapsed (s : State) (t n : Nat) : Bool := decide (n ≤ s.passed t)

/-- The flashing-link clock runs: VIO, VCORE, VPLL and the reference are there (R231). -/
def State.dieLocked (s : State) : Bool := s.sup.vio && s.sup.vcore && s.sup.vpll && s.sup.reference

/-! ### What each stage is commanded to (R234, R235, R242) -/

/-- C: the last received output word bit, or the safe state of its group. -/
def State.stageC (s : State) (o : Nat) : Bool :=
  let f := s.fld
  if ¬ f.loaded then false
  else if f.safe.getLsbD (o / 4) ∨ f.withdrawn ∨ f.training then safeLevel (s.cfg cDOUT o 0x10) (s.heldBit o) else s.heldBit o

/-- A stage conducts: powered, permitted, commanded on, and not shut down (R226, R242). -/
def State.conducts (s : State) (o : Nat) : Bool :=
  s.fld.powered && s.fld.permission && s.stageC o && !(s.fld.stage o).shutdown

/-- After any change at the die: an output commanded OFF loses OVERLOAD; a stage that does not conduct is not steady; when it last
turned on or off is kept (R227, R228). -/
def State.settleStage (s : State) (o : Nat) : State :=
  let now := s.conducts o
  s.modStage o (fun d =>
    { d with
      overload := d.overload && s.stageC o && s.fld.permission, steady := d.steady && now, limited := d.limited && now, on := now,
      turnedAt := if d.on = now then d.turnedAt else s.time })

def State.settle (s : State) : State := (List.range 12).foldl State.settleStage s

/-! ### The claim arbiter (R238-R243) -/

/-- Drive permission under Table FIO-9; losing to a higher live claim takes effect at an own slot edge only. -/
def permissionOf (own : Option Word) (twin : Option Word) (now edge : Bool) : Bool :=
  match own, twin with
  | some a, some b => if b.toNat < a.toNat then true else if edge then false else now
  | some _, none => true
  | none, some _ => false
  | none, none => true

/-- The twin claim, if live (R241). -/
def FieldDie.liveTwin (f : FieldDie) : Option Word := if f.twinFresh then some f.twinClaim else none

/-- The arbiter decides; a change of permission blanks the read-back comparison (R230, R242). -/
def State.arbitrate (s : State) (edge : Bool) : State :=
  if ¬ s.fld.powered then s
  else
    let p := permissionOf s.fld.ownClaim s.fld.liveTwin s.fld.permission edge
    let s1 : State := { s with fld := { s.fld with permission := p } }
    let s2 := if p = s.fld.permission then s1
      else (List.range 12).foldl (fun s o => s.modDout o (fun d => { d with blank := some s.clk.batten })) s1
    s2.settle

/-- The own claim stays live up to the next slot edge (R240). -/
def State.claimFresh (s : State) : Bool :=
  s.fld.ownClaim.isSome && decide (s.passed s.fld.ownAt + Config.claimSlotTicks < Config.claimFreshTicks)

/-- The flag byte of a claim frame (R240). -/
def State.claimFlags (s : State) : Byte :=
  BitVec.ofNat 8 (b2n s.claimFresh + 2 * b2n s.fld.withdrawn + 4 * b2n (s.fld.safe != 0) + 8 * b2n s.fld.permission)

/-- CLAIM_SLOT_EDGE: the die starts a claim frame on CLM_OUT and decides (R240, R241). -/
def execClaimSlotEdge (s : State) : Host.Outcome State Fault Refusal :=
  .next (if ¬ s.fld.powered then s
    else State.arbitrate { s with fld := { s.fld with claimOut := some (s.fld.ownWord, s.claimFlags) } } true)

/-- The CRC-16 of a claim frame, over claim word and flag byte (R240). -/
def claimCrc (w : Word) (flags : Byte) : Nat := crc16 (toLe 4 w.toNat ++ [flags])

/-- CLAIM_FRAME_RECEIVED: a frame with a bad CRC or non-zero reserved bits is counted; a good one is the twin's claim, and
the arbiter decides (R241). -/
def execClaimFrameReceived (word : Word) (flags : Byte) (crc : Half) (s : State) : Host.Outcome State Fault Refusal :=
  .next (if ¬ s.fld.powered then s
    else if crc.toNat ≠ claimCrc word flags ∨ flags.toNat / 16 ≠ 0 then
      if s.alive then State.gutter { s with fio := { s.fio with claimBad := inc32 s.fio.claimBad } } 0x0A 0 0 else s
    else
      State.arbitrate { s with fld := { s.fld with
        twinClaim := word, twinFresh := flags.getLsbD 0, twinPerm := flags.getLsbD 3, twinAt := s.time } } false)

/-- OWN_CLAIM_STALE: 50 ms after its load the own claim is absent, and the stage stops where the twin claims (R239, R242). -/
def execOwnClaimStale (s : State) : Host.Outcome State Fault Refusal :=
  .next (if s.fld.powered ∧ s.fld.ownClaim.isSome ∧ s.elapsed s.fld.ownAt Config.claimFreshTicks then
    State.arbitrate { s with fld := { s.fld with ownClaim := none } } false
  else s)

/-- TWIN_CLAIM_STALE: no good frame for 50 ms (R241). -/
def execTwinClaimStale (s : State) : Host.Outcome State Fault Refusal :=
  .next (if s.fld.powered ∧ s.fld.twinFresh ∧ s.elapsed s.fld.twinAt Config.claimFreshTicks then
    State.arbitrate { s with fld := { s.fld with twinFresh := false } } false
  else s)

/-! ### Inputs at the die (R217, R218, R222) -/

/-- DI_LEVEL_CHANGE: a new level starts its debounce; a return before its acceptance is a glitch (R218). -/
def execDiLevelChange (input : Fin 24) (level : Bool) (s : State) : Host.Outcome State Fault Refusal :=
  let i := input.val
  let p := s.fld.pin i
  .next (if ¬ s.fld.powered ∨ p.level = level then s
    else if level = p.debounced then
      (s.modPin i (fun p => { p with level := level, pending := none })).modDin i (fun d => { d with glitches := inc32 d.glitches })
    else s.modPin i (fun p => { p with level := level, pending := some s.clk.batten, since := s.time, unsync := !s.dieLocked }))

/-- An edge enters the queue of 64, or is lost and marks the next one of its input (R222). -/
def State.queueEdge (s : State) (i : Nat) (t : Batten) : State :=
  let p := s.fld.pin i
  if s.fld.queue.length < 64 then
    let e : DiEvent := { input := i, overflow := p.lost, unsync := p.unsync, level := p.level, stamp := t }
    { s.modPin i (fun p => { p with lost := false }) with
      fld := { (s.modPin i (fun p => { p with lost := false })).fld with queue := s.fld.queue ++ [e] } }
  else
    let s1 := (s.modPin i (fun p => { p with lost := true })).modDin i (fun d => { d with lost := inc32 d.lost, lostSinceRead := true })
    { s1 with fld := { s1.fld with queueOverflow := true } }

/-- DI_DEBOUNCE_ACCEPT: the level has held for 25 × DEBOUNCE_US die samples; the edge carries the tick of its first sample
(R218). -/
def execDiDebounceAccept (input : Fin 24) (s : State) : Host.Outcome State Fault Refusal :=
  let i := input.val
  .next (match (s.fld.pin i).pending with
    | none => s
    | some t =>
      if ¬ s.fld.powered ∨ 2 * s.passed (s.fld.pin i).since + 2 < 25 * s.cfg cDIN i 0x11 then s
      else
        let s1 := (s.modPin i (fun p => { p with debounced := p.level, pending := none })).modDin i (fun d => { d with cos := inc32 d.cos })
        s1.queueEdge i t)

/-! ### Output stages (R226-R228) -/

/-- OVERLOAD: in current limit for 2 500 ticks without a break, in all of which the stage conducts (Table FIO-5). -/
def execOverload (output : Fin 12) (s : State) : Host.Outcome State Fault Refusal :=
  let o := output.val
  .next (if ¬ s.conducts o ∨ s.passed (s.fld.stage o).turnedAt < 2500 then s
    else
      let s1 := s.modStage o (fun d => { d with overload := true, limited := true })
      if (s.fld.stage o).overload then s1 else s1.modDout o (fun d => { d with overloads := inc32 d.overloads }))

/-- THERMAL_SHUTDOWN: the stage turns itself off; OVER_TEMP is set and the shutdown counted (R226, Table FIO-5). -/
def execThermalShutdown (output : Fin 12) (s : State) : Host.Outcome State Fault Refusal :=
  let o := output.val
  .next (if ¬ s.conducts o then s
    else ((s.modStage o (fun d => { d with shutdown := true, overTemp := true, tripped := true, steady := false })).modDout o
      (fun d => { d with thermals := inc32 d.thermals })).settle)

/-- THERMAL_RESTART: cooled by 15 °C, the stage turns on again (R226). -/
def execThermalRestart (output : Fin 12) (s : State) : Host.Outcome State Fault Refusal :=
  .next (s.modStage output.val (fun d => { d with shutdown := false })).settle

/-- This die has applied the open-wire test current to a line for 1 ms: from READBACK_BLANK_MS after turn-off (R228, Table FIO-5). -/
def State.testsWire (s : State) (o : Nat) : Bool :=
  s.fld.powered && (s.cfg cDOUT o 0x12 == 1) && !s.stageC o
    && decide (msTicks (s.cfg cDOUT o 0x13 + 1) ≤ s.passed (s.fld.stage o).turnedAt)
    && (s.isWorker || s.fld.permission || (!s.unitB && !s.fld.twinPerm))

/-- OPEN_WIRE: the line stays above the open threshold for 1 ms under the test (R228, Table FIO-5). -/
def execOpenWire (output : Fin 12) (s : State) : Host.Outcome State Fault Refusal :=
  .next (if s.testsWire output.val then s.modStage output.val (fun d => { d with openWire := true }) else s)

/-- OPEN_WIRE_CLEAR: the same test reads below the threshold for 1 ms (Table FIO-5). -/
def execOpenWireClear (output : Fin 12) (s : State) : Host.Outcome State Fault Refusal :=
  .next (if s.testsWire output.val then s.modStage output.val (fun d => { d with openWire := false }) else s)

/-- At a frame boundary: a whole frame of conducting below the limit clears OVERLOAD, one without a shutdown clears
OVER_TEMP (Table FIO-5). Whether an overloaded stage is in current limit in the frame that begins is a free value: no row tells when the
fault in the wiring ends (R226; notes/assumptions/5.md). -/
def State.wholeFrame (s0 : State) (o : Nat) : State :=
  let d0 := s0.fld.stage o
  let still := d0.overload && !(d0.steady && !d0.limited)
  let (v, s) := if still then s0.draw else (0, s0)
  s.modStage o (fun d =>
    { d with overload := still, overTemp := d.overTemp && !(d.steady && !d.tripped),
             limited := still && v % 2 == 1, tripped := false, steady := s.conducts o })

/-! ### The flashing link's frames (R232) -/

/-- A frame of 32 bytes with its CRC-16. -/
def withCrc16 (b : List Byte) : List Byte := b ++ toLe 2 (crc16 b)

/-- A downlink frame (Table FIO-6): record is the address and the data of a configuration record, 18 bytes. -/
def downFrame (kind : Nat) (seq : Byte) (word : BitVec 12) (valid : Bool) (claim : Word) (frame : Frame) (record : List Byte) : List Byte :=
  withCrc16 (toLe 1 kind ++ [seq] ++ toLe 2 (word.toNat + 32768 * b2n valid) ++ toLe 4 claim.toNat ++ toLe 4 frame.toNat ++ record
    ++ [0, 0])

/-- No configuration record: address 0xFFFF. -/
def noRecord : List Byte := [0xFF, 0xFF] ++ List.replicate 16 0#8

/-- The next configuration record to be written to the die: its address and contents are internal to the node, free values (R232;
notes/assumptions/5.md). -/
def State.nextRecord (s : State) : List Byte :=
  match s.fio.cfgDue with
  | [] => noRecord
  | (cls, i) :: _ =>
    (List.range 18).map (Config.cfgRecord cls i ((List.range 5).map (fun k => s.cfg cls i (0x10 + k))))

/-- A 34-byte frame whose CRC is right. -/
def frameGood (b : List Byte) : Bool := b.length == 34 && leAt b 32 2 == crc16 (b.take 32)

/-- The bits of twelve outputs as a number. -/
def outBits (f : Nat → Bool) : Nat := ofBits ((List.range 12).map f)

/-- One event entry of an uplink frame. -/
def DiEvent.bytes (e : DiEvent) : List Byte :=
  toLe 1 (e.input + 32 * b2n e.overflow + 64 * b2n e.unsync + 128 * b2n e.level) ++ toLe 3 e.stamp.toNat

/-- Uplink byte 0 (Table FIO-7). -/
def State.upByte0 (s : State) : Nat :=
  let f := s.fld
  b2n f.ownClaim.isSome + 2 * b2n f.twinFresh + 4 * b2n f.permission + 8 * b2n f.withdrawn + 16 * b2n (f.safe != 0)
    + 32 * b2n f.queueOverflow + 64 * b2n f.vfldLow

/-- An uplink frame with the three oldest events (Table FIO-7). The line levels that the die's comparators read are its own
stages'; on a shared line the twin's stage is a fact of the outside (log 28). -/
def State.upFrame (s : State) : List Byte :=
  let f := s.fld
  let ev := (f.queue.take 3).map DiEvent.bytes
  withCrc16 (toLe 1 s.upByte0 ++ [f.lastSeq] ++ toLe 3 (ofBits ((List.range 24).map (fun i => (f.pin i).debounced)))
    ++ toLe 2 (outBits s.conducts) ++ toLe 2 (outBits s.conducts) ++ toLe 4 f.twinClaim.toNat
    ++ toLe 5 (outBits (fun o => (f.stage o).overload) + 4096 * outBits (fun o => (f.stage o).openWire)
      + 16777216 * outBits (fun o => (f.stage o).overTemp))
    ++ [f.crcDown, 0] ++ ev.flatten ++ (List.replicate (3 - ev.length) [0xFF#8, 0, 0, 0]).flatten)

/-- The logic sends frames: start step 8 has been reached and the flashing-link block is not in reset (R85, R234). -/
def State.sendsFrames (s : State) : Bool :=
  s.alive && !s.blockInReset 15 && (decide (8 ≤ s.rst.phase.toNat ∧ s.rst.phase.toNat ≤ 0x0B) || s.rst.phase == 0x0E#8)

/-- The node withdraws its claim: detached, isolated, or in the maintenance state (R167, R327, R366). -/
def State.withdraws (s : State) : Bool := s.pair.detached || (s.isWorker && s.ring.isolated) || s.inMaint

/-- The uplink frame of a slot: it takes the three oldest events from the die's queue (R222, R232). -/
def State.uplinkSlot (s : State) : State :=
  if s.fld.powered then
    { s with fio := { s.fio with upWire := s.upFrame }, fld := { s.fld with queue := s.fld.queue.drop 3, queueOverflow := false } }
  else { s with fio := { s.fio with upWire := [] } }

/-- FLASHING_SLOT: one frame each way; TRAIN while the link opens, WITHDRAW for a unit that may not claim, else KEEP (R232-R235). No
frame is sent while the logic is in reset or before start step 8 (R231, R234). The AFE die's link runs on the same slots (R204, R209). -/
def execFlashingSlot (s : State) : Host.Outcome State Fault Refusal :=
  let f := s.fio
  let kind := if f.trainLeft ≠ 0 then 4 else if s.withdraws then 3 else 1
  .next (if ¬ s.sendsFrames then { s with fio := { f with upWire := [], downWire := [] } }
    else
      let s1 := s.uplinkSlot
      State.afeSlot { s1 with fio := { s1.fio with
        downWire := downFrame kind (f.seq + 1) f.lastWord false 0 s.clk.frameNo s.nextRecord, seq := f.seq + 1,
        cfgDue := f.cfgDue.tail, trainLeft := f.trainLeft - 1, link := if f.link = 0 ∧ f.trainLeft ≠ 0 then 1 else f.link } })

/-- CLAIM_FRAME_SEND: at tick 113 125 the last pegged claim word and, after a pegged frame, the new output word (R233); on a
worker, in the slot after the output word it executes (R365). The slot carries an uplink frame as every slot does (R232). -/
def execClaimFrameSend (s : State) : Host.Outcome State Fault Refusal :=
  .next (match s.fio.claimDue with
    | none => s
    | some (claim, word, valid) =>
      if ¬ s.sendsFrames then s
      else
        let s1 := (if s.isWorker then s else s.toOffset 113125).uplinkSlot
        let f := s1.fio
        State.afeSlot { s1 with fio := { f with
          downWire := downFrame 2 (f.seq + 1) word valid claim s1.clk.frameNo s1.nextRecord, seq := f.seq + 1, claimDue := none,
          cfgDue := f.cfgDue.tail, lastWord := if valid then word else f.lastWord } })

/-- State.time at the start of the present flashing slot. -/
def State.slotTime (s : State) : Nat := if s.alive then s.time - s.offset % Config.slotTicks else s.time

/-- What a good downlink frame does at the die (R233-R235, R239). A CLAIM frame is loaded 48 ticks after its slot began. -/
def State.dieTakes (s : State) (kind : Nat) (word : BitVec 12) (valid : Bool) (claim : Word) : State :=
  match kind with
  | 2 =>
    let s1 := if s.alive ∧ ¬ s.isWorker ∧ s.clk.running ∧ 113125 ≤ s.offset then s.toOffset 113173 else s
    let f : FieldDie := { s1.fld with ownClaim := some claim, ownWord := claim, ownAt := s1.time, withdrawn := false }
    State.settle { s1 with fld := if valid then { f with word := word, haveWord := true, safe := 0, training := false } else f }
  | 3 => State.arbitrate { s with fld := { s.fld with ownClaim := none, withdrawn := true, safe := 7 } } false
  | 4 => State.settle { s with fld := { s.fld with training := true, safe := 7, loaded := true } }
  | _ => s

/-- DOWNLINK_FRAME_RECEIVED: a frame with a good CRC, a known KIND and zero reserved bits counts as good; a CRC error is
counted (R232). -/
def execDownlinkFrameReceived (frame : List Byte) (s : State) : Host.Outcome State Fault Refusal :=
  let kind := byteAt frame 0
  let w := leAt frame 2 2
  .next (if ¬ s.fld.powered then s
    else if ¬ frameGood frame then { s with fld := { s.fld with crcDown := s.fld.crcDown + 1 } }
    else if kind = 0 ∨ 4 < kind ∨ (w / 4096) % 8 ≠ 0 ∨ leAt frame 30 2 ≠ 0 then s
    else
      let seq : Byte := frame.getD 1 0
      let gap := if seq = s.fld.lastSeq + 1 then 0 else 1
      let s1 : State := { s with fld := { s.fld with
        lastGood := s.slotTime, lastSeq := seq, seqGaps := min 0xFFFFFFFF (s.fld.seqGaps + gap) } }
      s1.dieTakes kind (BitVec.ofNat 12 (w % 4096)) (w.testBit 15) (BitVec.ofNat 32 (leAt frame 4 4)))

/-- SAFE_STATE_TIMEOUT: T × 12 500 + 2 ticks after the last good downlink slot began, a group takes its safe states (R235). -/
def execSafeStateTimeout (group : Fin 3) (s : State) : Host.Outcome State Fault Refusal :=
  .next (if s.fld.powered ∧ s.elapsed s.fld.lastGood (s.cfg cDOUT (4 * group.val) 0x11 * 12500 + 2) then
    State.settle { s with fld := { s.fld with safe := s.fld.safe ||| BitVec.ofNat 3 (2 ^ group.val) } }
  else s)

/-! ### The logic half (R220, R222, R236) -/

/-- A 24-bit stamp extended to 40 bits: the latest count with those low bits that is not later than now (R232). -/
def extendStamp (now : Batten) (low : Nat) : Batten :=
  now - BitVec.ofNat 40 ((now.toNat % 16777216 + 16777216 - low) % 16777216)

/-- The event entries of an uplink frame. -/
def upEvents (now : Batten) (b : List Byte) : List DiEvent :=
  ((List.range 3).map (fun k => slice b (20 + 4 * k) 4)).filterMap (fun e =>
    let v := byteAt e 0
    if v = 0xFF ∨ 24 ≤ v % 32 then none
    else some { input := v % 32, overflow := v.testBit 5, unsync := v.testBit 6, level := v.testBit 7,
                stamp := extendStamp now (leAt e 1 3) })

/-- The diagnostics of a good uplink frame; an off-to-on transition of the own stage counts (Table FIO-11). -/
def State.takeDiag (s : State) (b : List Byte) : State :=
  let d := leAt b 13 5
  (List.range 12).foldl (fun s o =>
    let on := (leAt b 7 2).testBit o
    s.modDout o (fun x =>
      { x with overload := d.testBit o, openWire := d.testBit (12 + o), overTemp := d.testBit (24 + o), conducting := on,
               switches := if on && !x.conducting then inc32 x.switches else x.switches })) s

/-- The ridge link shows the twin running (R244): the pair runs, and no digest of the twin is missing. -/
def State.twinRuns (s : State) : Bool :=
  !s.isWorker && s.pair.bound && s.ridge.trained && !s.pair.twinLost && !s.pair.detached && s.pair.consecMiss == 0
    && (s.pair.state != 0 || s.pair.twinState == 4)

/-- UPLINK_FRAME_RECEIVED: the logic takes levels, diagnostics, claim state and events; a CRC error is counted and enters
the gutter log (R232, R236). -/
def execUplinkFrameReceived (frame : List Byte) (s : State) : Host.Outcome State Fault Refusal :=
  .next (if ¬ s.sendsFrames then s
    else if ¬ frameGood frame then
      State.gutter { s with fio := { s.fio with crcUp := inc32 s.fio.crcUp } } 0x01 1 0
    else if byteAt frame 19 ≠ 0 ∨ 128 ≤ byteAt frame 0 then s
    else
      let f := s.fio
      let seen : Byte := frame.getD 18 0
      let twin := (byteAt frame 0).testBit 1
      let f1 : FieldIo :=
        { f with
          link := if f.trainLeft = 0 then 2 else 1, claimState := frame.getD 0 0, upSeq := frame.getD 1 0,
          levels := BitVec.ofNat 24 (leAt frame 2 3), readback := BitVec.ofNat 12 (leAt frame 5 2),
          conducting := BitVec.ofNat 12 (leAt frame 7 2), twinClaim := BitVec.ofNat 32 (leAt frame 9 4),
          crcDown := min 0xFFFFFFFF (f.crcDown + (seen - f.downSeen).toNat), downSeen := seen,
          twinAbsent := if twin ∨ ¬ s.twinRuns then none else some (f.twinAbsent.getD s.clk.batten),
          lastUp := some s.clk.batten, stale := false, staleSnaps := 0, waiting := f.waiting ++ upEvents s.clk.batten frame }
      State.takeDiag { s with fio := f1 } frame)

/-- INPUTS_STALE: no good uplink frame for 200 µs (R236). -/
def execInputsStale (s : State) : Host.Outcome State Fault Refusal :=
  let due : Bool := match s.fio.lastUp with
    | some t => decide (2500 ≤ since s.clk.batten t)
    | none => true
  .next (if s.alive ∧ due = true then { s with fio := { s.fio with stale := true, link := if s.fio.trainLeft = 0 then 0 else 1 } } else s)

/-- A forced yield enters the next batch of an active unit of a pair (R346). -/
def State.forcedYield (s : State) : State :=
  if s.isReady ∧ ¬ s.isWorker ∧ s.pair.state = 1 then s.submit (.internal 1 0 0 0) else s

/-- FIELD_LINK_YIELD: the uplink of an active unit has been silent for 30 ms (R236, R346). -/
def execFieldLinkYield (s : State) : Host.Outcome State Fault Refusal :=
  .next (match s.fio.lastUp with
    | some t => if s.fio.stale ∧ msTicks 30 ≤ since s.clk.batten t then s.forcedYield else s
    | none => s)

/-- The field link's part of "link fault" (R236, R244): a whole frame without a good uplink frame, or a twin claim absent
for 50 ms while the ridge link shows the twin running. -/
def State.linkFault (s : State) : Bool :=
  (match s.fio.lastUp with
    | some t => decide (Config.frameTicks ≤ since s.clk.batten t)
    | none => true)
  || (s.twinRuns
      && (match s.fio.twinAbsent with
        | some t => decide (Config.claimFreshTicks ≤ since s.clk.batten t)
        | none => false))

/-! ### The snapshot (R220, R223, R230) -/

/-- The quality of the inputs at a snapshot (Table FIO-2), given how many stale snapshots there have been with this one. -/
def State.dinQuality (s : State) : Nat :=
  if ¬ s.sup.vfld ∨ s.fio.lastUp.isNone then 3 else if ¬ s.fio.stale then 0 else if s.fio.staleSnaps ≤ 1 then 2 else 3

/-- One input: the unit's own STATE; a stale level is carried. -/
def State.snapDin (s : State) (i : Nat) : State :=
  if s.dinQuality ≠ 0 then s
  else s.modDin i (fun d => { d with ownState := xor (s.fio.levels.getLsbD i) (s.cfg cDIN i 0x12 == 1) })

/-- The level of an edge as STATE. -/
def State.edgeState (s : State) (e : DiEvent) : Bool := xor e.level (s.cfg cDIN e.input 0x12 == 1)

/-- The newest edge of an input among a list. -/
def lastEdgeOf (l : List DiEvent) (i : Nat) : Option DiEvent :=
  (l.filter (fun e => e.input == i)).foldl (fun o e =>
    match o with
    | none => some e
    | some d => if (e.stamp - d.stamp).toNat < 2 ^ 39 then some e else some d) none

/-- An input's own state as a line value of the pair (Table FIO-10). -/
def State.ownDin (s : State) (i : Nat) : DinIn :=
  let d := s.dinSt i
  let old := s.dinIn 0 i
  let v : DinIn :=
    { old with state := d.ownState, quality := s.dinQuality, stale := s.fio.stale, fresh := false, frame := s.clk.frameNo }
  match lastEdgeOf s.fio.ripe i with
  | none => v
  | some e =>
    let t := s.stampAt e.stamp
    { v with edge := e.stamp, edgeSec := t.1, edgeOff := t.2, unsync := e.unsync, fresh := true }

/-- One output at the snapshot: READBACK, and the comparison with E unless it is suspended (R230). -/
def State.snapDout (s : State) (o : Nat) : State :=
  let e := s.expected o
  let rb := s.fio.readback.getLsbD o
  s.modDout o (fun d =>
    let blank := if e = d.lastE then d.blank else some s.clk.batten
    let held := match blank with
      | some t => decide (since s.clk.batten t < msTicks (s.cfg cDOUT o 0x13))
      | none => false
    let off := held || s.fio.stale || (s.fio.link != 2)
    { d with
      readback := rb, lastE := e, blank := if held then blank else none, sample := s.clk.frameNo,
      mismatchRun := if off then d.mismatchRun else if rb = e then 0 else min 3 (d.mismatchRun + 1),
      matchRun := if off then d.matchRun else if rb = e then min 3 (d.matchRun + 1) else 0 })

/-- READBACK_FAULT: three mismatches in a row set it and are counted, three matches clear it (R230). -/
def execReadbackFault (output : Fin 12) (s : State) : Host.Outcome State Fault Refusal :=
  let d := s.doutSt output.val
  .next (if ¬ d.fault ∧ 3 ≤ d.mismatchRun then
      s.modDout output.val (fun d => { d with fault := true, readbacks := inc32 d.readbacks })
    else if d.fault ∧ 3 ≤ d.matchRun then s.modDout output.val (fun d => { d with fault := false })
    else s)

/-- The snapshot of the field half at frame start (R16, R223): events that have reached SCAN belong to this frame. -/
def State.snapField (s : State) : State :=
  let f := s.fio
  let s1 : State := { s with fio := { f with
    staleSnaps := if f.stale then min 2 (f.staleSnaps + 1) else 0, ripe := f.ripe ++ f.waiting, ripeNew := f.waiting.length, waiting := [] } }
  let s2 := (List.range 24).foldl State.snapDin s1
  let s3 := (List.range 12).foldl State.snapDout s2
  (List.range 12).foldl State.wholeFrame s3

/-- "field output fault" on this node (R229). -/
def State.outputFault (s : State) : Bool :=
  (List.range 12).any (fun o => let d := s.doutSt o; d.overload || d.openWire || d.overTemp || d.fault)

/-! ### Release of edges (R223) -/

/-- Insert by stamp. -/
def insertEdge (e : DiEvent) : List DiEvent → List DiEvent
  | [] => [e]
  | x :: xs => if (x.stamp - e.stamp).toNat < 2 ^ 39 ∧ x.stamp ≠ e.stamp then e :: x :: xs else x :: insertEdge e xs

/-- The edges of the frame in stamp order. -/
def State.ripeEdges (s : State) : List DiEvent := s.fio.ripe.foldl (fun l e => insertEdge e l) []

/-- Whether a COS_ROUTE bit selects an edge. -/
def State.routed (s : State) (bit : Nat) (e : DiEvent) : Bool := (s.cfg cDIN e.input 0x13).testBit bit

/-- A DI_CHANGE event packet (Table FIO-3). -/
def State.edgeEvent (s : State) (e : DiEvent) : State :=
  s.raise 4 (oid 0 cDIN e.input 0)
    (toLe 1 (b2n (s.edgeState e)) ++ toLe 1 (b2n e.overflow + 2 * b2n e.unsync) ++ toLe 5 e.stamp.toNat ++ [0]
      ++ toLe 4 (s.stampAt e.stamp).1)

/-- The record of an edge (Tables REC-1, REC-4). -/
def State.edgeRecord (s : State) (e : DiEvent) : Occurrence :=
  let t := s.stampAt e.stamp
  { code := s.cfg cDIN e.input 0x14, sev := 1, typ := 1, object := oid 0 cDIN e.input 0, sec := t.1, off := t.2, unsync := e.unsync,
    data := toLe 1 (b2n (s.edgeState e)) ++ toLe 1 (b2n e.overflow + 2 * b2n e.unsync) ++ [0, 0] }

/-! ### Comparison with the mirrored values (R211, R221) -/

/-- DISAGREE_TOL, or the default of Table AFE-6b. -/
def tolerance (cfg : Sparse Nat) (ch : Nat) : Nat :=
  let t := cfgOf cfg cAIN ch 0x18
  let m := cfgOf cfg cAIN ch 0x10
  if t ≠ 0 then t else if isRtd m then 500 else if isTc m then 1500 else if m = 3 then 20000 else if m = 8 then 32000 else 20000

/-- One more compared frame of a run towards a change of the flag. -/
def runOf (flag out : Bool) (n : Nat) : Nat := if out = flag then 0 else min 50 (n + 1)

/-- The standby compares one channel at a pegged frame in which both values are GOOD (R211). -/
def State.compareAin (s : State) (ch : Nat) : State :=
  let c := s.ainSt ch
  let v := s.ainIn 0 ch
  if c.paused ∨ c.ownQuality ≠ 0 ∨ v.quality ≠ 0 then s
  else
    s.modCh ch (fun c => { c with run := runOf (s.disagrees ch) (decide (tolerance s.peg.cfg ch < (c.own - v.value).natAbs)) c.run })

/-- The standby compares one input (R221). -/
def State.compareDin (s : State) (i : Nat) : State :=
  let d := s.dinSt i
  let v := s.dinIn 0 i
  if d.paused ∨ s.dinQuality ≠ 0 ∨ v.quality ≠ 0 then s
  else s.modDin i (fun d => { d with run := runOf (s.disagrees (64 + i)) (d.ownState != v.state) d.run })

/-- The comparisons of a pegged frame on a synchronised standby. -/
def State.compareLines (s : State) : State :=
  (List.range 24).foldl State.compareDin ((List.range 16).foldl State.compareAin s)

/-- DISAGREE: fifty compared frames call for a change; it goes to the active as a batch item, and the count pauses until the
peg that applies it (R211). -/
def execDisagree (line : FieldLine) (s : State) : Host.Outcome State Fault Refusal :=
  .next (match line with
    | .ain ch =>
      if ¬ s.isStandby ∨ (s.ainSt ch.val).paused ∨ (s.ainSt ch.val).run < 50 then s
      else (s.modCh ch.val (fun c => { c with paused := true })).submit (.internal 4 0 ch.val (b2n (!s.disagrees ch.val)))
    | .din i =>
      if ¬ s.isStandby ∨ (s.dinSt i.val).paused ∨ (s.dinSt i.val).run < 50 then s
      else (s.modDin i.val (fun d => { d with paused := true })).submit (.internal 4 0 (64 + i.val) (b2n (!s.disagrees (64 + i.val)))))

/-- The peg that applies a change of DISAGREE: counting starts afresh, and a raise is counted (R211). -/
def State.disagreePegged (s : State) (line : Nat) (on : Bool) : State :=
  if line < 64 then
    s.modCh line (fun c => { c with paused := false, run := 0, disagreeCount := if on then inc32 c.disagreeCount else c.disagreeCount })
  else
    s.modDin (line - 64) (fun d => { d with paused := false, run := 0, disagreeCount := if on then inc32 d.disagreeCount else d.disagreeCount })

end Sys2Proof.Machine
end

