-- ==== Sys2Proof/Machine/Uart.lean ====
section
/-! DEFINITION. The UARTs (R108, R384-R388): queues, flow control, the COBS frames of U0 and U2, and the driver enables of U1
and U2. -/

namespace Sys2Proof.Machine

/-! ### COBS (R108) -/

/-- COBS encoding: blocks of at most 254 non-zero bytes, each behind its code byte. -/
def cobsEncode (fuel : Nat) (b : List Byte) : List Byte :=
  match fuel with
  | 0 => []
  | k + 1 =>
    let blk := (b.takeWhile (fun x => x != 0)).take 254
    match b.drop blk.length with
    | [] => BitVec.ofNat 8 (blk.length + 1) :: blk
    | x :: rest =>
      if blk.length = 254 then 0xFF#8 :: blk ++ cobsEncode k (x :: rest)
      else BitVec.ofNat 8 (blk.length + 1) :: blk ++ cobsEncode k rest

/-- COBS decoding; none for a bad code. -/
def cobsDecode (fuel : Nat) (b : List Byte) : Option (List Byte) :=
  match fuel, b with
  | 0, _ => none
  | _, [] => none
  | k + 1, c :: rest =>
    let n := c.toNat - 1
    let blk := rest.take n
    if c = 0 ∨ blk.length < n ∨ blk.contains 0#8 then none
    else
      match rest.drop n with
      | [] => some blk
      | more => (cobsDecode k more).map (fun t => blk ++ (if c = 0xFF then [] else [0#8]) ++ t)

/-- A frame on the line: the packet, its CRC-16, COBS-encoded, closed by 0x00. -/
def cobsFrame (b : List Byte) : List Byte := cobsEncode (b.length + 3) (withCrc16 b) ++ [0#8]

/-! ### One UART -/

def State.uart (s : State) : Uart → UartSt
  | .u0 => s.hw.u0 | .u1 => s.hw.u1 | .u2 => s.hw.u2

def State.modUart (s : State) (u : Uart) (f : UartSt → UartSt) : State :=
  match u with
  | .u0 => { s with hw := { s.hw with u0 := f s.hw.u0 } }
  | .u1 => { s with hw := { s.hw with u1 := f s.hw.u1 } }
  | .u2 => { s with hw := { s.hw with u2 := f s.hw.u2 } }

/-- The UART runs: its ports answer and its block is not in reset. -/
def State.uartOn (s : State) (u : Uart) : Bool :=
  s.portLive (match u with | .u0 => .u0 | .u1 => .u0 | .u2 => .u2) && !s.blockInReset (9 + uartNo u)

/-- The Turwa port of a UART, if it carries packets (R388). -/
def State.uartPort (s : State) (u : Uart) : Option Port :=
  match u with
  | .u0 => some .u0
  | .u1 => none
  | .u2 => if s.panelMode then none else some .u2

/-- The fill that a trigger code names (R385). -/
def triggerLevel (code : Nat) : Nat := ([1, 4, 8, 16, 32, 64, 96, 120] : List Nat).getD code 1

/-- Hardware flow control applies (R386). -/
def State.flowOn (s : State) (u : Uart) : Bool := (s.uartPort u).isSome && (s.uartCfg u 5).testBit 0

/-- All four front-end answer slots of the UART's port are in use (R386). -/
def State.slotsFull (s : State) (u : Uart) : Bool :=
  match s.uartPort u with
  | some p => decide (4 ≤ s.feUsed p)
  | none => false

/-- UnRTS_N after a change of the fill or of the answer slots (R386). -/
def State.rtsUpdate (s : State) (u : Uart) : State :=
  s.modUart u (fun x =>
    { x with rtsHigh :=
        if ¬ s.flowOn u then false
        else if s.slotsFull u ∨ s.uartCfg u 3 ≤ x.rx.length then true
        else if x.rx.length ≤ s.uartCfg u 4 then false else x.rtsHigh })

/-- Hand the receive queue to its parser, which takes it while it has an answer slot (R385, notes/assumptions/30.md). -/
def State.handOff (s : State) (u : Uart) : State :=
  if s.slotsFull u then s else s.modUart u (fun x => { x with rx := [] })

/-- The delimiter of a UART's traffic (R385). -/
def delimiter (u : Uart) : Byte := if u = .u1 then 0x0A else 0

/-- UART_CHAR_RECEIVED: a character enters the receive queue, or is dropped when the queue is full; one with a line error is
counted and discarded (R384, R385). -/
def execUartCharReceived (u : Uart) (c : Byte) (lineError : Bool) (s : State) : Host.Outcome State Fault Refusal :=
  .next (if ¬ s.uartOn u then s
    else if lineError then s.modUart u (fun x => { x with lineErrors := inc32 x.lineErrors })
    else if u = .u2 ∧ s.panelMode then s
    else if 128 ≤ (s.uart u).rx.length then
      s.modUart u (fun x => { x with overruns := inc32 x.overruns, spoiled := true })
    else
      let s1 := s.modUart u (fun x => { x with rx := x.rx ++ [c] })
      let s2 := s1.rtsUpdate u
      if triggerLevel (s.uartCfg u 1) ≤ (s1.uart u).rx.length ∨ c = delimiter u then (s2.handOff u).rtsUpdate u else s2)

/-- UART_IDLE_HANDOFF: after four idle character times the queue goes to its parser (R385). -/
def execUartIdleHandoff (u : Uart) (s : State) : Host.Outcome State Fault Refusal :=
  .next (if ¬ s.uartOn u then s else (s.handOff u).rtsUpdate u)

/-- The frame under reception was spoiled by a lost character, or not; the mark is gone with it. -/
def State.takeSpoiled (s : State) (u : Uart) : Bool × State :=
  ((s.uart u).spoiled, s.modUart u (fun x => { x with spoiled := false }))

/-- UART_FRAME_RECEIVED: the encoded bytes before a delimiter. A bad COBS code, a bad CRC or more than 4151 bytes discard
it; else the packet goes to the front end (R108). U2 in panel mode discards what it receives (R388). -/
def execUartFrameReceived (u : TurwaUart) (frame : List Byte) (s : State) : Host.Outcome State Fault Refusal :=
  let v : Uart := match u with | .u0 => .u0 | .u2 => .u2
  .next (match s.uartPort v with
    | none => s
    | some p =>
      if ¬ s.uartOn v ∨ s.slotsFull v then s
      else
        let (lost, s1) := s.takeSpoiled v
        match (if lost ∨ 4151 < frame.length then none else cobsDecode (frame.length + 1) frame) with
        | none => s1.badFrame
        | some b =>
          let n := b.length - 2
          if b.length < 2 ∨ leAt b n 2 ≠ crc16 (b.take n) then s1.badFrame
          else ((s1.frontBytes p (b.take n)).handOff v).rtsUpdate v)

/-- CTS_CHANGE: high, the transmitter stops after the character in progress; low, it goes on (R386). -/
def execCtsChange (u : Uart) (high : Bool) (s : State) : Host.Outcome State Fault Refusal :=
  .next (s.modUart u (fun x => { x with ctsHigh := high, ctsAt := if high ∧ ¬ x.ctsHigh then s.clk.batten else x.ctsAt }))

/-- Ticks of one character of 10 bits (R384, Table PRT-3). -/
def charTicks (code : Nat) : Nat :=
  ceilDiv 125000000 (([4800, 9600, 19200, 38400, 57600, 115200, 230400, 460800, 921600] : List Nat).getD code 4800)

/-- The transmitter is stopped by UnCTS_N: the character in progress has ended. -/
def State.ctsStops (s : State) (u : Uart) : Bool :=
  s.flowOn u && (s.uart u).ctsHigh && decide (charTicks (s.uartCfg u 0) < since s.clk.batten (s.uart u).ctsAt)

/-- The last byte of the head packet of a UART has left (R120). -/
def State.uartSent (s : State) (u : Uart) (p : Port) : State :=
  match s.outQ p with
  | [] => s
  | k :: _ => ((s.modUart u (fun x => { x with tx := cobsFrame k.wire })).sentHead p).rtsUpdate u

/-! ### Driver enables (R387) -/

/-- The unit may transmit on U1 and, in panel mode, on U2: an active or solo manager from its first pegged frame. -/
def State.mayTalk (s : State) : Bool := s.isReady && s.isActive && s.rst.firstPeg

/-- The outgoing unit has finished: its driver is off, and the twin is told (Table TWN-15, CONTROL code 3). -/
def State.releaseDriver (s : State) (line : DriverLine) : State :=
  let tell (n : Nat) (s : State) : State := s.sendRidge kCONTROL (toLe 1 3 ++ [0] ++ toLe 1 n ++ [0] ++ toLe 4 s.clk.frameNo.toNat)
  match line with
  | .u1 => tell 1 { s with hw := { s.hw with drive1 := false, released1 := false, sentences := [] } }
  | .u2 => tell 2 { s with hw := { s.hw with drive2 := false, released2 := false, panelq := [] } }

/-- At its handover the outgoing unit begins nothing new; what is being sent is finished first. -/
def State.stopDrivers (s : State) : State :=
  let s1 :=
    if ¬ s.hw.drive1 then { s with hw := { s.hw with sentences := [] } }
    else if s.hw.sentences.isEmpty then s.releaseDriver .u1
    else { s with hw := { s.hw with sentences := s.hw.sentences.take 1, released1 := true } }
  if ¬ s1.hw.drive2 then { s1 with hw := { s1.hw with panelq := [] } }
  else if s1.hw.panelq.isEmpty then s1.releaseDriver .u2
  else { s1 with hw := { s1.hw with panelq := s1.hw.panelq.take 1, released2 := true } }

/-- The incoming unit enables a driver. -/
def State.enableDriver (s : State) (line : DriverLine) : State :=
  match line with
  | .u1 => { s with hw := { s.hw with drive1 := true, waitRelease1 := none, released1 := false } }
  | .u2 => { s with hw := { s.hw with drive2 := true, waitRelease2 := none, released2 := false } }

/-- What a line waits for: the first frame of its role, none if it waits for nothing. -/
def State.waitOf (s : State) (line : DriverLine) : Option Frame :=
  match line with
  | .u1 => s.hw.waitRelease1 | .u2 => s.hw.waitRelease2

/-- The first frame start after the release has come enables the drivers of the incoming unit. -/
def State.driversAtFrame (s : State) : State :=
  let s1 := if s.hw.waitRelease1.isSome ∧ s.hw.released1 then s.enableDriver .u1 else s
  if s1.hw.waitRelease2.isSome ∧ s1.hw.released2 then s1.enableDriver .u2 else s1

/-- DRIVER_ENABLE_FALLBACK: no release by the start of frame m + 20 (R387). -/
def execDriverEnableFallback (line : DriverLine) (s : State) : Host.Outcome State Fault Refusal :=
  .next (match s.waitOf line with
    | some m => if s.isActive ∧ frameGe s.clk.frameNo (m + 20) then s.enableDriver line else s
    | none => s)

end Sys2Proof.Machine
end

