-- ==== Sys2Proof/Machine/Bridge.lean ====
section
/-! DEFINITION. The bridge line U1 (R293-R295, R389-R392): sentences received and sent. -/

namespace Sys2Proof.Machine

/-! ### Characters -/

/-- Decimal digits of a number without leading zeros. -/
def decDigits : Nat → Nat → List Byte
  | 0, _ => []
  | k + 1, n => (if n < 10 then [] else decDigits k (n / 10)) ++ [BitVec.ofNat 8 (0x30 + n % 10)]

def dec (n : Nat) : List Byte := decDigits 20 n

/-- Two decimal digits. -/
def dec2 (n : Nat) : List Byte := [BitVec.ofNat 8 (0x30 + n / 10 % 10), BitVec.ofNat 8 (0x30 + n % 10)]

/-- The number that decimal digits spell, none for another character or no character. -/
def undec (b : List Byte) : Option Nat :=
  if b.isEmpty then none
  else b.foldl (fun o c => match o with
    | some n => if 0x30 ≤ c.toNat ∧ c.toNat ≤ 0x39 then some (10 * n + (c.toNat - 0x30)) else none
    | none => none) (some 0)

/-- An upper-case hexadecimal digit. -/
def hexDigit (n : Nat) : Byte := BitVec.ofNat 8 (if n < 10 then 0x30 + n else 0x37 + n)

/-- The value of a hexadecimal digit in either case. -/
def unhex (c : Byte) : Option Nat :=
  let n := c.toNat
  if 0x30 ≤ n ∧ n ≤ 0x39 then some (n - 0x30)
  else if 0x41 ≤ n ∧ n ≤ 0x46 then some (n - 0x37)
  else if 0x61 ≤ n ∧ n ≤ 0x66 then some (n - 0x57) else none

/-! ### Sentences (R389) -/

/-- The XOR of characters. -/
def checkXor (b : List Byte) : Byte := b.foldl (· ^^^ ·) 0

/-- A sentence around a body: "$", body, "*hh", CR LF. -/
def sentence (body : List Byte) : List Byte :=
  let x := (checkXor body).toNat
  [0x24#8] ++ body ++ [0x2A#8, hexDigit (x / 16), hexDigit (x % 16), 0x0D, 0x0A]

/-- Fields separated by commas. -/
def fieldsOf : List Byte → List (List Byte)
  | [] => [[]]
  | c :: cs =>
    if c = 0x2C then [] :: fieldsOf cs
    else
      match fieldsOf cs with
      | f :: fs => (c :: f) :: fs
      | [] => [[c]]

/-- Join fields with commas. -/
def joinFields : List (List Byte) → List Byte
  | [] => []
  | [f] => f
  | f :: fs => f ++ [0x2C#8] ++ joinFields fs

/-- The fields of a sentence that meets R389. -/
def sentenceFields (t : List Byte) : Option (List (List Byte)) :=
  let n := t.length
  if n < 6 ∨ 82 < n ∨ byteAt t 0 ≠ 0x24 ∨ byteAt t (n - 2) ≠ 0x0D ∨ byteAt t (n - 1) ≠ 0x0A ∨ byteAt t (n - 5) ≠ 0x2A then none
  else
    let body := slice t 1 (n - 6)
    match unhex (t.getD (n - 4) 0), unhex (t.getD (n - 3) 0) with
    | some a, some b => if 16 * a + b = (checkXor body).toNat then some (fieldsOf body) else none
    | _, _ => none

/-- The sentence type behind any talker identifier. -/
def sentenceType (fs : List (List Byte)) : List Byte :=
  match fs with
  | a :: _ => if a.length = 5 then a.drop 2 else []
  | [] => []

/-- U1 receives sentences: its UART runs; a spoiled sentence fails its check (R385). -/
def State.bridgeOn (s : State) : Bool := s.uartOn .u1 && !s.isWorker

def State.sentenceBad (s : State) : State := { s with hw := { s.hw with sentBad := inc32 s.hw.sentBad } }

/-- A sentence at U1 as its check leaves it: before READY only ZDA is taken (R94). -/
def State.takeSentence (s : State) (text : List Byte) : Option (List (List Byte)) × State :=
  let (lost, s1) := s.takeSpoiled .u1
  (if lost then none else sentenceFields text, s1)

/-! ### ACN (R391, R295) -/

/-- Field k, empty if absent. -/
def fieldAt (fs : List (List Byte)) (k : Nat) : List Byte := fs.getD k []

/-- The conditions under which an ACN is taken (R391); its fields in the order of IEC 61162-1 (notes/assumptions/29.md): time,
manufacturer, identifier, instance, command, status. -/
def acnTaken (fs : List (List Byte)) : Bool :=
  ((fieldAt fs 2).isEmpty || fieldAt fs 2 == ascii "SDX")
    && [ascii "A", ascii "Q", ascii "O", ascii "S"].contains (fieldAt fs 5) && fieldAt fs 6 == ascii "C"

/-- ACN_RECEIVED: checked, and put into the batch; on a standby it is forwarded (R295). -/
def execAcnReceived (text : List Byte) (s : State) : Host.Outcome State Fault Refusal :=
  .next (if ¬ s.bridgeOn then s
    else
      let (o, s1) := s.takeSentence text
      if ¬ s.isReady then s1
      else
        match o with
        | none => s1.sentenceBad
        | some fs =>
          if sentenceType fs ≠ ascii "ACN" then s1
          else if ¬ acnTaken fs then s1.sentenceBad
          else if s1.pair.detached then s1 else s1.submit (.acn text))

/-- UTC of a stamp: SECONDS less ZONE_OFFSET_MIN (R258, R294), as hhmmss.ss. -/
def State.utcField (s : State) (sec off : Nat) : List Byte :=
  let n := (((sec : Int) - 60 * cfgInt s.peg.cfg 2 cCLOCK 0 0x21) % 86400).toNat
  dec2 (n / 3600) ++ dec2 (n % 3600 / 60) ++ dec2 (n % 60) ++ [0x2E#8] ++ dec2 (min 99 (off / 125000))

/-- TALKER. -/
def State.talker (s : State) : List Byte := toLe 2 (s.dev 0x5D)

/-- ARC: the refusal of a command (Table PRT-4). -/
def State.arcText (s : State) (fs : List (List Byte)) : List Byte :=
  sentence (joinFields [s.talker ++ ascii "ARC", s.utcField s.clk.snapSec s.clk.snapOff, ascii "SDX", fieldAt fs 3, fieldAt fs 4,
    fieldAt fs 5])

/-- The point that a bridge identifier and instance name. -/
def Prov.alertPoint (p : Prov) (fs : List (List Byte)) : Option Nat :=
  match undec (fieldAt fs 3), undec (fieldAt fs 4) with
  | some id, some 1 =>
    if id = 0 then none
    else (cfgIndices p.st.cfg cPOINT 0x36).find? (fun n => p.c cPOINT n 0x36 == id && alertPrio (p.severity n) != 3)
  | _, _ => none

/-- An ACN at its place in the batch (R295). -/
def applyAcn (s : State) (p : Prov) (text : List Byte) : Prov :=
  match sentenceFields text with
  | none => p
  | some fs =>
    let refuse : Prov := { p with sentences := p.sentences ++ [{ kind := 2, point := 0, text := s.arcText fs }] }
    match p.alertPoint fs with
    | none => refuse
    | some n =>
      let x := p.pt n
      if fieldAt fs 5 = ascii "A" then (if p.c cPOINT n 0x26 = 1 then ackPoint s 0x40 p n else refuse)
      else if fieldAt fs 5 = ascii "S" then
        (if x.active ∧ x.unack then p.setPt n { x with silenceEnd := some (p.frame + 3000) } else p)
      else if fieldAt fs 5 = ascii "Q" then p.sendAlf n
      else refuse

/-! ### ZDA and the rest (R391) -/

/-- The UTC date and time of a ZDA, if it is valid. -/
def zdaDate (fs : List (List Byte)) : Option Date :=
  let t := fieldAt fs 1
  let whole := t.length == 6 || (byteAt t 6 == 0x2E && (t.drop 7).all (fun c => decide (0x30 ≤ c.toNat ∧ c.toNat ≤ 0x39)))
  match undec (slice t 0 2), undec (slice t 2 2), undec (slice t 4 2), undec (fieldAt fs 2), undec (fieldAt fs 3), undec (fieldAt fs 4) with
  | some h, some mi, some sc, some d, some mo, some y =>
    let dt : Date := { year := y, month := mo, day := d, hour := h, min := mi, sec := sc }
    if whole ∧ 6 ≤ t.length ∧ (fieldAt fs 4).length = 4 ∧ dateOk dt then some dt else none
  | _, _, _, _, _, _ => none

/-- Keep the latest label, and label with it (R94, R258). -/
def State.keepLabel (s : State) (utc : Date) : State :=
  State.timeLabel { s with eave := { s.eave with label := some utc } } utc

/-- ZDA_RECEIVED: checked, and fed to discipline when ZDA_PORT selects U1 (R391). -/
def execZdaReceived (text : List Byte) (s : State) : Host.Outcome State Fault Refusal :=
  .next (if ¬ s.bridgeOn then s
    else
      let (o, s1) := s.takeSentence text
      match o with
      | none => s1.sentenceBad
      | some fs =>
        if sentenceType fs ≠ ascii "ZDA" then s1
        else
          match zdaDate fs with
          | none => s1
          | some d => if s1.dev 0x5E = 0 then s1.keepLabel d else s1)

/-- OTHER_SENTENCE_RECEIVED: a bad sentence is counted bad, a well-formed one of another type ignored (R389). -/
def execOtherSentenceReceived (text : List Byte) (s : State) : Host.Outcome State Fault Refusal :=
  .next (if ¬ s.bridgeOn then s
    else
      let (o, s1) := s.takeSentence text
      if ¬ s.isReady then s1
      else
        match o with
        | none => s1.sentenceBad
        | some fs =>
          if sentenceType fs = ascii "ACN" ∨ sentenceType fs = ascii "ZDA" then s1
          else { s1 with hw := { s1.hw with sentIgnored := inc32 s1.hw.sentIgnored } })

/-! ### Sentences sent (R294, R390, R392) -/

/-- LABEL without trailing spaces. -/
def State.labelText (s : State) (n : Nat) : List Byte :=
  ((toLe 16 (s.cfg cPOINT n 0x37)).reverse.dropWhile (· == 0x20#8)).reverse

/-- The letter of an alert state. -/
def alertLetter : Nat → List Byte
  | 1 => ascii "V" | 2 => ascii "S" | 3 => ascii "A" | 4 => ascii "U" | _ => ascii "N"

/-- The letter of a priority. -/
def prioLetter : Nat → List Byte
  | 0 => ascii "A" | 1 => ascii "W" | _ => ascii "C"

/-- ALF of a point as pegged (Table PRT-4). -/
def State.alfText (s : State) (n : Nat) : List Byte :=
  let x := s.pointSt n
  sentence (joinFields [s.talker ++ ascii "ALF", dec 1, dec 1, [], s.utcField x.chSec x.chOff, ascii "B",
    prioLetter (alertPrio (s.provNow.severity n)), alertLetter x.alert, ascii "SDX", dec (s.cfg cPOINT n 0x36), dec 1,
    dec x.alfRev, dec 0, s.labelText n])

/-- Cut a list into groups of three; an empty list is one empty group. -/
def threes : Nat → List Nat → List (List Nat)
  | 0, _ => []
  | k + 1, l => if l.length ≤ 3 then [l] else l.take 3 :: threes k (l.drop 3)

/-- The sentences of an alert list (Table PRT-4). -/
def State.alcTexts (s : State) (id : Nat) : List (List Byte) :=
  let ns := (s.peg.engine.points.filter (fun e => e.2.alert != 0)).map Prod.fst
  let gs := threes (ns.length + 1) ns
  gs.zipIdx.map (fun g =>
    sentence (joinFields ([s.talker ++ ascii "ALC", dec gs.length, dec (g.2 + 1), dec id, dec g.1.length]
      ++ g.1.flatMap (fun n => [ascii "SDX", dec (s.cfg cPOINT n 0x36), dec 1, dec (s.pointSt n).alfRev]))))

/-- Whether ALF of point a goes before that of point b: priority, then change time (R294). -/
def State.alfBefore (s : State) (a b : Nat) : Bool :=
  let pr (n : Nat) : Nat := alertPrio (s.provNow.severity n)
  let age (n : Nat) : Nat := since s.clk.batten (s.pointSt n).chBatten
  decide (pr a < pr b) || (pr a == pr b && decide (age b < age a))

/-- Put an ALF among the waiting ones. -/
def State.insertAlf (s : State) (x : Sentence) : List Sentence → List Sentence
  | [] => [x]
  | y :: ys => if s.alfBefore x.point y.point then x :: y :: ys else y :: s.insertAlf x ys

/-- A sentence joins the queue of 64 (R392): an ALF replaces an older state of its alert and takes its place by priority; the
others follow the ALFs (notes/assumptions/31.md). The sentence being sent stays. -/
def State.queueSentence (s : State) (x : Sentence) : State :=
  let busy := if s.hw.drive1 then s.hw.sentences.take 1 else []
  let rest := s.hw.sentences.drop busy.length
  let alfs := rest.filter (fun y => y.kind == 0 && !(x.kind == 0 && y.point == x.point))
  let others := rest.filter (fun y => y.kind != 0)
  let q := if x.kind = 0 then s.insertAlf x alfs ++ others else alfs ++ others ++ [x]
  { s with hw := { s.hw with sentences := (busy ++ q).take 64 } }

/-- Release one sentence of a peg: its text is that of the pegged state (R17, R392). -/
def State.releaseSentence (s : State) (x : Sentence) : State :=
  match x.kind with
  | 0 => s.queueSentence { x with text := s.alfText x.point }
  | 1 =>
    let s1 := (s.alcTexts s.hw.alcId).foldl (fun s t => s.queueSentence { x with text := t }) s
    { s1 with hw := { s1.hw with alcId := (s1.hw.alcId + 1) % 10, lastAlc := s1.clk.frameNo } }
  | _ => s.queueSentence x

/-- The bridge sentences of a peg: an active or solo manager queues them; a standby sends none (R291), but keeps the list's
time. -/
def State.releaseSentences (s : State) (l : List Sentence) : State :=
  if s.isActive then l.foldl State.releaseSentence s
  else if l.any (fun x => x.kind == 1) then { s with hw := { s.hw with lastAlc := s.clk.frameNo } } else s

/-! ### Steps of the engine that concern the bridge -/

/-- Change the provisional result, if there is one; its digest follows (R335). -/
def State.onProv (s : State) (f : Prov → Prov) : State :=
  match s.prov with
  | none => s
  | some p =>
    let q := f p
    { s with prov := some { q with digest := frameDigest q.frame q.st q.applied } }

/-- BRIDGE_SILENCE_EXPIRY: 30 s of silence are over; the alert is V again if still unacknowledged (R295). -/
def execBridgeSilenceExpiry (point : Fin 2080) (s : State) : Host.Outcome State Fault Refusal :=
  .next (s.onProv (fun p =>
    match (p.pt point.val).silenceEnd with
    | some f => if frameGe p.frame f then alertStep p point.val else p
    | none => p))

/-- ALF_REPEAT (R294). -/
def execAlfRepeat (point : Fin 2080) (s : State) : Host.Outcome State Fault Refusal :=
  .next (s.onProv (fun p => alfRepeatStep p point.val))

/-- ALC_LIST (R294). -/
def execAlcList (s : State) : Host.Outcome State Fault Refusal := .next (s.onProv (fun p => p.alcStep s))

end Sys2Proof.Machine
end

