-- ==== Sys2Proof/Machine/Can.lean ====
section
/-! DEFINITION. CAN FD and the Zigon mapping (R109, R393-R401), the U2 panel frames (R402), and the end of a transmission on
any line (R120, R392). The error counters follow ISO 11898-1 (notes/assumptions/32.md). -/

namespace Sys2Proof.Machine

/-! ### A controller -/

def canPort : CanNo → Port
  | .can0 => .can0 | .can1 => .can1

/-- The controller is in service: its ports answer, a nominal rate is set, its block is not in reset. -/
def State.canOn (s : State) (c : CanNo) : Bool :=
  s.portLive (canPort c) && !s.blockInReset (12 + canNo c) && (s.canCfg c 0 != 0)

/-- The controller takes part in the bus. -/
def State.canLive (s : State) (c : CanNo) : Bool := s.canOn c && ((s.can c).state != 3)

/-- Error-active or error-passive by the counters. -/
def CanSt.judge (x : CanSt) : CanSt :=
  if x.state = 3 then x else { x with state := if 127 < x.tec ∨ 127 < x.recCount then 2 else 1 }

/-- A frame has been received without error: LONE clears (R394), and REC falls. -/
def State.canRx (s : State) (c : CanNo) : State :=
  let x := s.can c
  let clear (y : CanSt) : CanSt := { y with lone := false, ackErrors := if y.lone then 0 else y.ackErrors }
  if x.recCount ≤ 127 then s.modCan c (fun y => ({ clear y with recCount := y.recCount - 1 } : CanSt).judge)
  else
    let (v, s1) := s.draw
    s1.modCan c (fun y => ({ clear y with recCount := 119 + v % 9 } : CanSt).judge)

/-- CAN_BUS_ERROR: the counters move, and with them the controller (R394). An acknowledgement error of an error-passive
transmitter does not raise TEC, so it never leads to bus-off. -/
def execCanBusError (c : CanNo) (err : CanError) (s : State) : Host.Outcome State Fault Refusal :=
  .next (if ¬ s.canLive c then s
    else
      match err with
      | .transmit =>
        s.modCan c (fun x =>
          let t := x.tec + 8
          if 255 < t then { x with tec := 255, state := 3, busOffs := inc16 x.busOffs } else ({ x with tec := t } : CanSt).judge)
      | .receive => s.modCan c (fun x => ({ x with recCount := min 255 (x.recCount + 1) } : CanSt).judge)
      | .acknowledge =>
        s.modCan c (fun x => ({ x with ackErrors := x.ackErrors + 1, tec := if x.state = 2 then x.tec else x.tec + 8 } : CanSt).judge))

/-- LONE: sixteen consecutive acknowledgement errors (R394). -/
def execLone (c : CanNo) (s : State) : Host.Outcome State Fault Refusal :=
  .next (if s.canLive c ∧ 16 ≤ (s.can c).ackErrors then s.modCan c (fun x => { x with lone := true }) else s)

/-- LONE_RETRY: the head frame is sent, at most once per 100 ms (R394). -/
def execLoneRetry (c : CanNo) (s : State) : Host.Outcome State Fault Refusal :=
  let due : Bool := match (s.can c).lastRetry with
    | some t => decide (msTicks 100 ≤ since s.clk.batten t)
    | none => true
  .next (if s.canLive c ∧ (s.can c).lone ∧ due = true then s.modCan c (fun x => { x with lastRetry := some s.clk.batten }) else s)

/-- BUS_OFF_RECOVERY: 128 occurrences of 11 recessive bits (R393). -/
def execBusOffRecovery (c : CanNo) (s : State) : Host.Outcome State Fault Refusal :=
  .next (if s.canOn c ∧ (s.can c).state = 3 then s.modCan c (fun x => { x with state := 1, tec := 0, recCount := 0 }) else s)

/-- PROTOCOL_EXCEPTION: counted; the controller integrates again (R393). -/
def execProtocolException (c : CanNo) (s : State) : Host.Outcome State Fault Refusal :=
  .next (if s.canLive c then s.modCan c (fun x => { x with protoExc := inc16 x.protoExc }) else s)

/-! ### Identifiers and addresses (R395, R396) -/

def idSrc (i : BitVec 29) : Nat := bitsAt i.toNat 0 7
def idDst (i : BitVec 29) : Nat := bitsAt i.toNat 7 7
def idType (i : BitVec 29) : Nat := bitsAt i.toNat 14 8
def idZero (i : BitVec 29) : Nat := bitsAt i.toNat 22 4
def idPrio (i : BitVec 29) : Nat := bitsAt i.toNat 26 3

/-- An identifier (Table PRT-5). -/
def canId (prio typ dst src : Nat) : BitVec 29 := BitVec.ofNat 29 (src + 128 * dst + 16384 * typ + 67108864 * prio)

/-- The node's own CAN address; none for a worker without an index. -/
def State.canAddr (s : State) : Option Nat :=
  let base := s.dev 0x5C
  if s.isWorker then (if s.ring.index = 0 then none else some (base + 1 + s.ring.index)) else some (base + b2n s.unitB)

/-- A TURWA segment for this node. -/
def State.isSegment (s : State) (i : BitVec 29) : Bool :=
  idType i == 1 && idPrio i == 4 && idZero i == 0 && idSrc i != 0 && (s.canAddr == some (idDst i))

/-- A time label. -/
def isTimeLabel (i : BitVec 29) : Bool := idType i == 0x20 && idPrio i == 2 && idZero i == 0 && idSrc i != 0 && idDst i == 0

/-- CAN_FRAME_RECEIVED: a frame with another identifier is received and ignored (R395). -/
def execCanFrameReceived (c : CanNo) (ident : BitVec 29) (s : State) : Host.Outcome State Fault Refusal :=
  .next (if s.canLive c ∧ ¬ s.isSegment ident ∧ ¬ isTimeLabel ident then s.canRx c else s)

/-! ### Segment trains (R109, R397, R398) -/

/-- A train is discarded and counted. -/
def State.dropTrain (s : State) (c : CanNo) (src : BitVec 7) (num : Byte) : State :=
  (s.modCan c (fun x => { x with trains := x.trains.filter (fun t => !(t.src == src && t.num == num)) })).badFrame

def State.canDiscard (s : State) (c : CanNo) : State := s.modCan c (fun x => { x with discards := inc32 x.discards })

/-- Whether the session that a train's first bytes name may use more than five segments. -/
def State.longTrain (s : State) (c : CanNo) (data : List Byte) : Bool :=
  match (if echoSession data = 0 then none else s.sess? (canPort c) (echoSession data)) with
  | some x => x.features.getLsbD fCANSEG
  | none => false

/-- Where a session's replies go on CAN; a reply of session 0 by its SEQ. -/
def partnerKey (session : Half) (seq : Word) : Nat := if session = 0 then 65536 + seq.toNat else session.toNat

/-- A train is complete: to the front end, or discarded while no answer slot is free (R398). -/
def State.trainDone (s : State) (c : CanNo) (src : BitVec 7) (data : List Byte) : State :=
  if 4 ≤ s.feUsed (canPort c) then s.canDiscard c
  else
    (s.modCan c (fun x => { x with partners := sset 0 x.partners (partnerKey (echoSession data) (echoSeq data)) src.toNat })).frontBytes
      (canPort c) data

/-- One more segment of an open train. -/
def State.nextSegment (s : State) (c : CanNo) (t : Train) (idx : Nat) (last : Bool) (bytes : List Byte) : State :=
  if idx ≠ t.next ∨ (idx = 5 ∧ ¬ s.longTrain c t.data) ∨ msTicks 100 < since s.clk.batten t.began then s.dropTrain c t.src t.num
  else
    let data := t.data ++ bytes
    let others := (s.can c).trains.filter (fun u => u != t)
    if last then (s.modCan c (fun x => { x with trains := others })).trainDone c t.src data
    else s.modCan c (fun x => { x with trains := others ++ [{ t with next := idx + 1, data := data }] })

/-- TURWA_SEGMENT_RECEIVED (R397). -/
def execTurwaSegmentReceived (c : CanNo) (ident : BitVec 29) (payload : List Byte) (s : State) : Host.Outcome State Fault Refusal :=
  .next (if ¬ s.canLive c ∨ ¬ s.isSegment ident then s
    else
      let s1 := s.canRx c
      let src := BitVec.ofNat 7 (idSrc ident)
      let num : Byte := payload.getD 1 0
      let idx := byteAt payload 0 % 128
      let last := (byteAt payload 0).testBit 7
      let n := byteAt payload 2
      match (s1.can c).trains.find? (fun t => t.src == src && t.num == num) with
      | some t =>
        if n = 0 ∨ 61 < n ∨ payload.length < 3 + n then s1.dropTrain c src num else s1.nextSegment c t idx last (slice payload 3 n)
      | none =>
        if idx ≠ 0 then s1
        else if n = 0 ∨ 61 < n ∨ payload.length < 3 + n then s1.badFrame
        else if 4 ≤ (s1.can c).trains.length then s1.canDiscard c
        else if last then s1.trainDone c src (slice payload 3 n)
        else
          s1.modCan c (fun x => { x with
            trains := x.trains ++ [{ src := src, num := num, next := 1, data := slice payload 3 n, began := s.clk.batten }] }))

/-- CAN_TRAIN_TIMEOUT: not complete within 100 ms of its first segment (R109). -/
def execCanTrainTimeout (c : CanNo) (src : BitVec 7) (train : Byte) (s : State) : Host.Outcome State Fault Refusal :=
  .next (match (s.can c).trains.find? (fun t => t.src == src && t.num == train) with
    | some t => if msTicks 100 ≤ since s.clk.batten t.began then s.dropTrain c src train else s
    | none => s)

/-- TIME_LABEL_RECEIVED: only on the controller that ZDA_PORT names, and only with bit 0 set (R401). -/
def execTimeLabelReceived (c : CanNo) (payload : List Byte) (s : State) : Host.Outcome State Fault Refusal :=
  .next (if ¬ s.canLive c then s
    else
      let s1 := s.canRx c
      if s.dev 0x5E ≠ 1 + canNo c ∨ ¬ (byteAt payload 4).testBit 0 ∨ payload.length < 8 then s1
      else s1.keepLabel (secsDate (leAt payload 0 4)))

/-- The smallest FD length that holds n bytes. -/
def dlc (n : Nat) : Nat :=
  if n ≤ 8 then n else (([12, 16, 20, 24, 32, 48, 64] : List Nat).find? (fun k => decide (n ≤ k))).getD 64

/-- The segments of a packet sent to a partner (R397). -/
def trainFrames (src dst : Nat) (num : Byte) : Nat → Nat → List Byte → List CanFrame
  | 0, _, _ => []
  | k + 1, i, b =>
    let d := b.take 61
    let rest := b.drop 61
    let p := toLe 1 (i + 128 * b2n rest.isEmpty) ++ [num] ++ toLe 1 d.length ++ d
    let f : CanFrame := { ident := canId 4 1 dst src, payload := p ++ List.replicate (dlc p.length - p.length) 0xCC#8 }
    if rest.isEmpty then [f] else f :: trainFrames src dst num k (i + 1) rest

/-! ### Broadcasts and station messages (R399, R400) -/

/-- A frame joins a controller's queue of 64: the oldest POINT_CHANGE leaves a full queue, or the new frame is lost
(notes/assumptions/33.md). -/
def State.queueCan (s : State) (c : CanNo) (f : CanFrame) : State :=
  let q0 := (s.can c).txq
  let q := if idType f.ident = 0x10 then q0.filter (fun g => idType g.ident != 0x10) else q0
  if q.contains f then s
  else if q.length < 64 then s.modCan c (fun x => { x with txq := q ++ [f] })
  else
    let q1 := match q.find? (fun g => idType g.ident == 0x11) with
      | some g => q.erase g ++ [f]
      | none => q
    let s1 := s.modCan c (fun x => { x with txq := q1 })
    { s1 with hw := { s1.hw with bcastLost := inc32 s1.hw.bcastLost, changesLost := true } }

/-- A panel frame on U2 (R402). -/
def panelFrame (dest typ : Nat) (payload : List Byte) : List Byte := cobsFrame (toLe 1 dest ++ toLe 1 typ ++ payload)

def State.queuePanel (s : State) (typ : Nat) (f : List Byte) : State :=
  if ¬ s.panelMode ∨ s.hw.panelq.contains f then s
  else
    let isSys (g : List Byte) : Bool := ((cobsDecode (g.length + 1) g.dropLast).map (fun b => byteAt b 1)) == some 0x10
    { s with hw := { s.hw with panelq := (if typ = 0x10 then s.hw.panelq.filter (fun g => !isSys g) else s.hw.panelq) ++ [f] } }

/-- OBSERVER holds the read right on a group of a class (R399). -/
def State.observerReads (s : State) (cls group : Nat) : Bool := holds s.peg.matrix cls group .observer bR

/-- Put a broadcast on every controller whose BCAST bit is set, and on the panel line. -/
def State.broadcast (s : State) (prio typ : Nat) (payload : List Byte) : State :=
  match s.canAddr with
  | none => s
  | some a =>
    let s1 := [CanNo.can0, CanNo.can1].foldl (fun s c =>
      if s.canOn c ∧ (s.canCfg c 4).testBit 0 then s.queueCan c { ident := canId prio typ 0 a, payload := payload } else s) s
    s1.queuePanel typ (panelFrame 0 typ payload)

/-- The points in a state. -/
def State.countPoints (s : State) (f : PointSt → Bool) : Nat := (s.peg.engine.points.filter (fun e => f e.2)).length

/-- SYS_STATE's payload (Table PRT-7). -/
def State.sysPayload (s : State) : List Byte :=
  let e := s.peg.engine
  toLe 4 s.clk.frameNo.toNat ++ toLe 1 s.pair.state ++ toLe 1 (b2n e.horn) ++ toLe 1 e.callout ++ toLe 1 (e.duty.getD 0xFF)
    ++ toLe 2 (s.countPoints PointSt.active) ++ toLe 2 (s.countPoints PointSt.unack) ++ toLe 2 (s.countPoints PointSt.shelved)
    ++ toLe 2 (brokenSeals s.peg.seals) ++ toLe 4 s.secNow
    ++ toLe 1 (b2n s.hw.changesLost + 2 * b2n s.inMaint + 4 * b2n s.clockInvalid) ++ [0, 0, 0]

/-- Send SYS_STATE, if the unit and the matrix let it (R399). -/
def State.sendSysState (s : State) : State :=
  if ¬ s.isActive ∨ ¬ s.observerReads cDEVICE 2 then s
  else
    let s1 := s.broadcast 3 0x10 s.sysPayload
    { s1 with hw := { s1.hw with changesLost := false } }

/-- A frame whose number is a multiple of 100 has been pegged last. -/
def State.hundredth (s : State) : Bool :=
  s.rst.firstPeg && s.pair.lastPegFrame == s.clk.frameNo && s.clk.frameNo.toNat % 100 == 0

/-- SYS_STATE: at each pegged frame whose number is a multiple of 100 (R399). The peg sends it on changes. -/
def execSysState (s : State) : Host.Outcome State Fault Refusal :=
  .next (if s.isReady ∧ s.hundredth then s.sendSysState else s)

/-- One POINT_CHANGE entry. -/
def State.changeEntry (s : State) (n : Nat) : List Byte :=
  let x := s.pointSt n
  toLe 2 n ++ toLe 1 x.stateByte ++ toLe 1 (s.provNow.severity n) ++ toLe 4 x.chSec

/-- Groups of at most seven. -/
def sevens : Nat → List Nat → List (List Nat)
  | 0, _ => []
  | k + 1, l => if l.isEmpty then [] else l.take 7 :: sevens k (l.drop 7)

/-- POINT_CHANGE for the points of a peg whose STATE bits 0-3 changed (R399). -/
def State.sendPointChange (s : State) (ns : List Nat) : State :=
  if ¬ s.isActive ∨ ¬ s.observerReads cPOINT 0 then s
  else
    (sevens (ns.length + 1) ns).foldl (fun s g =>
      s.broadcast 2 0x11 (toLe 4 s.clk.frameNo.toNat ++ toLe 1 g.length ++ [0, 0, 0] ++ g.flatMap s.changeEntry
        ++ List.replicate (8 * (7 - g.length)) 0#8)) s

/-- The oldest unacknowledged point that calls (R400, Table PRT-7). -/
def State.oldestCalling (s : State) : Option Nat :=
  let ms := s.peg.engine.points.filter (fun (e : Nat × PointSt) =>
    e.2.unack && !e.2.shelved && !e.2.inhibited && s.cfg cPOINT e.1 0x25 == 1)
  match ms with
  | [] => none
  | a :: as =>
    some (as.foldl (fun (x y : Nat × PointSt) =>
      if since s.clk.batten x.2.chBatten < since s.clk.batten y.2.chBatten then y else x) a).1

/-- STATION's payload (Table PRT-7). -/
def State.stationPayload (s : State) (n : Nat) : List Byte :=
  let x := s.stationSt n
  let o := s.oldestCalling
  toLe 1 n ++ toLe 1 x.callCode ++ toLe 1 x.dmCode ++ toLe 1 s.peg.engine.callout ++ toLe 2 (s.deadmanLeft x)
    ++ toLe 2 (o.getD 0xFFFF) ++ (match o with
      | some p => toLe 16 (s.cfg cPOINT p 0x37)
      | none => List.replicate 16 0#8)

/-- A station that is not idle: called, silenced, attending, or warning (R290, R400). -/
def StationSt.busy (x : StationSt) : Bool := x.called || x.silenced || x.attending || x.prewarn || x.dmExpired

/-- Send a STATION message to a station's panels (R400, R402). -/
def State.sendStation (s : State) (n : Nat) : State :=
  if ¬ s.isActive ∨ s.cfg cSTATION n 0x10 ≠ 1 then s
  else
    let b := s.stationPayload n
    let s1 := [CanNo.can0, CanNo.can1].foldl (fun s c =>
      match s.canAddr with
      | some a =>
        if s.canOn c ∧ (s.canCfg c 4).testBit 1 ∧ s.cfg cSTATION n 0x13 ≠ 0 then
          s.queueCan c { ident := canId 1 0x12 (s.cfg cSTATION n 0x13) a, payload := b }
        else s
      | none => s) s
    if s.cfg cSTATION n 0x14 = 0 then s1 else s1.queuePanel 0x12 (panelFrame (s.cfg cSTATION n 0x14) 0x12 b)

/-- STATION_MESSAGE: every 100 pegged frames while the station is not idle (R400); the peg sends it on changes. -/
def execStationMessage (station : Fin 16) (s : State) : Host.Outcome State Fault Refusal :=
  .next (if s.isReady ∧ s.hundredth ∧ (s.stationSt station.val).busy then s.sendStation station.val else s)

/-! ### The end of a transmission (R120, R381, R392) -/

/-- A frame has been sent and acknowledged. -/
def CanSt.txOk (x : CanSt) (fs : List CanFrame) : CanSt :=
  ({ x with tec := x.tec - fs.length, ackErrors := 0, sent := fs } : CanSt).judge

/-- The frame that wins arbitration among a controller's own: the lowest PRIO, the oldest of it. -/
def nextFrame (q : List CanFrame) : Option CanFrame :=
  q.foldl (fun o f =>
    match o with
    | none => some f
    | some g => if idPrio f.ident < idPrio g.ident then some f else some g) none

/-- The next frame of a controller has left: a broadcast or station frame, else the train of its head packet, which goes to
the address that asked. -/
def State.canSent (s : State) (c : CanNo) : State :=
  match nextFrame (s.can c).txq with
  | some f => s.modCan c (fun x => ({ x with txq := x.txq.erase f } : CanSt).txOk [f])
  | none =>
    match s.outQ (canPort c), s.canAddr with
    | k :: _, some a =>
      let num := (s.can c).trainNo + 1
      let at_ := partnerKey k.session k.seq
      let fs := trainFrames a (sget 0 (s.can c).partners at_) num (k.wire.length + 1) 0 k.wire
      (s.modCan c (fun x =>
        ({ x with trainNo := num, partners := if k.session = 0 then sset 0 x.partners at_ 0 else x.partners } : CanSt).txOk fs)).sentHead
        (canPort c)
    | _, _ => s

/-- TRANSMISSION_COMPLETE: the head of a line's queue has left. -/
def execTransmissionComplete (port : OutLine) (s : State) : Host.Outcome State Fault Refusal :=
  .next (match port with
    | .u0 => if ¬ s.uartOn .u0 ∨ s.ctsStops .u0 then s else s.uartSent .u0 .u0
    | .u1 =>
      match s.hw.sentences with
      | [] => s
      | x :: xs =>
        if ¬ s.uartOn .u1 ∨ ¬ s.hw.drive1 then s
        else
          let s1 := { s with hw := { s.hw with sentences := xs } }.modUart .u1 (fun y => { y with tx := x.text })
          if s1.hw.released1 then s1.releaseDriver .u1 else s1
    | .u2 =>
      if ¬ s.uartOn .u2 then s
      else if ¬ s.panelMode then (if s.ctsStops .u2 then s else s.uartSent .u2 .u2)
      else
        match s.hw.panelq with
        | [] => s
        | x :: xs =>
          if ¬ s.hw.drive2 then s
          else
            let s1 := { s with hw := { s.hw with panelq := xs } }.modUart .u2 (fun y => { y with tx := x })
            if s1.hw.released2 then s1.releaseDriver .u2 else s1
    | .can0 => if s.canLive .can0 then s.canSent .can0 else s
    | .can1 => if s.canLive .can1 then s.canSent .can1 else s
    | .ridge => if s.ridge.trained then { s with ridge := { s.ridge with tx := s.ridge.tx.tail } }.settleLinks else s
    | .ringA => if s.ring.trainedA then { s with ring := { s.ring with txA := s.ring.txA.tail } }.settleLinks else s
    | .ringB => if s.ring.trainedB then { s with ring := { s.ring with txB := s.ring.txB.tail } }.settleLinks else s)

end Sys2Proof.Machine
end

