-- ==== Sys2Proof/Machine/JtagPort.lean ====
section
/-! DEFINITION. The JTAG port (R39, R403-R405): the TAP controller of IEEE 1149.1, its registers and the locks of its
instructions. -/

namespace Sys2Proof.Machine

/-- The data registers that instructions select (Table PRT-8). -/
inductive TapReg where
  | bypass | idcode | boundary | debug
  deriving DecidableEq, Repr

/-- The instruction that a code acts as: a locked or unknown one is BYPASS (R403, Table PRT-8). -/
def State.tapInstr (s : State) (code : BitVec 5) : BitVec 5 :=
  if code = 1 then code
  else if code = 0 ∨ code = 2 then (if s.maint.mode = 1 ∧ s.maint.entered then code else 31)
  else if 16 ≤ code.toNat ∧ code.toNat ≤ 19 then (if s.debugOpen then code else 31)
  else 31

/-- The register that an instruction in force selects. -/
def tapReg (ir : BitVec 5) : TapReg :=
  if ir = 1 then .idcode else if ir = 0 ∨ ir = 2 then .boundary else if 16 ≤ ir.toNat ∧ ir.toNat ≤ 19 then .debug else .bypass

/-- The TAP controller's next state (IEEE 1149.1). -/
def Tap.next (t : Tap) (tms : Bool) : Tap :=
  match t with
  | .testLogicReset => if tms then .testLogicReset else .runTestIdle
  | .runTestIdle => if tms then .selectDr else .runTestIdle
  | .selectDr => if tms then .selectIr else .captureDr
  | .captureDr => if tms then .exit1Dr else .shiftDr
  | .shiftDr => if tms then .exit1Dr else .shiftDr
  | .exit1Dr => if tms then .updateDr else .pauseDr
  | .pauseDr => if tms then .exit2Dr else .pauseDr
  | .exit2Dr => if tms then .updateDr else .shiftDr
  | .updateDr => if tms then .selectDr else .runTestIdle
  | .selectIr => if tms then .testLogicReset else .captureIr
  | .captureIr => if tms then .exit1Ir else .shiftIr
  | .shiftIr => if tms then .exit1Ir else .shiftIr
  | .exit1Ir => if tms then .updateIr else .pauseIr
  | .pauseIr => if tms then .exit2Ir else .pauseIr
  | .exit2Ir => if tms then .updateIr else .shiftIr
  | .updateIr => if tms then .selectDr else .runTestIdle

/-- The IDCODE register (R404). -/
def idcode : List Bool := (List.range 32).map (fun k => (0x1481656B).testBit k)

/-- Capture the boundary-scan register: what is not known is free (notes/assumptions/34.md). -/
def State.captureBoundary (s : State) : List Bool × State :=
  let (v, s1) := s.draw
  ((List.range 66).map (fun k => (s.cellLevel k).getD (v.testBit k)), s1)

def State.modJtag (s : State) (f : Jtag → Jtag) : State := { s with hw := { s.hw with jtag := f s.hw.jtag } }

/-- JTAG_TRST: low holds the TAP in Test-Logic-Reset (R403). -/
def execJtagTrst (high : Bool) (s : State) : Host.Outcome State Fault Refusal :=
  .next (if high then s.modJtag (fun j => { j with trstHigh := true }) else s.modJtag (fun j => { j.toReset with trstHigh := false }))

/-- JTAG_INSTRUCTION_UPDATE: the instruction takes effect, or acts as BYPASS (R403). -/
def execJtagInstructionUpdate (code : BitVec 5) (s : State) : Host.Outcome State Fault Refusal :=
  .next (if s.tapHeld then s else s.modJtag (fun j => { j with ir := s.tapInstr code }))

/-- Capture-DR loads the selected register: BYPASS takes 0, the sequencer debug register free content. -/
def State.captureDr (s : State) : State :=
  match tapReg s.hw.jtag.ir with
  | .bypass => s.modJtag (fun j => { j with drShift := [false] })
  | .idcode => s.modJtag (fun j => { j with drShift := idcode })
  | .boundary =>
    let (l, s1) := s.captureBoundary
    s1.modJtag (fun j => { j with drShift := l })
  | .debug =>
    let (v, s1) := s.draw
    s1.modJtag (fun j => { j with drShift := [v.testBit 0] })

/-- A rising edge of TCK in a state: capture or shift, then the state moves on. -/
def State.tckRise (s : State) (tms tdi : Bool) : State :=
  let s1 := match s.hw.jtag.tap with
    | .captureDr => s.captureDr
    | .shiftDr => s.modJtag (fun j => { j with drShift := j.drShift.drop 1 ++ [tdi] })
    | .captureIr => s.modJtag (fun j => { j with irShift := 1 })
    | .shiftIr => s.modJtag (fun j => { j with irShift := (j.irShift >>> 1) ||| (if tdi then 16 else 0) })
    | _ => s
  let t := s1.hw.jtag.tap.next tms
  if t = .testLogicReset then s1.modJtag Jtag.toReset else s1.modJtag (fun j => { j with tap := t })

/-- A falling edge of TCK: TDO in the shift states, the update latches in the update states. -/
def State.tckFall (s : State) : State :=
  match s.hw.jtag.tap with
  | .shiftDr => s.modJtag (fun j => { j with tdo := j.drShift.head? })
  | .shiftIr => s.modJtag (fun j => { j with tdo := some (j.irShift.getLsbD 0) })
  | .updateDr =>
    s.modJtag (fun j => { j with tdo := none, bsr := if tapReg j.ir = .boundary ∧ j.drShift.length = 66 then j.drShift else j.bsr })
  | .updateIr => s.modJtag (fun j => { j with tdo := none, ir := s.tapInstr j.irShift })
  | _ => s.modJtag (fun j => { j with tdo := none })

/-- JTAG_TCK_EDGE (R403). -/
def execJtagTckEdge (rising tms tdi : Bool) (s : State) : Host.Outcome State Fault Refusal :=
  .next (if s.tapHeld then s.modJtag Jtag.toReset else if rising then s.tckRise tms tdi else s.tckFall)

end Sys2Proof.Machine
end

