-- ==== Sys2Proof/Machine/PairState.lean ====
section
/-! DEFINITION. The pair's own state (R326-R332, R352, R353): the claim word, the epoch, the changes that PAIR events and
records tell of, and the PAIR family of commands (R185, R186, R328, R344, R345). -/

namespace Sys2Proof.Machine

/-! ### The claim word (R238, R329-R332) -/

/-- A claim word: HEALTH in bits 28-31, EPOCH in bits 1-27, UNIT in bit 0. -/
def claimWord (health epoch : Nat) (unitB : Bool) : Word :=
  BitVec.ofNat 32 (b2n unitB + 2 * (epoch % 134217728) + 268435456 * (health % 16))

def claimHealth (w : Word) : Nat := w.toNat / 268435456
def claimEpoch (w : Word) : Nat := w.toNat / 2 % 134217728

/-- The own field die holds a live claim of the twin (Table FIO-7, byte 0). -/
def State.twinClaimLive (s : State) : Bool := s.fio.claimState.getLsbD 1

/-- HEALTH of Table TWN-3. -/
def State.claimedHealth (s : State) : Nat :=
  let p := s.pair
  if p.state = 4 then 0
  else if p.state = 2 ∨ p.state = 3 then
    (if s.twinClaimLive ∧ 1 ≤ claimHealth s.fio.twinClaim then min p.streak (claimHealth s.fio.twinClaim) else p.streak)
  else p.streak

/-- The claim word that the unit presents from a peg on (R330). A node with an invalid configuration claims nothing (R93). -/
def State.presented (s : State) : Word := claimWord s.claimedHealth s.pair.epoch s.unitB

/-- Raise E to the twin's epoch + 1, saturating (R332). -/
def State.raiseEpoch (s : State) : State :=
  { s with pair := { s.pair with epoch := min 0x7FFFFFF (claimEpoch s.fio.twinClaim + 1) } }

/-- A referee pass adds 1 to S, a fail sets it to 0 (R329). -/
def State.streakBy (s : State) (pass : Bool) : State :=
  { s with pair := { s.pair with streak := if pass then min 15 (s.pair.streak + 1) else 0 } }

/-! ### Telling of changes (R353, Tables TWN-9, TWN-10) -/

/-- PAIR event DATA. -/
def State.pairEventData (s : State) (cause old : Nat) : List Byte :=
  toLe 1 cause ++ toLe 1 s.pair.state ++ toLe 1 old ++ toLe 1 s.pair.refResult ++ toLe 4 s.pair.ownClaim.toNat
    ++ toLe 4 s.fio.twinClaim.toNat

/-- The record of a pair change. -/
def State.pairRecord (s : State) (cause : Nat) : Occurrence :=
  s.sysOcc 1013 5 (0x04000000#32)
    (toLe 1 cause ++ toLe 1 s.pair.state ++ toLe 1 s.pair.streak ++ toLe 1 (claimHealth s.fio.twinClaim))

/-- A pair change of a cause, from an old state: the event, and the record with the next pegged frame's. -/
def State.tellPair (s : State) (cause old : Nat) : State :=
  (s.raise 6 (0x04000000#32) (s.pairEventData cause old)).later (s.pairRecord cause)

/-- A change of role at a peg: the event carries the claim word that this peg presents (R330). -/
def State.tellRole (s : State) (cause old : Nat) : State :=
  let shown : State := { s with pair := { s.pair with ownClaim := s.presented } }
  (s.raise 6 (0x04000000#32) (shown.pairEventData cause old)).later (s.pairRecord cause)

/-! ### Synchronisation -/

/-- The standby is synchronised, as this unit sees it. -/
def State.twinSynced (s : State) : Bool :=
  if s.isStandby then s.pair.state == 2 else s.pair.state == 1 && s.pair.twinState == 2

/-- A standby starts, or starts again, to resynchronise (R347): it waits for a snapshot. -/
def State.startResync (s : State) : State :=
  let old := s.pair.state
  let p : PairSt := { s.pair with state := 3, resyncStep := 3, resyncOk := 0, copyParts := [] }
  let s1 : State := { s with pair := p, prov := none }
  s1.tellPair 8 old

/-- The leading unit notes that its twin has to resynchronise: it snapshots at its next peg (Table TWN-8, step 3). -/
def State.twinResync (s : State) : State :=
  { s with pair := { s.pair with state := 1, twinState := 3, twinLost := false, resyncStep := 3, resyncOk := 0 } }

/-- A standby becomes suspect (R340, R350): hard, when only a node-level reset ends it (R341). -/
def State.becomeSuspect (s : State) (hard : Bool) : State :=
  let old := s.pair.state
  let p : PairSt := { s.pair with state := 4, suspectHard := hard, resyncStep := 0 }
  let s1 : State := { s with pair := p, prov := none }
  s1.tellRole 10 old

/-- An attempt to resynchronise has failed: the third in a row makes the standby suspect (R350). -/
def State.resyncFailed (s : State) : State :=
  let n := min 255 (s.pair.resyncAttempts + 1)
  let s1 : State := { s with pair := { s.pair with resyncAttempts := n } }
  if 3 ≤ n then
    (if s1.isStandby then s1.becomeSuspect true
     else { s1 with pair := { s1.pair with state := 0, twinState := 4, resyncStep := 0 } })
  else if s1.isStandby then s1.startResync else s1.twinResync

/-! ### PAIR_BIND (R186, R326) -/

/-- What the twin's last PAIRING packet shows against a binding: same UNITSEL, another serial, another configuration (which
the safe states are part of, R237). -/
def State.bindClash (s : State) (serial : Word) : Bool :=
  match s.pair.offer with
  | none => false
  | some o => o.unitB == s.unitB || o.serial != serial || o.cfg != s.peg.digest.take 4

/-- A new PAIRING nonce of this unit. -/
def State.freshPairNonce (s : State) : State :=
  let (n, s1) := s.drawBytes 16
  { s1 with pair := { s1.pair with ownPairNonce := n } }

/-- The key that a binding under way proves, else the pair key held. -/
def State.pairKey (s : State) : List Byte :=
  match s.pair.bindReq with
  | some (r, _, _) => slice r.params 4 32
  | none => (sget Key.empty s.keys 24).value

/-- PAIR_BIND admitted: its key waits for the handshake of the PAIRING slot. -/
def State.runPairBind (s : State) (t : Tag) : State :=
  match s.decrypt t 4 32 with
  | none => s.denyL t .badParam (msTicks 61000)
  | some (k, s1) =>
    let r := { t.req with params := t.req.params.take 4 ++ k }
    let s2 := s1.modTag t (fun u => { u with begun := true })
    { s2 with pair := { s2.pair with
        bindReq := some (r, BitVec.ofNat 32 (leAt t.req.params 0 4), t.admitAt), pairOffers := 0 } }

def cmdPairBind : Cmd :=
  { op := 0x0700, access := xRight cPAIR, sealed := noSeal, priv := fun _ _ _ => true,
    check := fun s _ r =>
      if ¬ lenIs 60 r then some .badParam
      else if s.isWorker ∨ s.pair.bound ∨ ¬ s.ridge.trained ∨ s.pair.bindReq.isSome
        ∨ s.bindClash (BitVec.ofNat 32 (leAt r.params 0 4)) then some .badState else none
    run := fun s t _ => s.runPairBind t }

/-- PAIR_BIND (R186, R326). -/
def execPairBind (r : Req) (s : State) : Host.Outcome State Fault Refusal := .next (s.execute cmdPairBind r)

/-- The binding is complete on this unit: the key is stored, the link retrains, the leader becomes active with a raised
epoch, the other a standby that resynchronises; the command is answered with the claim word (R326). -/
def State.bindDone (s : State) : State :=
  match s.pair.bindReq with
  | none => s
  | some (r, serial, _) =>
    let old := s.pair.state
    let key : Key := { state := 1, loadedAt := s.secNow, value := slice r.params 4 32 }
    let leads := s.isActive
    let s1 : State :=
      { s with
        keys := sset Key.empty s.keys 24 key, ridge := { Ridge.down with delayNs := s.ridge.delayNs, tx := s.ridge.tx },
        pair := { s.pair with
          bound := true, detached := false, twinLost := false, bindReq := none, twinSerial := serial,
          state := if leads then 1 else 3, twinState := if leads then 3 else 0, resyncStep := 3, resyncOk := 0,
          resyncAttempts := 0, pairOffers := 0 } }
    let s2 := if leads then s1.raiseEpoch else s1
    let s3 := s2.tellPair 0 old
    match s3.tag? r with
    | some t => s3.answerLate t .done (toLe 4 s3.presented.toNat) 0
    | none => s3

/-! ### PAIR_UNBIND (R328) -/

def applyPairUnbind (s : State) (p : Prov) (_ : BatchItem) (_ : Req) : Applied :=
  if ¬ s.pair.bound ∨ p.effects.contains .pairUnbind then p.refuse .badState else (p.addEffect .pairUnbind).ok []

def cmdPairUnbind : Cmd :=
  { op := 0x0701, access := xRight cPAIR, sealed := noSeal, priv := noSeal,
    check := fun s _ r => if ¬ lenIs 0 r then some .badParam else if s.isWorker ∨ ¬ s.pair.bound then some .badState else none,
    run := runP }

/-- PAIR_UNBIND (R328). -/
def execPairUnbind (r : Req) (s : State) : Host.Outcome State Fault Refusal := .next (s.execute cmdPairUnbind r)

/-- The peg of an unbinding: KEY index 24 is erased; the active runs solo, the standby is detached (R328). -/
def State.unbind (s : State) : State :=
  let old := s.pair.state
  let follower := s.isStandby
  let s1 : State :=
    { s with
      keys := sset Key.empty s.keys 24 Key.empty, ridge := Ridge.down,
      pair := { s.pair with
        bound := false, detached := follower, state := 0, twinState := if follower then 0 else 5, twinSerial := 0,
        leads := !follower, refStart := none, resyncStep := 0 } }
  s1.tellPair 1 old

/-! ### Swaps and yields (R344-R346) -/

/-- A hand-over item at its place in the batch: dropped unless the standby is synchronised; one in a batch is enough. -/
def handOver (s : State) (p : Prov) (cause : Nat) : Applied :=
  let twice := p.effects.any (fun e => match e with | .handover _ => true | _ => false)
  if ¬ s.twinSynced ∨ twice then p.refuse .badState else (p.addEffect (.handover cause)).ok []

def applySwapNow (s : State) (p : Prov) (_ : BatchItem) (_ : Req) : Applied :=
  if p.st.engine.calling then p.refuse .badState else handOver s p 2

def cmdSwapNow : Cmd :=
  { op := 0x0702, access := xRight cPAIR, sealed := noSeal, priv := noSeal,
    check := fun s _ r =>
      if ¬ lenIs 0 r then some .badParam
      else if s.isWorker ∨ ¬ s.twinSynced ∨ s.peg.engine.calling ∨ s.stage.isSome then some .badState else none,
    run := runP }

/-- SWAP_NOW (R344). -/
def execSwapNow (r : Req) (s : State) : Host.Outcome State Fault Refusal := .next (s.execute cmdSwapNow r)

def applySwapPolicy (_ : State) (p : Prov) (_ : BatchItem) (r : Req) : Applied :=
  ({ p with st := { p.st with swapHours := byteAt r.params 0 } } : Prov).ok []

def cmdSwapPolicy : Cmd :=
  { op := 0x0703, access := xRight cPAIR, sealed := noSeal, priv := noSeal,
    check := fun s _ r =>
      if ¬ (lenIs 1 r ∧ byteAt r.params 0 ≤ 168) then some .badParam else if s.isWorker then some .badState else none,
    run := runP }

/-- SWAP_POLICY (R345). -/
def execSwapPolicy (r : Req) (s : State) : Host.Outcome State Fault Refusal := .next (s.execute cmdSwapPolicy r)

def applyYield (s : State) (p : Prov) (_ : BatchItem) (_ : Req) : Applied := handOver s p 2

def cmdYieldRole : Cmd :=
  { op := 0x0704, access := xRight cPAIR, sealed := noSeal, priv := noSeal,
    check := fun s _ r =>
      if ¬ lenIs 0 r then some .badParam
      else if s.isStandby then some .notActive
      else if s.isWorker ∨ ¬ s.twinSynced then some .badState else none,
    run := runP }

/-- YIELD (R185, R344). -/
def execYieldRole (r : Req) (s : State) : Host.Outcome State Fault Refusal := .next (s.execute cmdYieldRole r)

/-- A frame is quiet (R345) as far as both units of the pair see it: no stage on this unit is looked at here (log 35). -/
def State.quiet (s : State) (e : Engine) : Bool :=
  e.points.all (fun p => !p.2.unack) && e.callout == 0 && s.twinSynced && !s.inMaint && !s.eave.layup

/-- PERIODIC_SWAP_DUE: from the due frame on, the peg of a quiet frame puts a swap item into the next batch (R345). -/
def execPeriodicSwapDue (s : State) : Host.Outcome State Fault Refusal :=
  .next (if s.isReady ∧ s.isActive ∧ s.pair.state = 1 ∧ s.peg.swapHours ≠ 0
      ∧ frameGe s.clk.frameNo (s.pair.lastRoleFrame + BitVec.ofNat 32 (360000 * s.peg.swapHours))
      ∧ s.rst.firstPeg ∧ s.pair.lastPegFrame = s.clk.frameNo ∧ s.quiet s.peg.engine ∧ s.stage.isNone
      ∧ ¬ s.admitted.any (fun i => i.body == .internal 2 0 0 0) then
    s.submit (.internal 2 0 0 0)
  else s)

/-- The hand-over of the active role at a peg (R344): the standby raises E and becomes active, the active becomes standby;
roles take effect at the next frame. -/
def State.handover (s : State) (cause : Nat) : State :=
  let old := s.pair.state
  let m := s.clk.frameNo + 1
  if s.isStandby then
    let s1 := s.raiseEpoch
    let p : PairSt := { s1.pair with state := 1, twinState := 2, leads := true, lastRoleFrame := m }
    let s2 : State := { s1 with pair := p, hw := { s1.hw with waitRelease1 := some m, waitRelease2 := some m } }
    (s2.afeHandover m).tellRole cause old
  else
    let p : PairSt := { s.pair with state := 2, twinState := 0, leads := false, lastRoleFrame := m }
    let s1 : State := { s with pair := p }
    ((s1.afeHandover m).stopDrivers).tellRole cause old

/-! ### PAIR_STATUS (Table CMD-12) -/

def State.pairStatus (s : State) : List Byte :=
  let p := s.pair
  toLe 1 p.state ++ toLe 1 s.pairDetail ++ toLe 4 p.ownClaim.toNat ++ toLe 4 s.fio.twinClaim.toNat ++ toLe 4 p.mismatches
    ++ toLe 4 p.lastRoleFrame.toNat ++ toLe 4 p.lastRefFrame.toNat ++ toLe 1 p.refResult ++ [0]

def cmdPairStatus : Cmd :=
  { op := 0x0705, access := rRight cPAIR 0, sealed := noSeal, priv := noSeal, check := fun _ _ r => need (lenIs 0 r),
    run := fun s t _ => s.answerF t .done s.pairStatus 24 }

/-- PAIR_STATUS (R185). -/
def execPairStatus (r : Req) (s : State) : Host.Outcome State Fault Refusal := .next (s.execute cmdPairStatus r)

end Sys2Proof.Machine
end

