-- ==== Sys2Proof/Machine/EngineSteps.lean ====
section
/-! DEFINITION. The rows that name one step of the alarm engine's evaluation (R270, R273, R274, R280, R282, R286-R289,
R182). FRAME_EVALUATION has taken each step where it fell due; a row takes its step over the provisional result, where a
step already taken changes nothing (notes/assumptions/8.md). -/

namespace Sys2Proof.Machine

/-- Take a step of one point; a change is told as FRAME_EVALUATION tells it. -/
def stepPoint (s : State) (n : Nat) (f : Prov → PointSt → PointSt) (p : Prov) : Prov :=
  let x := p.pt n
  let y := f p x
  if y = x then p else tellPoint s (p.setPt n y) n

/-- SENSOR_FAULT_OVERRIDE (R273). -/
def execSensorFaultOverride (point : Fin 2080) (s : State) : Host.Outcome State Fault Refusal :=
  .next (s.onProv (stepPoint s point.val (fun p x => sensorFaultPt s p point.val x)))

/-- ON_DELAY_EXPIRY (R274). -/
def execOnDelayExpiry (point : Fin 2080) (s : State) : Host.Outcome State Fault Refusal :=
  .next (s.onProv (stepPoint s point.val (fun p x => onDelayPt s p point.val x)))

/-- OFF_DELAY_EXPIRY (R274). -/
def execOffDelayExpiry (point : Fin 2080) (s : State) : Host.Outcome State Fault Refusal :=
  .next (s.onProv (stepPoint s point.val (fun p x => offDelayPt s p point.val x)))

/-- SHELVE_EXPIRY: shelving ends, and a point whose condition is true is announced (R282). -/
def execShelveExpiry (point : Fin 2080) (s : State) : Host.Outcome State Fault Refusal :=
  .next (s.onProv (stepPoint s point.val (fun p x => announcePt s p point.val x (shelveExpiryPt s p point.val x))))

/-- The points that a rule targets, among those with a state. -/
def Prov.targetsOf (p : Prov) (n : Nat) : List Nat := p.pointList.filter (p.ruleTargets n)

/-- REARM_EXPIRY: the rule is judged, and the points whose inhibition ends start their delays again (R280, R281). -/
def execRearmExpiry (rule : Fin 256) (s : State) : Host.Outcome State Fault Refusal :=
  .next (s.onProv (fun p =>
    let p1 := evalRule s p rule.val
    (p1.targetsOf rule.val).foldl (fun q n => stepPoint s n (fun q x => inhibitPt s q n x) q) p1))

/-- The sample of one RATE point over the ring pegged before (R270). -/
def rateAgain (s : State) (p : Prov) (n : Nat) : Prov :=
  if p.c cPOINT n 0x30 ≠ 5 then p
  else p.setPt n (evalRate s p n { p.pt n with rate := (s.pointSt n).rate } (s.src (p.srcOid n)))

/-- RATE_SAMPLE: at a hundredth frame every RATE point stores its sample and its slope is judged (R270). -/
def execRateSample (s : State) : Host.Outcome State Fault Refusal :=
  .next (s.onProv (fun p => if p.frame.toNat % 100 = 0 then p.pointList.foldl (rateAgain s) p else p))

/-- ROSTER_SCHEDULE (R286). -/
def execRosterSchedule (s : State) : Host.Outcome State Fault Refusal := .next (s.onProv (fun p => p.rosterStep s))

/-- CALL_DELAY_EXPIRY (R287). -/
def execCallDelayExpiry (s : State) : Host.Outcome State Fault Refusal := .next (s.onProv (fun p => p.callDelayStep s))

/-- ESCALATION_EXPIRY (R287). -/
def execEscalationExpiry (s : State) : Host.Outcome State Fault Refusal := .next (s.onProv (fun p => p.escalationStep s))

/-- ATTENDANCE_EXPIRY (R287). -/
def execAttendanceExpiry (s : State) : Host.Outcome State Fault Refusal := .next (s.onProv (fun p => p.attendanceStep s))

/-- DEADMAN_WARNING (R289). -/
def execDeadmanWarning (station : Fin 16) (s : State) : Host.Outcome State Fault Refusal :=
  .next (s.onProv (fun p => p.deadmanWarnStep s station.val))

/-- DEADMAN_EXPIRY (R289). -/
def execDeadmanExpiry (station : Fin 16) (s : State) : Host.Outcome State Fault Refusal :=
  .next (s.onProv (fun p => p.deadmanExpiryStep s station.val))

/-- FORCE_LIMIT_EXPIRY: the force on one output ends at its limit, and the output vector follows (R182, R285). -/
def execForceLimitExpiry (node : Fin 16) (output : Fin 12) (s : State) : Host.Outcome State Fault Refusal :=
  .next (s.onProv (fun p =>
    let q := p.engine (fun e => { e with forces := e.forces.filter (fun f =>
      !(f.node == node.val && f.output == output.val && frameGe p.frame f.endsAt)) })
    q.engine (fun e => { e with outputs := q.outputs s })))

end Sys2Proof.Machine
end

