-- ==== Sys2Proof/Machine/Guard.lean ====
section
/-! DEFINITION. The GUARD family (R137-R170, Tables CMD-14, CMD-15) and the events of keys and consent. -/

namespace Sys2Proof.Machine

/-! ### The matrix -/

def cmdMatrixRead : Cmd :=
  { op := 0x0900, access := roleIn [.owner, .cls], sealed := noSeal, priv := noSeal,
    check := fun _ _ r =>
      need (lenIs 2 r && decide (byteAt r.params 0 ≤ 17 ∧ 1 ≤ byteAt r.params 1 ∧ byteAt r.params 1 ≤ 5
        ∧ byteAt r.params 0 + byteAt r.params 1 ≤ 18))
    run := fun s t _ =>
      let first := byteAt t.req.params 0
      let n := byteAt t.req.params 1
      s.answerF t .done
        (toLe 4 s.peg.gen.toNat ++ (List.range n).flatMap (fun k =>
          toLe 1 (classRows.getD (first + k) 0) ++ rowBytes s.peg.matrix (first + k)))
        (18 + 8 * n) }

/-- MATRIX_READ (R140). -/
def execMatrixRead (r : Req) (s : State) : Host.Outcome State Fault Refusal := .next (s.execute cmdMatrixRead r)

/-- The class codes that a MATRIX_WRITE names, in order. -/
def writeClasses (p : List Byte) : List Nat := (List.range (byteAt p 4)).map (fun k => byteAt p (5 + 49 * k))

/-- The 48 bytes of its k-th row. -/
def writeRow (p : List Byte) (k : Nat) : List Byte := slice p (6 + 49 * k) 48

/-- A MATRIX_WRITE's parameters keep R139 and R140. -/
def matrixWriteOk (p : List Byte) : Bool :=
  let n := byteAt p 4
  decide (1 ≤ n ∧ n ≤ 5) && p.length == 5 + 49 * n && decide (writeClasses p).Nodup
    && (List.range n).all (fun k =>
      match classRow (byteAt p (5 + 49 * k)) with
      | some row => rowOk row (writeRow p k)
      | none => false)

/-- The generation after one more write; 0xFFFF_FFFF wraps to 1 (R144). -/
def nextGen (g : Word) : Word := if g = 0xFFFFFFFF then 1 else g + 1

/-- MATRIX_WRITE at its peg (R144): the expected generation decides; rows are replaced, the generation rises. -/
def applyMatrixWrite (s : State) (p : Prov) (i : BatchItem) (r : Req) : Applied :=
  let b := r.params
  if BitVec.ofNat 32 (leAt b 0 4) ≠ p.st.gen then p.refuse .badState
  else
    let n := byteAt b 4
    let m := (List.range n).foldl (fun m k =>
      match classRow (byteAt b (5 + 49 * k)) with
      | some row => setRow m row (writeRow b k)
      | none => m) p.st.matrix
    let g := nextGen p.st.gen
    let classes := (writeClasses b ++ List.replicate 5 0).take 5
    let p1 : Prov := { p with st := { p.st with matrix := m, gen := g, lastMatrixFrame := p.frame } }
    let p2 := p1.addEvent 8 (0x05000000#32)
      (toLe 4 g.toNat ++ toLe 4 p.st.gen.toNat ++ toLe 1 n ++ toLe 1 i.actor ++ classes.flatMap (toLe 1) ++ toLe 1 0)
    (p2.addRecord (s.sysOcc 1015 3 (0x05000000#32) (toLe 4 g.toNat))).ok (toLe 4 g.toNat)

def cmdMatrixWrite : Cmd :=
  { op := 0x0901, access := roleIn [.owner], sealed := noSeal, priv := noSeal,
    check := fun _ _ r => need (matrixWriteOk r.params), run := runP }

/-- MATRIX_WRITE (R139, R140, R144). -/
def execMatrixWrite (r : Req) (s : State) : Host.Outcome State Fault Refusal := .next (s.execute cmdMatrixWrite r)

/-! ### Seals -/

/-- The classes that seals apply to (R147). -/
def sealClasses : List Nat := [cAIN, cDIN, cDOUT, cPOINT, cGROUP, cINHIBIT, cSTATION, cROSTER]

/-- SEAL's parameters name a scope, a count and a range within a sealable class (R147). -/
def sealOk (r : Req) : Bool :=
  lenIs 3 r && decide (byteAt r.params 0 ≤ 2 ∧ 1 ≤ leAt r.params 1 2 ∧ leAt r.params 1 2 ≤ 4096)
    && sealClasses.contains (oidClass r.target)
    && decide (oidIndex r.target + leAt r.params 1 2 ≤ classSize (oidClass r.target))

/-- The seal that a SEAL asks for. -/
def sealOf (r : Req) : Seal :=
  { cls := oidClass r.target, first := oidIndex r.target, count := leAt r.params 1 2, scope := byteAt r.params 0,
    attr := oidAttr r.target, broken := false }

/-- Two seals are equal in the sense of R147. -/
def sameSeal (a b : Seal) : Bool :=
  a.cls == b.cls && a.first == b.first && a.count == b.count && a.scope == b.scope
    && (if a.scope = 0 then a.attr == b.attr else if a.scope = 1 then a.attr / 16 == b.attr / 16 else true)

/-- The first object ID of a seal. -/
def Seal.object (x : Seal) : Word := oid 0 x.cls x.first x.attr

/-- SEAL event DATA (Table SEC-14); bytes 16-23 are filled in at the peg, when the counts after it are known. -/
def sealData (action n : Nat) (x : Seal) (actor : Nat) : List Byte :=
  toLe 1 action ++ toLe 1 x.scope ++ toLe 2 n ++ toLe 2 x.count ++ toLe 1 actor ++ toLe 1 0 ++ List.replicate 8 0#8

/-- The lowest entry number not in use (R147). -/
def freeSeal (seals : Sparse Seal) : Option Nat :=
  (List.range 256).find? (fun n => !seals.any (fun e => e.1 == n))

/-- Change a seal entry, with its event and its record (R170, Table REC-2). -/
def Prov.putSeal (s : State) (p : Prov) (n : Nat) (x : Seal) (action actor : Nat) (kept : Bool) : Prov :=
  let seals := if kept then sset Seal.none p.st.seals n x else sdel p.st.seals n
  let p1 : Prov := { p with st := { p.st with seals := seals } }
  (p1.addEvent 7 x.object (sealData action n x actor)).addRecord (s.sysOcc 1015 3 x.object (toLe 4 p.st.gen.toNat))

/-- SEAL at its peg (R147, R149): equal to an intact entry, no change; equal to a broken one, it reseals it; else a new
entry at the lowest free number. -/
def applySeal (s : State) (p : Prov) (i : BatchItem) (r : Req) : Applied :=
  let x := sealOf r
  match p.st.seals.find? (fun e => sameSeal e.2 x) with
  | some (n, y) =>
    if ¬ y.broken then p.ok (toLe 2 n)
    else (Prov.putSeal s p n { y with broken := false } 4 i.actor true).ok (toLe 2 n)
  | none =>
    match freeSeal p.st.seals with
    | none => p.refuse .badParam
    | some n => (Prov.putSeal s p n x 0 i.actor true).ok (toLe 2 n)

/-- SEAL's access: CLASS, and a target that exists, the attribute with it where the scope names one (R143, R158, Table SEC-2). -/
def sealAccess (_ : State) (w : Who) (r : Req) : Bool :=
  w.role == .cls && targetExists r
    && (byteAt r.params 0 != 0 || (attrInfo (oidClass r.target) (oidIndex r.target) (oidAttr r.target)).isSome)

def cmdSeal : Cmd :=
  { op := 0x0902, access := sealAccess, sealed := noSeal, priv := noSeal, check := fun _ _ r => need (sealOk r),
    run := runP }

/-- SEAL (R147). -/
def execSeal (r : Req) (s : State) : Host.Outcome State Fault Refusal := .next (s.execute cmdSeal r)

/-- UNSEAL's access by its action byte (R188, Table SEC-2). -/
def unsealAccess (_ : State) (w : Who) (r : Req) : Bool :=
  match byteAt r.params 2 with
  | 0 => w.role == .cls
  | 1 => w.role == .owner
  | _ => w.role == .cls || w.role == .owner

/-- UNSEAL at its peg (R149): release or clear by CLASS, break by OWNER with its ledger entry. -/
def applyUnseal (s : State) (p : Prov) (i : BatchItem) (r : Req) : Applied :=
  let n := leAt r.params 0 2
  match p.st.seals.find? (fun e => e.1 == n) with
  | none => p.refuse .badParam
  | some (_, x) =>
    if byteAt r.params 2 = 0 then (Prov.putSeal s p n x 1 i.actor false).ok []
    else if x.broken then p.refuse .badParam
    else
      ((Prov.putSeal s p n { x with broken := true } 2 i.actor true).addEffect (.ledger 1 i.actor n)).ok []

def cmdUnsealRelease : Cmd :=
  { op := 0x0903, access := unsealAccess, sealed := noSeal, priv := noSeal,
    check := fun _ _ r => need (lenIs 3 r && byteAt r.params 2 == 0), run := runP }

/-- UNSEAL with action 0 (R149). -/
def execUnsealRelease (r : Req) (s : State) : Host.Outcome State Fault Refusal := .next (s.execute cmdUnsealRelease r)

def cmdUnsealBreak : Cmd :=
  { op := 0x0903, access := unsealAccess, sealed := noSeal, priv := noSeal,
    check := fun _ _ r => need (lenIs 3 r && byteAt r.params 2 == 1), run := runP }

/-- UNSEAL with action 1 (R149). -/
def execUnsealBreak (r : Req) (s : State) : Host.Outcome State Fault Refusal := .next (s.execute cmdUnsealBreak r)

/-! ### Keys (R151-R154) -/

def State.keyAt (s : State) (i : Nat) : Key := sget Key.empty s.keys i

/-- KEY_LOAD's right (Table SEC-2): OWNER any slot, another role the slot that its session was opened under; session 0 was opened
under none. -/
def keyLoadAccess (_ : State) (w : Who) (r : Req) : Bool :=
  w.role == .owner || (r.session != 0 && byteAt r.params 0 == keyIndex w.role w.slot)

/-- The key bytes that a KEY_LOAD's length announces. -/
def keyLen (idx : Nat) : Nat := if idx = 26 then 64 else 32

def cmdKeyLoad : Cmd :=
  { op := 0x0910, access := keyLoadAccess, sealed := noSeal, priv := fun _ _ _ => true,
    check := fun _ _ r =>
      let i := byteAt r.params 0
      need (decide (i ≤ 26) && i != 24 && i != 25 && lenIs (25 + keyLen i) r)
    run := fun s t _ =>
      let i := byteAt t.req.params 0
      match s.decrypt t 1 (keyLen i) with
      | none => s.queueNv t (.denied .badParam)
      | some (k, s1) => s1.queueNv t (.keyLoad i k) }

/-- KEY_LOAD (R152). -/
def execKeyLoad (r : Req) (s : State) : Host.Outcome State Fault Refusal := .next (s.execute cmdKeyLoad r)

/-- Whether an OWNER slot other than one is active (R153). -/
def State.otherOwner (s : State) (i : Nat) : Bool := (List.range 4).any (fun k => k != i && (s.keyAt k).state == 1)

def cmdKeyRetire : Cmd :=
  { op := 0x0911, access := roleIn [.owner], sealed := noSeal, priv := noSeal,
    check := fun s _ r =>
      let i := byteAt r.params 0
      if ¬ (lenIs 1 r && (decide (i ≤ 23) || i == 26)) then some .badParam
      else if i < 4 ∧ ¬ s.otherOwner i then some .badState else none
    run := fun s t _ => s.queueNv t (.keyRetire (byteAt t.req.params 0)) }

/-- KEY_RETIRE (R153). -/
def execKeyRetire (r : Req) (s : State) : Host.Outcome State Fault Refusal := .next (s.execute cmdKeyRetire r)

/-- FINGERPRINT (Table SEC-11). -/
def Key.fingerprint (k : Key) : List Byte :=
  if k.state = 0 then List.replicate 8 0#8 else (sha256 (ascii "ZGN-FP" ++ k.value)).take 8

/-- Load a key into a slot; the sessions opened under a replaced key close (R152). -/
def State.loadKey (s : State) (i st : Nat) (k : List Byte) : State :=
  let had := (s.keyAt i).state != 0
  let s1 : State :=
    { s with keys := sset Key.empty s.keys i { state := st, loadedAt := if st = 2 then 0 else s.secNow, value := k } }
  if had ∧ i < 24 then s1.closeUnder i else s1

/-- Empty a slot; the sessions opened under it close (R153). -/
def State.retireKey (s : State) (i : Nat) : State :=
  let s1 : State := { s with keys := sset Key.empty s.keys i Key.empty }
  if i < 24 then s1.closeUnder i else s1

/-! ### Attestation (R162) -/

/-- The statement of Table SEC-7 up to the signature. -/
def State.statement (s : State) (nonce : List Byte) : List Byte :=
  let img := if s.rst.bootImage = 0 then s.images.1 else if s.rst.bootImage = 1 then s.images.2
    else s.sram.getD s.images.1
  nonce ++ toLe 4 Config.serial.toNat ++ toLe 4 img.version ++ toLe 1 img.rollback ++ toLe 1 s.fuse
    ++ toLe 1 ((if s.isWorker then 2 else b2n s.unitB) + 128 * b2n s.isActive)
    ++ toLe 1 (b2n s.inMaint + 2 * b2n s.maint.debugUnlocked + 4 * b2n s.countersign + 8 * b2n ((s.keyAt 0).state == 2))
    ++ toLe 4 s.peg.gen.toNat ++ toLe 2 s.peg.seals.length ++ toLe 2 (brokenSeals s.peg.seals)
    ++ toLe 2 s.recorder.ledgerEntries ++ s.peg.digest ++ toLe 4 s.clk.frameNo.toNat ++ toLe 4 s.secNow

def cmdAttest : Cmd :=
  { op := 0x0920, access := fun _ _ _ => true, sealed := noSeal, priv := noSeal, check := fun _ _ r => need (lenIs 16 r),
    run := fun s t _ =>
      let m := s.statement t.req.params
      s.answerF t .done (m ++ Config.identitySign (sha256 m) ++ Config.certificates) 15000 }

/-- ATTEST (R162). -/
def execAttest (r : Req) (s : State) : Host.Outcome State Fault Refusal := .next (s.execute cmdAttest r)

/-! ### Consent and the maintenance state (R167, R188) -/

/-- CONSENT's access by its action byte (Table SEC-2, R188). -/
def consentAccess (_ : State) (w : Who) (r : Req) : Bool :=
  match byteAt r.params 0 with
  | 0 => w.role == .owner
  | 1 => w.role == .service
  | 2 => w.role == .service || w.role == .owner
  | _ => w.role == .service || w.role == .owner

/-- A token's 40 bytes: purpose, slot, two zeros, serial, expiry, number, MAC (notes/assumptions/17.md). -/
def tokenBytes (c : Consent) : List Byte :=
  let b := toLe 1 c.purpose ++ toLe 1 c.slot ++ toLe 2 0 ++ toLe 4 Config.serial.toNat ++ toLe 8 c.expiry ++ toLe 8 c.number
  b ++ (Config.tokenMac b ++ List.replicate 16 0#8).take 16

def cmdConsentIssue : Cmd :=
  { op := 0x0921, access := consentAccess, sealed := noSeal, priv := noSeal,
    check := fun _ _ r =>
      need (lenIs 5 r && byteAt r.params 0 == 0 && decide (byteAt r.params 1 ≤ 1 ∧ byteAt r.params 2 ≤ 3
        ∧ 1 ≤ leAt r.params 3 2 ∧ leAt r.params 3 2 ≤ 1440))
    run := fun s t _ =>
      s.queueNv t (.consentIssue (byteAt t.req.params 1) (byteAt t.req.params 2) (leAt t.req.params 3 2)) }

/-- CONSENT ISSUE (R167). -/
def execConsentIssue (r : Req) (s : State) : Host.Outcome State Fault Refusal := .next (s.execute cmdConsentIssue r)

/-- SECONDS a is before b, modulo 2^32 (R248). -/
def secBefore (a b : Nat) : Bool := decide (0 < (b + 2 ^ 32 - a) % 2 ^ 32 ∧ (b + 2 ^ 32 - a) % 2 ^ 32 < 2 ^ 31)

/-- The unused and unexpired token of this node that the bytes spell, for a slot. -/
def State.tokenFor (s : State) (b : List Byte) (slot : Fin 4) : Option Consent :=
  s.maint.tokens.find? (fun c => tokenBytes c == b && !c.used && c.slot == slot.val && secBefore s.secNow c.expiry)

def cmdConsentEnter : Cmd :=
  { op := 0x0921, access := consentAccess, sealed := noSeal, priv := noSeal,
    check := fun s w r =>
      if ¬ (lenIs 41 r && byteAt r.params 0 == 1) then some .badParam
      else if s.inMaint ∨ (s.tokenFor (r.params.drop 1) w.slot).isNone then some .badState else none
    run := runP }

/-- CONSENT ENTER (R167). -/
def execConsentEnter (r : Req) (s : State) : Host.Outcome State Fault Refusal := .next (s.execute cmdConsentEnter r)

def cmdConsentLeave : Cmd :=
  { op := 0x0921, access := consentAccess, sealed := noSeal, priv := noSeal,
    check := fun s _ r =>
      if ¬ (lenIs 1 r && byteAt r.params 0 == 2) then some .badParam else if ¬ s.inMaint then some .badState else none
    run := runP }

/-- CONSENT LEAVE (R167). -/
def execConsentLeave (r : Req) (s : State) : Host.Outcome State Fault Refusal := .next (s.execute cmdConsentLeave r)

/-- CONSENT ENTER and LEAVE at their peg: a second ENTER, or a LEAVE outside the state, is BAD_STATE; the token counts as
used on the node that issued it. -/
def applyConsent (s : State) (p : Prov) (i : BatchItem) (r : Req) : Applied :=
  let entering := p.effects.foldl (fun b e =>
    match e with
    | .maintEnter _ _ _ _ _ => true
    | .maintLeave => false
    | _ => b) s.inMaint
  if byteAt r.params 0 = 1 then
    if entering then p.refuse .badState
    else
      let b := r.params.drop 1
      (p.addEffect (.maintEnter (byteAt b 0) (if i.own then r.session else 0) i.slot (leAt b 8 8) (leAt b 16 8))).ok []
  else if ¬ entering then p.refuse .badState
  else (p.addEffect .maintLeave).ok []

/-- The maintenance record (Table REC-2, code 1018). -/
def State.maintRecord (s : State) (mode slot : Nat) : Occurrence :=
  s.sysOcc 1018 5 0 (toLe 1 mode ++ toLe 1 slot ++ toLe 2 0)

/-- Enter the maintenance state: every node withdraws its claim (R167). -/
def State.enterMaint (s : State) (purpose : Nat) (session : Half) (slot expiry token : Nat) : State :=
  { s with maint := { s.maint with
      mode := purpose + 1, session := session, slot := slot, expiry := expiry, entered := session != 0,
      tokens := s.maint.tokens.map (fun c => if c.number = token ∧ session ≠ 0 then { c with used := true } else c) } }

/-- Leave it: the TAP goes to Test-Logic-Reset with IDCODE, and the boundary-scan cells return to 0 (R39, R405). -/
def State.leaveMaint (s : State) : State :=
  { s with
    maint := { s.maint with mode := 0, session := 0, slot := 0, expiry := 0, entered := false },
    hw := { s.hw with jtag := s.hw.jtag.toReset } }

/-- TOKEN_EXPIRY: the token's expiry ends the maintenance state (R167). -/
def execTokenExpiry (s : State) : Host.Outcome State Fault Refusal :=
  .next (if s.inMaint ∧ ¬ secBefore s.secNow s.maint.expiry then (s.leaveMaint.markE s).later (s.maintRecord 0 s.maint.slot) else s)

/-! ### Debug unlock (R168) -/

def cmdDebugUnlock : Cmd :=
  { op := 0x0922, access := roleIn [.service], sealed := noSeal, priv := noSeal,
    check := fun s _ r =>
      if ¬ lenIs 116 r then some .badParam
      else if s.maint.mode ≠ 2 then some .badState
      else if leAt r.params 0 4 ≠ Config.serial.toNat ∨ ¬ Config.unlockSigned (slice r.params 0 52) (slice r.params 52 64) then
        some .authFail
      else none
    run := fun s t _ => s.queueNv t (.debugUnlock (Config.unwrapDelivery (slice t.req.params 4 48))) }

/-- DEBUG_UNLOCK (R168). -/
def execDebugUnlock (r : Req) (s : State) : Host.Outcome State Fault Refusal := .next (s.execute cmdDebugUnlock r)

/-- One seal entry that DEBUG_UNLOCK breaks: its ledger entry and its event, which counts as all of them stand broken (R150,
R170). -/
def State.debugBreak (s : State) (e : Nat × Seal) : State :=
  let (no, s1) := s.ledgerBreak 2 0xFF e.1 e.2
  s1.raise 7 e.2.object ((sealData 3 e.1 e.2 0xFF).take 8 ++ toLe 2 (brokenSeals s.peg.seals) ++ toLe 2 s.peg.seals.length ++ toLe 4 no)

/-- Every entry of a seal table broken. -/
def allBroken (seals : Sparse Seal) : Sparse Seal := seals.map (fun e => (e.1, { e.2 with broken := true }))

/-- What DEBUG_UNLOCK does before it opens debug, in order (R168): keys and counters erased, every seal broken, in NV as well, the new
delivery key placed; the sessions opened under the erased keys close. -/
def State.debugUnlock (s : State) (k : List Byte) : State :=
  let s1 : State :=
    { s with
      keys := s.keys.filter (fun e => decide (26 < e.1)), savedCounters := [],
      peg := { s.peg with counters := [], seals := allBroken s.peg.seals },
      nvCopyA := { s.nvCopyA with seals := allBroken s.nvCopyA.seals }, nvCopyB := { s.nvCopyB with seals := allBroken s.nvCopyB.seals } }
  let s2 := s1.peg.seals.foldl State.debugBreak s1
  let s3 : State :=
    { s2 with
      keys := sset Key.empty s2.keys 0 { state := 2, loadedAt := 0, value := k }, maint := { s2.maint with debugUnlocked := true } }
  ((List.range 24).foldl State.closeUnder s3).later (s3.sysOcc 1019 6 0 (toLe 4 0))

end Sys2Proof.Machine
end

