-- ==== Sys2Proof/Machine/Start.lean ====
section
/-! DEFINITION. Supplies, node-level resets and the start sequence (R42-R46, R55-R57, R62, R65, R68, R73, R81-R93,
R99-R101, R166, R264, R318), with the events of the supplies, the pins and the watchdogs. -/

namespace Sys2Proof.Machine

/-! ### What a reset clears (R81, R82, Table RST-2) -/

/-- RETAIN of MEM_LO in the configuration in force (R46). -/
def State.retains (s : State) : Bool := s.cfg cDOMAIN 5 0x02 == 1

/-- The gutter log across a reset: kept whole by a warm reset under RETAIN, else cleared (R46, R318). The save allowance is
full after a power-on class reset. -/
def State.gutReset (s : State) (powerOn : Bool) : GutterLog :=
  let g := s.gut
  let g1 : GutterLog := if powerOn = true ∨ s.retains = false then { g with entries := [], unsaved := 0 } else g
  if powerOn then { g1 with allowance := 8192 } else g1

/-- The recorder across a reset: both coats, the ledger and the counters in NV stay; what waits in SRAM is lost (R304,
R312). -/
def Recorder.reset (r : Recorder) : Recorder :=
  { r with buckets := [], budget := 4096, budgetSince := 0, summaries := [], waiting := [], queue := [], ledgerQueue := [],
           ledgerWriting := 0, writing := 0, compacting := none, erasing := none, lossFact := false, lossClear := 0,
           logCauses := [] }

/-- A channel across a reset: in listen mode, with its calibration, which is in NV. -/
def AfeCh.reset (c : AfeCh) : AfeCh :=
  { AfeCh.start with calOffset := c.calOffset, calGain := c.calGain, calField := c.calField, calAt := c.calAt }

/-- The AFE across a reset: the die itself is not reset (R25), but the logic's last frame orders the listen state on every channel
(R209); the link and the logic's results are reset. -/
def Afe.reset (a : Afe) : Afe :=
  { Afe.start with
    lastGood := a.lastGood, dieTemp := a.dieTemp, ch := a.ch.foldl (fun m e => sset AfeCh.start m e.1 e.2.reset) [] }

/-- The pair's state across a reset: S, E, the takeovers and the binding are in NV (R329, Table TWN-12). -/
def PairSt.afterReset (p : PairSt) : PairSt :=
  { PairSt.shipped with
    bound := p.bound, streak := p.streak, epoch := p.epoch, takeovers := p.takeovers, twinSerial := p.twinSerial }

/-- The ring across a reset: members, index, manager serials and the cell counter are in NV (R361, R373, Table RNG-8). -/
def Ring.afterReset (r : Ring) : Ring :=
  { Ring.start with
    workers := r.workers.foldl (fun m e => sset Worker.none m e.1 { Worker.none with state := e.2.state, serial := e.2.serial }) [],
    counterOut := r.counterStored + 2 ^ 20, counterStored := r.counterStored + 2 ^ 20, index := r.index, mgrA := r.mgrA,
    mgrB := r.mgrB }

/-- The aging sentinels across a reset: the daily means and the trend are kept in NV; the last reading and the sums of the day
under way are HOUSE's and are lost (R45, R419, Table PWR-3). -/
def Aging.afterReset (m : Sparse Aging) : Sparse Aging :=
  m.foldl (fun m e => sset Aging.none m e.1 { Aging.none with means := e.2.means, trend := e.2.trend, quiet := e.2.quiet }) []

/-- Clear an island; a warm reset keeps its counts (Table CLK-7). -/
def Island.afterReset (x : Island) : Island := { Island.locked with relocks := x.relocks, inexact := x.inexact }

/-- The node does not wait for a download: transfers go to the NV slots, also on a node that a download has started
(notes/assumptions/42.md). -/
def State.nvBoot (s : State) : Bool := s.downloadPort.isNone

/-- What the logic die loses to a node-level reset of a class (Table RST-2). NV, EAVE and the two isolated dies stay; every session
is closed and every tag is dropped without a reply. A transfer that is cut leaves its NV slot without an image; in a download boot
it lies in SRAM (R87, R189). -/
def State.clearVolatile (s0 : State) (powerOn : Bool) : State :=
  let s := s0.cutWrites
  let lostSlot (n : Nat) (i : Image) : Image :=
    match s.transfer with
    | some x => if x.slot = n ∧ s.nvBoot then { i with valid := false, verified := false } else i
    | none => i
  { s with
    gut := s.gutReset powerOn, recorder := s.recorder.reset,
    clk := { Clock.reset with
      islands := if powerOn then [] else s.clk.islands.foldl (fun m e => sset Island.locked m e.1 e.2.afterReset) [] },
    peg := { s.peg with engine := Engine.idle, ain := [], din := [], disagree := [] },
    prov := none, batch := [], admitted := [], refusedP := [], stage := none, ain := [], din := [], comm := Comm.reset,
    cfgDirty := none, maint := { Maint.normal with
      tokens := s.maint.tokens, nextToken := s.maint.nextToken, debugUnlocked := s.maint.debugUnlocked && !powerOn },
    images := (lostSlot 0 s.images.1, lostSlot 1 s.images.2), sram := none, transfer := none, nvOps := [], blocks := [],
    selftest := [], afe := s.afe.reset, fio := FieldIo.start, hw := s.hw.afterReset, pair := s.pair.afterReset,
    ridge := Ridge.down, ring := s.ring.afterReset, aging := Aging.afterReset s.aging,
    eave := { s.eave with
      mark := 0, marked := false, prevMark := none, steps := if powerOn then 0 else s.eave.steps,
      ppsErrors := if powerOn then 0 else s.eave.ppsErrors, lastPps := none, ppsLabelled := false, labelled := 0, lockedSince := none, label := none,
      stepTo := none, discState := 0, layup := s.eave.layup } }

/-- A node-level reset begins: RSTOUT_N goes low, both link drivers are off, and the logic is held until release (R81, R82,
R85). The cause of the latest source stands; a power-on class source makes the whole reset one. AON is reset, and the mask of
RESET_N with it (Tables RST-2, RST-7); a pin that is still low then counts its 10 s anew. -/
def State.startReset (s : State) (idx : Nat) (powerOn : Bool) : State :=
  let cls := powerOn || (s.rst.inReset && s.rst.powerOn)
  let s1 := s.clearVolatile cls
  { s1 with
    rst := { s.rst with
      inReset := true, powerOn := cls, cause := idx, phase := 1, readyTicks := 0, rstoutLow := true, portsUp := false,
      commanded := none, firstClaim := false, layingUp := none, layupQueued := false, download := false, listening := false,
      tokensBack := 0, began := s.time, resetNMasked := false, resetNAt := s.time,
      cold := s.rst.inReset && s.rst.cold, fallback := false, cfgInvalid := false, firstPeg := false } }

/-- A warm reset of a node that is out of reset. -/
def State.warm (s : State) (idx : Nat) : State := if s.alive then s.startReset idx false else s

/-- A source that holds the reset while it lasts. -/
def State.hold (s : State) (idx : Nat) : State :=
  { s with rst := { s.rst with held := if s.rst.held.contains idx then s.rst.held else s.rst.held ++ [idx] } }

def State.unhold (s : State) (idx : Nat) : State := { s with rst := { s.rst with held := s.rst.held.filter (· != idx) } }

/-! ### Supplies (R42-R44, R56, R57) -/

/-- The index of a logic supply's own cause (Table RST-1). -/
def railCause : LogicRail → Nat
  | .vcore => 1 | .vio => 2 | .vaux => 3 | .vpll => 4

def Supplies.get (p : Supplies) : LogicRail → Bool
  | .vcore => p.vcore | .vio => p.vio | .vaux => p.vaux | .vpll => p.vpll

def Supplies.drop (p : Supplies) : LogicRail → Supplies
  | .vcore => { p with vcore := false } | .vio => { p with vio := false } | .vaux => { p with vaux := false }
  | .vpll => { p with vpll := false }

/-- All four logic supplies are above their thresholds. -/
def Supplies.logicUp (p : Supplies) : Bool := p.vcore && p.vio && p.vaux && p.vpll

/-- The start from laid-up in EAVE: its cause is recorded, and an override ends the lay-up on this node (R56, R264). Within its
100 ms PWRON stays low; their end releases it. -/
def Eave.rise (e : Eave) : Eave :=
  if ¬ e.laidUp then { e with wakeCause := 0 }
  else
    let c := if e.pwronLow then 4 else e.wakePending.getD 4
    { e with laidUp := false, pwronLow := e.pwronLow && e.pwronHeld, wakePending := if e.pwronHeld then some c else none,
             wakeCause := c, layup := e.layup && c != 4 }

/-- POWER_ON: all four logic supplies are above their thresholds; the reset waits for its release (R42). A dip of some
supplies keeps its own cause (R99). -/
def execPowerOn (s : State) : Host.Outcome State Fault Refusal :=
  .next (if s.sup.logicUp ∧ ¬ s.rst.held.any (fun k => k ≤ 3) then s
    else
      let all := !s.sup.vcore && !s.sup.vio && !s.sup.vaux && !s.sup.vpll
      let keep4 := s.rst.held.contains 4 && !s.sup.reference
      let s1 := if all then s.startReset 0 true else s
      { s1 with
        sup := { s1.sup with vcore := true, vio := true, vaux := true, vpll := true },
        rst := { s1.rst with held := s1.rst.held.filter (fun k => decide (4 < k)) ++ (if keep4 then [4] else []) },
        eave := if all && s1.sup.eave then s1.eave.rise else s1.eave })

/-- A power-on class source takes a node that runs or is held in a warm reset; one already in a power-on class reset keeps its
cause. -/
def State.takesPowerOn (s : State) : Bool := s.alive || !s.rst.powerOn

/-- SUPPLY_BROWNOUT: a logic supply is below its threshold longer than the filter; the reset of its cause begins, also in a node
held in a warm reset, and lasts until POWER_ON (R43). -/
def execSupplyBrownout (rail : LogicRail) (s : State) : Host.Outcome State Fault Refusal :=
  .next (if ¬ s.sup.get rail then s
    else
      let s1 := if s.takesPowerOn then s.startReset (railCause rail) true else s
      State.hold { s1 with sup := s1.sup.drop rail } (railCause rail))

/-- EAVE_SUPPLY_CHANGEOVER: EAVE goes on from the other supply; nothing is lost (R44). -/
def execEaveSupplyChangeover (toVback : Bool) (s : State) : Host.Outcome State Fault Refusal :=
  .next (if s.sup.eave then { s with sup := { s.sup with eaveFromBack := toVback } } else s)

/-- EAVE_SUPPLY_LOST: VBACK and VIO are both gone; EAVE's contents are lost (R43). -/
def execEaveSupplyLost (s : State) : Host.Outcome State Fault Refusal :=
  .next (if s.sup.vio ∨ ¬ s.sup.eave then s
    else { s with sup := { s.sup with eave := false, vback := false }, eave := s.eave.afterLoss s.time })

/-- The AFE die after its supply has been away: every channel in listen, nothing loaded (R209). -/
def State.afeFresh (s : State) : State :=
  let s1 : State := { s with afe := { s.afe with listen := true, linkUp := false, settingsLoaded := false } }
  ((List.range 16).foldl (fun s ch => s.modCh ch (AfeCh.restart s.clk.batten)) s1).driveAll

/-- VAFE_LOST: the AFE die resets, its channels go UNKNOWN, and an active unit of a pair yields (R57, R346). -/
def execVafeLost (s : State) : Host.Outcome State Fault Refusal :=
  .next (if ¬ s.sup.vafe then s else (State.afeFresh { s with sup := { s.sup with vafe := false } }).forcedYield)

/-- VAFE_RETURN: the die starts in listen; the next good flashing slots bring its link up and load the settings (R209). -/
def execVafeReturn (s : State) : Host.Outcome State Fault Refusal :=
  .next (if s.sup.vafe then s else State.afeFresh { s with sup := { s.sup with vafe := true } })

/-- VFLD_LOST: the field die resets, its outputs do not conduct, and an active unit of a pair yields (R57, R346). -/
def execVfldLost (s : State) : Host.Outcome State Fault Refusal :=
  .next (if ¬ s.sup.vfld then s
    else State.forcedYield { s with sup := { s.sup with vfld := false }, fld := { FieldDie.start with powered := false } })

/-- VFLD_POWER_UP: the die starts with every stage off and every input at 0, and its link trains again (R234, R235). -/
def execVfldPowerUp (s : State) : Host.Outcome State Fault Refusal :=
  .next (if s.sup.vfld then s
    else
      let s1 : State := { s with sup := { s.sup with vfld := true }, fld := FieldDie.start }
      if s1.sendsFrames then { s1 with fio := { s1.fio with link := 1, trainLeft := 100 } } else s1)

/-- REFERENCE_LOSS: no reference edge for 4 µs is a VPLL power-on reset, held until the reference is back, also in a node held in
a warm reset (R62). -/
def execReferenceLoss (s : State) : Host.Outcome State Fault Refusal :=
  .next (if ¬ s.sup.reference then s
    else
      let s1 := if s.takesPowerOn then s.startReset 4 true else s
      State.hold { s1 with sup := { s1.sup with reference := false } } 4)

/-- REFERENCE_RETURN: the hold ends; RESET_RELEASE follows (R62). -/
def execReferenceReturn (s : State) : Host.Outcome State Fault Refusal :=
  .next (let s1 : State := { s with sup := { s.sup with reference := true } }
    if s1.sup.vpll then s1.unhold 4 else s1)

/-! ### Pins, watchdogs and the other sources (Table RST-1) -/

/-- RESET_N_ASSERT: a filtered low holds a warm reset; while the pin is masked it only ends the run of high levels that would
re-arm it (R100, R101). -/
def execResetNAssert (s : State) : Host.Outcome State Fault Refusal :=
  .next (if s.rst.resetNMasked then { s with rst := { s.rst with resetNLow := true, resetNAt := s.time } }
    else
      let s1 := s.startReset 5 false
      { s1 with rst := { s1.rst with resetNLow := true } })

/-- STUCK_RESET: RESET_N low for 125 000 000 ticks (10 s) is masked and counted; the release follows (R101). -/
def execStuckReset (s : State) : Host.Outcome State Fault Refusal :=
  .next (if s.rst.inReset ∧ s.rst.resetNLow ∧ ¬ s.rst.resetNMasked ∧ 125000000 ≤ s.passed s.rst.resetNAt then
    { s with rst := { s.rst with resetNMasked := true, resetNAt := s.time }, eave := s.eave.count 14 }
  else s)

/-- RESET_N_REARM: the masked pin has read high for 1 250 000 ticks (100 ms), so that long ago it was last seen low; the "stuck
reset" fact ends with the mask (R101). -/
def execResetNRearm (s : State) : Host.Outcome State Fault Refusal :=
  .next (if s.rst.resetNMasked ∧ 1250000 ≤ s.passed s.rst.resetNAt then
    { s with rst := { s.rst with resetNMasked := false, resetNLow := false } } else s)

/-- WDOG_CMD (R81, Table RST-1). -/
def execWdogCmd (s : State) : Host.Outcome State Fault Refusal := .next (s.warm 6)

/-- WDOG_SCAN (R81, Table RST-1). -/
def execWdogScan (s : State) : Host.Outcome State Fault Refusal := .next (s.warm 7)

/-- WDOG_HOUSE (R81, Table RST-1). -/
def execWdogHouse (s : State) : Host.Outcome State Fault Refusal := .next (s.warm 8)

/-- TAMPER: whichever detector trips, the reset is power-on class and erases no key; its second is kept, for the hold after
the third within the hour (R166, notes/assumptions/40.md). -/
def execTamper (_ : TamperDetector) (s : State) : Host.Outcome State Fault Refusal :=
  .next (let s1 := s.startReset 12 true
    { s1 with rst := { s1.rst with
      tamperAt := ((s1.rst.tamperAt ++ [s.secNow]).drop (s1.rst.tamperAt.length - 2)) } })

/-- OVER_TEMP: the node holds itself in reset; the trip is counted at the release, whatever other source joins (R83). -/
def execOverTemp (s : State) : Host.Outcome State Fault Refusal :=
  .next (if s.rst.held.contains 13 then s
    else
      let s1 := (s.startReset 13 false).hold 13
      { s1 with rst := { s1.rst with overTemp := true } })

/-- OVER_TEMP_RELEASE: the junction is 20 °C below the trip; RESET_RELEASE follows (R83). -/
def execOverTempRelease (s : State) : Host.Outcome State Fault Refusal := .next (s.unhold 13)

/-- TWIN_REQUEST: a request that has come over the ridge link is honoured only after a failed referee run; else it is
ignored and noted (R84). -/
def execTwinRequest (s : State) : Host.Outcome State Fault Refusal :=
  .next (if ¬ s.alive ∨ ¬ s.pair.resetRequested then s
    else if s.pair.refResult = 2 then s.startReset 11 false
    else State.gutter { s with pair := { s.pair with resetRequested := false } } 0x08 0 0)

/-- RING_ORDER: a worker that holds its manager's reset order resets at the start of its housekeeping slot (R85). -/
def execRingOrder (s : State) : Host.Outcome State Fault Refusal :=
  .next (if s.alive ∧ s.isWorker ∧ (sget 0 s.ring.orders 0).getLsbD 2 then (s.toOffset 112500).startReset 10 false else s)

/-- MEM_ECC: a corrected error is noted; a double-bit error rewrites the gutter entry it hits as erased, or stops all pegging and
resets the node (R68). -/
def execMemEcc (site : EccSite) (s : State) : Host.Outcome State Fault Refusal :=
  .next (if ¬ s.alive then s
    else
      match site with
      | .single bank word => s.gutter 0x06 bank.val word.toNat
      | .doubleGutter bank entry =>
        State.gutter { s with gut := { s.gut with entries := s.gut.entries.modify entry (fun e => { e with erased := true }) } }
          0x0E bank.val (entry % 65536)
      | .doubleElsewhere => { s with prov := none }.startReset 18 false)

/-- A commanded reset may begin: in the housekeeping slot of the frame after its admission once its reply has left the port, or
10 ms after admission, whichever comes first (R85). -/
def State.resetDue (s : State) (c : Commanded) : Bool :=
  decide (125000 ≤ s.passed c.at_)
    || (s.clk.running && s.clk.frameNo != c.frame && decide (112500 ≤ s.offset) && s.comm.tags.all (fun t => t.no != c.tagNo))

/-- NODE_RESET_START: the commanded reset begins (R85). -/
def execNodeResetStart (s : State) : Host.Outcome State Fault Refusal :=
  .next (match s.rst.commanded with
    | some c => if s.alive = true ∧ s.resetDue c = true then s.startReset 9 c.powerOn else s
    | none => s)

/-! ### Release and start (R86-R93, Table RST-4) -/

/-- The majority of three samples of the straps (R29). -/
def majority (a b c : BitVec 5) : BitVec 5 := (a &&& b) ||| (a &&& c) ||| (b &&& c)

/-- COUNTERSIGN_REQUIRED as the start finds it, in the first good stored copy (R93, R164). -/
def State.storedCountersign (s : State) : Bool :=
  let of (c : NvCopy) : Bool := cfgOf c.cfg cDEVICE 0 0x65 == 1
  if s.nvCopyA.good then of s.nvCopyA else s.nvCopyB.good && of s.nvCopyB

/-- An NV image that boots: written whole, verified, not below the fuse, signed, and countersigned where that is required
(R163, R164). An image as shipped bears Sundaux's signature; whether it bears the owner's is free (notes/assumptions/13.md). -/
def State.boots (s : State) (i : Image) : Bool :=
  i.valid && i.verified && decide (s.fuse ≤ i.rollback)
    && (i.received.isEmpty || Config.imageSigned i.received)
    && (!s.storedCountersign || Config.imageCountersigned (s.keyAt 26).value i.received)

/-- Step 4 and 5: the image that this start boots, and whether it is the fallback; none waits for a download (R86-R88,
R189). -/
def State.chooseImage (s : State) : Option (Nat × Bool) :=
  let want : Nat :=
    match s.eave.bootOnce with
    | some k => k
    | none => if s.rst.imageAOnce then 0 else if s.strap 0 then 1 else 0
  let img (k : Nat) : Image := if k = 0 then s.images.1 else s.images.2
  if s.boots (img want) then some (want, false) else if s.boots (img (1 - want)) then some (1 - want, true) else none

/-- Steps 1 and 2: EAVE's counters, the cause, RSTOUT_N (R89, R99). An over-temperature trip is counted once, also where another
source became the cause while the node was held (R83). -/
def State.startEave (s : State) : State :=
  let e := if s.rst.cold then { s.eave with counters := 1 :: List.replicate 18 0 } else s.eave.count s.rst.cause
  let e' := if s.rst.overTemp ∧ s.rst.cause ≠ 13 then e.count 13 else e
  { s with eave := e', rst := { s.rst with overTemp := false, rstoutLow := false, phase := 4, portsUp := true } }

/-- Start rates of the islands, as configured; an island that Table CLK-2 does not let the node's role throttle runs at full rate
(R65). -/
def State.startRates (s : State) : State :=
  (List.range 7).foldl (fun s i =>
    let v := s.startRate i
    s.modIsland i (fun x => { x with rate := v, state := if v = 0 then 0 else 1, target := v })) s

/-- Start states of the domains that the node's role leaves free (R47, R58). -/
def State.startDomains (s : State) : State :=
  let ds := (List.range 12).foldl (fun m d => if s.switchable d then sset 1 m d (s.startState d) else m) []
  { s with clk := { s.clk with domains := ds } }

/-- A stored copy becomes the configuration in force. -/
def Pegged.ofCopy (c : NvCopy) (counters : Sparse Counter) : Pegged :=
  { Pegged.factory with
    cfg := c.cfg, matrix := c.matrix, gen := c.gen, lastMatrixFrame := c.lastMatrixFrame, seals := c.seals,
    swapHours := c.swapHours, counters := counters }

/-- Step 7: the configuration, from its first good copy, else the factory configuration (R93); the owner counters (R160),
the charger, which a start with EAVE kept does not disturb (R259, Table PWR-3), the start states; the saved gutter log where the log was not kept (R46, R318). -/
def State.loadConfig (s : State) : State :=
  let kept := !s.rst.powerOn && s.retains
  let peg :=
    if s.nvCopyA.good then Pegged.ofCopy s.nvCopyA s.savedCounters
    else if s.nvCopyB.good then Pegged.ofCopy s.nvCopyB s.savedCounters
    else { Pegged.factory with counters := s.savedCounters }
  let s1 : State :=
    { s with
      peg := peg, rst := { s.rst with cfgInvalid := !s.nvCopyA.good && !s.nvCopyB.good },
      eave := if s.eave.charger = s.eave.chargerNv ∧ ¬ s.rst.cold then s.eave
        else { s.eave with charger := s.eave.chargerNv, chargerState := chargerStart s.eave.chargerNv.toNat, chargerAt := s.time } }
  let s2 := s1.startRates.startDomains.canConfig
  if kept ∨ ¬ s2.gut.haveSave then s2
  else State.gutter { s2 with gut := { s2.gut with entries := s2.gut.saved, unsaved := 0 } } 0x0C 0 s2.gut.saved.length

/-- Step 8: both flashing links train, and the settings go to the AFE die (R89, R209, R234). -/
def State.trainDies (s : State) : State :=
  let s1 : State := { s with fio := { s.fio with link := 1, trainLeft := 100 }, rst := { s.rst with phase := 8 } }
  if s1.sup.vafe then { s1 with afe := { s1.afe with linkUp := true } }.loadAfe else s1

/-- A manager's view of its workers at a start: every admitted one is STARTING (R91). -/
def Ring.starting (r : Ring) : Ring :=
  { r with workers := r.workers.map (fun e => if [2, 3, 5].contains e.2.state then (e.1, { e.2 with state := 1 }) else e) }

/-- Steps 6 to 8, and step 9 begins: a worker waits for a token, a manager listens for a marker (R89, R90). -/
def State.startTail (s : State) : State :=
  let s1 := s.loadConfig.trainDies
  if s1.isWorker then { s1 with rst := { s1.rst with phase := 0x0E } }
  else { s1 with rst := { s1.rst with phase := 9, listening := true, listenFrom := s.time }, ring := s1.ring.starting }

/-- Session 0 of a download port, which keeps a sequence window for this boot, from SEQ 1, with BASE only (R111). -/
def downloadSession (p : Port) : Sess :=
  { num := 0, port := p, role := .observer, slot := 0, isOpen := true, nc := [], nn := [], key := [], kReq := [], kRep := [],
    kEnc := [], high := 0, window := [], settledAt := none, features := 1, eventMask := 0, evtNo := 0, evtQueue := [],
    coalesced := [], sent := 0, echo := 0, tagFails := 0, msgIn := 0, msgOut := 0, openedAt := 0, lastSeen := 0 }

/-- A node that waits for an image over a port; in BOOT_FAIL it waits on U0, and BOOT_IMAGE reads 3, as of a U0 download, which
no rule states (R87, R88, R92, notes/assumptions/119.md). -/
def State.waitImage (s : State) (phase : Byte) (boot : Nat) : State :=
  { s with
    rst := { s.rst with phase := phase, download := true, bootImage := boot },
    comm := { s.comm with sessions := s.comm.sessions ++ [downloadSession (if boot = 2 then .host else .u0)] } }

/-- The third tamper reset within an hour holds the node for 60 s before the release (R166). -/
def State.tamperHeld (s : State) : Bool :=
  match s.rst.tamperAt with
  | [a, _, c] => decide (s.rst.cause = 12 ∧ (c + 2 ^ 32 - a) % 2 ^ 32 < 3600 ∧ s.passed s.rst.began < 60 * Config.ticksPerSecond)
  | _ => false

/-- RESET_RELEASE: every source is inactive, an unmasked RESET_N reads high (R100), and a tamper hold is over; the straps are latched, the batten counter starts, and the start sequence runs
as far as this node's own work goes (R89). Each step is one with the release here (notes/assumptions/41.md). -/
def execResetRelease (env : StartEnv) (s : State) : Host.Outcome State Fault Refusal :=
  .next (if s.alive ∨ ¬ s.rst.held.isEmpty ∨ ¬ s.sup.logicUp ∨ ¬ s.sup.reference ∨ ¬ s.sup.eave
      ∨ (¬ env.resetNHigh ∧ ¬ s.rst.resetNMasked) ∨ s.tamperHeld then s
    else
      let m := majority env.sample1 env.sample2 env.sample3
      let s1 : State :=
        { s with
          rst := { s.rst with inReset := false, latched := m, release := s.time, startFrom := s.time, resetNLow := !env.resetNHigh },
          clk := { s.clk with batten := 0 } }
      let s2 := s1.startEave
      let forced := s2.eave.bootOnce.isSome || s2.rst.imageAOnce
      let chosen := s2.chooseImage
      let s3 : State := { s2 with eave := { s2.eave with bootOnce := none }, rst := { s2.rst with imageAOnce := false } }
      if 3 ≤ s3.eave.startFails then s3.waitImage 0x0D 3
      else if s3.strap 1 ∧ ¬ forced then s3.waitImage 0x0C (if s3.strap 0 then 3 else 2)
      else
        match chosen with
        | none => s3.waitImage 0x0D 3
        | some (k, fb) => { s3 with rst := { s3.rst with bootImage := k, fallback := fb } }.startTail)

/-- START_TIMEOUT: READY is not reached 1000 ms after release, or in a download boot after the admission of IMAGE_ACTIVATE, from
which R87 counts the bounds; a node that waits for an image or for the ring is exempt (R87, R90, R92). -/
def execStartTimeout (s : State) : Host.Outcome State Fault Refusal :=
  .next (if s.alive ∧ msTicks 1000 ≤ s.passed s.rst.startFrom ∧ ([4, 8, 9, 10] : List Nat).contains s.rst.phase.toNat then
    { s with eave := { s.eave with startFails := min 255 (s.eave.startFails + 1) } }.startReset 16 false
  else s)

/-- DOWNLOAD_TIMEOUT: 60 s without IMAGE_BEGIN in a download boot; the next start boots image A (R87). BOOT_FAIL has no such
limit (R95). -/
def execDownloadTimeout (s : State) : Host.Outcome State Fault Refusal :=
  .next (if s.alive ∧ s.rst.phase = 0x0C ∧ s.transfer.isNone ∧ s.sram.isNone ∧ msTicks 60000 ≤ s.sinceRelease then
    { s with rst := { s.rst with imageAOnce := true } }.startReset 17 false
  else s)

/-- STARTING_TIMEOUT: a worker not heard 2 s after READY is LOST (R91, R373). -/
def execStartingTimeout (worker : Fin 16) (s : State) : Host.Outcome State Fault Refusal :=
  let w := s.worker worker.val
  .next (if ¬ s.isReady ∨ s.isWorker ∨ w.state ≠ 1 ∨ w.okRun ≠ 0 ∨ s.passed s.rst.readyAt < msTicks 2000 then s
    else
      let s1 : State := { s with ring := { s.ring with
        workers := sset Worker.none s.ring.workers worker.val { w with state := 3 } } }
      s1.tellRing 1 worker.val)

/-- ISLAND_CLOCK_FAULT: lock is not back within 1 ms; the island stays on the crawl clock, and an active unit whose SCAN or
MEM it is yields (R73). -/
def execIslandClockFault (island : Fin 7) (s : State) : Host.Outcome State Fault Refusal :=
  let lost : Bool := match (s.islandSt island.val).lossAt with
    | some t => decide (msTicks 1 ≤ since s.clk.batten t)
    | none => false
  .next (if ¬ s.alive ∨ (s.islandSt island.val).state ≠ 2 ∨ lost = false then s
    else
      let s1 := s.modIsland island.val (fun x => { x with state := 3 })
      if island.val = 1 ∨ island.val = 3 then s1.forcedYield else s1)

end Sys2Proof.Machine
end

