-- ==== Sys2Proof/Machine/Image.lean ====
section
/-! DEFINITION. The IMAGE family (R87, R163, R164, R189, Table CMD-16). What a block writes and what a check finds is done
when the NV operation completes (NvWork.lean). -/

namespace Sys2Proof.Machine

/-- The rights of the IMAGE opcodes: OWNER and SERVICE, or session 0 of the port of a download boot (R87, Table SEC-2). -/
def imageAccess (op : Nat) (s : State) (w : Who) (r : Req) : Bool := s.downloadOp op r || roleIn [.owner, .service] s w r

/-- The slot of an NV image. -/
def State.slotImage (s : State) (k : Nat) : Image := if k = 0 then s.images.1 else s.images.2

def State.setImage (s : State) (k : Nat) (i : Image) : State :=
  if k = 0 then { s with images := (i, s.images.2) } else { s with images := (s.images.1, i) }

/-- The image of the open transfer: in a download boot it lies in SRAM (R87). -/
def State.transferImage (s : State) (x : Transfer) : Image :=
  if s.nvBoot then s.slotImage x.slot else s.sram.getD { Image.factory with valid := false, verified := false }

def State.setTransferImage (s : State) (x : Transfer) (i : Image) : State :=
  if s.nvBoot then s.setImage x.slot i else { s with sram := some i }

/-- An erased slot that a transfer of a length fills. -/
def Image.erased (length : Nat) : Image :=
  { valid := false, verified := false, version := 0, rollback := 0, length := length, received := [] }

def imageBeginCheck (s : State) (_ : Who) (r : Req) : Option Status :=
  let k := byteAt r.params 0
  if ¬ (lenIs 5 r ∧ (1 < k → s.nvBoot = false) ∧ leAt r.params 1 4 ≤ 655360) then some .badParam
  else if s.transfer.isSome ∨ (s.nvBoot ∧ k = s.rst.bootImage) then some .badState else none

def cmdImageBegin : Cmd :=
  { op := 0x0A00, access := imageAccess 0x0A00, sealed := noSeal, priv := noSeal, check := imageBeginCheck,
    run := fun s t _ =>
      let r := t.req
      let x : Transfer :=
        { slot := byteAt r.params 0, length := leAt r.params 1 4, received := 0, session := r.session, port := r.port }
      (State.setTransferImage { s with transfer := some x } x (Image.erased x.length)).queueNv t (.imageBegin x.slot x.length) }

/-- IMAGE_BEGIN (R189). -/
def execImageBegin (r : Req) (s : State) : Host.Outcome State Fault Refusal := .next (s.execute cmdImageBegin r)

def imageBlockCheck (s : State) (_ : Who) (r : Req) : Option Status :=
  let n := r.params.length - 4
  if r.params.length ≤ 4 ∨ 4092 < n then some .badParam
  else
    match s.transfer with
    | none => some .badState
    | some x =>
      if leAt r.params 0 4 ≠ x.received ∨ x.length < x.received + n then some .badParam else none

def cmdImageBlock : Cmd :=
  { op := 0x0A01, access := imageAccess 0x0A01, sealed := noSeal, priv := noSeal, check := imageBlockCheck,
    run := fun s t _ =>
      let d := t.req.params.drop 4
      let s1 : State := { s with transfer := s.transfer.map (fun x => { x with received := x.received + d.length }) }
      s1.queueNv t (.imageBlock (leAt t.req.params 0 4) d) }

/-- IMAGE_BLOCK (R189). -/
def execImageBlock (r : Req) (s : State) : Host.Outcome State Fault Refusal := .next (s.execute cmdImageBlock r)

def imageVerifyCheck (s : State) (_ : Who) (r : Req) : Option Status :=
  if ¬ lenIs 0 r then some .badParam
  else
    match s.transfer with
    | none => some .badState
    | some x => if x.received = x.length then none else some .badState

def cmdImageVerify : Cmd :=
  { op := 0x0A02, access := imageAccess 0x0A02, sealed := noSeal, priv := noSeal, check := imageVerifyCheck,
    run := fun s t _ => s.queueNv t .imageVerify }

/-- IMAGE_VERIFY (R163). -/
def execImageVerify (r : Req) (s : State) : Host.Outcome State Fault Refusal := .next (s.execute cmdImageVerify r)

def imageActivateCheck (s : State) (_ : Who) (r : Req) : Option Status :=
  let k := byteAt r.params 0
  if ¬ (lenIs 1 r ∧ k ≤ 1) then some .badParam
  else if s.nvBoot then
    (if (s.slotImage k).verified = false ∨ (s.isActive ∧ s.twinSynced) then some .badState else none)
  else
    match s.sram with
    | some i => if i.verified then none else some .badState
    | none => some .badState

/-- IMAGE_ACTIVATE's effect: in an NV boot a one-start override in EAVE, a record, and a warm reset once the reply has
left; in a download boot the image starts from SRAM, the bounds of the start count from the admission, and session 0 loses its
sequence window (R87, R111, R189). -/
def State.activateImage (s : State) (t : Tag) : State :=
  let k := byteAt t.req.params 0
  let s1 := s.answerF t .done [] 20
  if s.nvBoot then
    let s2 := s1.later (s1.sysOcc 1017 4 0 (toLe 4 (s.slotImage k).version))
    { s2 with eave := { s2.eave with bootOnce := some k }, rst := { s2.rst with commanded := some (s.commandedBy t false) } }
  else
    State.startTail { s1 with
      rst := { s1.rst with startFrom := s.time - since s.clk.batten t.admitAt },
      comm := { s1.comm with sessions := s1.comm.sessions.filter (fun x => x.num != 0) } }

def cmdImageActivate : Cmd :=
  { op := 0x0A03, access := imageAccess 0x0A03, sealed := noSeal, priv := noSeal, check := imageActivateCheck,
    run := fun s t _ => s.activateImage t }

/-- IMAGE_ACTIVATE (R189). -/
def execImageActivate (r : Req) (s : State) : Host.Outcome State Fault Refusal := .next (s.execute cmdImageActivate r)

end Sys2Proof.Machine
end

