-- ==== Sys2Proof/Machine/NvWork.lean ====
section
/-! DEFINITION. Work in the NV array and the housekeeping slot (R90, R160, R172, R177, R305-R307, R313-R316, R338, R341, R419-R421,
R423): completing class-N commands, writing records, ledger entries and configuration copies, the pairing slot, scrub, aging
and the background referee. -/

namespace Sys2Proof.Machine

/-! ### Class-N work (R145, R159, R172) -/

/-- The stated maximum of a class-N command in ticks (Tables CMD-7, CMD-11, CMD-14, CMD-16, CMD-17). -/
def State.nvMax (s : State) (op : Nat) (r : Req) : Nat :=
  if op = 0x0300 ∨ op = 0x0301 then
    calMax (s.cfg cAIN (oidIndex r.target) 0x11) r
  else if op = 0x0A01 then msTicks (12 * ceilDiv (r.params.length - 4) 256)
  else if op = 0x0B00 then msTicks (25 + leAt r.params 2 2)
  else if op = 0x0921 then msTicks 60
  else msTicks (opTicks op)

/-- What IMAGE_VERIFY finds (R163, R164), and the image as it stands after it. -/
def State.judgeImage (s : State) (i : Image) : Status × Image :=
  let b := i.received
  if ¬ Config.imageSigned b ∨ (s.countersign ∧ ¬ Config.imageCountersigned (s.keyAt 26).value b) then (.authFail, i)
  else if Config.imageRollback b % 64 < s.fuse then (.badState, i)
  else
    (.done, { i with valid := true, verified := true, version := Config.imageVersion b % 2 ^ 32, rollback := Config.imageRollback b % 64 })

/-- A consent token issued (R167): its number, its 40 bytes, and the state that keeps it. -/
def State.issueConsent (s : State) (purpose slot minutes : Nat) : List Byte × State :=
  let c : Consent :=
    { number := s.maint.nextToken, purpose := purpose, slot := slot, expiry := (s.secNow + 60 * minutes) % 2 ^ 32, used := false }
  (tokenBytes c, { s with maint := { s.maint with tokens := s.maint.tokens ++ [c], nextToken := s.maint.nextToken + 1 } })

/-- What a piece of NV work does as it completes: its status, its reply, the state. -/
def State.nvWork (s : State) (w : NvWork) : Status × List Byte × State :=
  match w with
  | .denied st => (st, [], s)
  | .keyLoad i k =>
    let s1 := s.loadKey i 1 k
    (.done, (s1.keyAt i).fingerprint, s1)
  | .keyRetire i => if i < 4 ∧ ¬ s.otherOwner i then (.badState, [], s) else (.done, [], s.retireKey i)
  | .consentIssue purpose slot minutes =>
    let (b, s1) := s.issueConsent purpose slot minutes
    (.done, b, s1)
  | .debugUnlock k => if s.maint.mode ≠ 2 then (.badState, [], s) else (.done, [], s.debugUnlock k)
  | .imageBegin _ _ => (.done, [], s)
  | .imageBlock off d =>
    match s.transfer with
    | none => (.badState, [], s)
    | some x =>
      let i := s.transferImage x
      (.done, toLe 4 (off + d.length), s.setTransferImage x { i with received := i.received ++ d })
  | .imageVerify =>
    match s.transfer with
    | none => (.badState, [], s)
    | some x =>
      let (st, i) := s.judgeImage (s.transferImage x)
      let s1 : State := { s.setTransferImage x i with transfer := none }
      (st, if st = .done then toLe 4 i.version ++ toLe 1 i.rollback else [], s1)
  | .gutterSave =>
    let (n, s1) := s.saveGutter
    (.done, toLe 2 n, s1)
  | .calibrate ch mode offset gain mean coeff ok =>
    if ¬ ok then (.badParam, [], s)
    else (.done, toLe 4 (ofSigned 4 mean) ++ toLe 4 (ofSigned 4 coeff), s.storeCal ch mode offset gain)

/-! ### The housekeeping slot (R55, R177, R307, R313) -/

/-- The writes of the last slot are complete. -/
def State.commitWrites (s : State) : State :=
  let r := s.recorder
  let r1 := (r.ledgerQueue.take r.ledgerWriting).foldl Recorder.ledgerCommit r
  let r2 := (r.queue.take r.writing).foldl Recorder.commit r1
  { s with recorder := { r2 with
      ledgerQueue := r.ledgerQueue.drop r.ledgerWriting, queue := r.queue.drop r.writing, ledgerWriting := 0, writing := 0 } }

/-- How many writes of given longest times, in ticks, complete in a time. -/
def fitting : Nat → List Nat → Nat
  | _, [] => 0
  | room, t :: ts => if t ≤ room then 1 + fitting (room - t) ts else 0

/-- The longest time of a write, both phases: 100 µs; with a removal, 140 µs (R313). -/
def writeTicks (removes : Bool) : Nat := if removes then 1750 else 1250

/-- The writes of this slot: at most eight that complete by its end at their longest times, ledger entries ahead of records, then
compaction copies; none during an erase (R307, R313, R315). -/
def State.startWrites (s : State) : State :=
  let r := s.recorder
  if r.erasing.isSome ∨ s.blockInReset 2 ∨ s.blockInReset 3 ∨ s.blockInReset 4 then s
  else
    let held := r.sole.length + r.weather.length
    let times := List.replicate (min 8 r.ledgerQueue.length) (writeTicks false)
      ++ ((List.range (min 8 r.queue.length)).map (fun k => writeTicks (decide (16384 ≤ held + k))))
      ++ List.replicate 8 (writeTicks false)
    let n := fitting (Config.frameTicks - s.offset) (times.take 8)
    let nl := min n r.ledgerQueue.length
    let nr := min (n - nl) r.queue.length
    { s with recorder := Recorder.compact { r with ledgerWriting := nl, writing := nr } (n - nl - nr) }

/-- The configuration in force as a stored copy. -/
def Pegged.copy (p : Pegged) : NvCopy :=
  { good := true, cfg := p.cfg, matrix := p.matrix, gen := p.gen, lastMatrixFrame := p.lastMatrixFrame, seals := p.seals,
    swapHours := p.swapHours }

/-- Both stored copies are complete 250 ms after the oldest change that they lack (R177, notes/assumptions/43.md). -/
def State.storeCopies (s : State) : State :=
  match s.cfgDirty with
  | none => s
  | some t =>
    if since s.clk.batten t < msTicks 250 then s
    else { s with nvCopyA := s.peg.copy, nvCopyB := s.peg.copy, cfgDirty := none, rst := { s.rst with cfgInvalid := false } }

/-- The housekeeping slot of the frame after the laid-up order's peg (R55, R160, R264, Table PWR-9). -/
def State.laidUpSlot (s : State) : State :=
  match s.rst.layingUp with
  | none => s
  | some n =>
    if s.clk.frameNo ≠ n + 1 ∨ s.rst.layupQueued then s else s.queueLayup

/-! ### Pairing offers (R90, R326, R327) -/

/-- A PAIRING payload (Table TWN-15). -/
def State.pairingPayload (s : State) (step : Nat) (proof : List Byte) : List Byte :=
  toLe 1 step ++ toLe 1 (b2n s.unitB) ++ toLe 2 Config.pairLevel.toNat ++ toLe 4 Config.serial.toNat ++ s.pair.ownPairNonce
    ++ (if proof.isEmpty then List.replicate 32 0#8 else proof) ++ toLe 4 s.pair.ownClaim.toNat ++ s.peg.digest.take 4

/-- A follower becomes detached, and its step 9 ends (R327). -/
def State.detach (s : State) : State :=
  { s with pair := { s.pair with detached := true, state := 0 },
           rst := { s.rst with phase := if s.rst.phase = 9 then 0x0A else s.rst.phase } }

/-- An offer, with a fresh nonce. -/
def State.sendOffer (s : State) : State :=
  let s1 := s.freshPairNonce
  { s1 with pair := { s1.pair with pairOffers := s1.pair.pairOffers + 1 } }.sendRidge kPAIRING (s1.pairingPayload 1 [])

/-- The pairing slot of a locked follower: one offer a frame, in at most three frames of a start or after the link has trained
again; while a binding waits, one in every frame. An unbound follower is detached; so is one whose three offers brought no
proof (notes/assumptions/44.md). -/
def State.offerPairing (s : State) : State :=
  if s.isWorker ∨ ¬ s.ridge.trained ∨ s.pair.leads ∨ s.clk.refState ≠ 2 then s
  else if s.pair.bindReq.isSome ∨ (s.isReady ∧ s.pair.bound ∧ s.isStandby ∧ s.pair.pairStep ≠ 4 ∧ s.pair.pairOffers < 3) then
    (s.toOffset 118750).sendOffer
  else if s.rst.phase ≠ 9 then s
  else if ¬ s.pair.bound then ((s.toOffset 118750).sendOffer).detach
  else if 3 ≤ s.pair.pairOffers then s.detach
  else (s.toOffset 118750).sendOffer

/-- A sector has not been rewritten by the scrub within 365 days (R423). -/
def State.scrubDue (s : State) (k : Nat) : Bool :=
  match s.scrubs.find? (fun (e : Nat × Nat) => e.1 == k) with
  | some e => decide (31536000 ≤ (s.secNow + 2 ^ 32 - e.2) % 2 ^ 32)
  | none => true

/-- A weak sector is refreshed and noted; within 365 days of its last refresh it waits for their end (R423). -/
def State.scrubSector (s : State) (k : Nat) : State :=
  if s.scrubDue k then
    State.gutter { s with scrubs := sput s.scrubs k s.secNow, weak := s.weak.erase k } 0x0B (k % 256) (k / 256 % 256)
  else { s with weak := if s.weak.contains k then s.weak else s.weak ++ [k] }

/-- NV_SCRUB: the sectors found weak at margin (R423). -/
def execNvScrub (weakSectors : List Nat) (s : State) : Host.Outcome State Fault Refusal :=
  .next (if s.alive then weakSectors.foldl State.scrubSector s else s)

/-- HOUSEKEEPING_SLOT (R48, R55, R90, R177, R313, R423). -/
def execHousekeepingSlot (s : State) : Host.Outcome State Fault Refusal :=
  .next (if ¬ s.alive ∨ ¬ s.clk.running then s
    else
      let s1 := (s.toOffset 112500).commitWrites
      ((s1.weak.foldl State.scrubSector s1).laidUpSlot.startWrites.storeCopies.switchDomains.offerPairing).flush)

/-! ### The background referee (R329, R338, R341) -/

/-- A run concludes: S and the result change, and the pair is told. -/
def State.refereeConcludes (s : State) (pass : Bool) : State :=
  let s1 := s.streakBy pass
  { s1 with pair := { s1.pair with refResult := if pass then 1 else 2, lastRefFrame := s.clk.frameNo } }

/-- BACKGROUND_REFEREE: a unit with S = 0, a suspect that may recover, or a synchronised standby runs the referee; a suspect
that entered with S = 0 resynchronises at its first pass; the first run comes from READY on, the next an hour after it (R341). While a run started by mismatches is under way, this row
brings that run's own result (R338). -/
def execBackgroundReferee (pass : Bool) (s : State) : Host.Outcome State Fault Refusal :=
  .next (if ¬ s.isReady ∨ s.isWorker then s
    else if s.pair.refStart.isSome then { s with pair := { s.pair with refOwn := some pass } }
    else if s.pair.lastRefFrame ≠ 0 ∧ framesSince s.clk.frameNo s.pair.lastRefFrame < 360000 then s
    else if s.pair.state = 2 ∨ s.pair.streak = 0 ∨ (s.pair.state = 4 ∧ ¬ s.pair.suspectHard) then
      let s1 := (s.tellPair 6 s.pair.state).refereeConcludes pass
      let s2 : State := s1.tellPair 7 s1.pair.state
      if s.pair.state = 4 ∧ ¬ s.pair.suspectHard ∧ pass then
        s2.startResync.sendRidge kCONTROL (toLe 1 2 ++ [1] ++ toLe 2 0 ++ toLe 4 s.clk.frameNo.toNat)
      else s2
    else s)

/-! ### Scrub and aging (R419-R423) -/

def State.setAging (s : State) (i : Nat) (a : Aging) : State := { s with aging := sset Aging.none s.aging i a }

/-- AGING_READING: the normalised sentinels of an island at full rate and locked, an hour after the reading before (R419). -/
def execAgingReading (island : Fin 7) (osc leak : Nat) (s : State) : Host.Outcome State Fault Refusal :=
  let a := sget Aging.none s.aging island.val
  let f := Config.agingFirst island.val
  .next (if ¬ s.alive ∨ (s.islandSt island.val).state ≠ 0 ∨ s.blockInReset 2 ∨ s.blockInReset 16
      ∨ a.readAt.any (fun t => decide (s.passed t < 3600 * Config.ticksPerSecond)) then s
    else s.setAging island.val
      { a with osc := osc % 2 ^ 32, leak := leak % 65536, frame := s.clk.frameNo, sumOsc := a.sumOsc + Config.agingPpm osc f.1,
               sumLeak := a.sumLeak + Config.agingLeak leak f.2, n := a.n + 1, readAt := some s.time,
               dayAt := if a.n = 0 then s.time else a.dayAt })

/-- The state that a daily mean meets, the worst condition deciding; with the margins of Table ELC-9, the state it does not
yet leave. -/
def trendMet (ppmMargin leakMargin : Int) (proj : Bool) (m : Int × Int) : Nat :=
  if m.1 ≤ -35000 + ppmMargin ∨ 600 - leakMargin < m.2.natAbs then 2
  else if m.1 ≤ -20000 + ppmMargin ∨ 300 - leakMargin < m.2.natAbs ∨ proj then 1 else 0

/-- The trend after a daily mean: up at once; down only after 30 means in a row clear of the present state's conditions by
their margins (R420). -/
def Aging.judge (a : Aging) (m : Int × Int) : Aging :=
  let means := (a.means ++ [m]).drop (a.means.length + 1 - 400)
  let proj := Config.agingProjection ((means.drop (means.length - 365)).map Prod.fst)
  let met := trendMet 0 0 proj m
  let kept := trendMet 2000 50 proj m
  let quiet := if a.trend ≤ kept then 0 else a.quiet + 1
  let b : Aging := { a with means := means, sumOsc := 0, sumLeak := 0, n := 0 }
  if a.trend < met then { b with trend := met, quiet := 0 }
  else if 30 ≤ quiet then { b with trend := met, quiet := 0 } else { b with quiet := quiet }

/-- AGING_DAILY_MEAN: a day after its first reading the mean of the day's readings is kept and the trend judged; a day without a
reading has none (R419-R421). -/
def execAgingDailyMean (island : Fin 7) (s : State) : Host.Outcome State Fault Refusal :=
  let a := sget Aging.none s.aging island.val
  .next (if ¬ s.alive ∨ a.n = 0 ∨ s.passed a.dayAt < 86400 * Config.ticksPerSecond then s
    else s.setAging island.val (a.judge (Config.agingMean a.sumOsc a.n, Config.agingMean a.sumLeak a.n)))

end Sys2Proof.Machine
end

