-- ==== Sys2Proof/Machine/Batch.lean ====
section
/-! DEFINITION. The batch (R15, R17, R145, R173, R276): which operation an item's opcode stands for, the checks repeated at
its place, its reply, and the whole evaluation of a frame. -/

namespace Sys2Proof.Machine

/-- How an opcode's item is applied. -/
abbrev Apply := State → Prov → BatchItem → Req → Applied

/-- The entry and the application of each opcode that a batch can hold. -/
def pegOp (op : Nat) : Option (Cmd × Apply) :=
  match op with
  | 0x0201 => some (cmdSetAttr, applySetAttr)
  | 0x0310 => some (cmdOutputForce, applyOutputForce)
  | 0x0311 => some (cmdOutputRelease, applyOutputRelease)
  | 0x0400 => some (cmdAck, applyAck)
  | 0x0401 => some (cmdSilence, applySilence)
  | 0x0402 => some (cmdShelve, applyShelve)
  | 0x0403 => some (cmdUnshelve, applyUnshelve)
  | 0x0410 => some (cmdDutySelect, applyDutySelect)
  | 0x0411 => some (cmdCallAccept, applyCallAccept)
  | 0x0412 => some (cmdDeadmanResetRestart, applyDeadman)
  | 0x0500 => some (cmdTimeSet, applyTimeSet)
  | 0x0501 => some (cmdTimeShift, applyTimeShift)
  | 0x0502 => some (cmdHourAdd, applyHourAdd)
  | 0x0503 => some (cmdHourSub, applyHourSub)
  | 0x0504 => some (cmdWeekdaySet, applyWeekdaySet)
  | 0x0511 => some (cmdWakeSet, applyWakeSet)
  | 0x0601 => some (cmdLogMark, applyLogMark)
  | 0x0602 => some (cmdLogPolicy, applyLogPolicy)
  | 0x0701 => some (cmdPairUnbind, applyPairUnbind)
  | 0x0702 => some (cmdSwapNow, applySwapNow)
  | 0x0703 => some (cmdSwapPolicy, applySwapPolicy)
  | 0x0704 => some (cmdYieldRole, applyYield)
  | 0x0901 => some (cmdMatrixWrite, applyMatrixWrite)
  | 0x0902 => some (cmdSeal, applySeal)
  | 0x0903 => some (cmdUnsealRelease, applyUnseal)
  | 0x0921 => some (cmdConsentEnter, applyConsent)
  | 0x0B03 => some (cmdDomainSetLaidUp, applyDomainLaidUp)
  | _ => none

/-- Who admitted an item. -/
def BatchItem.who (i : BatchItem) : Who := { role := i.role, slot := i.slot, feats := offeredWord }

/-- An item's answer, kept for the peg on the unit that admitted it (R130). -/
def Prov.answer (p : Prov) (i : BatchItem) (r : Req) (st : Status) (params : List Byte) : Prov :=
  if ¬ i.own then p
  else { p with replies := p.replies ++
    [{ frame := i.frame, port := r.port, session := r.session, seq := r.seq, status := st, params := params }] }

/-- The request that the carriage of a pegged worker command stands for: the own session's, or the twin's over the ridge link. -/
def workerReq (i : BatchItem) (r : Req) : Req := if i.own then r else { r with port := .ridge }

/-- A worker's attribute that a single SET leaves invalid is refused by the worker, and is not noted (R428). -/
def State.noteSet (s : State) (cfg : Sparse Nat) (op : Half) (r : Req) : Sparse Nat :=
  let new := noteWorkerSet cfg r
  if op = 0x0201 ∧ s.stageValid new [r] then new else cfg

/-- A command at its place in the batch: rights again if the generation has moved on, then seals, then its effect (R145,
R148). The answer to a worker's command waits for the worker, to which it is carried once its item is pegged (R173). -/
def applyCommand (s : State) (p : Prov) (i : BatchItem) (op : Half) (r : Req) : Prov :=
  match pegOp op.toNat with
  | none => p
  | some (c, f) =>
    let u := s.under p
    if i.gen ≠ p.st.gen ∧ ¬ c.access u i.who r then p.answer i r .revoked []
    else if oidNode r.target ≠ 0 then
      let q := p.addEffect (.workerCmd op (workerReq i r))
      { q with st := { q.st with cfg := s.noteSet q.st.cfg op r } }
    else if c.sealed u i.who r then p.answer i r .sealed []
    else
      let a := f s p i r
      a.prov.answer i r a.status a.params

/-- A committed stage at its place in the batch (R180). -/
def applyCommit (s : State) (p : Prov) (i : BatchItem) (r : Req) (items : List Req) : Prov :=
  let a := applyStageCommit s p i items
  let p1 := a.prov.answer i r a.status a.params
  if a.status ≠ .done then p1 else p1.addRecord (s.sysOcc 1015 3 0 (toLe 4 p1.st.gen.toNat))

/-- An internal item (notes/assumptions/27.md): 1 a forced yield (R346), 2 a periodic swap (R345), 3 the laid-up order of a round
(R265), 4 a change of DISAGREE (R211, R221). -/
def applyInternal (s : State) (p : Prov) (i : BatchItem) (code line value : Nat) : Prov :=
  match code with
  | 1 => (handOver s p 3).prov
  | 2 => if s.quiet p.st.engine then (handOver s p 2).prov else p
  | 3 => if p.effects.contains .laidUp then p else p.addEffect .laidUp
  | 4 =>
    let rest := p.st.disagree.filter (fun k => k % 128 != line)
    Prov.addEffect { p with st := { p.st with disagree := if value = 1 then (line + 128 * b2n i.unitB) :: rest else rest } }
      (.disagree line (value == 1))
  | _ => p

/-- One item of the batch. -/
def applyItem (s : State) (p : Prov) (i : BatchItem) : Prov :=
  match i.body with
  | .command op r => applyCommand s p i op r
  | .commit r items => applyCommit s p i r items
  | .acn text => applyAcn s p text
  | .fact pt bit on => p.setSource pt bit on
  | .internal code _ line value => applyInternal s p i code line value

/-- An own OUTPUT_RELEASE of the batch. -/
def BatchItem.releases (a : PegReply) (i : BatchItem) : Bool :=
  match i.body with
  | .command op r => i.own && op == 0x0311#16 && r.port == a.port && r.session == a.session && r.seq == a.seq
  | _ => false

/-- EFFECT of OUTPUT_RELEASE: 1 if the output's place in the output word changed at this peg (Table CMD-8,
notes/assumptions/22.md). -/
def Prov.releaseEffects (s : State) (p : Prov) : Prov :=
  { p with replies := p.replies.map (fun a =>
      match s.batch.find? (BatchItem.releases a) with
      | some { body := .command _ r, .. } =>
        if a.status = .done then
          { a with params := effect (outputBit s.peg.engine r.target != outputBit p.st.engine r.target) }
        else a
      | _ => a) }

/-- Steps 1 to 10 of a frame's evaluation (Table ALM-3). -/
def State.evaluateFrame (s : State) (lanes : Bool) : Prov :=
  let p0 : Prov := { s.provNow with lanesAgree := lanes, applied := s.batch.length }
  ((s.batch.foldl (applyItem s) (p0.rosterStep s)).evaluate s).releaseEffects s

/-! ### NV_PROGRAM_COMPLETE (R145, R153, R159, R168, R172) -/

/-- What NV work changes under a frame that has been evaluated is evaluated again: its provisional result holds nothing that has been
erased or dropped (R153, R161, R168). -/
def State.evaluateAnew (s old : State) : State :=
  match s.prov with
  | some p => if s.batch = old.batch ∧ s.peg = old.peg then s else { s with prov := some (s.evaluateFrame p.lanesAgree) }
  | none => s

/-- NV_PROGRAM_COMPLETE: the oldest NV work is done; its reply is made ready, no earlier than its maximum, unless its session has
been closed with its key (R153, R159, R172). -/
def execNvProgramComplete (s : State) : Host.Outcome State Fault Refusal :=
  .next (match s.nvOps with
    | [] => s
    | o :: rest =>
      let (st, params, s1) := State.nvWork { s with nvOps := rest } o.work
      let s2 := (s1.evaluateAnew s).startHead
      match s2.tag? o.req with
      | none => s2.flush
      | some t => (s2.answerLate t st params (s.nvMax o.opcode.toNat o.req)).flush)

end Sys2Proof.Machine
end

