-- ==== Sys2Proof/Machine/Facts.lean ====
section
/-! DEFINITION. System facts (R278, R265, R352, R376, R421): what a node observes about itself, how a change enters the
batch, and how a fact of the pair itself is raised or cleared at a peg. -/

namespace Sys2Proof.Machine

/-- SOURCES of a point, one bit. -/
def State.sourceBit (s : State) (pt bit : Nat) : Bool := (s.pointSt pt).sources.getLsbD bit

/-- The value that the latest waiting item gives a fact. -/
def pendingIn (l : List BatchItem) (pt bit : Nat) : Option Bool :=
  l.foldl (fun o i =>
    match i.body with
    | .fact p b on => if p = pt ∧ b = bit then some on else o
    | _ => o) none

/-- A fact as it will stand once everything waiting is pegged. -/
def State.factAhead (s : State) (pt bit : Nat) : Bool := (pendingIn (s.batch ++ s.admitted) pt bit).getD (s.sourceBit pt bit)

/-- Submit a fact that differs from what is pegged or waiting (R278). -/
def State.setFact (s : State) (pt bit : Nat) (on : Bool) : State :=
  if s.factAhead pt bit = on then s else s.submit (.fact pt bit on)

/-- Put a changed fact into the batch of the present frame: a worker's facts arrive before the mirror leaves (R278). -/
def State.batchFact (s : State) (pt bit : Nat) (on : Bool) : State :=
  if s.factAhead pt bit = on then s else { s with batch := s.batch ++ [s.ownItem (.fact pt bit on)] }

/-- The facts that a node observes about itself, by system point (Table ALM-4). -/
def State.ownFactList (s : State) : List (Nat × Bool) :=
  [(0x802, s.linkFault), (0x804, s.rst.resetNMasked), (0x805, !s.eave.valid), (0x806, !s.sup.vafe || !s.afe.settingsLoaded), (0x807, !s.sup.vfld),
   (0x808, (List.range 7).any (fun i => (s.islandSt i).state == 3)), (0x809, s.rst.fallback), (0x80A, s.rst.cfgInvalid),
   (0x80B, s.rst.cause == 12), (0x80C, s.inMaint), (0x80F, s.outputFault),
   (0x810, (List.range 7).any (fun i => (sget Aging.none s.aging i).trend == 2)), (0x812, s.recorder.lossFact)]

/-- A worker's facts word (Table RNG-11): bit n for system point 0x800 + n. -/
def State.factsWord (s : State) : Nat := maskOf ((s.ownFactList.filter (fun f => f.2)).map (fun f => f.1 - 0x800))

/-- The points that a worker's facts word can carry. -/
def workerPoints : List Nat := [0x802, 0x804, 0x805, 0x806, 0x807, 0x808, 0x809, 0x80A, 0x80B, 0x80C, 0x80F, 0x810, 0x812]

/-- The node is in a laid-up round (R264). -/
def State.inRound (s : State) : Bool := s.eave.layup && decide (1 ≤ s.eave.wakeCause ∧ s.eave.wakeCause ≤ 3)

/-- The twin's SOURCES bit. -/
def State.twinBit (s : State) : Nat := b2n (!s.unitB)

/-- Redundancy loss as the leading unit sees it (R352): no twin is synchronised; a twin still laid up in a round does not
count (R265). -/
def State.redundancyLost (s : State) : Bool :=
  s.pair.twinState != 2 && !(s.inRound && s.pair.twinState == 0 && s.eave.layupList.getLsbD s.twinBit)

/-- The facts of a frame start: the node's own, and redundancy loss on the unit that leads the pair. -/
def State.submitFacts (s : State) : State :=
  let s1 := s.ownFactList.foldl (fun (s : State) (f : Nat × Bool) => s.setFact f.1 (b2n s.unitB) f.2) s
  if s1.isActive then s1.setFact 0x800 s1.twinBit s1.redundancyLost else s1

/-- A fact of the pair that changes at this peg: the frame is evaluated with it as its last item; the digest exchanged
stays (R337, R347, R352). -/
def State.pegFact (s : State) (pt bit : Nat) (on : Bool) : State :=
  match s.prov with
  | none => s
  | some p =>
    if (p.pt pt).sources.getLsbD bit = on then s
    else
      let q := { s with batch := s.batch ++ [s.ownItem (.fact pt bit on)] }.evaluateFrame p.lanesAgree
      { s with prov := some { q with digest := p.digest, applied := p.applied } }

end Sys2Proof.Machine
end

