-- ==== Sys2Proof/Machine/Mirror.lean ====
section
/-! DEFINITION. The mirror (R333, R334, Tables TWN-2, TWN-16): what the active unit sends of a frame and how the standby
takes it, and the values of an unmirrored frame. -/

namespace Sys2Proof.Machine

/-! ### Line values that the pair evaluates -/

def State.putAin (s : State) (node ch : Nat) (v : AinIn) : State :=
  { s with ain := sset AinIn.unknown s.ain (ainKey node ch) v }

def State.putDin (s : State) (node inp : Nat) (v : DinIn) : State :=
  { s with din := sset DinIn.unknown s.din (dinKey node inp) v }

/-- ENG of a worker's channel under the scaling that the managers last set (notes/assumptions/36.md). -/
def workerEng (cfg : Sparse Nat) (node ch : Nat) (v : Int) : Int :=
  let c (a : Nat) : Nat := sget (factory cAIN ch a) cfg (workerKey node cAIN ch a)
  engOf (c 0x10) (signedOf 4 (c 0x16)) (signedOf 4 (c 0x17)) v

/-- ENG of a node's channel. -/
def State.engFor (s : State) (node ch : Nat) (v : Int) : Int :=
  if node = 0 then engIn s.peg.cfg ch v else workerEng s.peg.cfg node ch v

/-- A value held over a missing one: an UNKNOWN value has nothing to hold (R363). -/
def AinIn.hold (v : AinIn) : AinIn := if v.quality = 3 then v else { v with quality := 2, flags := v.flags ||| 0x80#16 }
def AinIn.lose (v : AinIn) : AinIn := { v with quality := 3, flags := v.flags &&& 0xFF7F#16 }
def DinIn.hold (v : DinIn) : DinIn := if v.quality = 3 then v else { v with quality := 2, fresh := false }
def DinIn.lose (v : DinIn) : DinIn := { v with quality := 3, fresh := false }

/-- Change every line value of a node. -/
def State.mapLines (s : State) (node : Nat) (f : AinIn → AinIn) (g : DinIn → DinIn) : State :=
  let s1 := (List.range 16).foldl (fun (s : State) ch => s.putAin node ch (f (s.ainIn node ch))) s
  (List.range 24).foldl (fun (s : State) i => s.putDin node i (g (s.dinIn node i))) s1

/-- The unit's own snapshot becomes node 0 of what it evaluates: analog values and inputs of a unit that evaluates its own,
inputs only on a standby whose frame is unmirrored (R210, R221, R334). -/
def State.takeOwnAin (s : State) : State := (List.range 16).foldl (fun (s : State) ch => s.putAin 0 ch (s.ownAin ch)) s
def State.takeOwnDin (s : State) : State := (List.range 24).foldl (fun (s : State) i => s.putDin 0 i (s.ownDin i)) s

/-- The nodes that a mirror speaks of: the pair and every admitted worker. -/
def State.mirrorNodes (s : State) : List Nat := 0 :: (List.range 16).filter s.workerKnown

/-! ### Building the MIRROR (Table TWN-16) -/

/-- The DIN entry of a node; none while its inputs are UNKNOWN (notes/assumptions/46.md). -/
def State.dinEntry (s : State) (node : Nat) : Option (List Byte) :=
  let v (i : Nat) : DinIn := s.dinIn node i
  if (v 0).quality = 3 then none
  else some (toLe 1 node ++ toLe 1 (b2n (v 0).stale + 2 * b2n ((v 0).quality == 2))
    ++ toLe 3 (ofBits ((List.range 24).map (fun i => (v i).state))) ++ [0, 0, 0])

/-- The edge entries of a node: the last edge of each input that had one in this frame. -/
def State.edgeEntries (s : State) (node : Nat) : List (List Byte) :=
  ((List.range 24).filter (fun i => (s.dinIn node i).fresh)).map (fun i =>
    let v := s.dinIn node i
    toLe 1 node ++ toLe 1 (i + 64 * b2n v.unsync + 128 * b2n v.state) ++ [0] ++ toLe 5 v.edge.toNat)

/-- Everything the frame mirrors, in order, each entry with its list: 0 items, 1 AIN, 2 DIN, 3 edges. -/
def State.mirrorEntries (s : State) : List (Nat × List Byte) :=
  s.batch.map (fun i => (0, BatchItem.bytes i))
    ++ s.mirrorNodes.flatMap (fun n => (List.range 16).map (fun ch => (1, ainEntry n ch (s.ainIn n ch))))
    ++ (s.mirrorNodes.filterMap s.dinEntry).map (fun b => (2, b))
    ++ (s.mirrorNodes.flatMap s.edgeEntries).map (fun b => (3, b))

/-- Bytes of entries that fit a part: 4096 less the part's 16. -/
def partBytes : Nat := 4080

/-- Cut an entry that no part can hold; its list counts it where it begins (notes/assumptions/46.md). -/
def cutEntry : Nat → Nat × List Byte → List (Nat × List Byte)
  | 0, e => [e]
  | k + 1, (kind, b) => if b.length ≤ partBytes then [(kind, b)] else (kind, b.take partBytes) :: cutEntry k (4, b.drop partBytes)

/-- Fill parts with entries in order. -/
def packParts : List (Nat × List Byte) → List (Nat × List Byte) → List (List (Nat × List Byte))
  | cur, [] => [cur]
  | cur, e :: es =>
    if (cur.map (fun x => x.2.length)).sum + e.2.length ≤ partBytes then packParts (cur ++ [e]) es
    else cur :: packParts [e] es

/-- The payload of one part. -/
def mirrorPart (frame : Frame) (more : Bool) (no : Nat) (es : List (Nat × List Byte)) : List Byte :=
  let n (k : Nat) : Nat := (es.filter (fun e => e.1 == k)).length
  toLe 4 frame.toNat ++ toLe 1 (b2n more) ++ toLe 1 no ++ toLe 2 (n 0) ++ toLe 2 (n 1) ++ toLe 2 (n 2) ++ toLe 2 (n 3) ++ [0, 0]
    ++ es.flatMap (fun e => e.2)

/-- Send the frame's MIRROR (R333). -/
def State.sendMirror (s : State) : State :=
  let ps := packParts [] (s.mirrorEntries.flatMap (fun e => cutEntry 8 e))
  ps.zipIdx.foldl (fun (s : State) x =>
    s.sendRidge kMIRROR (mirrorPart s.clk.frameNo (decide (x.2 + 1 < ps.length)) x.2 x.1)) s

/-! ### Taking the MIRROR -/

/-- An item as this unit sees it: what it forwarded itself, it answers itself (R130). -/
def State.mirroredItem (s : State) (i : BatchItem) : BatchItem :=
  { i with own := i.forwarded && (i.unitB == s.unitB) }

def State.takeAinEntry (s : State) (b : List Byte) : State :=
  let n := byteAt b 0
  let v := signedOf 4 (leAt b 8 4)
  s.putAin n (byteAt b 1)
    { value := v, eng := s.engFor n (byteAt b 1) v, quality := byteAt b 2, flags := BitVec.ofNat 16 (leAt b 4 2), frame := s.clk.frameNo }

def State.takeDinEntry (s : State) (b : List Byte) : State :=
  let n := byteAt b 0
  (List.range 24).foldl (fun (s : State) i =>
    let old := s.dinIn n i
    s.putDin n i { old with
      state := (leAt b 2 3).testBit i, stale := (byteAt b 1).testBit 0, quality := if (byteAt b 1).testBit 1 then 2 else 0,
      fresh := false, frame := s.clk.frameNo }) s

def State.takeEdgeEntry (s : State) (b : List Byte) : State :=
  let n := byteAt b 0
  let i := byteAt b 1 % 32
  let at_ : Batten := BitVec.ofNat 40 (leAt b 3 5)
  let t := s.stampAt at_
  let old := s.dinIn n i
  s.putDin n i { old with edge := at_, edgeSec := t.1, edgeOff := t.2, unsync := (byteAt b 1).testBit 6, fresh := true }

/-- Cut bytes into entries of a size. -/
def entriesOf (size : Nat) : Nat → List Byte → List (List Byte)
  | 0, _ => []
  | k + 1, b => b.take size :: entriesOf size k (b.drop size)

/-- The whole MIRROR has arrived: the values replace the unit's own, the batch is the active's (R210, R221, R333). -/
def State.mirrorDone (s : State) (buf : List Byte) (cnt : List Nat) : State :=
  let (items, rest) := parseItems (cnt.getD 0 0) buf
  let nA := cnt.getD 1 0
  let nD := cnt.getD 2 0
  let s0 : State := { s with pair := { s.pair with mirrored := true, mirrorItems := items.map s.mirroredItem } }
  let s1 := s0.mirrorNodes.foldl (fun (s : State) n => s.mapLines n AinIn.lose DinIn.lose) s0
  let s2 := (entriesOf 12 nA rest).foldl State.takeAinEntry s1
  let s3 := (entriesOf 8 nD (rest.drop (12 * nA))).foldl State.takeDinEntry s2
  let s4 := (entriesOf 8 (cnt.getD 3 0) (rest.drop (12 * nA + 8 * nD))).foldl State.takeEdgeEntry s3
  { s4 with batch := s4.pair.mirrorItems }

/-- One part of the MIRROR of the present frame, in part order. -/
def State.takeMirror (s : State) (p : List Byte) : State :=
  if BitVec.ofNat 32 (leAt p 0 4) ≠ s.clk.frameNo ∨ byteAt p 5 ≠ s.pair.mirrorParts ∨ s.pair.mirrored ∨ s.pair.unmirrored then s
  else
    let cnt := [6, 8, 10, 12].zipWith (fun at_ n => leAt p at_ 2 + n)
      (if s.pair.mirrorCnt.isEmpty then [0, 0, 0, 0] else s.pair.mirrorCnt)
    let buf := s.pair.mirrorBuf ++ p.drop 16
    let s1 : State := { s with pair := { s.pair with mirrorParts := s.pair.mirrorParts + 1, mirrorBuf := buf, mirrorCnt := cnt } }
    if (byteAt p 4).testBit 0 then s1
    else State.mirrorDone { s1 with pair := { s1.pair with mirrorBuf := [], mirrorCnt := [] } } buf cnt

/-- MIRROR_RECEIVED: a part of the active's mirror (R333, R334). -/
def execMirrorReceived (packet : List Byte) (s : State) : Host.Outcome State Fault Refusal :=
  let (p, s1) := s.takeRidge kMIRROR packet
  .next (match p with
    | none => s1
    | some b => if s1.isStandby ∧ s1.clk.running then s1.takeMirror b else s1)

/-- MIRROR_DEADLINE, tick 37 500: a standby without the whole MIRROR goes on with held values, its own inputs and an empty
batch (R334). -/
def execMirrorDeadline (s : State) : Host.Outcome State Fault Refusal :=
  .next (if ¬ s.isReady ∨ ¬ s.isStandby ∨ s.pair.mirrored ∨ s.pair.unmirrored then s
    else
      let s0 := s.toOffset 37500
      let p : PairSt :=
        { s0.pair with unmirrored := true, unmirroredSince := true, mirrorBuf := [], mirrorCnt := [], mirrorItems := [] }
      let s1 : State := { s0 with pair := p, batch := [] }
      (s1.mirrorNodes.foldl (fun (s : State) n => s.mapLines n AinIn.hold DinIn.hold) s1).takeOwnDin)

end Sys2Proof.Machine
end

