-- ==== Sys2Proof/Machine/RingFrame.lean ====
section
/-! DEFINITION. The frame on the purlin ring (R60, R90, R256, R362-R366, R371-R373, R375, R376): the token and its copies, the
claim cell, worker data, missed data, and the ring's changes at a peg. -/

namespace Sys2Proof.Machine

/-! ### The token (Table RNG-11) -/

/-- The order byte of a worker: what waits for it, and WITHDRAW while the system is in the maintenance state (R167). -/
def State.orderByte (s : State) (n : Nat) : Nat := (sget 0 s.ring.orders n).toNat ||| (2 * b2n s.inMaint)

/-- The output word pegged for a node field. -/
def State.outputWord (s : State) (n : Nat) : Nat :=
  maskOf ((List.range 12).filter (fun o => s.peg.engine.outputs.contains (16 * n + o)))

/-- The frame before the present one was pegged. -/
def State.previousPegged (s : State) : Bool := s.rst.firstPeg && s.pair.lastPegFrame + 1 == s.clk.frameNo

def State.tokenBody (s : State) : List Byte :=
  let lay := s.ring.orders.any (fun e => e.2.getLsbD 0)
  toLe 5 s.clk.frameStart.toNat ++ toLe 1 (b2n s.previousPegged) ++ [0, 0] ++ toLe 4 (s.clk.frameNo - 1).toNat ++ s.eave.bcdBytes
    ++ toLe 5 s.eave.mark.toNat ++ toLe 1 (b2n s.eave.valid) ++ [0, 0] ++ toLe 4 s.pair.ownClaim.toNat
    ++ (List.range 15).flatMap (fun k => toLe 2 (s.outputWord (k + 1)))
    ++ (List.range 15).map (fun k => BitVec.ofNat 8 (s.orderByte (k + 1))) ++ [0]
    ++ toLe 4 (if lay then s.eave.wakeNext else 0) ++ toLe 2 (if lay then s.eave.wakeInterval else 0) ++ List.replicate 16 0#8

/-- A TOKEN carried on as a RELAY: byte 0 changes, the tag stays (R359). -/
def asRelay (b : List Byte) : List Byte :=
  let body := BitVec.ofNat 8 cRELAY :: (b.take (b.length - 4)).drop 1
  body ++ toLe 4 (crc32 body)

/-- The leading manager's TOKEN at frame start, with the copy for the relay set (R362, R371). The orders it carries are
carried once. -/
def State.sendToken (s : State) : State :=
  if s.ringKey.isEmpty then s
  else
    let (c, s1) := s.newCell cTOKEN s.clk.frameNo s.tokenBody
    let b := cellBytes s.cellTagKey c
    let s2 := s1.putCell s1.ringPort b 0
    let s3 :=
      if ¬ s2.ring.workers.any (fun e => e.2.relay) then s2
      else if s2.pair.state = 0 then s2.putCell (otherSide s2.ringPort) (asRelay b) 0 else s2.sendRidge kRELAY b
    { s3 with ring := { s3.ring with orders := [] } }

/-- RELAY_COPY: the standby sends the token on inbound (R371). -/
def execRelayCopy (packet : List Byte) (s : State) : Host.Outcome State Fault Refusal :=
  let (p, s1) := s.takeRidge kRELAY packet
  .next (match p with
    | none => s1
    | some b => if s1.isStandby ∧ byteAt b 0 = cTOKEN then s1.putCell s1.ringPort (asRelay b) 0 else s1)

/-- The standby's CLAIM cell at frame start (R362). -/
def State.sendClaimCell (s : State) : State := s.sendCell s.ringPort cCLAIM s.clk.frameNo (toLe 4 s.pair.ownClaim.toNat)

/-! ### A worker takes a token (R60, R61, R256, R362-R366) -/

def State.setWorkerClaim (s : State) (orig : Nat) (w : Word) : State :=
  if orig = 0x81 then { s with ring := { s.ring with claimB := some (w, s.clk.batten) } }
  else { s with ring := { s.ring with claimA := some (w, s.clk.batten) } }

/-- A manager's claim that is live at a worker (R365). -/
def State.liveClaim (s : State) (c : Option (Word × Batten)) : Option Word :=
  match c with
  | some (w, t) => if since s.clk.batten t < Config.claimFreshTicks then some w else none
  | none => none

def State.liveClaims (s : State) : List Word := [s.liveClaim s.ring.claimA, s.liveClaim s.ring.claimB].filterMap id

/-- Leader's time of a token or a marker: RTC_BCD at an offset, the mark after it, VALID after that (Tables RNG-11, TWN-15). -/
def State.leaderTime (s : State) (p : List Byte) (at_ : Nat) (first : Bool) : State :=
  match dateOfBcd (slice p at_ 7) with
  | none => s
  | some d =>
    let k := byteAt p (at_ + 7)
    s.takeTime d (k.testBit 0) (k / 2 % 8) ((byteAt p (at_ + 13)).testBit 0) (some (BitVec.ofNat 40 (leAt p (at_ + 8) 5))) first

/-- A follower hears the leader's frame start: the first one is taken as it is, the second consistent one locks, a later one
keeps the lock and brings the leader's time (R60, R61, R256). A frame start that does not fit is acquired anew. -/
def State.follow (s : State) (f : Frame) (start : Batten) (delayNs : Nat) (p : List Byte) (timeAt : Nat) : State :=
  let ahead := s.clk.running && f == s.clk.frameNo + 1 && start == s.clk.frameStart + BitVec.ofNat 40 Config.frameTicks
  let fits := ahead || (s.clk.running && f == s.clk.frameNo && start == s.clk.frameStart)
  if ¬ fits then
    { s with clk := { s.clk with
        running := true, frameNo := f, frameStart := start, batten := start + BitVec.ofNat 40 (delayNs / 80), starts := [(f, start)],
        refState := 1, lastRef := some f } }
  else
    let seen := (s.clk.refState == 1 && s.clk.lastRef != some f) || s.clk.refState == 2
    let first := s.clk.refState != 2
    let now := if seen then 2 else 1
    let s1 : State := { s with clk := { s.clk with refState := now, lastRef := some f } }
    if now = 2 then s1.leaderTime p timeAt first else s1

/-- The records of the backup events not yet recorded, with their own stamps (R262, Tables REC-3, REC-4). -/
def State.evtOccurrences (s : State) : List Occurrence :=
  let of (i : Nat) (x : EvtIn) : List Occurrence := (x.fifo.filter (fun e => !e.recorded)).map (fun e =>
    { code := s.cfg cCLOCK 0 (0x13 + i), sev := 2, typ := 2, object := oid 0 cCLOCK 0 0, sec := e.sec, off := 0xFFFFFF,
      unsync := false, data := toLe 1 i ++ toLe 1 (b2n e.rising) ++ toLe 2 e.frac })
  of 0 s.eave.evt0 ++ of 1 s.eave.evt1

/-- Every entry is recorded (R262). -/
def EvtIn.allRecorded (x : EvtIn) : EvtIn := { x with fifo := x.fifo.map (fun e => { e with recorded := true }) }

def State.evtRecorded (s : State) : State :=
  { s with eave := { s.eave with evt0 := s.eave.evt0.allRecorded, evt1 := s.eave.evt1.allRecorded } }

/-- Edges and waiting records leave at the peg of a frame: order 4 of R17, with the frame's number (R223, R364). -/
def State.releaseEdges (s : State) (f : Frame) (edges : List DiEvent) (more : List Occurrence) : State :=
  let recs := (edges.filter (s.routed 1)).map s.edgeRecord ++ more ++ s.recorder.waiting.map (fun o => o.restamp (s.frameStamp f))
  let real := s.clk.frameNo
  let s1 : State := { s with clk := { s.clk with frameNo := f }, recorder := { s.recorder with waiting := [] } }
  let s2 := s1.releaseRecords recs
  { s2 with clk := { s2.clk with frameNo := real } }

/-- The recorder opens at the first pegged frame of a configured node, or of an admitted worker; N is fixed as it opens
(R305). -/
def State.openRecorder (s : State) : State :=
  if s.recorder.opened ∨ (if s.isWorker then s.ringKey.isEmpty else s.factoryConfig) then s
  else
    let n := s.cfg cLOG 0 0x20
    { s with recorder := { s.recorder with
        opened := true, soleN := n, wplace := n, erased := (List.range 144).filter (fun k => decide (n / 128 < k)) } }

/-- PEGGED = 1: the worker releases what belongs to the frame that the managers pegged (R364). -/
def State.workerPegged (s : State) (f : Frame) : State :=
  let s0 := s.openRecorder
  let old := s0.fio.ripe.take (s0.fio.ripe.length - s0.fio.ripeNew)
  let edges := old.foldl (fun l e => insertEdge e l) []
  let s1 := (s0.releaseEdges f edges s0.evtOccurrences).evtRecorded
  { s1 with
    fio := { s1.fio with ripe := s1.fio.ripe.drop old.length }, rst := { s1.rst with firstPeg := true },
    pair := { s1.pair with lastPegFrame := f }, recorder := { s1.recorder with lossClear := s1.recorder.lossClear + 1 } }

/-- The orders of a token for this worker: laid-up, WITHDRAW, reset, expel, end of lay-up (R55, R85, R167, R264, R375). -/
def State.obeyOrders (s : State) (o : Nat) (body : List Byte) : State :=
  let s1 : State := { s with maint := { s.maint with
    mode := if o.testBit 1 then (if s.maint.mode = 0 then 1 else s.maint.mode) else if s.maint.mode = 1 then 0 else s.maint.mode } }
  let s2 : State := if o.testBit 0 then
      { s1 with
        rst := { s1.rst with layingUp := some (s1.clk.frameNo - 1) }, ring := { s1.ring with laidUpAck := true },
        eave := { s1.eave with wakeNext := leAt body 78 4, wakeInterval := leAt body 82 2 } }
    else s1
  let s3 : State := if o.testBit 2 then { s2 with ring := { s2.ring with orders := sset 0 s2.ring.orders 0 4#5 } } else s2
  let s4 : State := if o.testBit 3 then
      { s3 with keys := sset Key.empty s3.keys 25 Key.empty, ring := { s3.ring with index := 0, isolated := true, execEver := false } }
    else s3
  if o.testBit 4 then { s4 with eave := { s4.eave with layup := false } } else s4

/-- The output word of a token whose claim is not lower than any live one is executed: it goes to the own die in the next
flashing slot (R365); a node whose configuration is invalid claims nothing (R93). -/
def State.executeWord (s : State) (claim : Word) (body : List Byte) : State :=
  let i := s.ring.index
  let word := BitVec.ofNat 12 (leAt body (32 + 2 * (i - 1)) 2)
  let s1 : State :=
    { s with
      ring := { s.ring with execWord := word, execEver := true, lastExec := s.clk.batten, isolated := false },
      fio := { s.fio with claimDue := if s.rst.cfgInvalid then none else some (claim, word, true) } }
  let o := byteAt body (62 + (i - 1))
  let s2 := (s1.markE s).obeyOrders o body
  if o.testBit 1 ∨ o.testBit 3 then { s2 with fio := { s2.fio with claimDue := none } } else s2

/-- An accepted TOKEN or RELAY at a worker: it is seen, the TOKEN before the RELAY (R371); one with a lower claim is not
used further (R365, notes/assumptions/104.md). -/
def State.workerToken (s : State) (side : RingSide) (c : Cell) : State :=
  let claim : Word := BitVec.ofNat 32 (leAt c.body 28 4)
  let s1 := s.follow c.frame (BitVec.ofNat 40 (leAt c.body 0 5)) (match side with | .a => s.ring.delayA | .b => s.ring.delayB)
    c.body 12
  let s1a := (s1.setWorkerClaim c.orig claim).discUpdate
  let seen := if c.kind = cTOKEN ∨ s1a.ring.tokenSeenNow = 1 then 1 else 2
  let s2 : State := { s1a with ring := { s1a.ring with tokenSeenNow := seen } }
  if s2.ring.index = 0 ∨ s2.liveClaims.any (fun w => decide (claim.toNat < w.toNat)) then s2
  else
    let s3 := s2.executeWord claim c.body
    if (byteAt c.body 5).testBit 0 then s3.workerPegged (BitVec.ofNat 32 (leAt c.body 8 4)) else s3

/-- Step 9 of a manager that leads ends: the first claim follows (R90, R91). -/
def State.ringFormed (s : State) : State := if s.rst.phase = 9 then { s with rst := { s.rst with phase := 0x0A } } else s

def State.setWorker (s : State) (n : Nat) (w : Worker) : State :=
  { s with ring := { s.ring with workers := sset Worker.none s.ring.workers n w } }

/-- A worker is expelled: its channels are UNKNOWN, and it raises no ring fault. -/
def State.expelWorker (s : State) (n : Nat) : State :=
  let s1 := s.setWorker n { s.worker n with state := 4, relay := false }
  (s1.mapLines n AinIn.lose DinIn.lose).tellRing 3 n

/-- The standby reads from the token which worker is expelled (R375). -/
def State.seeExpelled (s : State) (body : List Byte) : State :=
  ((List.range 16).filter (fun n => s.workerKnown n && (byteAt body (61 + n)).testBit 3)).foldl State.expelWorker s

/-- A TOKEN reaches a manager: its own has gone round the ring, or the leader's has come to the closing end (R90, R376). -/
def State.managerToken (s : State) (c : Cell) : State :=
  let s1 : State := { s with ring := { s.ring with tokenSeenNow := 1 } }
  if c.orig ≠ s.ringOrig then (if s1.isStandby then s1.seeExpelled c.body else s1)
  else
    let n := s1.rst.tokensBack + 1
    let s2 : State := { s1 with rst := { s1.rst with tokensBack := n } }
    if 2 ≤ n ∧ s2.pair.leads then s2.ringFormed else s2

/-- A TOKEN, RELAY, CLAIM or DATA cell arrives: a bad CRC is asked for again; any other cell is forwarded, and an accepted
one is used (R358, R359). -/
def State.takeCell (s : State) (side : RingSide) (kind : Nat) (b : List Byte) (use_ : State → Cell → State) : State :=
  if ¬ s.ringUp side then s
  else
    match parseCell b with
    | none => s.badCell side
    | some c =>
      if c.kind ≠ kind then s
      else
        let s1 := s.forwardCell side b
        if s1.ringKey.isEmpty then s1
        else if ¬ s1.acceptable c b then s1.failCell
        else use_ (s1.noteCell c) c

/-- TOKEN_RECEIVED (R90, R362, R364, R365). -/
def execTokenReceived (side : RingSide) (cell : List Byte) (s : State) : Host.Outcome State Fault Refusal :=
  .next (s.takeCell side cTOKEN cell (fun s c => if s.isWorker then s.workerToken side c else s.managerToken c))

/-- RELAY_RECEIVED: as a TOKEN at a worker; a manager makes no use of it (R365, R371). -/
def execRelayReceived (side : RingSide) (cell : List Byte) (s : State) : Host.Outcome State Fault Refusal :=
  .next (s.takeCell side cRELAY cell (fun s c => if s.isWorker then s.workerToken side c else s))

/-- CLAIM_CELL_RECEIVED: a worker keeps the claim; at the leading manager the cell has crossed the whole ring (R365, R376). -/
def execClaimCellReceived (side : RingSide) (cell : List Byte) (s : State) : Host.Outcome State Fault Refusal :=
  .next (s.takeCell side cCLAIM cell (fun s c =>
    if s.isWorker then s.setWorkerClaim c.orig (BitVec.ofNat 32 (leAt c.body 0 4))
    else
      let n := s.rst.tokensBack + 1
      let s1 : State := { s with ring := { s.ring with tokenSeenNow := 1 }, rst := { s.rst with tokensBack := n } }
      if 2 ≤ n ∧ s1.pair.leads then s1.ringFormed else s1))

/-- ISOLATED: no manager's claim has been live for 50 ms (R366). -/
def execIsolated (s : State) : Host.Outcome State Fault Refusal :=
  .next (if s.alive ∧ s.isWorker ∧ s.liveClaims.isEmpty then { s with ring := { s.ring with isolated := true } } else s)

/-! ### Worker data (Table RNG-3, R362, R363) -/

/-- One edge entry of a DATA cell. -/
def State.dataEdge (s : State) (e : DiEvent) : List Byte :=
  toLe 1 (e.input + 32 * b2n e.overflow + 64 * b2n e.unsync + 128 * b2n (s.edgeState e)) ++ toLe 5 e.stamp.toNat ++ [0]

/-- The body of this worker's DATA cell. -/
def State.dataBody (s : State) : List Byte :=
  let edges := s.fio.ripe.drop (s.fio.ripe.length - s.fio.ripeNew)
  let d (f : DoutSt → Bool) : Nat := outBits (fun o => f (s.doutSt o))
  toLe 1 s.ring.tokenSeenNow ++ toLe 1 (b2n s.ring.laidUpAck + 2 * b2n s.ring.isolated) ++ [0, 0]
    ++ (List.range 16).flatMap (fun ch =>
      let c := s.ainSt ch
      toLe 4 (ofSigned 4 c.own) ++ toLe 1 c.ownQuality ++ [0] ++ toLe 2 c.ownFlags.toNat)
    ++ toLe 3 (ofBits ((List.range 24).map (fun i => (s.dinSt i).ownState))) ++ toLe 1 (b2n s.fio.stale)
    ++ toLe 1 (min 8 edges.length) ++ toLe 1 (min 255 (edges.length - 8))
    ++ (edges.take 8).flatMap s.dataEdge ++ List.replicate (7 * (8 - min 8 edges.length)) 0#8
    ++ toLe 9 (s.fio.readback.toNat + 2 ^ 12 * s.fio.conducting.toNat + 2 ^ 24 * d DoutSt.overload + 2 ^ 36 * d DoutSt.openWire
      + 2 ^ 48 * d DoutSt.overTemp + 2 ^ 60 * d DoutSt.fault)
    ++ toLe 4 s.factsWord ++ [s.fio.claimState]

/-- An input of which edges were lost in the DATA cell counts them (Table RNG-3). -/
def State.countLostEdges (s : State) : State :=
  let edges := s.fio.ripe.drop (s.fio.ripe.length - s.fio.ripeNew)
  (edges.drop 8).foldl (fun (s : State) e =>
    s.modDin e.input (fun d => { d with lost := inc32 d.lost, lostSinceRead := true })) s

/-- DATA_CELL_SEND: a worker's DATA leaves on both ports at tick 1 250; with it the first token is answered (R90, R362). -/
def execDataCellSend (s : State) : Host.Outcome State Fault Refusal :=
  .next (if ¬ s.alive ∨ ¬ s.isWorker ∨ ¬ s.clk.running ∨ s.ring.index = 0 ∨ s.ringKey.isEmpty then s
    else
      let s0 := s.toOffset 1250
      let (c, s1) := s0.newCell cDATA s0.clk.frameNo s0.dataBody
      let b := cellBytes s0.cellTagKey c
      let s2 := ((s1.putCell .a b 0).putCell .b b 0).countLostEdges
      { s2 with
        ring := { s2.ring with tokenSeenNow := 0, laidUpAck := false },
        rst := { s2.rst with phase := if s2.rst.phase = 0x0E ∧ s0.ring.tokenSeenNow ≠ 0 then 0x0A else s2.rst.phase } })

/-- A worker's values as its DATA carries them (Tables RNG-3, AFE-9), with its edges that wait for their peg (R223, R275). -/
def State.takeDataValues (s : State) (n : Nat) (body : List Byte) : State :=
  let s1 := (List.range 16).foldl (fun (s : State) ch =>
    let v := signedOf 4 (leAt body (4 + 8 * ch) 4)
    s.putAin n ch
      { value := v, eng := s.engFor n ch v, quality := byteAt body (8 + 8 * ch), flags := BitVec.ofNat 16 (leAt body (10 + 8 * ch) 2),
        frame := s.clk.frameNo }) s
  let stale := (byteAt body 135).testBit 0
  let s2 := (List.range 24).foldl (fun (s : State) i =>
    let old := s.dinIn n i
    s.putDin n i { old with
      state := (leAt body 132 3).testBit i, stale := stale, fresh := false, frame := s.clk.frameNo,
      quality := if ¬ stale then 0 else if old.stale then 3 else 2 }) s1
  let edges := (s.ring.edges.filter (fun e => e.1 == n)).map Prod.snd
  edges.foldl (fun (s : State) e =>
    let i := byteAt e 0 % 32
    let at_ : Batten := BitVec.ofNat 40 (leAt e 1 5)
    let t := s.stampAt at_
    let old := s.dinIn n i
    s.putDin n i { old with edge := at_, edgeSec := t.1, edgeOff := t.2, unsync := (byteAt e 0).testBit 6, fresh := true }) s2

/-- The edges of a worker's DATA, kept until the managers' own peg for its DI_CHANGE events (R364). -/
def workerEdges (body : List Byte) (n : Nat) : List (Nat × List Byte) :=
  (List.range (min 8 (byteAt body 136))).map (fun k => (n, slice body (138 + 7 * k) 7))

/-- An accepted DATA cell of the present frame at a manager, heard on its own side or through the twin (R362, R371-R373). Data that
comes after tick 25 000 is missed data (R363). -/
def State.takeData (s : State) (c : Cell) (far : Bool) : State :=
  let w := s.worker c.orig
  if ¬ s.workerKnown c.orig ∨ c.body.length ≠ 208 ∨ c.frame ≠ s.clk.frameNo ∨ 25000 < s.offset then s
  else
    let reach0 := if w.gotData then w.reach else w.reach &&& 0xC#4
    let w1 : Worker :=
      { w with
        gotData := true, tokenSeen := byteAt c.body 0, lastFrame := c.frame, laidUpAck := (byteAt c.body 1).testBit 0,
        facts := BitVec.ofNat 32 (leAt c.body 203 4), reach := reach0 ||| (if far then 2#4 else 1#4),
        state := if w.state = 3 then 1 else w.state, okRun := if w.state = 3 then 0 else w.okRun }
    let s1 := s.setWorker c.orig w1
    let s2 : State :=
      if w.gotData then s1 else { s1 with ring := { s1.ring with edges := s1.ring.edges ++ workerEdges c.body c.orig } }
    if s2.isStandby ∧ s2.pair.mirrored then s2 else s2.takeDataValues c.orig c.body

/-- The end of the ring that a port of this manager is: the far end of the chain from the active's outbound port. -/
def State.farSide (s : State) (side : RingSide) : Bool := s.isStandby || side != s.ringPort

/-- Note the order in which the workers' DATA comes in on the port that the chain hangs from (R369). -/
def State.noteArrival (s : State) (side : RingSide) (c : Cell) : State :=
  if ¬ s.workerKnown c.orig ∨ c.frame ≠ s.clk.frameNo ∨ side ≠ s.ringPort ∨ s.ring.heard.contains c.orig then s
  else { s with ring := { s.ring with heard := s.ring.heard ++ [c.orig] } }

/-- DATA_CELL_RECEIVED: a manager takes the data; a standby forwards over the ridge link what reached it alone (R362). -/
def execDataCellReceived (side : RingSide) (cell : List Byte) (s : State) : Host.Outcome State Fault Refusal :=
  .next (s.takeCell side cDATA cell (fun s c =>
    if s.isWorker then s
    else
      let s1 := (s.takeData c (s.farSide side)).noteArrival side c
      if s1.isStandby ∧ byteAt c.body 0 ≠ 1 then s1.sendRidge kRINGDATA cell else s1))

/-- RING_DATA: a DATA cell that reached only the standby (R362). -/
def execRingData (packet : List Byte) (s : State) : Host.Outcome State Fault Refusal :=
  let (p, s1) := s.takeRidge kRINGDATA packet
  .next (match p with
    | none => s1
    | some b =>
      match parseCell b with
      | none => s1
      | some c =>
        if ¬ s1.isActive ∨ s1.ringKey.isEmpty ∨ c.kind ≠ cDATA then s1
        else if ¬ s1.acceptable c b then s1.failCell
        else (s1.noteCell c).takeData c true)

/-! ### Missed data and the ring's changes (R363, R371-R373, R376) -/

/-- The TOKEN of this frame could not leave for reasons that do not wrap the ring: the block's own reset, or its retraining
for at most 15 ms (R371). -/
def State.tokenExcused (s : State) : Bool :=
  s.blockInReset 7 || (match s.ring.downSince with
    | some t => decide (since s.clk.batten t ≤ msTicks 15)
    | none => false)

/-- Whether a worker is in the relay set from the next frame on (R371). -/
def Worker.relayNext (w : Worker) : Bool := if w.gotData ∧ w.tokenSeen = 1 then false else w.relay || decide (2 ≤ w.unseenRun)

/-- A laid-up member that a round does not miss (R265). -/
def State.laidUpMember (s : State) (n : Nat) : Bool := s.inRound && s.eave.layupList.getLsbD (n + 1) && (s.worker n).lastFrame == 0

/-- The loss of a worker falls due at this frame's peg: three consecutive misses of one that has been heard (R372). -/
def State.lossDue (s : State) (n : Nat) : Bool :=
  let w := s.worker n
  decide (3 ≤ w.missRun) && (w.state == 2 || (w.state == 1 && w.lastFrame != 0)) && !s.laidUpMember n

/-- One worker at the deadline: its run of misses, its values if they are missing, and its facts into this frame's batch. -/
def State.judgeData (s : State) (n : Nat) : State :=
  let w := s.worker n
  let unseen :=
    if ¬ w.gotData ∨ s.tokenExcused then w.unseenRun
    else if w.tokenSeen = 0 ∧ w.reach.getLsbD 1 then w.unseenRun + 1 else 0
  let w1 : Worker :=
    { w with
      missedBits := ((!w.gotData) :: w.missedBits).take 100, missRun := if w.gotData then 0 else w.missRun + 1,
      okRun := if w.gotData then w.okRun + 1 else 0, unseenRun := unseen }
  let s1 := s.setWorker n w1
  let s2 :=
    if w.gotData then workerPoints.foldl (fun (s : State) pt => s.batchFact pt (n + 1) (w.facts.getLsbD (pt - 0x800))) s1
    else if w1.missRun = 1 then s1.mapLines n AinIn.hold DinIn.hold else s1.mapLines n AinIn.lose DinIn.lose
  s2.batchFact 0x801 (n + 1) (s2.lossDue n || (w1.state == 3 && !s2.laidUpMember n))

/-- The active's judgement of the frame's worker data (R363), with the ring-fault facts that its peg will bring (R376). -/
def State.judgeWorkers (s : State) : State :=
  let s1 := ((List.range 16).filter s.workerKnown).foldl State.judgeData s
  s1.batchFact 0x801 (b2n s1.unitB) (s1.ring.workers.any (fun e => e.2.relayNext))

/-- A standby notes what it hears, for the runs that bring a worker back (R373). -/
def State.noteData (s : State) (n : Nat) : State :=
  let w := s.worker n
  let got := w.gotData || decide ((s.dinIn n 0).quality ≤ 1 ∧ (s.dinIn n 0).frame = s.clk.frameNo)
  s.setWorker n { w with
    missedBits := ((!got) :: w.missedBits).take 100, missRun := if got then 0 else w.missRun + 1, okRun := if got then w.okRun + 1 else 0 }

/-- WORKER_DATA_DEADLINE, tick 25 000: the active judges the data and sends the mirror (R333, R363). -/
def execWorkerDataDeadline (s : State) : Host.Outcome State Fault Refusal :=
  .next (if ¬ s.isReady ∨ s.isWorker ∨ ¬ s.clk.running then s
    else
      let s0 := s.toOffset 25000
      if s0.isActive then (let s1 := s0.judgeWorkers; if s1.pair.state = 1 then s1.sendMirror else s1)
      else ((List.range 16).filter s0.workerKnown).foldl State.noteData s0)

/-- The ring state that a peg finds (Table RNG-6). -/
def State.ringStateNow (s : State) : Nat :=
  if s.admittedMask = 0 then 0
  else if s.ring.workers.any (fun e => e.2.relay) then 3
  else if s.ring.tokenSeenNow ≠ 0 then 1 else 2

/-- Take the ring state that is found, and tell of the change: a wrap and a closing as such, another change with a free
cause, since Table RNG-7 gives it none (R376, notes/assumptions/105.md). A start without workers is no change. -/
def State.setRingState (s : State) (n : Nat) : State :=
  let old := s.ring.state
  let s1 : State := { s with ring := { s.ring with
    state := n, tokenSeenNow := 0, wrapped := if n = 3 ∧ old ≠ 3 then inc32 s.ring.wrapped else s.ring.wrapped } }
  if n = old ∨ (old = 4 ∧ n = 0) then s1
  else if n = 3 then s1.tellRing 4 0
  else if n = 1 then s1.tellRing 5 0
  else s1.draw.2.tellRing s1.draw.1 0

/-- The answer of a command carried to a worker: to the partner of this unit, or over the ridge link to the twin's (R370). -/
def State.finishCmd (s : State) (c : RingCmd) (st : Status) (params : List Byte) (dup : Bool) : State :=
  let s1 : State := { s with ring := { s.ring with cmds := s.ring.cmds.filter (fun x => x != c) } }
  match s1.tag? c.req with
  | some t =>
    let t' := { t with dup := t.dup || dup }
    (s1.modTag t (fun u => { u with dup := u.dup || dup })).answerLate t' st params 0
  | none => if c.req.port = .ridge then s1.feAnswer .ridge c.req.session c.req.seq st params else s1

/-- A tag of this unit whose command is with a worker, and which the active manager carries for it. -/
def State.farTags (s : State) (n : Nat) : List Tag :=
  s.comm.tags.filter (fun t => t.begun && !t.answered && oidNode t.req.target == n && t.opcode != 0x0802#16
    && !s.ring.cmds.any (fun c => c.req == t.req) && !s.nvOps.any (fun o => o.req == t.req))

/-- A worker is lost at this peg: its commands end NODE_LOST (R372). -/
def State.loseWorker (s : State) (n : Nat) : State :=
  let w := s.worker n
  let s1 := s.setWorker n { w with state := 3, losses := inc32 w.losses, relay := false, unseenRun := 0, okRun := 0 }
  let s2 := (s1.ring.cmds.filter (fun c => c.worker == n)).foldl (fun (s : State) c => s.finishCmd c .nodeLost [] false) s1
  let s3 := if s2.isStandby then (s2.farTags n).foldl (fun (s : State) t => s.answerLate t .nodeLost [] 0) s2 else s2
  s3.tellRing 1 n

/-- A STARTING worker is ADMITTED: one that was lost has returned (R373, Table RNG-7). -/
def State.returnWorker (s : State) (n : Nat) : State :=
  (s.setWorker n { s.worker n with state := 2 }).tellRing (if (s.worker n).losses = 0 then 0 else 2) n

/-- One worker at a pegged frame of the active: lost, admitted again, into or out of the relay set. -/
def State.pegWorker (s : State) (n : Nat) : State :=
  let w := s.worker n
  if s.lossDue n then s.loseWorker n
  else
    let s1 := s.setWorker n { w with
      relay := w.relayNext, reach := if w.relayNext then w.reach ||| 4#4 else w.reach &&& 0xB#4 }
    if w.state = 1 ∧ 2 ≤ w.okRun then s1.returnWorker n else s1

/-- The standby's view of a worker at a pegged frame, from the pair's ring-fault point (R376). -/
def State.pegWorkerSeen (s : State) (n : Nat) : State :=
  let w := s.worker n
  let lost := s.sourceBit 0x801 (n + 1)
  if lost ∧ w.state ≠ 3 then s.loseWorker n
  else if ¬ lost ∧ w.state = 3 then s.setWorker n { w with state := 1, okRun := 0 }
  else if ¬ lost ∧ w.state = 1 ∧ 2 ≤ w.okRun then s.returnWorker n else s

/-- The ORDER flag of one heard worker, and its RING event as it is set (R369). -/
def State.orderWorker (s : State) (n : Nat) (out : Bool) : State :=
  let w := s.worker n
  if w.reach.getLsbD 3 = out then s
  else
    let s1 := s.setWorker n { w with reach := if out then w.reach ||| 8#4 else w.reach &&& 7#4 }
    if out then s1.tellRing 7 n else s1

/-- The DATA cells leave all workers on one tick, so they come in by distance: the indices rise from unit A's port B, and
fall at unit B's end. A worker whose place among those heard is another's is out of order (R362, R369, notes/assumptions/110.md). -/
def State.orderWorkers (s : State) : State :=
  let l := if s.ringPort = .a then s.ring.heard.reverse else s.ring.heard
  let sorted := (List.range 16).filter l.contains
  (l.zip sorted).foldl (fun s x => s.orderWorker x.1 (x.1 != x.2)) s

/-- The node's own commands at a pegged frame: those past their maximum let go of their tags, and those that wait find theirs (R118,
R370). -/
def State.innerRound (s : State) : State :=
  let gone (c : RingCmd) : Bool := c.inner && decide (c.maxTicks < since s.clk.batten c.admitAt)
  let s1 : State := { s with ring := { s.ring with cmds := s.ring.cmds.filter (fun c => !gone c), waiting := [] } }
  s.ring.waiting.foldl (fun s x => s.carryInner x.1 x.2 (s.linkTicks x.1.toNat x.2)) s1

/-- The ring at a pegged frame. -/
def State.pegRing (s0 : State) : State :=
  let s := s0.orderWorkers.innerRound
  let ns := (List.range 16).filter s.workerKnown
  if s.isActive then
    let s1 := ns.foldl State.pegWorker s
    s1.setRingState s1.ringStateNow
  else if s.isStandby ∧ s.pair.state ≤ 3 then
    let s1 := ns.foldl State.pegWorkerSeen s
    s1.setRingState (if s1.sourceBit 0x801 (1 - b2n s1.unitB) then 3 else s1.ringStateNow)
  else s

/-- A member's per-frame notes start over. -/
def State.ringFrame (s : State) : State :=
  { s with ring := { s.ring with
      edges := if s.isReady then s.ring.edges else [], heard := [],
      workers := s.ring.workers.map (fun e => (e.1, { e.2 with gotData := false })) } }

/-- WORKER_ROUND_TIMEOUT: a worker in a round without a token for 2 × ROUND_S seconds lays itself up alone (R265). Its schedule
stands; with no frames running, the entry is complete at once. -/
def execWorkerRoundTimeout (s : State) : Host.Outcome State Fault Refusal :=
  .next (if s.alive ∧ s.isWorker ∧ s.inRound ∧ ¬ s.clk.running
      ∧ 2 * s.cfg cCLOCK 0 0x34 * Config.ticksPerSecond ≤ s.sinceRelease then
    State.queueLayup { s with rst := { s.rst with layingUp := some (s.clk.frameNo - 1) } }
  else s)

end Sys2Proof.Machine
end

