-- ==== Sys2Proof/Machine/RingCmds.lean ====
section
/-! DEFINITION. The RING family (R187, R367-R370, R375, Table CMD-13), command trains, enumeration and admission on the wire
(Tables RNG-5, RNG-11), cells asked for again (R358), and the end of a command at its maximum (R159, R370). -/

namespace Sys2Proof.Machine

/-! ### RING_STATUS -/

def State.ringStatusBytes (s : State) : List Byte :=
  toLe 1 s.ring.state ++ toLe 1 ((List.range 16).filter s.workerKnown).length
    ++ (List.range 15).flatMap (fun k =>
      let w := s.worker (k + 1)
      toLe 1 w.state ++ toLe 1 (w.missedBits.filter id).length ++ [0, 0])

def cmdRingStatus : Cmd :=
  { op := 0x0803, access := rRight cRINGNODE 0, sealed := noSeal, priv := noSeal, check := fun _ _ r => need (lenIs 0 r),
    run := fun s t _ => s.answerF t .done s.ringStatusBytes 24 }

/-- RING_STATUS (R187). -/
def execRingStatus (r : Req) (s : State) : Host.Outcome State Fault Refusal := .next (s.execute cmdRingStatus r)

/-! ### RING_SCAN (R367, R369) -/

/-- What the RING commands that need the active manager are refused for: BAD_STATE on a worker and with LINKS off (R50),
NOT_ACTIVE on a standby. -/
def State.ringDenied (s : State) : Option Status :=
  if s.isWorker then some .badState
  else if ¬ s.isActive then some .notActive
  else if sget 1 s.clk.domains 8 ≠ 1 then some .badState else none

/-- The entries of a SCAN cell: serial, state, delay. -/
def scanEntries (body : List Byte) : List (Word × Nat × Nat) :=
  (List.range (byteAt body 0)).map (fun k =>
    (BitVec.ofNat 32 (leAt body (4 + 8 * k) 4), byteAt body (8 + 8 * k), leAt body (10 + 8 * k) 2))

/-- The proposed index of a position: a sixteenth or later member has none. -/
def proposed (k : Nat) : Nat := if k + 1 ≤ 15 then k + 1 else 0

/-- The reply of RING_SCAN. -/
def scanReply (l : List (Word × Nat × Nat)) : List Byte :=
  toLe 1 l.length ++ l.zipIdx.flatMap (fun e =>
    toLe 4 e.1.1.toNat ++ toLe 1 e.1.2.1 ++ toLe 1 (proposed e.2) ++ toLe 2 e.1.2.2)

/-- The index that a serial was admitted under, 0 if none. -/
def State.indexOf (s : State) (serial : Word) : Nat :=
  ((List.range 16).find? (fun n => s.workerKnown n && (s.worker n).serial == serial)).getD 0

/-- Note one position of a scan: the cable, and a member that is new (R367, R374). -/
def State.notePosition (s : State) (e : (Word × Nat × Nat) × Nat) : State :=
  let n := s.indexOf e.1.1
  if n = 0 then s.tellRing 8 0
  else
    let w := s.worker n
    s.setWorker n { w with cableNs := e.1.2.2 }

/-- A scan is complete: the reply, and what it shows. -/
def State.scanDone (s : State) (l : List (Word × Nat × Nat)) : State :=
  match s.ring.scanReq with
  | none => s
  | some r =>
    let s1 : State := { s with ring := { s.ring with scan := l, scanned := true, scanReq := none } }
    let s2 := (l.zipIdx.foldl State.notePosition s1).tellRing 6 0
    match s2.tag? r with
    | some t => s2.answerLate t .done (scanReply l) 0
    | none => s2

/-- The SCAN cell leaves outbound; with no segment there, nothing is found. -/
def State.runScan (s : State) (t : Tag) : State :=
  let s1 := s.modTag t (fun u => { u with begun := true })
  let s2 : State := { s1 with ring := { s1.ring with scanReq := some t.req } }
  if s2.ringUp s2.ringPort then s2.sendCell s2.ringPort cSCAN s2.clk.frameNo [0, 0, 0, 0] else s2.scanDone []

def cmdRingScan : Cmd :=
  { op := 0x0800, access := xRight cRINGNODE, sealed := noSeal, priv := noSeal,
    check := fun s _ r =>
      if ¬ lenIs 0 r then some .badParam
      else match s.ringDenied with
        | some st => some st
        | none => if s.ring.state = 3 ∨ s.ring.state = 4 then some .badState else none
    run := fun s t _ => s.runScan t }

/-- RING_SCAN (R367). -/
def execRingScan (r : Req) (s : State) : Host.Outcome State Fault Refusal := .next (s.execute cmdRingScan r)

/-- The worker's own state as its SCAN entry tells it (Table RNG-8). -/
def State.ownWorkerState (s : State) : Nat :=
  if s.ringKey.isEmpty ∨ s.ring.index = 0 then 6 else if s.isReady then 2 else 1

/-- A SCAN cell at a worker: it appends itself once; at the open end the cell goes back. -/
def State.scanAtWorker (s : State) (side : RingSide) (b : List Byte) (c : Cell) : State :=
  let mine := (scanEntries c.body).any (fun e => e.1 == Config.serial)
  let b1 :=
    if mine then b
    else
      let body := toLe 1 (byteAt c.body 0 + 1) ++ [0, 0, 0] ++ c.body.drop 4 ++ toLe 4 Config.serial.toNat
        ++ toLe 1 s.ownWorkerState ++ [0] ++ toLe 2 s.ring.delayA
      cellBytes [] { c with body := body }
  if s.ringUp (otherSide side) then s.putCell (otherSide side) b1 0 else s.putCell side b1 0

/-- SCAN_CELL_RECEIVED: a worker appends itself, the closing end sends the cell back, the active takes the result, reported from
unit A's end (R367). -/
def execScanCellReceived (side : RingSide) (cell : List Byte) (s : State) : Host.Outcome State Fault Refusal :=
  .next (if ¬ s.ringUp side then s
    else
      match parseCell cell with
      | none => s.badCell side
      | some c =>
        if c.kind ≠ cSCAN then s
        else if s.isWorker then s.scanAtWorker side cell c
        else if c.orig ≠ s.ringOrig then s.putCell side cell 0
        else
          let l := scanEntries c.body
          (s.scanDone (if s.unitB && s.pair.bound then l.reverse else l)).flush)

/-! ### RING_ADMIT (R368, Table RNG-5) -/

/-- The workers that RING_ADMIT lists. -/
def admitList (r : Req) : List (Word × Nat) :=
  (List.range (byteAt r.params 0)).map (fun k => (BitVec.ofNat 32 (leAt r.params (57 + 5 * k) 4), byteAt r.params (61 + 5 * k)))

/-- The list as the last RING_SCAN gave it. -/
def State.scanList (s : State) : List (Word × Nat) :=
  (s.ring.scan.zipIdx.filter (fun e => proposed e.2 != 0)).map (fun e => (e.1.1, proposed e.2))

def State.admitCheck (s : State) (r : Req) : Option Status :=
  let m := byteAt r.params 0
  let l := admitList r
  if ¬ (1 ≤ m ∧ m ≤ 15 ∧ r.params.length = 57 + 5 * m) then some .badParam
  else
    match s.ringDenied with
    | some st => some st
    | none =>
      if ¬ s.ring.scanned ∨ l.length ≠ s.scanList.length ∨ ¬ l.all s.scanList.contains ∨ l.dedup.length ≠ l.length
        ∨ s.ring.admitReq.isSome then some .badState else none

/-- An ADMIT cell's body up to its step's own content (Table RNG-11). -/
def admitHead (step index : Nat) (serial : Word) : List Byte := toLe 1 step ++ toLe 1 index ++ [0, 0] ++ toLe 4 serial.toNat

/-- A certificate with its length. -/
def withLength (c : List Byte) : List Byte := toLe 2 c.length ++ c

/-- The offer to one listed worker (step 1). The signature covers NM and QM (notes/assumptions/48.md). -/
def State.offerAdmission (s : State) (e : Word × Nat) : State :=
  let (nm, s1) := s.drawBytes 16
  let (d, s2) := s1.draw
  let qm := Config.ephemeralPublic d
  let a : Admission := { worker := e.2, serial := e.1, step := 1, nm := nm, nw := [], draw := d, kek := [] }
  let s3 : State := { s2 with ring := { s2.ring with admits := s2.ring.admits ++ [a] } }
  s3.sendCell s3.ringPort cADMIT s3.clk.frameNo
    (admitHead 1 e.2 e.1 ++ nm ++ qm ++ Config.identitySign (nm ++ qm) ++ withLength Config.certificates)

def State.runAdmit (s : State) (t : Tag) : State :=
  match s.decrypt t 1 32 with
  | none => s.denyL t .badParam (msTicks 500)
  | some (k, s1) =>
    let s2 := s1.modTag t (fun u => { u with begun := true })
    let s3 : State := { s2 with ring := { s2.ring with admits := [], admitReq := some (t.req, admitList t.req, k, 0) } }
    (admitList t.req).foldl State.offerAdmission s3

def cmdRingAdmit : Cmd :=
  { op := 0x0801, access := xRight cRINGNODE, sealed := noSeal, priv := fun _ _ _ => true,
    check := fun s _ r => s.admitCheck r, run := fun s t _ => s.runAdmit t }

/-- RING_ADMIT (R368). -/
def execRingAdmit (r : Req) (s : State) : Host.Outcome State Fault Refusal := .next (s.execute cmdRingAdmit r)

/-- K of step 3, from the two nonces, the shared secret and both serials, the manager's first. -/
def admissionKey (z nm nw : List Byte) (manager worker : Word) : List Byte :=
  hkdf z (nm ++ nw) (ascii "ZGN-ADM" ++ toLe 4 manager.toNat ++ toLe 4 worker.toNat) 32

/-- The IV of step 4. -/
def admissionIv : List Byte := List.replicate 11 0#8 ++ [1#8]

/-- The parts of an offer or an answer after its head: nonce, public key, signature, certificate. -/
def admissionParts (body : List Byte) : List Byte × List Byte × List Byte × List Byte :=
  (slice body 8 16, slice body 24 64, slice body 88 64, slice body 154 (leAt body 152 2))

/-- A tag under the ring key held (R359). -/
def State.tagUnder (s : State) (c : Cell) (b : List Byte) : Bool :=
  !s.ringKey.isEmpty && cellTagBytes b == cellTag s.cellTagKey c

/-- Whether this worker takes an offer (R368). -/
def State.takesOffer (s : State) (c : Cell) (b : List Byte) : Bool :=
  s.ringKey.isEmpty || s.tagUnder c b
    || decide (600 * Config.ticksPerSecond ≤ (if s.ring.execEver then since s.clk.batten s.ring.lastExec else s.sinceRelease))

/-- Step 2 at a worker: the offer is checked and answered. -/
def State.answerOffer (s : State) (side : RingSide) (c : Cell) : State :=
  let (nm, qm, sig, cert) := admissionParts c.body
  match Config.certificateSerial cert with
  | none => s
  | some manager =>
    if ¬ Config.admissionSigned cert (nm ++ qm) sig then s
    else
      let (nw, s1) := s.drawBytes 16
      let (d, s2) := s1.draw
      let qw := Config.ephemeralPublic d
      let a : Admission :=
        { worker := byteAt c.body 1, serial := manager, step := 2, nm := nm, nw := nw, draw := d,
          kek := admissionKey (Config.ecdhShared d qm) nm nw manager Config.serial }
      let s3 : State := { s2 with ring := { s2.ring with admits := [a] } }
      s3.sendCell side cADMIT s3.clk.frameNo
        (admitHead 2 (byteAt c.body 1) Config.serial ++ nw ++ qw ++ Config.identitySign (nm ++ nw ++ qm ++ qw)
          ++ withLength Config.certificates)

/-- Step 4 at a worker: the ring key, the index and the managers' serials are stored, and the proof is sent (step 5). -/
def State.takeRingKey (s : State) (side : RingSide) (c : Cell) : State :=
  match s.ring.admits.head? with
  | none => s
  | some a =>
    match gcmOpen a.kek (slice c.body 8 12) [] (slice c.body 20 41) (slice c.body 61 16) with
    | none => s
    | some m =>
      let k := m.take 32
      let s1 : State :=
        { s with
          keys := sset Key.empty s.keys 25 { state := 1, loadedAt := s.secNow, value := k },
          ring := { s.ring with
            index := byteAt m 32, mgrA := BitVec.ofNat 32 (leAt m 33 4), mgrB := BitVec.ofNat 32 (leAt m 37 4), admits := [],
            lastIn := [] } }
      s1.sendCell side cADMIT s1.clk.frameNo
        (admitHead 5 s1.ring.index Config.serial ++ hmac k (a.nm ++ a.nw ++ toLe 1 s1.ring.index))

/-- Step 2 at the manager: the answer of a listed worker is checked, and the ring key goes to it (steps 3 and 4). -/
def State.takeAnswer (s : State) (c : Cell) : State :=
  let serial : Word := BitVec.ofNat 32 (leAt c.body 4 4)
  match s.ring.admitReq, s.ring.admits.find? (fun a => a.serial == serial && a.step == 1) with
  | some (_, _, k, _), some a =>
    let (nw, qw, sig, cert) := admissionParts c.body
    let qm := Config.ephemeralPublic a.draw
    if Config.certificateSerial cert ≠ some serial ∨ ¬ Config.admissionSigned cert (a.nm ++ nw ++ qm ++ qw) sig then s
    else
      let kek := admissionKey (Config.ecdhShared a.draw qw) a.nm nw Config.serial serial
      let sealed_ := gcmSeal kek admissionIv []
        (k ++ toLe 1 a.worker ++ toLe 4 s.mgrSerials.1.toNat ++ toLe 4 s.mgrSerials.2.toNat)
      let s1 : State := { s with ring := { s.ring with
        admits := s.ring.admits.map (fun x => if x = a then { a with step := 4, nw := nw, kek := kek } else x) } }
      s1.sendCell s1.ringPort cADMIT s1.clk.frameNo (admitHead 4 a.worker serial ++ admissionIv ++ sealed_.1 ++ sealed_.2)
  | _, _ => s

/-- The ring key and the members go to the standby under the link's own encryption (R187, R368, notes/assumptions/49.md). -/
def State.mirrorRingKey (s : State) (k : List Byte) (l : List (Word × Nat)) : State :=
  let no := s.ridge.lsnOut + 1
  let x := gcmSeal s.ridge.keyCtr ([0, 0, 0, 0] ++ toLe 8 no) [] (k ++ l.flatMap (fun e => toLe 4 e.1.toNat ++ toLe 1 e.2))
  s.sendRidge kSTATE (toLe 4 s.clk.frameNo.toNat ++ toLe 1 2 ++ toLe 1 1 ++ toLe 2 1 ++ toLe 4 0 ++ toLe 8 no ++ x.1 ++ x.2)

/-- The members of a new list: each under its index, any other index of the same serial free again. -/
def State.admitMember (s : State) (e : Word × Nat) : State :=
  let ws := s.ring.workers.filter (fun w => w.2.serial != e.1 || w.1 == e.2)
  { s with ring := { s.ring with workers := sset Worker.none ws e.2 { (s.worker e.2) with state := 2, serial := e.1 } } }

/-- The exchange is over: KEY index 25 is set here and mirrored, and the command is answered with the number admitted. -/
def State.admitDone (s : State) (atLeast : Nat) : State :=
  match s.ring.admitReq with
  | none => s
  | some (r, l, k, n) =>
    let s1 : State := { s with ring := { s.ring with admitReq := none, admits := [] } }
    let s2 : State := if n = 0 then s1 else
      State.mirrorRingKey { s1 with keys := sset Key.empty s1.keys 25 { state := 1, loadedAt := s1.secNow, value := k } } k
        (l.filter (fun e => s1.indexOf e.1 == e.2))
    match s2.tag? r with
    | some t => if n = 0 then s2.answerLate t .timeout [] atLeast else s2.answerLate t .done (toLe 1 n) atLeast
    | none => s2

/-- Step 5 at the manager: the proof under the new key; the last one ends the exchange. A member that came with a foreign key
is told of as such (R368). -/
def State.takeProof (s : State) (c : Cell) (b : List Byte) : State :=
  let serial : Word := BitVec.ofNat 32 (leAt c.body 4 4)
  match s.ring.admitReq, s.ring.admits.find? (fun a => a.serial == serial && a.step == 4) with
  | some (r, l, k, n), some a =>
    if cellTagBytes b ≠ cellTag (cellKeyOf k s.mgrSerials.1 s.mgrSerials.2) c
      ∨ slice c.body 8 32 ≠ hmac k (a.nm ++ a.nw ++ toLe 1 a.worker) then s
    else
      let foreign : Bool := s.indexOf serial == 0 && s.ring.scan.any (fun e => e.1 == serial && e.2.1 == 2)
      let s1 : State := { s with ring := { s.ring with
        admits := s.ring.admits.filter (fun x => x != a), admitReq := some (r, l, k, n + 1) } }
      let s2 := (s1.admitMember (serial, a.worker)).tellRing (if foreign then 8 else 0) a.worker
      if n + 1 = l.length then s2.admitDone 0 else s2
  | _, _ => s

/-- ADMIT_CELL_RECEIVED: every member forwards it; the worker it names and the admitting manager act on it (R358, R368). -/
def execAdmitCellReceived (side : RingSide) (cell : List Byte) (s : State) : Host.Outcome State Fault Refusal :=
  .next (if ¬ s.ringUp side then s
    else
      match parseCell cell with
      | none => s.badCell side
      | some c =>
        if c.kind ≠ cADMIT then s
        else
          let s1 := s.forwardCell side cell
          let step := byteAt c.body 0
          if s1.isWorker then
            (if leAt c.body 4 4 ≠ Config.serial.toNat then s1
             else if step = 1 ∧ s1.takesOffer c cell then s1.answerOffer side c
             else if step = 4 then s1.takeRingKey side c else s1)
          else if step = 2 then s1.takeAnswer c
          else if step = 5 then (s1.takeProof c cell).flush else s1)

/-! ### RING_EXPEL (R375) -/

def State.runExpel (s : State) (t : Tag) : State :=
  let n := oidNode t.req.target
  let s1 := s.modTag t (fun u => { u with begun := true })
  { s1 with ring := { s1.ring with
      orders := sset 0 s1.ring.orders n (sget 0 s1.ring.orders n ||| 8#5), expelReq := some (t.req, n) } }

def cmdRingExpel : Cmd :=
  { op := 0x0802, access := fun s w r => s.may w cRINGNODE 15 bX && s.workerKnown (oidNode r.target), sealed := noSeal,
    priv := noSeal,
    check := fun s _ r =>
      if ¬ lenIs 0 r then some .badParam
      else match s.ringDenied with
        | some st => some st
        | none => if s.ring.expelReq.isSome then some .badState else none
    run := fun s t _ => s.runExpel t }

/-- RING_EXPEL (R375). -/
def execRingExpel (r : Req) (s : State) : Host.Outcome State Fault Refusal := .next (s.execute cmdRingExpel r)

/-- The peg that follows the carriage of the order (R375). -/
def State.pegExpel (s : State) : State :=
  match s.ring.expelReq with
  | none => s
  | some (r, n) =>
    if (sget 0 s.ring.orders n).getLsbD 3 then s
    else
      let s1 := State.expelWorker { s with ring := { s.ring with expelReq := none } } n
      match s1.tag? r with
      | some t => s1.answerLate t .done [] 0
      | none => s1

/-! ### Command trains (R109, R370) -/

/-- A train is open no longer than 100 ms from its first segment (R109). -/
def State.trainAlive (s : State) (e : TrainIn) : Bool := decide (since s.clk.batten e.began ≤ msTicks 100)

/-- The trains that were not completed in time are discarded and counted (R109). -/
def State.dropOldTrains (s : State) : State :=
  let s1 := (s.ring.trainBuf.filter (fun e => !s.trainAlive e)).foldl (fun (s : State) _ => s.badFrame) s
  { s1 with ring := { s1.ring with trainBuf := s.ring.trainBuf.filter s.trainAlive } }

/-- A train's bytes after one more segment: none while it is not complete. A segment out of order discards its train, which is
counted (R109). -/
def State.joinTrain (s0 : State) (c : Cell) : Option (List Byte) × State :=
  let s := s0.dropOldTrains
  let k := trainKey c.orig (leAt c.body 6 4)
  let idx := byteAt c.body 3 % 128
  let last := (byteAt c.body 3).testBit 7
  let rest := s.ring.trainBuf.filter (fun e => e.key != k)
  let open_ : TrainIn :=
    if idx = 0 then { key := k, next := 0, data := [], began := s.clk.batten }
    else (s.ring.trainBuf.find? (fun e => e.key == k)).getD { key := k, next := 0, data := [], began := s.clk.batten }
  let data := open_.data ++ slice c.body 12 (byteAt c.body 4)
  let left (l : List TrainIn) : State := { s with ring := { s.ring with trainBuf := l } }
  if idx ≠ open_.next then (none, (left rest).badFrame)
  else if last then (some data, left rest)
  else (none, left (rest ++ [{ open_ with next := idx + 1, data := data }]))

/-- A request train at a worker: a repeat of a train is answered from its window, another is admitted under its ring sequence
number (R109, R370). -/
def State.workerTrain (s : State) (side : RingSide) (c : Cell) (bytes : List Byte) : State :=
  let n := leAt c.body 6 4
  match s.ring.trainReplies.find? (fun e => e.1 == trainKey c.orig n) with
  | some e =>
    s.sendTrain side (n % 65536) c.orig n (e.2.set 1 (e.2.getD 1 0 ||| 2#8))
  | none =>
    let s1 : State := { s with ring := { s.ring with
      trainFrom := sput s.ring.trainFrom n (256 * (if side = .a then 0 else 1) + c.orig) } }
    if s1.comm.tags.any (fun t => t.req.port == .ring && t.req.seq == BitVec.ofNat 32 n) then s1
    else s1.linkReq .ring 0 (BitVec.ofNat 32 n) bytes

/-- The parts of a reply as a train or a TURWA packet carries it: status, DUPLICATE, MORE, parameters (Table PKT-2). -/
structure FarReply where
  status : Status
  dup    : Bool
  more   : Bool
  seq    : Word
  session : Half
  params : List Byte

def farReply (b : List Byte) : FarReply :=
  { status := statusOf (leAt b 2 2), dup := (byteAt b 1).testBit 1, more := (byteAt b 1).testBit 4, seq := BitVec.ofNat 32 (leAt b 4 4),
    session := BitVec.ofNat 16 (leAt b 8 2), params := slice b 20 (leAt b 10 2) }

/-- A worker's reply to a command of this manager; the parts of a series are joined first. -/
def State.replyFor (s : State) (c : RingCmd) (b : List Byte) : State :=
  let f := farReply b
  if f.more then { s with ring := { s.ring with
    cmds := s.ring.cmds.map (fun x => if x = c then { c with got := c.got ++ f.params } else x) } }
  else s.finishCmd c f.status (c.got ++ f.params) f.dup

/-- A reply train at a manager: its own command's, or one that the standby carried for the active and hands on (R370). -/
def State.managerTrain (s : State) (c : Cell) (bytes : List Byte) : State :=
  let n := leAt c.body 6 4
  match s.ring.cmds.find? (fun x => x.ringSeq == n && x.worker == c.orig) with
  | some x => s.replyFor x bytes
  | none => if s.isStandby then s.sendRidge kTURWA (toLe 2 (n % 65536) ++ toLe 1 1 ++ [0] ++ bytes) else s

/-- TRAIN_SEGMENT_RECEIVED: every member forwards it; the destination takes an accepted one, but holds its input while its four
answer slots are in use (R121, R358, R359, R370). -/
def execTrainSegmentReceived (side : RingSide) (cell : List Byte) (s : State) : Host.Outcome State Fault Refusal :=
  .next (s.takeCell side cTRAIN cell (fun s c =>
    if byteAt c.body 2 ≠ s.ringOrig ∨ 4 ≤ s.feUsed .ring then s
    else
      match s.joinTrain c with
      | (none, s1) => s1
      | (some bytes, s1) => (if s1.isWorker then s1.workerTrain side c bytes else s1.managerTrain c bytes).flush))

/-! ### Cells asked for again, and segment training (R358) -/

/-- RESEND_RECEIVED: TOKEN, RELAY and CLAIM cells are sent again at most twice, no other cell ever (R358). -/
def execResendReceived (side : RingSide) (cell : List Byte) (s : State) : Host.Outcome State Fault Refusal :=
  .next (if ¬ s.ringUp side then s
    else
      match parseCell cell with
      | none => s.badCell side
      | some c =>
        if c.kind ≠ cRESEND then s
        else
          let sent := match side with | .a => s.ring.sentA | .b => s.ring.sentB
          let asked := byteAt c.body 0
          match (if asked = 0 then sent.head? else sent.find? (fun e => byteAt e.1 0 == asked)) with
          | none => s
          | some (b, n) =>
            if cellPrio (byteAt b 0) ≠ 0 ∨ 2 ≤ n then s
            else State.putCell { s with ring := { s.ring with resends := inc32 s.ring.resends } } side b (n + 1))

/-- RING_SEGMENT_TRAIN: the segment is trained and its delay measured; a retraining of a running node is noted and told
(R60, R358, Table RNG-7). -/
def execRingSegmentTrain (side : RingSide) (delayNs : Nat) (s : State) : Host.Outcome State Fault Refusal :=
  .next (if ¬ s.alive ∨ s.blockInReset 7 ∨ sget 1 s.clk.domains 8 ≠ 1 then s
    else
      let r := s.ring
      let r1 : Ring := match side with
        | .a => { r with trainedA := true, delayA := min 65535 delayNs, downSince := none }
        | .b => { r with trainedB := true, delayB := min 65535 delayNs, downSince := none }
      let r2 : Ring := if ¬ s.isWorker ∧ s.farSide side then { r1 with closingNs := min 65535 delayNs } else r1
      let s1 : State :=
        { s with ring := r2, clk := { s.clk with refState := if s.isWorker ∧ s.clk.refState = 0 then 1 else s.clk.refState } }
      if ¬ s.isReady then s1
      else
        let s2 := s1.gutter 0x03 (match side with | .a => 0 | .b => 1) 1
        if s2.isWorker then s2 else s2.tellRing 9 0)

/-! ### The maximum of a class-L command (R159, R173, R370) -/

/-- The status that a class-L command ends with at its maximum: the one it was denied, or TIMEOUT. -/
def State.endsWith (s : State) (t : Tag) : Status :=
  match s.ring.cmds.find? (fun c => c.req == t.req) with
  | some c => c.denied.getD .timeout
  | none => .timeout

/-- Everything that waited for a class-L command lets go of it; the ring sequence number is kept for a repeat (R370). -/
def State.dropL (s : State) (r : Req) : State :=
  let sent := (s.ring.cmds.filter (fun c => c.req == r && c.denied.isNone)).map (fun c =>
    ({ port := r.port, session := r.session, seq := r.seq, ringSeq := c.ringSeq } : Carried))
  let others := s.ring.carried.filter (fun c => !(c.port == r.port && c.session == r.session && c.seq == r.seq))
  { s with
    ring := { s.ring with
      cmds := s.ring.cmds.filter (fun c => c.req != r),
      carried := if sent.isEmpty then s.ring.carried else (others ++ sent).drop (others.length + sent.length - 2048),
      scanReq := if s.ring.scanReq = some r then none else s.ring.scanReq,
      expelReq := match s.ring.expelReq with
        | some (q, n) => if q = r then none else some (q, n)
        | none => none },
    pair := { s.pair with bindReq := match s.pair.bindReq with
      | some (q, w, t) => if q.port = r.port ∧ q.session = r.session ∧ q.seq = r.seq then none else some (q, w, t)
      | none => none } }

/-- One command at its maximum. -/
def State.timeoutTag (s : State) (t : Tag) : State :=
  let most := s.linkTicks t.opcode.toNat t.req
  if since s.clk.batten t.admitAt < most then s
  else
    match s.ring.admitReq with
    | some (r, l, k, n) =>
      if r = t.req then State.admitDone { s with ring := { s.ring with admitReq := some (r, l, k, n) } } most
      else (s.dropL t.req).answerLate t (s.endsWith t) [] most
    | none => (s.dropL t.req).answerLate t (s.endsWith t) [] most

/-- COMMAND_TIMEOUT: a class-L command of a session reaches its stated maximum (R159, R173, R370). -/
def execCommandTimeout (session : Half) (seq : Word) (s : State) : Host.Outcome State Fault Refusal :=
  let due := s.comm.tags.filter (fun t =>
    t.req.session == session && t.req.seq == seq && t.begun && !t.answered && s.latOf t.opcode.toNat t.req == .l)
  .next (due.foldl State.timeoutTag s).flush

end Sys2Proof.Machine
end

