-- ==== Sys2Proof/Machine/Twin.lean ====
section
/-! DEFINITION. The ridge link's own events (R322-R325), the marker that followers follow (R60, R90, R256), forwarded items
(R130), the pairing handshake (R90, R326, R327) and Turwa packets between the units (Table TWN-15, R370). -/

namespace Sys2Proof.Machine

/-! ### Training and resending (R322, R323) -/

/-- The 96 bytes derived at a training. -/
def State.ridgeKeys (s : State) (own twin : List Byte) : List Byte :=
  let salt := if s.unitB then twin ++ own else own ++ twin
  let (a, b) := if s.unitB then (s.pair.twinSerial, Config.serial) else (Config.serial, s.pair.twinSerial)
  hkdf (sget Key.empty s.keys 24).value salt (ascii "ZGN-RDG" ++ toLe 4 a.toNat ++ toLe 4 b.toNat) 96

/-- RIDGE_LINK_TRAIN: the link is up, numbered from 1, under fresh keys if the unit is bound (R322, R323, R325). A polarity inversion is
the PHY's own matter; a swapped pair of lanes does not train (R36). A training during step 9 restarts its listening window, and the
unit acquires the leader that may be there (R60, R90). -/
def execRidgeLinkTrain (laneSwap : Bool) (ownNonce twinNonce : List Byte) (delayNs : Nat) (s : State) :
    Host.Outcome State Fault Refusal :=
  .next (if ¬ s.alive ∨ s.isWorker ∨ s.blockInReset 6 ∨ sget 1 s.clk.domains 8 ≠ 1 then s
    else if laneSwap then { s with ridge := Ridge.down }
    else
      let k := if s.pair.bound then s.ridgeKeys ownNonce twinNonce else []
      let ab := k.take 32
      let ba := slice k 32 32
      let r : Ridge :=
        { Ridge.down with
          trained := true, ownNonce := ownNonce, twinNonce := twinNonce, keyOut := if s.unitB then ba else ab,
          keyIn := if s.unitB then ab else ba, keyCtr := slice k 64 32, delayNs := delayNs }
      { s with
        ridge := r, pair := { s.pair with pairOffers := 0, pairStep := 0, offer := none },
        rst := { s.rst with listenFrom := if s.rst.listening then s.time else s.rst.listenFrom },
        clk := { s.clk with refState := if s.rst.listening then 1 else s.clk.refState } })

/-- RIDGE_RESEND_TIMEOUT: the oldest unacknowledged packet is sent again, 20 µs after its latest send; after four sends the link
retrains (R322). -/
def execRidgeResendTimeout (s : State) : Host.Outcome State Fault Refusal :=
  .next (match s.ridge.unacked with
    | [] => s
    | u :: rest =>
      if ¬ s.alive ∨ ¬ s.ridge.trained ∨ s.passed u.sentAt < 250 then s
      else if 4 ≤ u.sends then
        State.gutter { s with ridge := { s.ridge with trained := false, unacked := [], tx := [], ackDue := none } } 0x02 0 2
      else
        State.gutter { s with ridge := { s.ridge with
          unacked := { u with sends := u.sends + 1, sentAt := s.time } :: rest, tx := s.ridge.tx ++ [u.bytes] } } 0x02 0 1)

/-- ACK_PACKET: nothing but the acknowledgement (R325). -/
def execAckPacket (packet : List Byte) (s : State) : Host.Outcome State Fault Refusal := .next (s.takeRidge kACK packet).2

/-- ACK_PACKET_DUE: nothing else was sent within 10 µs (R325). -/
def execAckPacketDue (s : State) : Host.Outcome State Fault Refusal :=
  .next (match s.ridge.ackDue with
    | some t => if s.passed t < 125 then s else s.sendRidge kACK []
    | none => s)

/-! ### The marker (Table TWN-15, R60, R90, R256) -/

/-- The leader's MARKER at its frame start. -/
def State.markerBytes (s : State) : List Byte :=
  toLe 4 s.clk.frameNo.toNat ++ toLe 5 s.clk.frameStart.toNat ++ [0] ++ s.eave.bcdBytes ++ toLe 5 s.eave.mark.toNat
    ++ toLe 1 (b2n s.eave.valid) ++ toLe 4 s.pair.ownClaim.toNat ++ toLe 2 Config.pairLevel.toNat ++ [0, 0]

/-- Two units lead after a double wiring fault that is repaired: this one is the later active, whose epoch is higher (Table
TWN-11). -/
def State.laterActive (s : State) (claim : Word) : Bool :=
  s.isReady && s.pair.bound && s.isActive && s.pair.leads && decide (claimEpoch claim < s.pair.epoch)

/-- The later active returns to standby and resynchronises (Table TWN-11). -/
def State.stepDown (s : State) : State :=
  let s1 : State := { s with pair := { s.pair with state := 3, leads := false, twinState := 0, lastRoleFrame := s.clk.frameNo + 1 } }
  ((s1.afeHandover (s1.clk.frameNo + 1)).stopDrivers).startResync

/-- A marker at a unit that listens or follows. -/
def State.takeMarker (s : State) (p : List Byte) : State :=
  let later := s.laterActive (BitVec.ofNat 32 (leAt p 24 4))
  if s.isWorker ∨ (s.pair.leads ∧ ¬ later) then s
  else
    let s0 := if later then s.stepDown else s
    let s1 : State := { s0 with rst := { s0.rst with listening := false },
                                pair := { s0.pair with twinLevel := BitVec.ofNat 16 (leAt p 28 2) } }
    (s1.follow (BitVec.ofNat 32 (leAt p 0 4)) (BitVec.ofNat 40 (leAt p 4 5)) s1.ridge.delayNs p 10).discUpdate

/-- MARKER (R60, R90, R256). -/
def execMarker (packet : List Byte) (s : State) : Host.Outcome State Fault Refusal :=
  let (p, s1) := s.takeRidge kMARKER packet
  .next (match p with
    | none => s1
    | some b => s1.takeMarker b)

/-! ### Forwarded items (R130) -/

/-- FORWARD: an item that the standby has admitted is admitted by the active as it arrives (R15, R130). -/
def execForward (packet : List Byte) (s : State) : Host.Outcome State Fault Refusal :=
  let (p, s1) := s.takeRidge kFORWARD packet
  .next (match p with
    | none => s1
    | some b =>
      if ¬ s1.isActive ∨ ¬ s1.isReady then s1
      else
        match parseItem (b.drop 4) with
        | some (i, _) => s1.admitItem { i with own := false, forwarded := true }
        | none => s1)

/-! ### The pairing handshake (R90, R326, R327) -/

def offerOf (p : List Byte) : Offer :=
  { unitB := byteAt p 1 == 1, level := BitVec.ofNat 16 (leAt p 2 2), serial := BitVec.ofNat 32 (leAt p 4 4), nonce := slice p 8 16,
    claim := BitVec.ofNat 32 (leAt p 56 4), cfg := slice p 60 4 }

/-- This unit's proof: HMAC-SHA-256 under the pair key over its own nonce and the twin's (R327). -/
def State.ownProof (s : State) (twinNonce : List Byte) : List Byte := hmac s.pairKey (s.pair.ownPairNonce ++ twinNonce)
/-- The proof that the twin must send. -/
def State.twinProof (s : State) (twinNonce : List Byte) : List Byte := hmac s.pairKey (twinNonce ++ s.pair.ownPairNonce)

def State.keepOffer (s : State) (p : List Byte) : State :=
  { s with pair := { s.pair with offer := some (offerOf p), pairStep := byteAt p 0, twinLevel := BitVec.ofNat 16 (leAt p 2 2) } }

/-- A binding under way meets a twin that it may not bind (R186): it is refused. -/
def State.refuseBind (s : State) : State :=
  match s.pair.bindReq with
  | none => s
  | some (r, serial, _) =>
    if ¬ s.bindClash serial then s
    else
      let s1 : State := { s with pair := { s.pair with bindReq := none } }
      match s1.tag? r with
      | some t => s1.denyL t .badState (msTicks 61000)
      | none => s1

/-- The twin is one that this unit may pair with: the other UNITSEL and the same pair level (R327). -/
def State.fitsTwin (s : State) (p : List Byte) : Bool :=
  decide (byteAt p 1 ≠ b2n s.unitB) && decide (leAt p 2 2 = Config.pairLevel.toNat)

/-- A PAIR_BIND of this unit is more than 60 s old: the twin's came too late to bind with it (R186). -/
def State.bindLate (s : State) : Bool :=
  match s.pair.bindReq with
  | some (_, _, t) => decide (msTicks 60000 < since s.clk.batten t)
  | none => false

/-- The leader's part: an offer is answered with a nonce, a proof that holds with a proof; the twin then resynchronises, or
the binding is complete. -/
def State.pairingAtLeader (s : State) (p : List Byte) : State :=
  match byteAt p 0 with
  | 1 =>
    let s1 := (s.keepOffer p).refuseBind
    if s1.pair.bound ∨ s1.pair.bindReq.isSome then
      (let s2 := s1.freshPairNonce; s2.sendRidge kPAIRING (s2.pairingPayload 2 []))
    else s1
  | 3 =>
    let nonce := slice p 8 16
    if s.bindLate then s
    else if s.pair.pairStep ≠ 1 ∨ slice p 24 32 ≠ s.twinProof nonce ∨ ¬ s.fitsTwin p then
      { s with pair := { s.pair with twinState := if s.pair.bound then 5 else s.pair.twinState } }
    else
      let s1 := s.sendRidge kPAIRING (s.pairingPayload 4 (s.ownProof nonce))
      let s2 : State := { s1 with pair := { s1.pair with pairStep := 4, resyncAttempts := 0 } }
      if s2.pair.bindReq.isSome then s2.bindDone else s2.twinResync.tellPair 8 s2.pair.state
  | _ => s

/-- Step 9 of a follower ends (R90). -/
def State.joined (s : State) : State := if s.rst.phase = 9 then { s with rst := { s.rst with phase := 0x0A } } else s

/-- A CONTROL packet without more than its code (Table TWN-15). -/
def State.sendControl (s : State) (code detail : Nat) : State :=
  s.sendRidge kCONTROL (toLe 1 code ++ toLe 1 detail ++ [0, 0] ++ toLe 4 s.clk.frameNo.toNat)

/-- The follower's part: the answer brings a proof or detaches it; the leader's proof makes it a standby, which asks for the
configuration if the digests differ (R327, R348). -/
def State.pairingAtFollower (s : State) (p : List Byte) : State :=
  match byteAt p 0 with
  | 2 =>
    let s1 := (s.keepOffer p).refuseBind
    if (s1.pair.bindReq.isNone ∧ ¬ s1.pair.bound) ∨ s1.bindLate then s1
    else if ¬ s1.fitsTwin p then s1.detach
    else s1.sendRidge kPAIRING (s1.pairingPayload 3 (s1.ownProof (slice p 8 16)))
  | 4 =>
    let nonce := slice p 8 16
    if s.pair.pairStep ≠ 2 then s
    else if slice p 24 32 ≠ s.twinProof nonce then s.detach
    else
      let s1 : State := { s with pair := { s.pair with pairStep := 4, resyncAttempts := 0 } }
      if s1.pair.bindReq.isSome then s1.bindDone
      else
        let s2 := s1.startResync.joined
        if slice p 60 4 = s2.peg.digest.take 4 then s2 else s2.sendControl 4 0
  | _ => s

/-- PAIRING: one step of the handshake, in the slot at 9.500 ms (R90, R326, R327). -/
def execPairing (packet : List Byte) (s : State) : Host.Outcome State Fault Refusal :=
  let (p, s1) := s.takeRidge kPAIRING packet
  .next (match p with
    | none => s1
    | some b =>
      if s1.isWorker ∨ ¬ s1.clk.running then s1
      else
        let s2 := s1.toOffset 118750
        (if s2.pair.leads then s2.pairingAtLeader b else s2.pairingAtFollower b).flush)

/-! ### Turwa packets between the units (R130, R370, Table CMD-19) -/

/-- The ring sequence number whose low 16 bits a ridge tag carries: the one nearest to the latest. -/
def nearSeq (latest tag : Nat) : Nat :=
  let base := latest - latest % 65536 + tag
  if base + 32768 < latest then base + 65536 else if latest + 32768 < base ∧ 65536 ≤ base then base - 65536 else base

/-- A request from the twin: the active admits what its standby was asked for a worker; the standby carries to the far chain
what the active asks for (R370). -/
def State.turwaRequest (s : State) (tag : Nat) (bytes : List Byte) : State :=
  if s.isActive then s.linkReq .ridge (echoSession bytes) (echoSeq bytes) bytes
  else
    match parseHeader bytes with
    | none => s
    | some h =>
      if carriedFault .ridge h bytes.length then s
      else
        let n := nearSeq s.ring.ringSeq tag
        State.sendTrain { s with ring := { s.ring with ringSeq := max s.ring.ringSeq n } } s.ringPort tag (oidNode h.target) n
          (reqBytes h.opcode (reqOf .ring h (slice bytes 20 h.len)) h.echo)

/-- A reply from the twin: the standby answers its partner with it; the active takes it for its command (R130, R370). -/
def State.turwaReply (s : State) (tag : Nat) (bytes : List Byte) : State :=
  let f := farReply bytes
  if s.isActive then
    match s.ring.cmds.find? (fun c => c.ringSeq % 65536 == tag && c.denied.isNone) with
    | some c => s.replyFor c bytes
    | none => s
  else
    match s.comm.tags.find? (fun t => t.req.session == f.session && t.req.seq == f.seq && t.begun && !t.answered
        && oidNode t.req.target != 0) with
    | none => s
    | some t =>
      (s.modTag t (fun u => { u with dup := u.dup || f.dup })).answerLate { t with dup := t.dup || f.dup } f.status f.params 0

/-- TURWA: a Turwa packet of the twin (Table TWN-15); the port holds its input while its four answer slots are in use (R121). -/
def execTurwa (packet : List Byte) (s : State) : Host.Outcome State Fault Refusal :=
  let (p, s1) := s.takeRidge kTURWA packet
  .next (if 4 ≤ s.feUsed .ridge then s
    else
      match p with
      | none => s1
      | some b =>
        if ¬ s1.isReady ∨ s1.isWorker then s1
        else if byteAt b 2 = 0 then (s1.turwaRequest (leAt b 0 2) (b.drop 4)).flush
        else (s1.turwaReply (leAt b 0 2) (b.drop 4)).flush)

end Sys2Proof.Machine
end

