-- ==== Sys2Proof/Machine/Resync.lean ====
section
/-! DEFINITION. Resynchronisation (R347-R350, Tables TWN-8, TWN-17): snapshot, journals, owner counters (R160) and the
configuration copy (R348) in STATE packets, and the CONTROL packets (R84, R348, R387, Table TWN-15). -/

namespace Sys2Proof.Machine

/-! ### Entries (Table TWN-17) -/

/-- One entry: object ID, length, value. -/
def stateEntry (o : Word) (v : List Byte) : List Byte := toLe 4 o.toNat ++ toLe 2 v.length ++ v

/-- A frame that may be none, as 0. -/
def frame0 (f : Option Frame) : List Byte := toLe 4 ((f.map BitVec.toNat).getD 0)
/-- A frame read back: 0 is none. -/
def frameOr (n : Nat) : Option Frame := if n = 0 then none else some (BitVec.ofNat 32 n)

/-- The RATE ring of a point: 61 places, the oldest entry at 0, the newest at the index. -/
def rateBytes (l : List (Int × Nat)) : List Byte :=
  toLe 1 (l.length - 1) ++ toLe 1 l.length ++ l.reverse.flatMap (fun e => toLe 4 (ofSigned 4 e.1) ++ toLe 1 e.2)
    ++ List.replicate (5 * (61 - l.length)) 0#8

/-- A point's entries: its attributes, its pending delay, its RATE ring, its bridge state. -/
def pointEntries (n : Nat) (x : PointSt) : List (List Byte) :=
  let at_ (a : Nat) (v : List Byte) : List Byte := stateEntry (oid 0 cPOINT n a) v
  [at_ 0x00 (toLe 1 x.stateByte), at_ 0x01 (toLe 1 x.sub), at_ 0x02 (toLe 4 x.chFrame.toNat), at_ 0x03 (toLe 8 x.chBatten.toNat),
   at_ 0x04 (toLe 4 x.chSec), at_ 0x05 (toLe 4 x.shelveEnd.toNat), at_ 0x06 (toLe 4 (ofSigned 4 x.value)), at_ 0x07 [x.ackBy],
   at_ 0x08 (toLe 4 x.sources.toNat),
   at_ 0xE0 (frame0 (if x.cond = x.active then none else x.since) ++ toLe 1 (b2n x.cond) ++ [0, 0, 0]),
   at_ 0xE2 (frame0 x.silenceEnd ++ toLe 1 x.alfRev ++ [0, 0, 0])]
    ++ (if x.rate.isEmpty then [] else [at_ 0xE1 (rateBytes x.rate)])

/-- A station's entries. The start of its call is the entry into the present call-out state. -/
def stationEntries (e : Engine) (n : Nat) (x : StationSt) : List (List Byte) :=
  let at_ (a : Nat) (v : List Byte) : List Byte := stateEntry (oid 0 cSTATION n a) v
  [at_ 0x00 (toLe 1 x.callCode), at_ 0x01 (toLe 1 x.dmCode), at_ 0x03 (toLe 4 x.callCount),
   at_ 0xE0 (frame0 x.dmStart ++ frame0 (if x.called then some e.entered else none) ++ toLe 1 (b2n x.silenced) ++ [0, 0, 0])]

/-- The attending station. -/
def Engine.attendingStation (e : Engine) : Nat :=
  ((List.range 16).find? (fun n => (sget StationSt.idle e.stations n).attending)).getD 0xFF

/-- The DEVICE entry. -/
def deviceEntry (e : Engine) : List Byte :=
  stateEntry (oid 0 cDEVICE 0 0xE0)
    (toLe 1 e.callout ++ toLe 1 (e.duty.getD 0xFF) ++ toLe 1 e.attendingStation ++ toLe 1 (b2n e.horn) ++ toLe 4 e.uSince.toNat
      ++ toLe 4 e.entered.toNat ++ frame0 e.accepted)

/-- The indices at which two tables differ. -/
def changedKeys {α : Type} [DecidableEq α] (d : α) (a b : Sparse α) : List Nat :=
  ((a.map Prod.fst ++ b.map Prod.fst).dedup).filter (fun i => sget d a i != sget d b i)

/-- The DISAGREE flag of a line, as the FLAGS attribute of its object. -/
def disagreeEntry (on : Bool) (k : Nat) : List Byte :=
  if k % 128 < 64 then stateEntry (oid 0 cAIN (k % 128) 0x03) (toLe 2 (256 * b2n on))
  else stateEntry (oid 0 cDIN (k % 128 - 64) 0x03) (toLe 1 (4 * b2n on))

/-- The entries of everything that differs between two pegged states (Table TWN-8, steps 3 and 4). -/
def stateEntries (old new : Pegged) : List (List Byte) :=
  let a := old.engine
  let b := new.engine
  (changedKeys PointSt.idle a.points b.points).flatMap (fun n => pointEntries n (sget PointSt.idle b.points n))
    ++ (changedKeys 0xFFFF a.firstUp b.firstUp).map (fun n => stateEntry (oid 0 cGROUP n 0x01) (toLe 2 (sget 0xFFFF b.firstUp n)))
    ++ (changedKeys (false, none) a.rules b.rules).flatMap (fun n =>
      let r := sget (false, none) b.rules n
      [stateEntry (oid 0 cINHIBIT n 0x00) (toLe 1 (b2n r.1)), stateEntry (oid 0 cINHIBIT n 0xE0) (frame0 r.2)])
    ++ (changedKeys StationSt.idle a.stations b.stations).flatMap (fun n => stationEntries b n (sget StationSt.idle b.stations n))
    ++ ((List.range 256).filter (fun k => a.outputs.contains k != b.outputs.contains k)).map (fun k =>
      stateEntry (oid (k / 16) cDOUT (k % 16) 0x00) (toLe 1 (b2n (b.outputs.contains k))))
    ++ ((old.disagree ++ new.disagree).dedup.filter (fun k => old.disagree.contains k != new.disagree.contains k)).map (fun k =>
      disagreeEntry (new.disagree.contains k) k)
    ++ [deviceEntry b]

/-! ### Taking entries -/

def takePointAttr (x : PointSt) (attr : Nat) (v : List Byte) : PointSt :=
  match attr with
  | 0x00 =>
    let b := byteAt v 0
    { x with active := b.testBit 0, unack := b.testBit 1, shelved := b.testBit 2, inhibited := b.testBit 3, firstUp := b.testBit 4,
             sensorFault := b.testBit 5, notEval := b.testBit 6, cond := b.testBit 7 }
  | 0x01 => { x with sub := byteAt v 0 }
  | 0x02 => { x with chFrame := BitVec.ofNat 32 (leAt v 0 4) }
  | 0x03 => { x with chBatten := BitVec.ofNat 40 (leAt v 0 8) }
  | 0x04 => { x with chSec := leAt v 0 4 }
  | 0x05 => { x with shelveEnd := BitVec.ofNat 32 (leAt v 0 4) }
  | 0x06 => { x with value := signedOf 4 (leAt v 0 4) }
  | 0x07 => { x with ackBy := v.getD 0 0 }
  | 0x08 => { x with sources := BitVec.ofNat 32 (leAt v 0 4) }
  | 0xE0 => { x with since := frameOr (leAt v 0 4) }
  | 0xE1 =>
    let top := byteAt v 0
    { x with rate := (List.range (byteAt v 1)).map (fun k =>
      let i := (top + 61 - k) % 61
      (signedOf 4 (leAt v (2 + 5 * i) 4), byteAt v (6 + 5 * i))) }
  | 0xE2 => { x with silenceEnd := frameOr (leAt v 0 4), alfRev := byteAt v 4 }
  | _ => x

def takeStationAttr (x : StationSt) (attr : Nat) (v : List Byte) : StationSt :=
  match attr with
  | 0x00 => { x with called := byteAt v 0 == 1 || byteAt v 0 == 2, attending := byteAt v 0 == 3 }
  | 0x01 => { x with dmWarned := decide (2 ≤ byteAt v 0), dmExpired := byteAt v 0 == 3 }
  | 0x03 => { x with callCount := leAt v 0 4 }
  | 0xE0 => { x with dmStart := frameOr (leAt v 0 4), silenced := byteAt v 8 == 1 }
  | _ => x

/-- Put an output into the vector, or take it out; the vector stays in order. -/
def putOutput (l : List Nat) (k : Nat) (on : Bool) : List Nat :=
  (List.range 256).filter (fun j => if j = k then on else l.contains j)

/-- One entry, applied to the pegged state of a standby (unit bit 0 or 1 for the DISAGREE flags that it raised). -/
def Pegged.takeEntry (unit : Nat) (p : Pegged) (o : Word) (v : List Byte) : Pegged :=
  let e := p.engine
  let i := oidIndex o
  let a := oidAttr o
  let set (f : Engine) : Pegged := { p with engine := f }
  let flag (line : Nat) (on : Bool) : Pegged :=
    let rest := p.disagree.filter (fun k => k % 128 != line)
    { p with disagree := if on then (line + 128 * unit) :: rest else rest }
  if oidClass o = cPOINT then set { e with points := smod PointSt.idle e.points i (fun x => takePointAttr x a v) }
  else if oidClass o = cGROUP then set { e with firstUp := sset 0xFFFF e.firstUp i (leAt v 0 2) }
  else if oidClass o = cINHIBIT then
    set { e with rules := smod (false, none) e.rules i (fun r => if a = 0 then (byteAt v 0 == 1, r.2) else (r.1, frameOr (leAt v 0 4))) }
  else if oidClass o = cSTATION then set { e with stations := smod StationSt.idle e.stations i (fun x => takeStationAttr x a v) }
  else if oidClass o = cDOUT then set { e with outputs := putOutput e.outputs (16 * oidNode o + i) (byteAt v 0 == 1) }
  else if oidClass o = cAIN then flag i ((leAt v 0 2).testBit 8)
  else if oidClass o = cDIN then flag (64 + i) ((byteAt v 0).testBit 2)
  else if oidClass o = cDEVICE then
    set { e with
      callout := byteAt v 0, duty := if byteAt v 1 = 0xFF then none else some (byteAt v 1), horn := byteAt v 3 == 1,
      uSince := BitVec.ofNat 32 (leAt v 4 4), entered := BitVec.ofNat 32 (leAt v 8 4), accepted := frameOr (leAt v 12 4) }
  else p

/-- Every entry of a content, in order. -/
def Pegged.takeEntries (unit : Nat) : Nat → Pegged → List Byte → Pegged
  | 0, p, _ => p
  | k + 1, p, b =>
    if b.length < 6 then p
    else
      let n := leAt b 4 2
      Pegged.takeEntries unit k (p.takeEntry unit (BitVec.ofNat 32 (leAt b 0 4)) (slice b 6 n)) (b.drop (6 + n))

/-- An alert's state as the engine state just taken gives it: nothing is sent of it. -/
def State.settleAlert (f : Frame) (s : State) (n : Nat) : State :=
  let x := s.pointSt n
  let a := s.provNow.alertOf n
  if a = x.alert then s
  else { s with peg := { s.peg with engine := { s.peg.engine with
    points := sset PointSt.idle s.peg.engine.points n { x with alert := a, alfFrame := f } } } }

/-- Take a snapshot or a journal of a frame (R347): the engine state, and the line values that the frame's mirror brought. -/
def State.takeEngine (s : State) (base : Pegged) (f : Frame) (content : List Byte) : State :=
  let p := Pegged.takeEntries (b2n s.unitB) content.length base content
  let e : Engine := { p.engine with lastMinute := some s.eave.minute }
  let s1 : State := { s with peg := { p with engine := e, ain := s.ain, din := s.din }, pair := { s.pair with snapFrame := f } }
  (s1.peg.engine.points.map Prod.fst).foldl (State.settleAlert f) s1

/-! ### Sending (Tables TWN-8, TWN-15) -/

/-- A STATE payload: frame, part kind, whether it is the last part, part number, journal frame, content. -/
def statePart (f : Frame) (kind : Nat) (last : Bool) (no : Nat) (k : Nat) (content : List Byte) : List Byte :=
  toLe 4 f.toNat ++ toLe 1 kind ++ toLe 1 (b2n last) ++ toLe 2 no ++ toLe 4 k ++ content

/-- Send entries as the parts of one kind. -/
def State.sendState (s : State) (f : Frame) (kind k : Nat) (entries : List (List Byte)) : State :=
  let ps := packParts [] (entries.map (fun b => (0, b)))
  ps.zipIdx.foldl (fun (s : State) x =>
    s.sendRidge kSTATE (statePart f kind (decide (x.2 + 1 = ps.length)) x.2 k (x.1.flatMap (fun e => e.2)))) s

/-- The owner counters, encrypted under the link (R160, R323). -/
def State.sendCounters (s : State) : State :=
  let no := s.ridge.lsnOut + 1
  let m := (List.range 64).flatMap (fun i => toLe 8 (sget Counter.zero s.peg.counters i).value)
  let x := gcmSeal s.ridge.keyCtr ([0, 0, 0, 0] ++ toLe 8 no) [] m
  s.sendRidge kSTATE (statePart s.clk.frameNo 2 true 0 0 (toLe 8 no ++ x.1 ++ x.2))

/-- After a peg of the unit that leads: the snapshot at step 3, else the journal of the frame (Table TWN-8). -/
def State.sendResync (s : State) (old : Pegged) : State :=
  if s.pair.twinState ≠ 3 ∨ ¬ s.pair.leads then s
  else if s.pair.resyncStep = 3 then
    let blank : Pegged := { s.peg with engine := Engine.idle, disagree := [] }
    let s1 := (s.sendState s.clk.frameNo 0 0 (stateEntries blank s.peg)).sendCounters
    { s1 with pair := { s1.pair with resyncStep := 4, snapFrame := s.clk.frameNo } }
  else if 4 ≤ s.pair.resyncStep then s.sendState s.pair.snapFrame 1 s.clk.frameNo.toNat (stateEntries old s.peg)
  else s

/-! ### The configuration copy (R348) -/

/-- The stored configuration image, which tells its own lengths (notes/assumptions/51.md). -/
def Pegged.image (p : Pegged) : List Byte :=
  let c := p.cfg.filter (fun e => !localKey e.1)
  toLe 4 c.length ++ c.flatMap (fun e => toLe 4 e.1 ++ toLe 16 e.2) ++ toLe 2 p.matrix.length
    ++ p.matrix.flatMap (fun e => toLe 2 e.1 ++ toLe 1 e.2.toNat) ++ toLe 4 p.gen.toNat ++ toLe 4 p.lastMatrixFrame.toNat
    ++ toLe 2 p.seals.length ++ p.seals.flatMap (fun e => e.2.bytes e.1) ++ toLe 1 p.swapHours

/-- A seal entry from its bytes. -/
def sealFrom (b : List Byte) : Nat × Seal :=
  (byteAt b 0, { cls := byteAt b 1, first := leAt b 2 2, count := leAt b 4 2, scope := byteAt b 6, attr := byteAt b 7,
                 broken := byteAt b 8 == 1 })

/-- The image as a stored copy; the node-local attributes stay this unit's own. -/
def copyFrom (own : Sparse Nat) (b : List Byte) : NvCopy :=
  let nc := leAt b 0 4
  let cs := (entriesOf 20 nc (b.drop 4)).map (fun e => (leAt e 0 4, leAt e 4 16))
  let b1 := b.drop (4 + 20 * nc)
  let nm := leAt b1 0 2
  let ms := (entriesOf 3 nm (b1.drop 2)).map (fun e => (leAt e 0 2, BitVec.ofNat 4 (byteAt e 2)))
  let b2 := b1.drop (2 + 3 * nm)
  let ns := leAt b2 8 2
  { good := true, cfg := (own.filter (fun e => localKey e.1)).foldl (fun m e => sput m e.1 e.2) cs, matrix := ms,
    gen := BitVec.ofNat 32 (leAt b2 0 4), lastMatrixFrame := BitVec.ofNat 32 (leAt b2 4 4),
    seals := (entriesOf 10 ns (b2.drop 10)).map sealFrom, swapHours := byteAt b2 (10 + 10 * ns) }

/-- Cut bytes into parts. -/
def cutParts : Nat → List Byte → List (List Byte)
  | 0, b => [b]
  | k + 1, b => if b.length ≤ partBytes then [b] else b.take partBytes :: cutParts k (b.drop partBytes)

/-- The active unit sends its configuration (R348). -/
def State.sendConfig (s : State) : State :=
  let b := s.peg.image
  (s.sendState s.clk.frameNo 3 0 (cutParts b.length b)).tellPair 12 s.pair.state

/-- A standby stores the copy in both places and resets warm (R348). -/
def State.takeConfig (s : State) (b : List Byte) : State :=
  let c := copyFrom s.peg.cfg b
  (State.tellPair { s with nvCopyA := c, nvCopyB := c, cfgDirty := none } 12 s.pair.state).startReset 9 false

/-! ### STATE (R347, R348, R160, R187) -/

/-- Open an encrypted STATE content. -/
def State.openState (s : State) (b : List Byte) : Option (List Byte) :=
  let n := b.length - 24
  gcmOpen s.ridge.keyCtr ([0, 0, 0, 0] ++ slice b 0 8) [] (slice b 8 n) (slice b (8 + n) 16)

/-- The owner counters replace this unit's own (R160). -/
def State.takeCounters (s : State) (m : List Byte) : State :=
  let c := (List.range 64).foldl (fun (t : Sparse Counter) i =>
    smod Counter.zero t i (fun x => { x with value := leAt m (8 * i) 8 })) s.peg.counters
  { s with peg := { s.peg with counters := c }, savedCounters := c }

/-- The ring key and the members, as the admitting manager mirrors them (R187, R368). -/
def State.takeRingMembers (s : State) (m : List Byte) : State :=
  let key : Key := { state := 1, loadedAt := s.secNow, value := m.take 32 }
  let es := (entriesOf 5 ((m.length - 32) / 5) (m.drop 32)).map (fun e => (BitVec.ofNat 32 (leAt e 0 4), byteAt e 4))
  es.foldl State.admitMember { s with keys := sset Key.empty s.keys 25 key }

/-- A whole content of a kind. -/
def State.takeStateContent (s : State) (f : Frame) (kind : Nat) (k : Frame) (b : List Byte) : State :=
  match kind with
  | 0 =>
    if s.pair.state ≠ 3 then s
    else
      let s1 := s.takeEngine { s.peg with engine := Engine.idle, disagree := [] } f b
      { s1 with pair := { s1.pair with resyncStep := 4, resyncOk := 0 } }
  | 1 =>
    if s.pair.state ≠ 3 ∨ s.pair.resyncStep ≠ 4 ∨ k = s.pair.snapFrame ∨ ¬ frameGe k s.pair.snapFrame then s
    else s.takeEngine s.peg k b
  | 3 => s.takeConfig b
  | _ => s

def State.takeState (s : State) (b : List Byte) : State :=
  let kind := byteAt b 4
  let no := leAt b 6 2
  let content := b.drop 12
  if kind = 2 then
    match s.openState content with
    | none => s
    | some m => if no = 0 then s.takeCounters m else s.takeRingMembers m
  else
    let buf := (if no = 0 then [] else s.pair.copyParts) ++ content
    if (byteAt b 5).testBit 0 then
      State.takeStateContent { s with pair := { s.pair with copyParts := [] } } (BitVec.ofNat 32 (leAt b 0 4)) kind
        (BitVec.ofNat 32 (leAt b 8 4)) buf
    else { s with pair := { s.pair with copyParts := buf } }

/-- STATE: a part of what the active sends in the housekeeping slots. -/
def execStatePacket (packet : List Byte) (s : State) : Host.Outcome State Fault Refusal :=
  let (p, s1) := s.takeRidge kSTATE packet
  .next (match p with
    | none => s1
    | some b => if s1.isStandby then s1.takeState b else s1)

/-! ### CONTROL (Table TWN-15) -/

/-- A reset request waits for TWIN_REQUEST (R84); a suspect that has passed resynchronises (R341); a driver is released (R387);
the configuration is asked for (R348). -/
def State.takeControl (s : State) (b : List Byte) : State :=
  match byteAt b 0 with
  | 1 => { s with pair := { s.pair with resetRequested := true } }
  | 2 =>
    if byteAt b 1 = 1 ∧ s.isActive ∧ s.pair.twinState = 4 then s.twinResync.tellPair 8 s.pair.state else s
  | 3 =>
    if byteAt b 2 = 1 then { s with hw := { s.hw with released1 := true } }
    else if byteAt b 2 = 2 then { s with hw := { s.hw with released2 := true } } else s
  | 4 => if s.isActive then s.sendConfig else s
  | _ => s

/-- CONTROL: one code of the twin (Table TWN-15). -/
def execControl (packet : List Byte) (s : State) : Host.Outcome State Fault Refusal :=
  let (p, s1) := s.takeRidge kCONTROL packet
  .next (match p with
    | none => s1
    | some b => s1.takeControl b)

/-! ### COUNTER_SAVE (R160) -/

/-- COUNTER_SAVE: once every 360 000 frames the owner counters go to NV, and the active sends them to its twin (R160, R347). -/
def execCounterSave (s : State) : Host.Outcome State Fault Refusal :=
  .next (if ¬ s.isReady ∨ s.isWorker ∨ framesSince s.clk.frameNo s.savedFrame < 360000 then s
    else
      let s1 : State := { s with savedCounters := s.peg.counters, savedFrame := s.clk.frameNo }
      if s1.pair.state = 1 then s1.sendCounters else s1)

end Sys2Proof.Machine
end

