-- ==== Sys2Proof/Machine/Frame.lean ====
section
/-! DEFINITION. The frame from its start to the digests: frame start with READY and step 9 of a leader (R13, R14, R60, R90,
R91), the batch and its withdrawal (R15, R176), the evaluation (R276) and the digest exchange (R335, R336). -/

namespace Sys2Proof.Machine

/-! ### Withdrawal (R176) -/

/-- A class-P item that 100 frames have carried without a peg. -/
def BatchItem.overdue (f : Frame) (i : BatchItem) : Bool :=
  match i.body with
  | .command _ _ => decide (100 < framesSince f i.frame)
  | .commit _ _ => decide (100 < framesSince f i.frame)
  | _ => false

/-- The unit that admitted a withdrawn item answers it. -/
def State.answerWithdrawn (s : State) (i : BatchItem) : State :=
  let answer (r : Req) : State :=
    match s.tag? r with
    | some t => if i.own then s.answerP t .unpegged [] else s
    | none => s
  match i.body with
  | .command _ r => answer r
  | .commit r _ => answer r
  | _ => s

/-- The answer of an item, to the command that waits for it. -/
def State.pegReply (s : State) (a : PegReply) : State :=
  match s.comm.tags.find? (fun t => t.req.port == a.port && t.req.session == a.session && t.req.seq == a.seq && !t.answered) with
  | some t => s.answerP t a.status a.params
  | none => s

/-- What has been carried for 100 frames is withdrawn; a command refused before the batch is answered with it (R159, R176). -/
def State.withdraw (s : State) : State :=
  let f := s.clk.frameNo
  let late (a : PegReply) : Bool := decide (100 < framesSince f a.frame)
  let s0 := ((s.batch ++ s.admitted).filter (BatchItem.overdue f)).foldl State.answerWithdrawn s
  let s1 := (s0.refusedP.filter late).foldl State.pegReply { s0 with refusedP := s0.refusedP.filter (fun a => !late a) }
  { s1 with batch := s1.batch.filter (fun i => !i.overdue f), admitted := s1.admitted.filter (fun i => !i.overdue f) }

/-- UNPEGGED: what has been carried for 100 frames is withdrawn; a frame start does the same as it builds its batch (R176). -/
def execUnpegged (s : State) : Host.Outcome State Fault Refusal :=
  .next (if s.alive ∧ ¬ s.isWorker then (s.withdraw).flush else s)

/-- The batch of the frame: the active's own, joined by what was admitted in the frame before; a standby takes the one of the
mirror, and keeps its forwarded items until they are pegged (R15, R130, R176). -/
def State.openBatch (s : State) : State :=
  let s1 := s.withdraw
  if s1.isActive then { s1 with batch := s1.batch ++ s1.admitted, admitted := [] } else { s1 with batch := [] }

/-! ### Frame start (R13, R14, R60, R61, R90, R91) -/

/-- The next frame's number and start; time does not run back where it has passed the start. -/
def State.nextFrame (s : State) : State :=
  let s1 := s.toOffset Config.frameTicks
  let t := s1.clk.frameStart + BitVec.ofNat 40 Config.frameTicks
  let n := s1.clk.frameNo + 1
  { s1 with clk := { s1.clk with frameNo := n, frameStart := t, starts := ((n, t) :: s1.clk.starts).take 5 } }

/-- What the node measures of itself anew in each frame, and the correction of a follower's reference, within its slew and its
pull range: free values (R60, Tables AFE-9, PWR-11; notes/assumptions/5.md). -/
def State.measure (s : State) : State :=
  let n := s.free
  let moved : Int := s.clk.refPpb + ((Config.freeValue n % 201 : Nat) : Int) - 100
  let follows := s.clk.refState == 1 || s.clk.refState == 2
  { s with
    free := n + 1, sup := { s.sup with mv := (List.range 5).map (Config.supplyMvAt n) },
    fld := { s.fld with vfldLow := decide (Config.supplyMvAt n 4 < 19000) },
    afe := { s.afe with dieTemp := if s.sup.vafe ∧ s.afe.linkUp then Config.dieTempAt n else s.afe.dieTemp },
    clk := { s.clk with refPpb := if follows then max (-200000) (min 200000 moved) else s.clk.refPpb } }

/-- A follower that has not heard its leader's latest frame start holds its frequency; a leader runs on its own (R60). -/
def State.refAtFrame (s : State) : State :=
  let n := s.clk.frameNo
  let heard := s.clk.lastRef == some n || s.clk.lastRef == some (n - 1)
  let now := if ¬ s.isWorker ∧ s.pair.leads then 0 else if s.clk.refState = 2 ∧ ¬ heard then 3 else s.clk.refState
  { s with clk := { s.clk with refState := now } }

/-- READY (R91, R92, R165, R286, Table RST-4). -/
def State.reachReady (s : State) : State :=
  let fuse :=
    if s.rst.bootImage ≤ 1 ∧ s.images.1.valid ∧ s.images.2.valid then
      max s.fuse (min 64 (min s.images.1.rollback s.images.2.rollback))
    else s.fuse
  let s1 : State :=
    { s with
      fuse := fuse, savedFrame := s.clk.frameNo, rst := { s.rst with phase := 0x0B, readyTicks := s.sinceRelease, readyAt := s.time }, eave := { s.eave with startFails := 0 },
      peg := { s.peg with engine := { s.peg.engine with duty := s.dutyAtReady } } }
  let s2 : State := if s1.isWorker then s1 else s1.setRingState s1.ringStateNow
  s2.later (s2.sysOcc 1008 3 0 (toLe 1 s2.rst.cause ++ toLe 1 s2.rst.bootImage ++ toLe 1 s2.eave.wakeCause ++ [0]))

/-- The start sequence at a frame start: READY follows step 10; step 9 of a leader ends at its time limit at the latest, without
the workers that have not answered (R90, R91). -/
def State.startAtFrame (s : State) : State :=
  if s.rst.phase = 0x0A ∧ (s.isWorker ∨ s.rst.firstClaim) then s.reachReady
  else if s.rst.phase = 9 ∧ s.pair.leads ∧ msTicks 560 ≤ s.passed s.rst.startFrom then { s with rst := { s.rst with phase := 0x0A } }
  else s

/-- A standby that has applied every journal evaluates from this frame on, and hands over the items that have waited (R130, R347,
Table TWN-8, step 5). -/
def State.resyncAtFrame (s : State) : State :=
  if s.pair.state = 3 ∧ s.pair.resyncStep = 4 ∧ s.pair.snapFrame + 1 = s.clk.frameNo then
    State.forwardWaiting { s with pair := { s.pair with resyncStep := 5, resyncOk := 0 } }
  else s

/-- What leaves the node at a frame start: the leader's marker and token, a standby's claim cell (R324, R362). -/
def State.sendFrameStart (s : State) : State :=
  if s.isWorker then s
  else if s.pair.leads then
    (let s1 := s.sendRidge kMARKER s.markerBytes
    if s1.admittedMask = 0 then s1 else s1.sendToken)
  else if s.isStandby ∧ s.admittedMask ≠ 0 then s.sendClaimCell
  else s

/-- What every frame begins with: the snapshot, the batch, and what the frame before has left (R14, R16). -/
def State.openFrame (s : State) : State :=
  let t := s.stampAt s.clk.frameStart
  let p : PairSt :=
    { s.pair with
      mirrored := false, unmirrored := false, mirrorParts := 0, mirrorBuf := [], mirrorCnt := [], mirrorItems := [],
      twinDigest := none, decided := false }
  let s1 : State :=
    { s with
      prov := none, pair := p, clk := { s.clk with snapSec := t.1, snapOff := t.2 }, eave := { s.eave with lastFrame := s.clk.frameNo } }
  let s2 := (s1.refAtFrame.discUpdate.measure.ringFrame.commitWrites.startAtFrame).driversAtFrame
  let s3 := s2.snapAfe.snapField
  let s4 := if s3.isActive ∨ s3.isWorker then s3.takeOwnAin.takeOwnDin else s3
  (s4.openBatch.resyncAtFrame.sendFrameStart).flush

/-- After the frame that follows the laid-up order's peg no frame is driven (R55, Table PWR-9). -/
def State.framesOver (s : State) : Bool :=
  match s.rst.layingUp with
  | some n => s.clk.frameNo == n + 1
  | none => false

/-- FRAME_START (R13, R14). The unit facts seen up to here were admitted in the frame that ends (R15, R278). -/
def execFrameStart (s : State) : Host.Outcome State Fault Refusal :=
  .next (if ¬ s.alive ∨ ¬ s.clk.running ∨ s.framesOver then s
    else
      let s1 := if s.isReady ∧ ¬ s.isWorker ∧ ¬ s.pair.detached then s.submitFacts else s
      s1.nextFrame.openFrame)

/-- The listening window of step 9 is over: 50 ms on unit A and 100 ms on unit B from the end of training, which without a trained ridge
link is its 20 ms limit (R90, notes/assumptions/121.md). -/
def State.listenOver (s : State) : Bool :=
  decide (msTicks ((if s.ridge.trained then 0 else 20) + (if s.unitB then 100 else 50)) ≤ s.passed s.rst.listenFrom)

/-- LISTEN_WINDOW_END: no marker was heard, so this manager leads; its first frame starts on this tick (R90). Without workers
step 9 ends at once, and the first claim follows. -/
def execListenWindowEnd (s : State) : Host.Outcome State Fault Refusal :=
  .next (if ¬ s.alive ∨ ¬ s.rst.listening ∨ ¬ s.listenOver then s
    else
      let n : Frame := if s.rst.powerOn then 0 else s.eave.lastFrame + 1
      let s1 : State :=
        { s with
          rst := { s.rst with listening := false, phase := if s.admittedMask = 0 then 0x0A else 9 },
          pair := { s.pair with leads := true },
          clk := { s.clk with frameNo := n, frameStart := s.clk.batten, starts := [(n, s.clk.batten)], running := true } }
      s1.openFrame)

/-! ### Evaluation (R276) -/

/-- The unit evaluates this frame: an active or solo manager, a synchronised standby, or one that has applied every journal
(Table TWN-8). -/
def State.evaluates (s : State) : Bool :=
  s.isReady && !s.isWorker && s.clk.running && !s.pair.detached
    && (s.isActive || s.pair.state == 2 || (s.pair.state == 3 && decide (5 ≤ s.pair.resyncStep)))

/-- FRAME_EVALUATION: both lanes evaluate from tick 37 500, up to the peg decision (R276, R335). -/
def execFrameEvaluation (lanesAgree : Bool) (s : State) : Host.Outcome State Fault Refusal :=
  .next (let s1 := s.toOffset 37500
    if s.evaluates ∧ ¬ s.pair.decided ∧ s1.offset < 112500 then { s1 with prov := some (s1.evaluateFrame lanesAgree) } else s)

/-! ### Digests (R335, R336, Table TWN-4) -/

/-- The provisional result of the present frame. -/
def State.provDue (s : State) : Option Prov :=
  match s.prov with
  | some p => if p.frame = s.clk.frameNo then some p else none
  | none => none

/-- The referee run started by mismatches ends with this frame (Table TWN-6). -/
def State.refereeDue (s : State) : Bool :=
  match s.pair.refStart with
  | some n => s.clk.frameNo == n + 4
  | none => false

def DigestMsg.bytes (d : DigestMsg) : List Byte :=
  toLe 4 d.frame.toNat ++ toLe 8 d.digest
    ++ toLe 1 (b2n d.lanes + 2 * b2n d.refRunning + 4 * b2n d.refPresent + 8 * b2n d.refPassed + 16 * b2n d.unmirrored)
    ++ toLe 1 d.streak ++ [0, 0] ++ toLe 4 d.claim.toNat

def digestOf (b : List Byte) : DigestMsg :=
  { frame := BitVec.ofNat 32 (leAt b 0 4), digest := leAt b 4 8, lanes := (byteAt b 12).testBit 0, refRunning := (byteAt b 12).testBit 1,
    refPresent := (byteAt b 12).testBit 2, refPassed := (byteAt b 12).testBit 3, unmirrored := (byteAt b 12).testBit 4,
    streak := byteAt b 13, claim := BitVec.ofNat 32 (leAt b 16 4) }

/-- The own result of a referee run that ends: as BACKGROUND_REFEREE brought it, else free (R338; notes/assumptions/5.md). -/
def State.refereeResult (s : State) : State :=
  if ¬ s.refereeDue ∨ s.pair.refOwn.isSome then s
  else
    let (v, s1) := s.draw
    { s1 with pair := { s1.pair with refOwn := some (v % 2 == 1) } }

/-- This unit's digest message. -/
def State.ownDigest (s : State) (p : Prov) : DigestMsg :=
  { frame := s.clk.frameNo, digest := p.digest, lanes := p.lanesAgree, refRunning := s.pair.refStart.isSome, refPresent := s.refereeDue,
    refPassed := s.refereeDue && s.pair.refOwn.getD false, unmirrored := s.isStandby && s.pair.unmirrored, streak := s.pair.streak,
    claim := s.pair.ownClaim }

/-- DIGEST_EXCHANGE, tick 93 750 (R335, Table TWN-6). -/
def execDigestExchange (s : State) : Host.Outcome State Fault Refusal :=
  .next (match s.provDue with
    | none => s
    | some p =>
      if ¬ s.isReady ∨ s.isWorker ∨ s.pair.detached ∨ ¬ s.pair.bound ∨ s.pair.decided then s
      else
        let s1 := (s.toOffset 93750).refereeResult
        s1.sendRidge kDIGEST (s1.ownDigest p).bytes)

/-- DIGEST_RECEIVED: the twin's digest of this frame has reached SCAN by tick 112 000 (R336). -/
def execDigestReceived (packet : List Byte) (s : State) : Host.Outcome State Fault Refusal :=
  let (b, s1) := s.takeRidge kDIGEST packet
  .next (match b with
    | none => s1
    | some b =>
      let d := digestOf b
      if s1.isWorker ∨ ¬ s1.clk.running ∨ d.frame ≠ s1.clk.frameNo ∨ 112000 < s1.offset ∨ s1.pair.decided then s1
      else { s1 with pair := { s1.pair with twinDigest := some d } })

end Sys2Proof.Machine
end

