-- ==== Sys2Proof/Machine/HostPort.lean ====
section
/-! DEFINITION. The host port (R379-R383). -/

namespace Sys2Proof.Machine

/-- A transaction begins: the width set before it is in force (Table PRT-2, PORT_CFG). -/
def State.hostTxn (s : State) : State :=
  { s with hw := { s.hw with host := { s.hw.host with quad := s.hw.host.quadNext } } }

/-- Set sticky PORT_IRQ bits. -/
def State.setSticky (s : State) (bits : BitVec 6) : State :=
  { s with hw := { s.hw with host := { s.hw.host with sticky := s.hw.host.sticky ||| bits } } }

/-- The host port takes transactions: from the end of start step 3 (R380, Table RST-5). -/
def State.hostOn (s : State) : Bool := s.portLive .host && !s.blockInReset 8

/-- WRITE_PACKET's effect on the bytes between the command byte and the rise of HCS_N (R380). -/
def State.hostWrite (s : State) (bytes : List Byte) : State :=
  if ¬ s.hrdy then s.setSticky 8
  else
    let n := bytes.length - 2
    let pkt := bytes.take n
    if bytes.length < 2 ∨ leAt bytes n 2 ≠ crc16 pkt then
      { s with comm := { s.comm with framingErrors := inc32 s.comm.framingErrors } }.setSticky 4
    else s.frontBytes .host pkt

/-- WRITE_PACKET (R380). -/
def execWritePacket (bytes : List Byte) (s : State) : Host.Outcome State Fault Refusal :=
  .next (if ¬ s.portLive .host then s else s.hostTxn.hostWrite bytes)

/-- What a read transaction puts out. -/
def State.hostOut (s : State) (bytes : List Byte) : State :=
  { s with hw := { s.hw with host := { s.hw.host with readOut := bytes } } }

/-- Bytes clocked out of a source: zeros beyond its end (R381). -/
def clockOut (src : List Byte) (n : Nat) : List Byte := (src ++ List.replicate n 0#8).take n

/-- READ_PACKET's effect: the head packet and its CRC; the packet leaves once all of it has been clocked out (R381). -/
def State.hostRead (s : State) (clocked : Nat) : State :=
  match s.outQ .host with
  | [] => s.hostOut (List.replicate clocked 0#8)
  | k :: _ =>
    let w := k.wire
    let all := w ++ toLe 2 (crc16 w)
    let s1 := s.hostOut (clockOut all clocked)
    if all.length ≤ clocked then s1.sentHead .host else s1

/-- READ_PACKET (R381). -/
def execReadPacket (clocked : Nat) (s : State) : Host.Outcome State Fault Refusal :=
  .next (if ¬ s.hostOn then s else s.hostTxn.hostRead clocked)

/-- A port register (Table PRT-2). -/
def State.portReg (s : State) (addr : Nat) : Nat :=
  match addr with
  | 0x00 => 0x48160001 + 256 * b2n s.unitB + 512 * b2n s.isWorker
  | 0x04 => s.rst.phase.toNat + 256 * b2n s.hrdy + 512 * b2n s.hw.host.quad
  | 0x08 => s.portIrq.toNat
  | 0x0C => s.hw.host.mask.toNat
  | 0x10 => if s.isReady then s.tagsFree .host + 65536 * (4 - s.feUsed .host) else 0
  | 0x14 =>
    match s.outQ .host with
    | [] => 0
    | k :: ks => k.wire.length + 65536 * min 0xFFFF (ks.length + 1)
  | 0x18 => b2n s.hw.host.quadNext
  | _ => 0

/-- READ_REG: the address steps by 4 (R382). -/
def execReadReg (addr : Byte) (words : Nat) (s : State) : Host.Outcome State Fault Refusal :=
  .next (if ¬ s.hostOn then s
    else s.hostTxn.hostOut ((List.range words).flatMap (fun k => toLe 4 (s.portReg ((addr.toNat + 4 * k) % 256)))))

/-- One register write: PORT_IRQ clears by 1, PORT_IRQ_MASK and PORT_CFG hold, every other is ignored (R382, R383). -/
def State.writePortReg (s : State) (addr : Nat) (v : Word) : State :=
  match addr with
  | 0x08 =>
    { s with hw := { s.hw with host := { s.hw.host with sticky := s.hw.host.sticky &&& ~~~(v.setWidth 6 &&& 0x3E#6) } } }
  | 0x0C => { s with hw := { s.hw with host := { s.hw.host with mask := v.setWidth 6 } } }
  | 0x18 => { s with hw := { s.hw with host := { s.hw.host with quadNext := v.getLsbD 0 } } }
  | _ => s

/-- WRITE_REG: each word goes to its register; read-only fields and undefined addresses ignore it (R382). -/
def execWriteReg (addr : Byte) (words : List Word) (s : State) : Host.Outcome State Fault Refusal :=
  .next (if ¬ s.hostOn then s
    else words.zipIdx.foldl (fun s x => s.writePortReg ((addr.toNat + 4 * x.2) % 256) x.1) s.hostTxn)

/-- PORT_IRQ_CLEAR: writing 1 clears bits 1-5 (Table PRT-2). -/
def execPortIrqClear (value : Word) (s : State) : Host.Outcome State Fault Refusal :=
  .next (if ¬ s.hostOn then s else s.hostTxn.writePortReg 0x08 value)

/-- PORT_IRQ_MASK_WRITE (R383). -/
def execPortIrqMaskWrite (value : Word) (s : State) : Host.Outcome State Fault Refusal :=
  .next (if ¬ s.hostOn then s else s.hostTxn.writePortReg 0x0C value)

/-- PORT_CFG_WRITE: QUAD takes effect from the next transaction (Table PRT-2). -/
def execPortCfgWrite (value : Word) (s : State) : Host.Outcome State Fault Refusal :=
  .next (if ¬ s.hostOn then s else s.hostTxn.writePortReg 0x18 value)

/-- HOST_BAD_COMMAND: an unknown command byte is ignored and sets BAD_CMD (Table PRT-1). -/
def execHostBadCommand (cmd : Byte) (s : State) : Host.Outcome State Fault Refusal :=
  .next (if ¬ s.hostOn ∨ (1 ≤ cmd.toNat ∧ cmd.toNat ≤ 4) then s else s.hostTxn.setSticky 16)

end Sys2Proof.Machine
end

