-- ==== Sys2Proof/Machine/Peg.lean ====
section
/-! DEFINITION. The peg (R15-R18, R336-R350, Tables TWN-5, TWN-7, TWN-8): the claim, the owner counters, what a pegged frame
changes and releases in its order, and the decision of every pair state. -/

namespace Sys2Proof.Machine

/-! ### The claim (R233, R330, R340) -/

/-- The node sends claim frames: a manager that does not withdraw and whose configuration is valid (R93, R167, R327). -/
def State.mayClaim (s : State) : Bool := !s.isWorker && !s.withdraws && !s.rst.cfgInvalid

/-- The claim and the output word that the next CLAIM frame carries; the word counts if the frame was pegged by a unit that drives
it (R233, R347). -/
def State.loadClaim (s : State) (pegged : Bool) : State :=
  if ¬ s.mayClaim then s
  else
    let w := s.presented
    let drives := pegged && (s.isActive || s.pair.state == 2)
    { s with
      pair := { s.pair with ownClaim := w },
      fio := { s.fio with claimDue := some (w, if drives then BitVec.ofNat 12 (s.outputWord 0) else s.fio.lastWord, drives) } }

/-- A claim-only peg (R340). -/
def State.claimOnly (s : State) : State := { s with prov := none }.loadClaim false

/-- An unpegged frame: the claim is refreshed as it stands, the batch is carried (R15, R17, R233). -/
def State.unpeg (s : State) : State :=
  if ¬ s.mayClaim then { s with prov := none }
  else { s with prov := none, fio := { s.fio with claimDue := some (s.pair.ownClaim, s.fio.lastWord, false) } }

/-! ### Owner counters (R160) -/

/-- The pegged state of a counted object, as its STATE shows it; a station counts while it is called (R160). -/
def State.counted (s : State) (o : Word) : Bool :=
  let i := oidIndex o
  if oidClass o = cDIN then (s.dinPeg (oidNode o) i).state
  else if oidClass o = cPOINT then (s.pointSt i).active
  else if oidClass o = cGROUP then (s.readGroup i 0x00).testBit 0
  else if oidClass o = cINHIBIT then (s.readInhibit i 0x00).testBit 0
  else if oidClass o = cSTATION then (sget StationSt.idle s.peg.engine.stations i).callCode != 0
  else if oidClass o = cDOUT then outputBit s.peg.engine o
  else false

/-- One counter at a pegged frame; units under notes/assumptions/50.md. -/
def State.countOne (s : State) (i : Nat) (c : Counter) : Counter :=
  let kind := s.cfg cCOUNTER i 0x01
  let o : Word := BitVec.ofNat 32 (s.cfg cCOUNTER i 0x00)
  let on := s.counted o
  let gain : Nat :=
    if kind = 1 then (if on then Config.timeCount else 0)
    else if kind = 2 then (if on ∧ ¬ c.last then 1 else 0)
    else if kind = 3 then
      ofSigned 8 (Config.integralCount (s.ainPeg (oidNode o) (oidIndex o)).value)
    else 0
  { value := (c.value + gain) % 2 ^ 64, last := kind == 2 && on }

/-- The pegged data after the counters have taken this frame. -/
def State.countAll (s : State) : Pegged :=
  { s.peg with counters := (List.range 64).foldl (fun m i => smod Counter.zero m i (s.countOne i)) s.peg.counters }

/-! ### What the items of a batch do outside the pegged data -/

/-- The managers' orders to every admitted worker, by bit of the order byte (Table RNG-11). -/
def State.orderAll (s : State) (bits : BitVec 5) : State :=
  { s with ring := { s.ring with
      orders := ((List.range 16).filter s.workerKnown).foldl (fun m n => sset 0 m n (sget 0 m n ||| bits)) s.ring.orders } }

/-- The list of nodes in the lay-up (R264): bit 0 unit A, bit 1 unit B, bit n + 1 worker n. -/
def State.layupNodes (s : State) : BitVec 17 :=
  BitVec.ofNat 17 (maskOf (b2n s.unitB :: (if s.pair.state = 1 then [s.twinBit] else [])
    ++ ((List.range 16).filter s.workerKnown).map (· + 1)))

/-- The pegged laid-up order (R54, R55, R264). -/
def State.orderLayup (s : State) : State :=
  let s1 : State := { s with rst := { s.rst with layingUp := some s.clk.frameNo } }
  if s1.isActive then State.orderAll { s1 with eave := { s1.eave with layupList := s1.layupNodes } } 1#5 else s1

/-- A command for a worker whose item has been pegged leaves the active manager as a train, under its own session's tag or, where
none stands behind it here, under an internal one (R118, R173, R370). -/
def State.carryPegged (s : State) (op : Half) (r : Req) : State :=
  if ¬ s.isActive then s
  else
    match (if r.port = .internal ∨ r.port = .ridge then none else s.tag? r) with
    | some t => s.startRingCmd { t with req := r } (s.linkTicks op.toNat r)
    | none => s.carryInner op r (s.linkTicks op.toNat r)

/-- One effect of the batch at its peg. -/
def State.pegEffect (s0 : State) (e : Effect) : State :=
  let s := State.localEffect { s0 with eave := s0.eave.timeEffect s0.clk.batten s0.time e } e
  match e with
  | .pairUnbind => s.unbind
  | .handover cause => s.handover cause
  | .laidUp => s.orderLayup
  | .maintEnter purpose session slot expiry token =>
    let s1 := s.enterMaint purpose session slot expiry token
    s1.later (s1.maintRecord (purpose + 1) slot)
  | .maintLeave => s.leaveMaint.later (s.maintRecord 0 s.maint.slot)
  | .endLayup =>
    let s1 : State := { s with eave := { s.eave with layup := false } }
    if s1.isActive then s1.orderAll 16#5 else s1
  | .counterPreset i v =>
    { s with peg := { s.peg with counters := smod Counter.zero s.peg.counters i (fun c => { c with value := v }) } }
  | .workerCmd op r => s.carryPegged op r
  | .disagree line on => s.disagreePegged line on
  | .refillBucket code => { s with recorder := { s.recorder with buckets := sset Bucket.full s.recorder.buckets code Bucket.full } }
  | _ => s

/-- The ledger entries of the seals that the batch breaks: the number written for each seal entry (R149, R315). -/
def State.pegLedger (s : State) (l : List Effect) : List (Nat × Nat) × State :=
  l.foldl (fun (a : List (Nat × Nat) × State) e =>
    match e with
    | .ledger kind breaker n =>
      let (no, s1) := a.2.ledgerBreak kind breaker n (sget Seal.none a.2.peg.seals n)
      (a.1 ++ [(n, no)], s1)
    | _ => a) ([], s)

/-- A unit that hands over gives its own waiting items to the new active; those of its twin wait there (R130). -/
def State.passItems (s : State) : State :=
  State.forwardWaiting { s with admitted := (s.admitted.filter BatchItem.own).map (fun i => { i with forwarded := false }) }

/-! ### Release (R17, R18, R132, R170, R223, R399, R400) -/

/-- The event of a seal: what stands after the peg (Table SEC-14). -/
def sealEventData (s : State) (ledger : List (Nat × Nat)) (d : List Byte) : List Byte :=
  let n := leAt d 2 2
  let no := if byteAt d 0 = 2 then (ledger.find? (fun e => e.1 == n)).elim 0 Prod.snd else 0
  d.take 8 ++ toLe 2 (brokenSeals s.peg.seals) ++ toLe 2 s.peg.seals.length ++ toLe 4 no

/-- An event of the batch or of the engine. -/
def State.releaseEvent (ledger : List (Nat × Nat)) (s : State) (e : Event) : State :=
  s.raise e.kind e.object (if e.kind = 7 then sealEventData s ledger e.data else e.data)

/-- A DI_CHANGE event of a worker's input, from an edge entry of its DATA cell (R364). -/
def State.workerEdgeEvent (s : State) (x : Nat × List Byte) : State :=
  let (n, b) := x
  let f := byteAt b 0
  let i := f % 32
  if ¬ (sget (factory cDIN i 0x13) s.peg.cfg (workerKey n cDIN i 0x13)).testBit 0 then s
  else
    s.raise 4 (oid n cDIN i 0)
      (toLe 1 (b2n (f.testBit 7)) ++ toLe 1 (b2n (f.testBit 5) + 2 * b2n (f.testBit 6)) ++ slice b 1 5 ++ [0]
        ++ toLe 4 (s.stampAt (BitVec.ofNat 40 (leAt b 1 5))).1)

/-- LOG events for the causes since the previous peg (R314). -/
def State.raiseLog (s : State) (causes : List (Nat × Nat)) : State :=
  causes.foldl (fun (s : State) c =>
    s.raise 9 (0x03000000#32) (toLe 1 c.1 ++ [0] ++ toLe 2 c.2 ++ toLe 4 s.recorder.dropped ++ toLe 4 (s.recorder.seqNext - 1))) s

/-- Class-P commands refused before the batch are answered as if their item had been in it (R159). -/
def State.answerRefused (s : State) : State :=
  let due (a : PegReply) : Bool := a.frame != s.clk.frameNo
  let s1 := (s.refusedP.filter due).foldl State.pegReply s
  { s1 with refusedP := s1.refusedP.filter (fun a => !due a) }

/-- Stations whose CALL or DEADMAN changed, or all enabled ones when CALLOUT_STATE changed (R400). -/
def State.stationsToTell (s : State) (old : Engine) (told : List Nat) : List Nat :=
  let e := s.peg.engine
  (List.range 16).filter (fun n =>
    let a := sget StationSt.idle old.stations n
    let b := sget StationSt.idle e.stations n
    old.callout != e.callout || told.contains n || a.callCode != b.callCode || a.dmCode != b.dmCode)

/-- Release order 2: call-out messages to the stations, and bridge sentences; a driver starts with the first pegged frame of an active
unit (R17, R292, R387, R400). -/
def State.releaseCalls (s : State) (old : Engine) (p : Prov) : State :=
  let on (s : State) (line : DriverLine) (u : Uart) : State :=
    if s.mayTalk ∧ s.uartOn u ∧ (s.waitOf line).isNone then s.enableDriver line else s
  let s1 := on s .u1 .u1
  let s2 := if s1.panelMode then on s1 .u2 .u2 else s1
  ((s2.stationsToTell old p.stationChanged).foldl State.sendStation s2).releaseSentences p.sentences

/-- Release order 3: CAN state broadcasts (R399); POINT_CHANGE goes before SYS_STATE (notes/assumptions/123.md). -/
def State.releaseCan (s : State) (old : Engine) (pairWas : Nat) (p : Prov) : State :=
  let e := s.peg.engine
  let s1 := s.sendPointChange p.changed
  if old.horn ≠ e.horn ∨ old.callout ≠ e.callout ∨ pairWas ≠ s1.pair.state then s1.sendSysState else s1

/-- Release order 4: records, with the edges of the frame, the backup events and what happened outside the frame (R17, R223,
R262, R300). -/
def State.releaseFrame (s : State) (p : Prov) : State :=
  let edges := (s.ripeEdges.filter (s.routed 1)).map s.edgeRecord
  let all := p.records ++ edges ++ s.evtOccurrences ++ s.recorder.waiting.map (fun o => o.restamp (s.frameStamp s.clk.frameNo))
  (State.releaseRecords { s with recorder := { s.recorder with waiting := [] } } all).evtRecorded

/-- The events of the peg, after the shadow queues (R132). -/
def State.releaseEvents (s : State) (ledger causes : List (Nat × Nat)) (p : Prov) : State :=
  let s1 := p.events.foldl (State.releaseEvent ledger) s
  let s2 := (s1.ripeEdges.filter (s1.routed 0)).foldl State.edgeEvent s1
  let s3 := (s2.ring.edges.foldl State.workerEdgeEvent s2).raiseLog causes
  { s3 with fio := { s3.fio with ripe := [], ripeNew := 0 }, ring := { s3.ring with edges := [] } }

/-! ### Lay-up rounds (R265) -/

/-- The round is over at this pegged frame: nothing calls, nothing waits, nobody is connected. -/
def State.roundOver (s : State) : Bool :=
  s.isActive && s.inRound && decide (s.cfg cCLOCK 0 0x34 * Config.ticksPerSecond ≤ s.sinceRelease - s.rst.readyTicks)
    && s.peg.engine.points.all (fun p => !(p.2.active && p.2.unack)) && s.peg.engine.callout == 0 && s.stage.isNone
    && s.comm.sessions.all (fun x => x.num == 0) && s.rst.layingUp.isNone
    && !(s.batch ++ s.admitted).any (fun i => i.body == .internal 3 0 0 0)

def State.endRound (s : State) : State := if s.roundOver then s.submit (.internal 3 0 0 0) else s

/-! ### A pegged frame -/

/-- The pegged data in force, and what hangs on its change: counts, NV, AFE, inputs, CAN. -/
def State.takePegged (s : State) (p : Prov) : State :=
  let old := s.peg
  let new := (s.under p).countAll
  let s1 : State :=
    { s with
      peg := new, rst := { s.rst with firstPeg := true }, recorder := { s.recorder with lossClear := s.recorder.lossClear + 1 },
      cfgDirty := if old.copy = new.copy then s.cfgDirty else some (s.cfgDirty.getD s.clk.batten),
      pair := { s.pair with lastPegFrame := s.clk.frameNo, lastDigest := p.digest } }
  s1.reconfigured old.cfg

/-- The batch is done with; a standby's forwarded items have been answered with it (R130). -/
def State.closeBatch (s : State) : State :=
  let pegged (i : BatchItem) : Bool := s.batch.any (fun b => BatchItem.bytes b == BatchItem.bytes i)
  { s with prov := none, batch := [], admitted := if s.isStandby then s.admitted.filter (fun i => !pegged i) else s.admitted }

/-- The frame is pegged: everything that it changes, then its releases in the order of R17. -/
def State.commit (s0 : State) (p : Prov) : State :=
  let old := s0.peg
  let causes := s0.recorder.logCauses
  let s1 := ({ s0 with recorder := { s0.recorder with logCauses := [] } }.closeBatch.takePegged p).openRecorder
  let (ledger, s2) := s1.pegLedger p.effects
  let s3 := p.effects.foldl State.pegEffect (s2.pegRing.pegExpel)
  let s4 := (if s0.isActive ∧ ¬ s3.isActive then s3.passItems else s3).markE s0
  let s5 := s4.loadClaim true
  let s6 := ((s5.releaseCalls old.engine p).releaseCan old.engine s0.pair.state p).releaseFrame p
  let s7 := s6.releaseEvents ledger causes p
  let s8 := (p.replies.foldl State.pegReply s7).answerRefused
  let s9 := if s8.pair.state = 2 then s8.compareLines else s8
  (s9.sendResync old).endRound

/-! ### The counters of Table TWN-5, the referee's start and the twin's loss -/

def PairSt.matched (p : PairSt) : PairSt := { p with consecMis := 0, consecMiss := 0 }
def PairSt.mismatch (p : PairSt) : PairSt := { p with mismatches := inc32 p.mismatches, consecMis := p.consecMis + 1, consecMiss := 0 }
def PairSt.miss (p : PairSt) : PairSt := { p with missed := inc32 p.missed, consecMiss := p.consecMiss + 1 }
def PairSt.missAndDisagree (p : PairSt) : PairSt := { p with consecMiss := p.consecMiss + 1, consecMis := p.consecMis + 1 }
def PairSt.lanesDisagree (p : PairSt) : PairSt := { p with mismatches := inc32 p.mismatches, consecMis := p.consecMis + 1 }

def State.modPair (s : State) (f : PairSt → PairSt) : State := { s with pair := f s.pair }

/-- Three consecutive mismatches start the referee, unless one runs (R337, R339). -/
def State.maybeReferee (s : State) : State :=
  if s.pair.consecMis < 3 ∨ s.pair.refStart.isSome then s
  else (s.modPair (fun p => { p with refStart := some s.clk.frameNo, refOwn := none })).tellPair 6 s.pair.state

/-- Three consecutive misses make the twin lost; a leading unit then runs solo (R337). -/
def State.maybeLost (s : State) : State :=
  if s.pair.consecMiss < 3 ∨ s.pair.twinLost then s
  else
    let lone := s.isActive
    (s.modPair (fun p => { p with
      twinLost := true, state := if lone then 0 else p.state, twinState := if lone then 0 else p.twinState })).tellPair 11 s.pair.state

/-- The redundancy-loss point at a peg (R337, R347, R352): the leading unit sets its twin's bit; a standby follows with the same
facts. -/
def State.pegRedundancy (s : State) : State :=
  let own := b2n s.unitB
  if s.isActive then (s.pegFact 0x800 own false).pegFact 0x800 s.twinBit s.redundancyLost
  else (s.pegFact 0x800 own (s.pair.state != 2)).pegFact 0x800 s.twinBit s.pair.twinLost

/-- Peg the frame's provisional result. -/
def State.pegNow (s : State) : State :=
  let s1 := s.pegRedundancy
  match s1.prov with
  | some p => s1.commit p
  | none => s1.unpeg

/-- Peg on own lanes, or leave the frame unpegged (Table TWN-5, last row). -/
def State.pegOwnLanes (s : State) (p : Prov) : State :=
  if p.lanesAgree then (s.modPair (fun x => { x with consecMis := 0 })).pegNow
  else (s.modPair PairSt.lanesDisagree).maybeReferee.unpeg

/-! ### Takeover (R342, R343, R349) -/

/-- The twin's claim is absent from the own die, or lower in health than what this unit claims. -/
def State.claimYields (s : State) : Bool := !s.twinClaimLive || decide (claimHealth s.fio.twinClaim < s.claimedHealth)

/-- The conditions of R342. -/
def State.takesOver (s : State) : Bool :=
  s.pair.twinLost && s.claimYields && (s.pair.state == 2 || s.pair.state == 3) && !s.pair.detached

/-- The new active's role from frame m on (R342). -/
def State.lead (s : State) (cause : Nat) (takeover : Bool) (twin : Nat) : State :=
  let old := s.pair.state
  let m := s.clk.frameNo + 1
  let s1 := s.raiseEpoch.modPair (fun p => { p with
    state := 0, twinState := twin, leads := true, lastRoleFrame := m, resyncStep := 0, resyncAttempts := 0,
    takeovers := if takeover then inc32 p.takeovers else p.takeovers })
  let s2 : State := { s1 with hw := { s1.hw with waitRelease1 := some m, waitRelease2 := some m } }
  (if takeover then s2.afeTakeover m else s2.afeHandover m).tellRole cause old

/-- Every force ends, in the frame under evaluation too (R182). -/
def State.endForces (s : State) : State :=
  let free (p : Prov) : Prov :=
    let q := p.engine (fun e => { e with forces := [] })
    q.engine (fun e => { e with outputs := q.outputs s })
  { s with peg := { s.peg with engine := { s.peg.engine with forces := [] } }, prov := s.prov.map free }

/-- A takeover; the twin whose claim is gone has been reset, which ends every force (R182, notes/assumptions/124.md); a unit that has not evaluated the frame evaluates it from the state that it holds (R342, R349). -/
def State.takeOver (s : State) : State :=
  let s0 := if s.twinClaimLive then s else s.endForces
  let s1 := s0.lead (if s.twinClaimLive then 5 else 4) true 0
  match s.provDue with
  | some _ => s1.pegNow
  | none => { s1 with prov := some (s1.evaluateFrame true) }.pegNow

/-! ### The referee's outcome (Table TWN-7) -/

/-- CONTROL code 1: a reset request to the twin (R84, R340). -/
def State.requestReset (s : State) : State := (s.sendControl 1 0).tellRole 13 s.pair.state

/-- The run ends on this unit: S and the result change (R329, R338). -/
def State.endReferee (s : State) : State :=
  let s1 := s.refereeConcludes (s.pair.refOwn.getD false)
  (s1.modPair (fun p => { p with refStart := none, consecMis := 0 })).tellRole 7 s1.pair.state

/-- Table TWN-7 on the active unit: its own result, and the twin's. -/
def State.refereeAtActive (s : State) (p : Prov) (own twin : Bool) : State :=
  let solo (s : State) : State := s.modPair (fun x => { x with state := 0, twinState := 4, resyncStep := 0 })
  if own ∧ twin then (solo s).pegOwnLanes p
  else if own then (solo s).requestReset.pegOwnLanes p
  else if ¬ twin then (solo s).pegOwnLanes p
  else
    let m := s.clk.frameNo + 1
    let s1 := s.modPair (fun x => { x with
      state := 4, suspectHard := false, leads := false, twinState := 0, lastRoleFrame := m, resyncStep := 0 })
    ((s1.afeHandover m).stopDrivers.tellRole 3 s.pair.state).claimOnly

/-- Table TWN-7 on the standby. -/
def State.refereeAtStandby (s : State) (p : Prov) (own twin : Bool) : State :=
  if own ∧ ¬ twin then (s.lead 3 false 4).requestReset.pegOwnLanes p
  else (s.becomeSuspect own).claimOnly

/-! ### The decision of each pair state (R336, Table TWN-5) -/

/-- A pair of synchronised units: the table's first four rows. -/
def State.pegSynced (s : State) (p : Prov) (d : Option DigestMsg) : State :=
  match d with
  | some d =>
    if d.digest = p.digest ∧ d.lanes ∧ p.lanesAgree then (s.modPair PairSt.matched).pegNow
    else (s.modPair PairSt.mismatch).maybeReferee.unpeg
  | none =>
    if p.lanesAgree then (s.modPair PairSt.miss).maybeLost.pegNow
    else (s.modPair PairSt.missAndDisagree).maybeReferee.maybeLost.unpeg

/-- The active compares the digests of a standby that resynchronises (R336, R350, Table TWN-8). -/
def State.watchResync (s : State) (p : Prov) (d : Option DigestMsg) : State :=
  if ¬ s.ridge.trained then
    (s.modPair (fun x => { x with state := 0, twinState := 0, twinLost := true, resyncStep := 0 })).tellPair 11 s.pair.state
  else if s.pair.resyncStep ≠ 4 then s
  else
    match d with
    | none => if s.pair.resyncOk = 0 then s else s.resyncFailed
    | some d =>
      if d.digest ≠ p.digest ∨ ¬ d.lanes ∨ ¬ p.lanesAgree ∨ d.unmirrored then s.resyncFailed
      else if s.pair.resyncOk < 2 then s.modPair (fun x => { x with resyncOk := x.resyncOk + 1 })
      else
        (s.modPair (fun x => { x with
          twinState := 2, resyncStep := 0, resyncOk := 0, resyncAttempts := 0, consecMis := 0, consecMiss := 0,
          unmirroredSince := false })).tellPair 9 s.pair.state

/-- The peg decision of an active or solo manager. -/
def State.decideActive (s : State) (p : Prov) (d : Option DigestMsg) : State :=
  if s.pair.state = 1 ∧ s.pair.twinState = 2 then
    match d with
    | some x =>
      if x.unmirrored then
        (s.modPair (fun y => { y with twinState := 3, resyncStep := 2, resyncOk := 0, consecMiss := 0 })).pegOwnLanes p
      else s.pegSynced p d
    | none => s.pegSynced p none
  else if s.pair.state = 1 ∧ s.pair.twinState = 3 then (s.watchResync p d).pegOwnLanes p
  else s.pegOwnLanes p

/-- A synchronised standby (R334, R336, R342, R343). -/
def State.decideStandby (s : State) (p : Prov) (d : Option DigestMsg) : State :=
  match d with
  | some _ =>
    let s1 := s.modPair (fun x => { x with twinLost := false })
    if s1.pair.unmirroredSince then
      ((s1.modPair (fun x => { x with pairStep := 0, pairOffers := 0, consecMiss := 0 })).startResync).claimOnly
    else s1.pegSynced p d
  | none =>
    let counted := (if p.lanesAgree then s.modPair PairSt.miss else (s.modPair PairSt.missAndDisagree).maybeReferee).maybeLost
    if counted.takesOver ∧ p.lanesAgree then counted.takeOver
    else
      let s1 := if p.lanesAgree then counted.pegNow else counted.unpeg
      if counted.pair.consecMiss < 6 then s1 else s1.modPair (fun x => { x with state := 3, resyncStep := 0, resyncOk := 0 })

/-- A standby that resynchronises (R347-R350, Table TWN-8; what counts as a failed attempt, notes/assumptions/126.md). -/
def State.decideResync (s : State) (d : Option DigestMsg) : State :=
  let s1 :=
    match d with
    | some _ => s.modPair (fun x => { x with consecMiss := 0, twinLost := false })
    | none => (s.modPair (fun x => { x with consecMiss := x.consecMiss + 1 })).maybeLost
  if s1.takesOver then s1.takeOver
  else if s1.pair.resyncStep = 0 then
    (if d.isSome then s1.modPair (fun x => { x with pairStep := 0, pairOffers := 0, resyncStep := 2 }) else s1).claimOnly
  else if 4 ≤ s1.pair.resyncStep ∧ s1.pair.unmirrored then s1.resyncFailed.claimOnly
  else
    match s1.provDue, d with
    | some p, some x =>
      if x.digest ≠ p.digest ∨ ¬ x.lanes ∨ ¬ p.lanesAgree then s1.resyncFailed.claimOnly
      else if s1.pair.resyncOk < 2 then (s1.modPair (fun y => { y with resyncOk := y.resyncOk + 1 })).pegNow
      else
        ((s1.modPair (fun y => { y with
          state := 2, resyncStep := 0, resyncOk := 0, resyncAttempts := 0, consecMis := 0, consecMiss := 0,
          unmirroredSince := false })).tellPair 9 s1.pair.state).pegNow
    | some _, none => s1.resyncFailed.claimOnly
    | none, _ => s1.claimOnly

/-- A suspect claims and follows; it notes whether it hears its twin (R341). -/
def State.decideSuspect (s : State) (d : Option DigestMsg) : State :=
  (match d with
    | some _ => s.modPair (fun x => { x with consecMiss := 0, twinLost := false })
    | none => (s.modPair (fun x => { x with consecMiss := x.consecMiss + 1 })).maybeLost).claimOnly

/-- The decision of a manager at READY, in its role. A unit that has not evaluated the frame pegs nothing. -/
def State.decideRole (s : State) (d : Option DigestMsg) : State :=
  if s.pair.state = 3 then s.decideResync d
  else if s.pair.state = 4 then s.decideSuspect d
  else
    match s.provDue with
    | none => s.unpeg
    | some p => if s.isActive then s.decideActive p d else s.decideStandby p d

/-- The decision of a frame; the one that ends a referee run follows Table TWN-7 if the twin's result has come. -/
def State.decideFrame (s : State) : State :=
  let d : Option DigestMsg := s.pair.twinDigest
  if ¬ s.refereeDue then s.decideRole d
  else
    let own := s.pair.refOwn.getD false
    let s1 := s.endReferee
    match s1.provDue, d with
    | some p, some x =>
      if ¬ x.refPresent then s1.decideRole d
      else if s1.isActive then s1.refereeAtActive p own x.refPassed
      else if s1.pair.state = 2 then s1.refereeAtStandby p own x.refPassed
      else s1.decideRole d
    | _, _ => s1.decideRole d

/-- Start step 10: the first claim (Table RST-4). -/
def State.firstClaim (s : State) : State := ({ s with rst := { s.rst with firstClaim := true } }.loadClaim false).answerRefused

/-- PEG_DECISION, tick 112 500, once in a frame (R17, R336). -/
def execPegDecision (s : State) : Host.Outcome State Fault Refusal :=
  .next (if ¬ s.alive ∨ ¬ s.clk.running ∨ s.isWorker ∨ s.pair.decided then s
    else
      let s1 := State.modPair (s.toOffset 112500) (fun p => { p with decided := true })
      if s1.rst.phase = 0x0A then s1.firstClaim
      else if ¬ s1.isReady then s1
      else if s1.pair.detached then s1.answerRefused.flush
      else s1.decideFrame.flush)

end Sys2Proof.Machine
end

