-- ==== Sys2Proof/Machine/Session.lean ====
section
/-! DEFINITION. The SESSION family (R112, R115, R155, R179) and the events of sessions (R113, R125, R133, R157). -/

namespace Sys2Proof.Machine

/-- The next session number: one above the last allotted, skipping open ones, wrapping from 0xFFFE to 1 (R110). -/
def State.nextNum (s : State) : Half :=
  let free (n : Nat) : Bool := !s.comm.sessions.any (fun x => x.num.toNat == n)
  let cand := (List.range 64).map (fun k => (s.comm.lastNum.toNat + k) % 0xFFFE + 1)
  BitVec.ofNat 16 ((cand.find? free).getD 1)

/-- The 96 bytes of a session (R155 step 2). -/
def sessionKeys (k nc nn : List Byte) (num : Half) (role slot : Nat) : List Byte :=
  hkdf k (nc ++ nn) (ascii "ZGN1" ++ toLe 4 Config.serial.toNat ++ toLe 2 num.toNat ++ toLe 1 role ++ toLe 1 slot) 96

/-- PROOF and NODE_PROOF (R155). -/
def proofOf (x : Sess) : List Byte :=
  hmac x.key (ascii "ZGN-P" ++ x.nn ++ x.nc ++ toLe 4 Config.serial.toNat ++ toLe 2 x.num.toNat)
def nodeProofOf (x : Sess) : List Byte :=
  hmac x.key (ascii "ZGN-N" ++ x.nc ++ x.nn ++ toLe 4 Config.serial.toNat ++ toLe 2 x.num.toNat)

/-- Make an opening session of OPEN's parameters: node nonce, keys, number. An empty slot is given a random key, so that
its PROVE fails in the same ticks (R155). -/
def State.openNew (s : State) (r : Req) (role : Role) (slot : Fin 4) : State × List Byte :=
  let nc := slice r.params 2 16
  let (nn, s1) := s.drawBytes 16
  let held := sget Key.empty s.keys (keyIndex role slot)
  let (k, s2) := if held.state = 0 then s1.drawBytes 32 else (held.value, s1)
  let num := s.nextNum
  let ks := sessionKeys k nc nn num (roleNo role) slot.val
  let x : Sess :=
    { num := num, port := r.port, role := role, slot := slot, isOpen := false, nc := nc, nn := nn, key := k,
      kReq := slice ks 0 32, kRep := slice ks 32 32, kEnc := slice ks 64 32, high := 0, window := [], settledAt := none,
      features := 1, eventMask := 0, evtNo := 0, evtQueue := [], coalesced := [], sent := 0, echo := 0, tagFails := 0,
      msgIn := 0, msgOut := 0, openedAt := s.clk.batten + 48, lastSeen := s.clk.batten }
  ({ s2 with comm := { s2.comm with sessions := s2.comm.sessions ++ [x], lastNum := num } }, nn)

def cmdHello : Cmd :=
  { op := 0x0100, access := rRight cDEVICE 6, sealed := noSeal, priv := noSeal, check := fun _ _ r => need (lenIs 0 r),
    run := fun s t _ => s.answerF t .done (s.helloParams t.req.port) 13 }

/-- HELLO (R115, Table PKT-4). -/
def execHello (r : Req) (s : State) : Host.Outcome State Fault Refusal := .next (s.execute cmdHello r)

/-- The accepted word: requested AND offered, BASE set; on CAN, LONG_PARAMS needs CAN_SEGMENTS (R115, R116). -/
def acceptedWord (p : Port) (asked : BitVec 128) : BitVec 128 :=
  let a := (asked &&& offeredWord) ||| 1
  if (p = .can0 ∨ p = .can1) ∧ ¬ a.getLsbD fCANSEG then a &&& ~~~(8#128) else a

/-- Negotiate the features of a session (R115). The event mask is accepted as asked, bits of kinds that Table PKT-7 does not
define among them (notes/assumptions/116.md). -/
def State.negotiate (s : State) (t : Tag) : State :=
  let a := acceptedWord t.req.port (BitVec.ofNat 128 (leAt t.req.params 0 16))
  let m : Word := if a.getLsbD fEVENT then BitVec.ofNat 32 (leAt t.req.params 16 4) else 0
  let s1 := s.modSess t.req.port t.req.session (fun x => { x with features := a, eventMask := m, settledAt := some t.req.seq })
  s1.answerF t .done (toLe 16 a.toNat ++ toLe 4 m.toNat) 16

def cmdFeatures : Cmd :=
  { op := 0x0101, access := rRight cDEVICE 6, sealed := noSeal, priv := noSeal,
    check := fun s _ r =>
      if ¬ lenIs 20 r then some .badParam
      else
        match s.sess? r.port r.session with
        | none => some .badState
        | some x =>
          if r.session = 0 then some .badState
          else
            match x.settledAt with
            | some q => if q.toNat < r.seq.toNat then some .badState else none
            | none => none
    run := fun s t _ => s.negotiate t }

/-- FEATURES (R115): BAD_STATE once another command but HELLO, PING and PROVE has come before it in the session's sequence; in
session 0, which takes none, BAD_STATE too (R111 names no status, notes/assumptions/117.md). -/
def execFeatures (r : Req) (s : State) : Host.Outcome State Fault Refusal := .next (s.execute cmdFeatures r)

/-- OPEN's effect: BUSY_RETRY 1000 at 32 sessions, else an opening session and its nonce (R112, R155). -/
def State.runOpen (s : State) (t : Tag) : State :=
  if 32 ≤ s.sessionsOpen then s.answerF t .busyRetry (toLe 2 1000) 48
  else
    match roleOf (byteAt t.req.params 0) with
    | none => s.answerF t .badParam [] 48
    | some role =>
      let (s1, nn) := s.openNew t.req role (Fin.ofNat 4 (byteAt t.req.params 1))
      s1.answerF t .done nn 48

def cmdOpen : Cmd :=
  { op := 0x0102, access := rRight cDEVICE 6, sealed := noSeal, priv := noSeal,
    check := fun _ _ r =>
      if r.session ≠ 0 then some .badState
      else need (lenIs 18 r && decide (byteAt r.params 0 ≤ 5 ∧ byteAt r.params 1 ≤ 3))
    run := fun s t _ => s.runOpen t }

/-- OPEN (R112, R155). -/
def execOpenSession (r : Req) (s : State) : Host.Outcome State Fault Refusal := .next (s.execute cmdOpen r)

/-- A good PROVE: the session is open, its slot's failures and lock time start again (R112, R157). -/
def State.provePass (s : State) (t : Tag) (x : Sess) : State :=
  let k := s.lockOf x.port (keyIndex x.role x.slot)
  let s1 := (s.setLock { k with fails := 0, lockS := 60 }).modSess x.port x.num (fun y => { y with isOpen := true })
  s1.answerF t .done (nodeProofOf x ++ toLe 4 s.peg.gen.toNat
    ++ toLe 1 (sget Key.empty s.keys (keyIndex x.role x.slot)).state) 180

/-- A failed PROVE: answered AUTH_FAIL, counted unless the slot is locked, the session closed (R112, R157). -/
def State.proveFail (s : State) (t : Tag) (x : Sess) : State :=
  let s0 : State := { s with comm := { s.comm with authFails := inc32 s.comm.authFails } }
  ((s0.answerF t .authFail [] 180).proveFailed x).closeSession x.port x.num

/-- PROVE's effect (R155 steps 4 and 5). -/
def State.runProve (s : State) (t : Tag) : State :=
  match s.sess? t.req.port t.req.session with
  | none => s
  | some x =>
    if ¬ (s.lockOf x.port (keyIndex x.role x.slot)).locked ∧ t.req.params = proofOf x
        ∧ (sget Key.empty s.keys (keyIndex x.role x.slot)).state ≠ 0 then s.provePass t x
    else s.proveFail t x

def cmdProve : Cmd :=
  { op := 0x0103, access := rRight cDEVICE 6, sealed := noSeal, priv := noSeal,
    check := fun s _ r =>
      match s.sess? r.port r.session with
      | none => some .badState
      | some x => if x.isOpen then some .badState else need (lenIs 32 r)
    run := fun s t _ => s.runProve t }

/-- PROVE (R155, R157). One of a wrong length is BAD_PARAM by step 4 of R143 and no failed proof: the session stays opening
(notes/assumptions/118.md). -/
def execProve (r : Req) (s : State) : Host.Outcome State Fault Refusal := .next (s.execute cmdProve r)

def cmdClose : Cmd :=
  { op := 0x0104, access := rRight cDEVICE 6, sealed := noSeal, priv := noSeal,
    check := fun _ _ r => if r.session = 0 then some .badState else need (lenIs 0 r)
    run := fun s t _ => s.answerF t .done [] 13 }

/-- CLOSE: the session is closed once the reply has left (R112). -/
def execClose (r : Req) (s : State) : Host.Outcome State Fault Refusal := .next (s.execute cmdClose r)

def cmdPing : Cmd :=
  { op := 0x0105, access := rRight cDEVICE 6, sealed := noSeal, priv := noSeal, check := fun _ _ r => need (lenIs 0 r),
    run := fun s t _ => s.answerF t .done s.pingParams 13 }

/-- PING (R95). -/
def execPing (r : Req) (s : State) : Host.Outcome State Fault Refusal := .next (s.execute cmdPing r)

/-! ### Events of sessions -/

/-- A session by its number alone. -/
def State.sessNum (s : State) (num : Half) : Option Sess := s.comm.sessions.find? (fun x => x.num == num)

/-- SESSION_IDLE_TIMEOUT: no command in flight and no packet for SESSION_IDLE_S closes the session without reply (R113). -/
def execSessionIdleTimeout (session : Half) (s : State) : Host.Outcome State Fault Refusal :=
  .next (match s.sessNum session with
    | none => s
    | some x =>
      if x.isOpen ∧ x.num ≠ 0 ∧ s.inFlight x.port x.num = 0 ∧ s.dev 0x50 * Config.ticksPerSecond ≤ since s.clk.batten x.lastSeen then
        s.closeSession x.port x.num
      else s)

/-- PROVE_TIMEOUT: an opening session is closed 1 s after its OPEN reply (R112). -/
def execProveTimeout (session : Half) (s : State) : Host.Outcome State Fault Refusal :=
  .next (match s.sessNum session with
    | none => s
    | some x =>
      if ¬ x.isOpen ∧ x.num ≠ 0 ∧ s.clockReached (x.openedAt + BitVec.ofNat 40 Config.ticksPerSecond) then s.closeSession x.port x.num
      else s)

/-- KEY_LOCK_EXPIRY: the lock ends, the failures start again from 0, and the next lock lasts twice as long, up to 3600 s
(R157). -/
def execKeyLockExpiry (port : Port) (key : Fin 24) (s : State) : Host.Outcome State Fault Refusal :=
  let k := s.lockOf port key.val
  .next (if k.locked ∧ since s.clk.batten k.endsAt < 2 ^ 39 then
      s.setLock { k with locked := false, fails := 0, lockS := min 3600 (2 * k.lockS) }
    else s)

/-- EVENT_CREDIT_RELEASE: a request's CREDIT_ECHO frees credit; waiting events leave (R133). -/
def execEventCreditRelease (session : Half) (echo : Word) (s : State) : Host.Outcome State Fault Refusal :=
  .next (match s.sessNum session with
    | none => s
    | some x => (s.modSess x.port x.num (fun y => { y with echo := echo })).drain x.port x.num)

/-- The kept reply of a SEQ is the one sent: its EXEC and EXACT as they leave (R121, R123). -/
def State.keepAsSent (s : State) (p : Port) (k : Packet) : State :=
  s.modSess p k.session (fun x => { x with window := x.window.map (fun e =>
    if e.seq = k.seq then { e with cached := e.cached.map (fun c => { c with exec := k.exec, exact := k.exact }) } else e) })

/-- Release the held reply of a port's session with the lowest SEQ, unless an earlier one is still to come. EXEC counts the wait
and is never below the count of its own path; EXACT is 0 (R74, R125, R126). -/
def State.releaseOne (s : State) (port : Port) (session : Half) : State :=
  let mine := s.comm.held.filter (fun h => h.port == port && h.packet.session == session)
  let low := mine.foldl (fun m h => min m h.packet.seq.toNat) 0xFFFFFFFF
  match mine.find? (fun h => h.packet.seq.toNat == low) with
  | none => s
  | some h =>
    if s.comm.tags.any (fun u => u.req.port == h.port && u.req.session == session && !u.dup && !u.answered
        && decide (u.req.seq.toNat < low)) then s
    else
      let s1 : State := { s with comm := { s.comm with held := s.comm.held.erase h } }
      let k : Packet := { h.packet with exec := max h.packet.exec (satExec (since s.clk.batten h.admitAt)), exact := false }
      (s1.keepAsSent h.port k).enqueue h.port k

/-- The ports on which sessions stand (R110). -/
def partnerPorts : List Port := [.host, .u0, .u2, .can0, .can1]

/-- REPLY_RELEASE: the replies of a session that SEQ order held back leave in order; each port has a session 0 of its own
(R111, R125). -/
def execReplyRelease (session : Half) (s : State) : Host.Outcome State Fault Refusal :=
  .next (partnerPorts.foldl (fun s p => (List.range 64).foldl (fun s _ => s.releaseOne p session) s) s)

end Sys2Proof.Machine
end

