-- ==== Sys2Proof/Machine/Dispatch.lean ====
section
/-! DEFINITION. One arm for each command. -/

namespace Sys2Proof.Machine

/-- What a command does to everything but the queue. -/
def exec (i : Instr) (s : State) : Host.Outcome State Fault Refusal :=
  match i with
  | .hello r => Sys2Proof.Machine.execHello r s
  | .features r => Sys2Proof.Machine.execFeatures r s
  | .openSession r => Sys2Proof.Machine.execOpenSession r s
  | .prove r => Sys2Proof.Machine.execProve r s
  | .close r => Sys2Proof.Machine.execClose r s
  | .ping r => Sys2Proof.Machine.execPing r s
  | .getAttr r => Sys2Proof.Machine.execGetAttr r s
  | .setAttr r => Sys2Proof.Machine.execSetAttr r s
  | .getRange r => Sys2Proof.Machine.execGetRange r s
  | .stageBegin r => Sys2Proof.Machine.execStageBegin r s
  | .stageCommit r => Sys2Proof.Machine.execStageCommit r s
  | .stageDrop r => Sys2Proof.Machine.execStageDrop r s
  | .calZero r => Sys2Proof.Machine.execCalZero r s
  | .calSpan r => Sys2Proof.Machine.execCalSpan r s
  | .calRead r => Sys2Proof.Machine.execCalRead r s
  | .outputForce r => Sys2Proof.Machine.execOutputForce r s
  | .outputRelease r => Sys2Proof.Machine.execOutputRelease r s
  | .ack r => Sys2Proof.Machine.execAck r s
  | .silence r => Sys2Proof.Machine.execSilence r s
  | .shelve r => Sys2Proof.Machine.execShelve r s
  | .unshelve r => Sys2Proof.Machine.execUnshelve r s
  | .dutySelect r => Sys2Proof.Machine.execDutySelect r s
  | .callAccept r => Sys2Proof.Machine.execCallAccept r s
  | .deadmanResetRestart r => Sys2Proof.Machine.execDeadmanResetRestart r s
  | .deadmanResetStart r => Sys2Proof.Machine.execDeadmanResetStart r s
  | .deadmanResetStop r => Sys2Proof.Machine.execDeadmanResetStop r s
  | .alarmList r => Sys2Proof.Machine.execAlarmList r s
  | .timeSet r => Sys2Proof.Machine.execTimeSet r s
  | .timeShift r => Sys2Proof.Machine.execTimeShift r s
  | .hourAdd r => Sys2Proof.Machine.execHourAdd r s
  | .hourSub r => Sys2Proof.Machine.execHourSub r s
  | .weekdaySet r => Sys2Proof.Machine.execWeekdaySet r s
  | .chargerSet r => Sys2Proof.Machine.execChargerSet r s
  | .wakeSet r => Sys2Proof.Machine.execWakeSet r s
  | .backupEventsRead r => Sys2Proof.Machine.execBackupEventsRead r s
  | .logRead r => Sys2Proof.Machine.execLogRead r s
  | .logMark r => Sys2Proof.Machine.execLogMark r s
  | .logPolicy r => Sys2Proof.Machine.execLogPolicy r s
  | .gutterRead r => Sys2Proof.Machine.execGutterRead r s
  | .gutterSave r => Sys2Proof.Machine.execGutterSave r s
  | .pairBind r => Sys2Proof.Machine.execPairBind r s
  | .pairUnbind r => Sys2Proof.Machine.execPairUnbind r s
  | .swapNow r => Sys2Proof.Machine.execSwapNow r s
  | .swapPolicy r => Sys2Proof.Machine.execSwapPolicy r s
  | .yieldRole r => Sys2Proof.Machine.execYieldRole r s
  | .pairStatus r => Sys2Proof.Machine.execPairStatus r s
  | .ringScan r => Sys2Proof.Machine.execRingScan r s
  | .ringAdmit r => Sys2Proof.Machine.execRingAdmit r s
  | .ringExpel r => Sys2Proof.Machine.execRingExpel r s
  | .ringStatus r => Sys2Proof.Machine.execRingStatus r s
  | .matrixRead r => Sys2Proof.Machine.execMatrixRead r s
  | .matrixWrite r => Sys2Proof.Machine.execMatrixWrite r s
  | .seal r => Sys2Proof.Machine.execSeal r s
  | .unsealRelease r => Sys2Proof.Machine.execUnsealRelease r s
  | .unsealBreak r => Sys2Proof.Machine.execUnsealBreak r s
  | .keyLoad r => Sys2Proof.Machine.execKeyLoad r s
  | .keyRetire r => Sys2Proof.Machine.execKeyRetire r s
  | .attest r => Sys2Proof.Machine.execAttest r s
  | .consentIssue r => Sys2Proof.Machine.execConsentIssue r s
  | .consentEnter r => Sys2Proof.Machine.execConsentEnter r s
  | .consentLeave r => Sys2Proof.Machine.execConsentLeave r s
  | .debugUnlock r => Sys2Proof.Machine.execDebugUnlock r s
  | .imageBegin r => Sys2Proof.Machine.execImageBegin r s
  | .imageBlock r => Sys2Proof.Machine.execImageBlock r s
  | .imageVerify r => Sys2Proof.Machine.execImageVerify r s
  | .imageActivate r => Sys2Proof.Machine.execImageActivate r s
  | .blockResetGraceful r => Sys2Proof.Machine.execBlockResetGraceful r s
  | .blockResetImmediate r => Sys2Proof.Machine.execBlockResetImmediate r s
  | .selftest r => Sys2Proof.Machine.execSelftest r s
  | .islandRate r => Sys2Proof.Machine.execIslandRate r s
  | .domainSetOff r => Sys2Proof.Machine.execDomainSetOff r s
  | .domainSetOn r => Sys2Proof.Machine.execDomainSetOn r s
  | .domainSetLaidUp r => Sys2Proof.Machine.execDomainSetLaidUp r s
  | .agingRead r => Sys2Proof.Machine.execAgingRead r s
  | .resetCountersRead r => Sys2Proof.Machine.execResetCountersRead r s
  | .nodeResetWarm r => Sys2Proof.Machine.execNodeResetWarm r s
  | .nodeResetPowerOn r => Sys2Proof.Machine.execNodeResetPowerOn r s
  | .writePacket bytes => Sys2Proof.Machine.execWritePacket bytes s
  | .readPacket clocked => Sys2Proof.Machine.execReadPacket clocked s
  | .readReg addr words => Sys2Proof.Machine.execReadReg addr words s
  | .writeReg addr words => Sys2Proof.Machine.execWriteReg addr words s
  | .portIrqClear value => Sys2Proof.Machine.execPortIrqClear value s
  | .portIrqMaskWrite value => Sys2Proof.Machine.execPortIrqMaskWrite value s
  | .portCfgWrite value => Sys2Proof.Machine.execPortCfgWrite value s
  | .hostBadCommand cmd => Sys2Proof.Machine.execHostBadCommand cmd s
  | .uartCharReceived u c lineError => Sys2Proof.Machine.execUartCharReceived u c lineError s
  | .uartIdleHandoff u => Sys2Proof.Machine.execUartIdleHandoff u s
  | .uartFrameReceived u frame => Sys2Proof.Machine.execUartFrameReceived u frame s
  | .ctsChange u high => Sys2Proof.Machine.execCtsChange u high s
  | .acnReceived text => Sys2Proof.Machine.execAcnReceived text s
  | .zdaReceived text => Sys2Proof.Machine.execZdaReceived text s
  | .otherSentenceReceived text => Sys2Proof.Machine.execOtherSentenceReceived text s
  | .canFrameReceived c ident => Sys2Proof.Machine.execCanFrameReceived c ident s
  | .turwaSegmentReceived c ident payload => Sys2Proof.Machine.execTurwaSegmentReceived c ident payload s
  | .canTrainTimeout c src train => Sys2Proof.Machine.execCanTrainTimeout c src train s
  | .timeLabelReceived c payload => Sys2Proof.Machine.execTimeLabelReceived c payload s
  | .lone c => Sys2Proof.Machine.execLone c s
  | .loneRetry c => Sys2Proof.Machine.execLoneRetry c s
  | .busOffRecovery c => Sys2Proof.Machine.execBusOffRecovery c s
  | .protocolException c => Sys2Proof.Machine.execProtocolException c s
  | .jtagTrst high => Sys2Proof.Machine.execJtagTrst high s
  | .jtagInstructionUpdate code => Sys2Proof.Machine.execJtagInstructionUpdate code s
  | .sessionIdleTimeout session => Sys2Proof.Machine.execSessionIdleTimeout session s
  | .proveTimeout session => Sys2Proof.Machine.execProveTimeout session s
  | .keyLockExpiry port key => Sys2Proof.Machine.execKeyLockExpiry port key s
  | .eventCreditRelease session echo => Sys2Proof.Machine.execEventCreditRelease session echo s
  | .replyRelease session => Sys2Proof.Machine.execReplyRelease session s
  | .powerOn => Sys2Proof.Machine.execPowerOn s
  | .supplyBrownout rail => Sys2Proof.Machine.execSupplyBrownout rail s
  | .eaveSupplyChangeover toVback => Sys2Proof.Machine.execEaveSupplyChangeover toVback s
  | .eaveSupplyLost => Sys2Proof.Machine.execEaveSupplyLost s
  | .vafeLost => Sys2Proof.Machine.execVafeLost s
  | .vafeReturn => Sys2Proof.Machine.execVafeReturn s
  | .vfldLost => Sys2Proof.Machine.execVfldLost s
  | .vfldPowerUp => Sys2Proof.Machine.execVfldPowerUp s
  | .referenceLoss => Sys2Proof.Machine.execReferenceLoss s
  | .referenceReturn => Sys2Proof.Machine.execReferenceReturn s
  | .resetNAssert => Sys2Proof.Machine.execResetNAssert s
  | .stuckReset => Sys2Proof.Machine.execStuckReset s
  | .resetNRearm => Sys2Proof.Machine.execResetNRearm s
  | .wdogCmd => Sys2Proof.Machine.execWdogCmd s
  | .wdogScan => Sys2Proof.Machine.execWdogScan s
  | .wdogHouse => Sys2Proof.Machine.execWdogHouse s
  | .tamper detector => Sys2Proof.Machine.execTamper detector s
  | .overTemp => Sys2Proof.Machine.execOverTemp s
  | .overTempRelease => Sys2Proof.Machine.execOverTempRelease s
  | .twinRequest => Sys2Proof.Machine.execTwinRequest s
  | .ringOrder => Sys2Proof.Machine.execRingOrder s
  | .memEcc site => Sys2Proof.Machine.execMemEcc site s
  | .nodeResetStart => Sys2Proof.Machine.execNodeResetStart s
  | .resetRelease env => Sys2Proof.Machine.execResetRelease env s
  | .startTimeout => Sys2Proof.Machine.execStartTimeout s
  | .downloadTimeout => Sys2Proof.Machine.execDownloadTimeout s
  | .listenWindowEnd => Sys2Proof.Machine.execListenWindowEnd s
  | .startingTimeout worker => Sys2Proof.Machine.execStartingTimeout worker s
  | .frameStart => Sys2Proof.Machine.execFrameStart s
  | .mirrorReceived packet => Sys2Proof.Machine.execMirrorReceived packet s
  | .mirrorDeadline => Sys2Proof.Machine.execMirrorDeadline s
  | .frameEvaluation lanesAgree => Sys2Proof.Machine.execFrameEvaluation lanesAgree s
  | .digestExchange => Sys2Proof.Machine.execDigestExchange s
  | .digestReceived packet => Sys2Proof.Machine.execDigestReceived packet s
  | .pegDecision => Sys2Proof.Machine.execPegDecision s
  | .claimFrameSend => Sys2Proof.Machine.execClaimFrameSend s
  | .housekeepingSlot => Sys2Proof.Machine.execHousekeepingSlot s
  | .domainSwitchComplete domain => Sys2Proof.Machine.execDomainSwitchComplete domain s
  | .sectorEraseComplete => Sys2Proof.Machine.execSectorEraseComplete s
  | .nvProgramComplete => Sys2Proof.Machine.execNvProgramComplete s
  | .blockIdle block => Sys2Proof.Machine.execBlockIdle block s
  | .fallback block => Sys2Proof.Machine.execFallback block s
  | .blockResetComplete block => Sys2Proof.Machine.execBlockResetComplete block s
  | .relockPoint => Sys2Proof.Machine.execRelockPoint s
  | .lockConfirmed island lockTicks => Sys2Proof.Machine.execLockConfirmed island lockTicks s
  | .pllLockLoss island => Sys2Proof.Machine.execPllLockLoss island s
  | .islandClockFault island => Sys2Proof.Machine.execIslandClockFault island s
  | .flashingSlot => Sys2Proof.Machine.execFlashingSlot s
  | .downlinkFrameReceived frame => Sys2Proof.Machine.execDownlinkFrameReceived frame s
  | .uplinkFrameReceived frame => Sys2Proof.Machine.execUplinkFrameReceived frame s
  | .inputsStale => Sys2Proof.Machine.execInputsStale s
  | .fieldLinkYield => Sys2Proof.Machine.execFieldLinkYield s
  | .safeStateTimeout group => Sys2Proof.Machine.execSafeStateTimeout group s
  | .afeListenTimeout => Sys2Proof.Machine.execAfeListenTimeout s
  | .afeResultLatch channel m => Sys2Proof.Machine.execAfeResultLatch channel m s
  | .shuntOpen channel => Sys2Proof.Machine.execShuntOpen channel s
  | .shuntClose channel => Sys2Proof.Machine.execShuntClose channel s
  | .clampConduction channel => Sys2Proof.Machine.execClampConduction channel s
  | .diLevelChange input level => Sys2Proof.Machine.execDiLevelChange input level s
  | .diDebounceAccept input => Sys2Proof.Machine.execDiDebounceAccept input s
  | .claimSlotEdge => Sys2Proof.Machine.execClaimSlotEdge s
  | .claimFrameReceived word flags crc => Sys2Proof.Machine.execClaimFrameReceived word flags crc s
  | .ownClaimStale => Sys2Proof.Machine.execOwnClaimStale s
  | .twinClaimStale => Sys2Proof.Machine.execTwinClaimStale s
  | .overload output => Sys2Proof.Machine.execOverload output s
  | .thermalShutdown output => Sys2Proof.Machine.execThermalShutdown output s
  | .thermalRestart output => Sys2Proof.Machine.execThermalRestart output s
  | .openWire output => Sys2Proof.Machine.execOpenWire output s
  | .readbackFault output => Sys2Proof.Machine.execReadbackFault output s
  | .disagree line => Sys2Proof.Machine.execDisagree line s
  | .sensorFaultOverride point => Sys2Proof.Machine.execSensorFaultOverride point s
  | .onDelayExpiry point => Sys2Proof.Machine.execOnDelayExpiry point s
  | .offDelayExpiry point => Sys2Proof.Machine.execOffDelayExpiry point s
  | .shelveExpiry point => Sys2Proof.Machine.execShelveExpiry point s
  | .rearmExpiry rule => Sys2Proof.Machine.execRearmExpiry rule s
  | .rateSample => Sys2Proof.Machine.execRateSample s
  | .rosterSchedule => Sys2Proof.Machine.execRosterSchedule s
  | .callDelayExpiry => Sys2Proof.Machine.execCallDelayExpiry s
  | .escalationExpiry => Sys2Proof.Machine.execEscalationExpiry s
  | .attendanceExpiry => Sys2Proof.Machine.execAttendanceExpiry s
  | .deadmanWarning station => Sys2Proof.Machine.execDeadmanWarning station s
  | .deadmanExpiry station => Sys2Proof.Machine.execDeadmanExpiry station s
  | .forceLimitExpiry node output => Sys2Proof.Machine.execForceLimitExpiry node output s
  | .bridgeSilenceExpiry point => Sys2Proof.Machine.execBridgeSilenceExpiry point s
  | .alfRepeat point => Sys2Proof.Machine.execAlfRepeat point s
  | .alcList => Sys2Proof.Machine.execAlcList s
  | .sysState => Sys2Proof.Machine.execSysState s
  | .stationMessage station => Sys2Proof.Machine.execStationMessage station s
  | .unpegged => Sys2Proof.Machine.execUnpegged s
  | .tokenExpiry => Sys2Proof.Machine.execTokenExpiry s
  | .bucketTokenGain code => Sys2Proof.Machine.execBucketTokenGain code s
  | .budgetTokenGain => Sys2Proof.Machine.execBudgetTokenGain s
  | .recorderLossClear => Sys2Proof.Machine.execRecorderLossClear s
  | .ledgerCounterWord => Sys2Proof.Machine.execLedgerCounterWord s
  | .nvScrub weakSectors => Sys2Proof.Machine.execNvScrub weakSectors s
  | .agingReading island osc leak => Sys2Proof.Machine.execAgingReading island osc leak s
  | .agingDailyMean island => Sys2Proof.Machine.execAgingDailyMean island s
  | .counterSave => Sys2Proof.Machine.execCounterSave s
  | .periodicSwapDue => Sys2Proof.Machine.execPeriodicSwapDue s
  | .backgroundReferee pass => Sys2Proof.Machine.execBackgroundReferee pass s
  | .ridgeLinkTrain laneSwap ownNonce twinNonce delayNs => Sys2Proof.Machine.execRidgeLinkTrain laneSwap ownNonce twinNonce delayNs s
  | .ridgeResendTimeout => Sys2Proof.Machine.execRidgeResendTimeout s
  | .marker packet => Sys2Proof.Machine.execMarker packet s
  | .forward packet => Sys2Proof.Machine.execForward packet s
  | .pairing packet => Sys2Proof.Machine.execPairing packet s
  | .statePacket packet => Sys2Proof.Machine.execStatePacket packet s
  | .control packet => Sys2Proof.Machine.execControl packet s
  | .turwa packet => Sys2Proof.Machine.execTurwa packet s
  | .ringData packet => Sys2Proof.Machine.execRingData packet s
  | .relayCopy packet => Sys2Proof.Machine.execRelayCopy packet s
  | .driverEnableFallback line => Sys2Proof.Machine.execDriverEnableFallback line s
  | .tokenReceived side cell => Sys2Proof.Machine.execTokenReceived side cell s
  | .relayReceived side cell => Sys2Proof.Machine.execRelayReceived side cell s
  | .claimCellReceived side cell => Sys2Proof.Machine.execClaimCellReceived side cell s
  | .dataCellSend => Sys2Proof.Machine.execDataCellSend s
  | .dataCellReceived side cell => Sys2Proof.Machine.execDataCellReceived side cell s
  | .workerDataDeadline => Sys2Proof.Machine.execWorkerDataDeadline s
  | .trainSegmentReceived side cell => Sys2Proof.Machine.execTrainSegmentReceived side cell s
  | .commandTimeout session seq => Sys2Proof.Machine.execCommandTimeout session seq s
  | .scanCellReceived side cell => Sys2Proof.Machine.execScanCellReceived side cell s
  | .admitCellReceived side cell => Sys2Proof.Machine.execAdmitCellReceived side cell s
  | .resendReceived side cell => Sys2Proof.Machine.execResendReceived side cell s
  | .ringSegmentTrain side delayNs => Sys2Proof.Machine.execRingSegmentTrain side delayNs s
  | .isolated => Sys2Proof.Machine.execIsolated s
  | .workerRoundTimeout => Sys2Proof.Machine.execWorkerRoundTimeout s
  | .rtcSecond => Sys2Proof.Machine.execRtcSecond s
  | .ppsEdge => Sys2Proof.Machine.execPpsEdge s
  | .rtcTrimUpdate ppm => Sys2Proof.Machine.execRtcTrimUpdate ppm s
  | .wakeDue => Sys2Proof.Machine.execWakeDue s
  | .evtEdge input level => Sys2Proof.Machine.execEvtEdge input level s
  | .evtFilterAccept input => Sys2Proof.Machine.execEvtFilterAccept input s
  | .pwronHoldEnd => Sys2Proof.Machine.execPwronHoldEnd s
  | .laidUpShutdown => Sys2Proof.Machine.execLaidUpShutdown s
  | .chargerTermination => Sys2Proof.Machine.execChargerTermination s
  | .chargerRestart => Sys2Proof.Machine.execChargerRestart s
  | .noElement => Sys2Proof.Machine.execNoElement s
  | .chargerRetry => Sys2Proof.Machine.execChargerRetry s
  | .transmissionComplete port => Sys2Proof.Machine.execTransmissionComplete port s
  | .canBusError c err => Sys2Proof.Machine.execCanBusError c err s
  | .zdaOnly => Sys2Proof.Machine.execZdaOnly s
  | .selftestComplete passed => Sys2Proof.Machine.execSelftestComplete passed s
  | .saveAllowanceGain => Sys2Proof.Machine.execSaveAllowanceGain s
  | .ackPacket packet => Sys2Proof.Machine.execAckPacket packet s
  | .ackPacketDue => Sys2Proof.Machine.execAckPacketDue s
  | .jtagTckEdge rising tms tdi => Sys2Proof.Machine.execJtagTckEdge rising tms tdi s
  | .eaveColdStart => Sys2Proof.Machine.execEaveColdStart s
  | .openWireClear output => Sys2Proof.Machine.execOpenWireClear output s

end Sys2Proof.Machine
end

