-- ==== Sys2Proof/Safety.lean ====
section
/-! DEFINITION. The terms that the statements use: what a table in canonical form is, what a request in flight is, what it
means that a request passes the checks, that it is answered, and what an answer leaves alone. -/

namespace Sys2Proof.Machine

/-! ### Requests -/

/-- The table entry and the request of an opcode row; an event row has none. -/
def requestOf : Instr → Option (Cmd × Req)
  | .hello r => some (cmdHello, r)
  | .features r => some (cmdFeatures, r)
  | .openSession r => some (cmdOpen, r)
  | .prove r => some (cmdProve, r)
  | .close r => some (cmdClose, r)
  | .ping r => some (cmdPing, r)
  | .getAttr r => some (cmdGetAttr, r)
  | .setAttr r => some (cmdSetAttr, r)
  | .getRange r => some (cmdGetRange, r)
  | .stageBegin r => some (cmdStageBegin, r)
  | .stageCommit r => some (cmdStageCommit, r)
  | .stageDrop r => some (cmdStageDrop, r)
  | .calZero r => some (cmdCalZero, r)
  | .calSpan r => some (cmdCalSpan, r)
  | .calRead r => some (cmdCalRead, r)
  | .outputForce r => some (cmdOutputForce, r)
  | .outputRelease r => some (cmdOutputRelease, r)
  | .ack r => some (cmdAck, r)
  | .silence r => some (cmdSilence, r)
  | .shelve r => some (cmdShelve, r)
  | .unshelve r => some (cmdUnshelve, r)
  | .dutySelect r => some (cmdDutySelect, r)
  | .callAccept r => some (cmdCallAccept, r)
  | .deadmanResetRestart r => some (cmdDeadmanResetRestart, r)
  | .deadmanResetStart r => some (cmdDeadmanResetStart, r)
  | .deadmanResetStop r => some (cmdDeadmanResetStop, r)
  | .alarmList r => some (cmdAlarmList, r)
  | .timeSet r => some (cmdTimeSet, r)
  | .timeShift r => some (cmdTimeShift, r)
  | .hourAdd r => some (cmdHourAdd, r)
  | .hourSub r => some (cmdHourSub, r)
  | .weekdaySet r => some (cmdWeekdaySet, r)
  | .chargerSet r => some (cmdChargerSet, r)
  | .wakeSet r => some (cmdWakeSet, r)
  | .backupEventsRead r => some (cmdBackupEventsRead, r)
  | .logRead r => some (cmdLogRead, r)
  | .logMark r => some (cmdLogMark, r)
  | .logPolicy r => some (cmdLogPolicy, r)
  | .gutterRead r => some (cmdGutterRead, r)
  | .gutterSave r => some (cmdGutterSave, r)
  | .pairBind r => some (cmdPairBind, r)
  | .pairUnbind r => some (cmdPairUnbind, r)
  | .swapNow r => some (cmdSwapNow, r)
  | .swapPolicy r => some (cmdSwapPolicy, r)
  | .yieldRole r => some (cmdYieldRole, r)
  | .pairStatus r => some (cmdPairStatus, r)
  | .ringScan r => some (cmdRingScan, r)
  | .ringAdmit r => some (cmdRingAdmit, r)
  | .ringExpel r => some (cmdRingExpel, r)
  | .ringStatus r => some (cmdRingStatus, r)
  | .matrixRead r => some (cmdMatrixRead, r)
  | .matrixWrite r => some (cmdMatrixWrite, r)
  | .seal r => some (cmdSeal, r)
  | .unsealRelease r => some (cmdUnsealRelease, r)
  | .unsealBreak r => some (cmdUnsealBreak, r)
  | .keyLoad r => some (cmdKeyLoad, r)
  | .keyRetire r => some (cmdKeyRetire, r)
  | .attest r => some (cmdAttest, r)
  | .consentIssue r => some (cmdConsentIssue, r)
  | .consentEnter r => some (cmdConsentEnter, r)
  | .consentLeave r => some (cmdConsentLeave, r)
  | .debugUnlock r => some (cmdDebugUnlock, r)
  | .imageBegin r => some (cmdImageBegin, r)
  | .imageBlock r => some (cmdImageBlock, r)
  | .imageVerify r => some (cmdImageVerify, r)
  | .imageActivate r => some (cmdImageActivate, r)
  | .blockResetGraceful r => some (cmdBlockResetGraceful, r)
  | .blockResetImmediate r => some (cmdBlockResetImmediate, r)
  | .selftest r => some (cmdSelftest, r)
  | .islandRate r => some (cmdIslandRate, r)
  | .domainSetOff r => some (cmdDomainSetOff, r)
  | .domainSetOn r => some (cmdDomainSetOn, r)
  | .domainSetLaidUp r => some (cmdDomainSetLaidUp, r)
  | .agingRead r => some (cmdAgingRead, r)
  | .resetCountersRead r => some (cmdResetCountersRead, r)
  | .nodeResetWarm r => some (cmdNodeResetWarm, r)
  | .nodeResetPowerOn r => some (cmdNodeResetPowerOn, r)
  | _ => none

/-- A request that the node has admitted under tag t and has not carried out yet, and that no block reset asked for before it holds
back (R96, R106, R118, R119). -/
structure State.Takes (s : State) (c : Cmd) (r : Req) (t : Tag) : Prop where
  live   : s.portLive r.port = true
  serves : s.serves c.op r = true
  waits  : s.waiting? c.op r = some t
  same   : t.req = r
  free   : s.blockHolds c.op t = false

/-- Every check of R143 lets it pass. -/
def State.Passes (s : State) (c : Cmd) (t : Tag) : Prop := s.verdict c t = none

/-- It is carried out on this node, not on a worker behind it: it names this node, or it is a SET that the stage takes (R173, R180). -/
def State.Here (s : State) (c : Cmd) (r : Req) : Prop := s.forWorker c.op r = false ∨ s.staging c.op r = true

/-- An admitted request of row i that passes every check at this node. -/
def State.Runs (s : State) (c : Cmd) (r : Req) (t : Tag) : Prop := s.Takes c r t ∧ s.Passes c t ∧ s.Here c r

/-- From s to u the request under tag t has been answered: one packet or a series of its session and SEQ with status st,
parameters ps in order, EXEC n, the PROVISIONAL flag, the frame number and the key under which its parameters leave (none where
they leave plain) goes behind the port's queue, or into the held replies while an earlier reply of its session is still to come
(R104, R125, R127, R129, R156). -/
def State.AnsweredAs (s u : State) (t : Tag) (st : Status) (ps : List Byte) (n : Nat) (prov : Bool) (f : Frame)
    (key : List Byte) : Prop :=
  ∃ ks : List Packet,
    ks ≠ [] ∧ ks.flatMap (fun k => k.params) = ps
    ∧ (∀ k ∈ ks, k.session = t.req.session ∧ k.seq = t.req.seq ∧ k.status = st ∧ k.exec = satExec n ∧ k.event = false
        ∧ k.dup = t.dup ∧ k.prov = prov ∧ k.frame = f ∧ k.encKey = key)
    ∧ (if s.mustWait t then
        u.outQ t.req.port = s.outQ t.req.port ∧ ∃ hs, u.comm.held = s.comm.held ++ hs ∧ hs.map Held.packet = ks
       else u.outQ t.req.port = s.outQ t.req.port ++ ks ∧ u.comm.held = s.comm.held)

/-- The request under tag t has been answered with status st, parameters ps and EXEC n. -/
def State.Answered (s u : State) (t : Tag) (st : Status) (ps : List Byte) (n : Nat) : Prop :=
  ∃ (prov : Bool) (f : Frame) (key : List Byte), s.AnsweredAs u t st ps n prov f key

/-- EXEC of a class-F command: its fixed count, and what authentication adds; of a series, for one part (R75, R79, R127). -/
def State.execF (s : State) (t : Tag) (ps : List Byte) (count : Nat) : Nat :=
  count + authAdd t (min ps.length (partSize (s.who t.req)))

/-- EXEC of a command answered late: the ticks since its admission (R75). -/
def State.execLate (s : State) (t : Tag) : Nat := since s.clk.batten t.admitAt

/-! ### What stays -/

/-- Everything but the ports and sessions and the islands' counts of inexact replies is unchanged. -/
def State.KeepsAllButReplies (s u : State) : Prop :=
  u = { s with comm := u.comm, clk := { s.clk with islands := u.clk.islands } }

/-- What a session holds beside the window of its replies and the count of the packets it was sent. -/
def Sess.own (x : Sess) : Sess := { x with window := [], sent := 0 }

/-- No session is opened, closed or changed, and no lock or count of the ports moves: replies alone. -/
def State.SessionsStay (s u : State) : Prop :=
  u.comm.sessions.map Sess.own = s.comm.sessions.map Sess.own
  ∧ u.comm = { s.comm with sessions := u.comm.sessions, tags := u.comm.tags, held := u.comm.held, ports := u.comm.ports }

/-- The command under tag t has begun: it is not carried out a second time. -/
def State.Begun (u : State) (t : Tag) : Prop := ∀ v ∈ u.comm.tags, sameTag v t = true → v.begun = true

/-- From s to u the request under tag t has joined the batch as an item of a body, with its sender's role and the generation
of its admission, and no pegged datum has changed (R15, R145). -/
def State.Joins (s u : State) (t : Tag) (body : ItemBody) : Prop :=
  u.admitted = s.admitted ++
    [{ body := body, forwarded := s.forwards, frame := s.clk.frameNo, gen := t.gen, role := (s.who t.req).role,
       slot := (s.who t.req).slot, unitB := s.unitB, own := true }]
  ∧ u.peg = s.peg ∧ u.prov = s.prov ∧ u.batch = s.batch ∧ u.eave = s.eave ∧ u.fio = s.fio ∧ u.recorder = s.recorder
  ∧ u.Begun t

/-- From s to u a work of the NV array has joined the queue for the request under tag t: it starts at once where none is before it
and its generation is in force or it is a denial, and waits where one is under way (R145, R172). -/
def State.NvJoins (s u : State) (t : Tag) (w : NvWork) : Prop :=
  (s.nvOps = [] → (t.gen = s.peg.gen ∨ ∃ st, w = .denied st) →
    u.nvOps = [{ req := t.req, opcode := t.opcode, gen := t.gen, work := w, started := true }])
  ∧ (∀ o os, s.nvOps = o :: os → o.started = true →
    u.nvOps = s.nvOps ++ [{ req := t.req, opcode := t.opcode, gen := t.gen, work := w, started := false }])

/-! ### Invariants -/

/-- The seal ledger fits its 63 entry slots with what waits for one, and no more is being written than waits (R315). -/
def State.ledgerFits (s : State) : Prop :=
  s.recorder.ledger.length + s.recorder.ledgerQueue.length ≤ 63 ∧ s.recorder.ledgerWriting ≤ s.recorder.ledgerQueue.length

/-- The 19 reset counters of EAVE hold 16 bits each (R99). -/
def State.countersFit (s : State) : Prop :=
  s.eave.counters.length = 19 ∧ ∀ n ∈ s.eave.counters, n ≤ 0xFFFF

end Sys2Proof.Machine
end

