-- ==== Sys2Proof/WellFormed.lean ====
section
/-! DEFINITION. Which commands are well formed: operands within the sizes that the spec gives the fields they travel in. -/

namespace Sys2Proof

/-- An admitted request: parameters within LEN's limit (R105). -/
def Req.wf (r : Req) : Bool := decide (r.params.length ≤ 4096)

/-- A command whose operands fit the fields that carry them. -/
def Instr.wf : Instr → Bool
  | .hello r | .features r | .openSession r | .prove r | .close r | .ping r | .getAttr r | .setAttr r | .getRange r
  | .stageBegin r | .stageCommit r | .stageDrop r | .calZero r | .calSpan r | .calRead r | .outputForce r
  | .outputRelease r | .ack r | .silence r | .shelve r | .unshelve r | .dutySelect r | .callAccept r
  | .deadmanResetRestart r | .deadmanResetStart r | .deadmanResetStop r | .alarmList r | .timeSet r | .timeShift r
  | .hourAdd r | .hourSub r | .weekdaySet r | .chargerSet r | .wakeSet r | .backupEventsRead r | .logRead r | .logMark r
  | .logPolicy r | .gutterRead r | .gutterSave r | .pairBind r | .pairUnbind r | .swapNow r | .swapPolicy r
  | .yieldRole r | .pairStatus r | .ringScan r | .ringAdmit r | .ringExpel r | .ringStatus r | .matrixRead r
  | .matrixWrite r | .seal r | .unsealRelease r | .unsealBreak r | .keyLoad r | .keyRetire r | .attest r
  | .consentIssue r | .consentEnter r | .consentLeave r | .debugUnlock r | .imageBegin r | .imageBlock r
  | .imageVerify r | .imageActivate r | .blockResetGraceful r | .blockResetImmediate r | .selftest r | .islandRate r
  | .domainSetOff r | .domainSetOn r | .domainSetLaidUp r | .agingRead r | .resetCountersRead r | .nodeResetWarm r
  | .nodeResetPowerOn r => r.wf
  | .writePacket b => decide (b.length ≤ 4134)
  | .turwaSegmentReceived _ _ b => decide (b.length ≤ 64)
  | .timeLabelReceived _ b => decide (b.length ≤ 64)
  | .lockConfirmed _ n => decide (n < 65536)
  | .agingReading _ osc leak => decide (osc < 2 ^ 32 ∧ leak < 65536)
  | .nvScrub l => l.all (fun n => decide (n < 512))
  | .rtcTrimUpdate ppm => decide (-127 ≤ ppm ∧ ppm ≤ 127)
  | .ridgeLinkTrain _ a b d => decide (a.length = 16 ∧ b.length = 16 ∧ d < 65536)
  | .ringSegmentTrain _ d => decide (d < 65536)
  | .readPacket _ | .readReg _ _ | .writeReg _ _ | .portIrqClear _ | .portIrqMaskWrite _ | .portCfgWrite _
  | .hostBadCommand _ | .uartCharReceived _ _ _ | .uartIdleHandoff _ | .uartFrameReceived _ _ | .ctsChange _ _
  | .acnReceived _ | .zdaReceived _ | .otherSentenceReceived _ | .canFrameReceived _ _ | .canTrainTimeout _ _ _
  | .lone _ | .loneRetry _ | .busOffRecovery _ | .protocolException _ | .jtagTrst _ | .jtagInstructionUpdate _
  | .sessionIdleTimeout _ | .proveTimeout _ | .keyLockExpiry _ _ | .eventCreditRelease _ _ | .replyRelease _
  | .powerOn | .supplyBrownout _ | .eaveSupplyChangeover _ | .eaveSupplyLost | .vafeLost | .vafeReturn | .vfldLost
  | .vfldPowerUp | .referenceLoss | .referenceReturn | .resetNAssert | .stuckReset | .resetNRearm | .wdogCmd
  | .wdogScan | .wdogHouse | .tamper _ | .overTemp | .overTempRelease | .twinRequest | .ringOrder | .memEcc _
  | .nodeResetStart | .resetRelease _ | .startTimeout | .downloadTimeout | .listenWindowEnd | .startingTimeout _
  | .frameStart | .mirrorReceived _ | .mirrorDeadline | .frameEvaluation _ | .digestExchange | .digestReceived _
  | .pegDecision | .claimFrameSend | .housekeepingSlot | .domainSwitchComplete _ | .sectorEraseComplete
  | .nvProgramComplete | .blockIdle _ | .fallback _ | .blockResetComplete _ | .relockPoint | .pllLockLoss _
  | .islandClockFault _ | .flashingSlot | .downlinkFrameReceived _ | .uplinkFrameReceived _ | .inputsStale
  | .fieldLinkYield | .safeStateTimeout _ | .afeListenTimeout | .afeResultLatch _ _ | .shuntOpen _ | .shuntClose _
  | .clampConduction _ | .diLevelChange _ _ | .diDebounceAccept _ | .claimSlotEdge | .claimFrameReceived _ _ _
  | .ownClaimStale | .twinClaimStale | .overload _ | .thermalShutdown _ | .thermalRestart _ | .openWire _
  | .readbackFault _ | .disagree _ | .sensorFaultOverride _ | .onDelayExpiry _ | .offDelayExpiry _ | .shelveExpiry _
  | .rearmExpiry _ | .rateSample | .rosterSchedule | .callDelayExpiry | .escalationExpiry | .attendanceExpiry
  | .deadmanWarning _ | .deadmanExpiry _ | .forceLimitExpiry _ _ | .bridgeSilenceExpiry _ | .alfRepeat _ | .alcList
  | .sysState | .stationMessage _ | .unpegged | .tokenExpiry | .bucketTokenGain _ | .budgetTokenGain
  | .recorderLossClear | .ledgerCounterWord | .agingDailyMean _ | .counterSave | .periodicSwapDue
  | .backgroundReferee _ | .ridgeResendTimeout | .marker _ | .forward _ | .pairing _ | .statePacket _ | .control _
  | .turwa _ | .ringData _ | .relayCopy _ | .driverEnableFallback _ | .tokenReceived _ _ | .relayReceived _ _
  | .claimCellReceived _ _ | .dataCellSend | .dataCellReceived _ _ | .workerDataDeadline | .trainSegmentReceived _ _
  | .commandTimeout _ _ | .scanCellReceived _ _ | .admitCellReceived _ _ | .resendReceived _ _ | .isolated
  | .workerRoundTimeout | .rtcSecond | .ppsEdge | .wakeDue | .evtEdge _ _ | .evtFilterAccept _ | .pwronHoldEnd
  | .laidUpShutdown | .chargerTermination | .chargerRestart | .noElement | .chargerRetry | .transmissionComplete _
  | .canBusError _ _ | .zdaOnly | .selftestComplete _ | .saveAllowanceGain | .ackPacket _ | .ackPacketDue
  | .jtagTckEdge _ _ _ | .eaveColdStart | .openWireClear _ => true

end Sys2Proof
end

