-- ==== Sys2Proof/Certificates/Slice0/Obligations.lean ====
section
/-! DEFINITION. The statements for the provers. The rows of an opcode are stated through State.Runs: an admitted request
that passes the checks; u is the state before the replies of the two links leave (FlushSendsLinkReplies). -/

open Sys2Proof Sys2Proof.Machine

/-! ### The step and the whole machine -/

/-- The step takes the command at the front of the queue. -/
def Obligations.StepRunsFrontCommand : Prop :=
  ∀ (s : State) (c : Instr) (cs : List Instr), step { s with pending := c :: cs } = exec c { s with pending := cs }

/-- On an empty queue one tick passes: the batten counter counts while the node is out of reset, the model's own count of ticks
always, and nothing else changes (the model's choice, notes/assumptions/2.md). -/
def Obligations.EmptyQueuePassesOneTick : Prop :=
  ∀ s : State, s.pending = [] →
    (s.alive = true → step s = .next { s with clk := { s.clk with batten := s.clk.batten + 1#40 }, time := s.time + 1 })
    ∧ (s.alive = false → step s = .next { s with time := s.time + 1 })

/-- No command stops the node and none touches the queue of those that wait. -/
def Obligations.EveryCommandAnswersAndKeepsTheQueue : Prop :=
  ∀ (c : Instr) (s : State), ∃ t : State, exec c s = .next t ∧ t.pending = s.pending

/-- No command and no reset changes or removes a written slot of the seal ledger (R315). -/
def Obligations.LedgerOnlyGrows : Prop :=
  ∀ (s t : State), step s = .next t → s.recorder.ledger <+: t.recorder.ledger

/-- The 63 entry slots of the seal ledger are never overfilled, and no more entries are being written than wait (R315). -/
def Obligations.LedgerKeepsItsSlots : Prop :=
  ∀ (s t : State), s.ledgerFits → step s = .next t → t.ledgerFits

/-- Every step keeps 19 reset counters of 16 bits (R99). -/
def Obligations.ResetCountersKeepTheirRange : Prop :=
  ∀ (s t : State), s.countersFit → step s = .next t → t.countersFit

/-- The state after reset satisfies both invariants. What reset leaves, as the spec gives it: in reset with cause POWER_ON,
which is counted once, the batten counter at 0 (R61), nothing pegged but the factory configuration, generation 1, no seal, no
session, no key but the delivery key (R154), an empty recorder with 4096 budget tokens (R310) and an empty queue. -/
def Obligations.ResetLeavesAndMeetsInvariants : Prop :=
  (State.reset.ledgerFits ∧ State.reset.countersFit)
  ∧ (State.reset.clk.batten = 0 ∧ State.reset.rst.cause = 0 ∧ State.reset.eave.counters = 1 :: List.replicate 18 0
    ∧ State.reset.peg.cfg = [] ∧ State.reset.peg.gen = 1 ∧ State.reset.peg.seals = [] ∧ State.reset.peg.matrix = []
    ∧ State.reset.comm.sessions = [] ∧ State.reset.comm.tags = []
    ∧ (∀ i, i ≠ 0 → i ≠ 27 → (State.reset.keyAt i).state = 0) ∧ (State.reset.keyAt 0).state = 2
    ∧ State.reset.recorder.sole = [] ∧ State.reset.recorder.weather = [] ∧ State.reset.recorder.ledger = []
    ∧ State.reset.recorder.budget = 4096 ∧ State.reset.pending = [])

/-! ### Requests and their answers -/

/-- The header and parameters of a request read back as that request, on any port (Table PKT-1). -/
def Obligations.RequestBytesReadBack : Prop :=
  ∀ (op : Nat) (r : Req) (echo : Word), op < 65536 → r.params.length ≤ 4096 →
    ∃ h : RawReq, parseHeader (reqBytes op r echo) = some h ∧ h.ver = 1 ∧ h.opcode = op ∧ h.len = r.params.length
      ∧ h.echo = echo ∧ h.flags = reqFlags r ∧ reqOf r.port h (slice (reqBytes op r echo) 20 h.len) = r

/-- Steps 1 to 4 of R143 in their order: the first that fails gives the status of the denial. Access is decided under the matrix of
the request's admission (R145); the state check of step 4 is made at the worker for a request that names one (R173). -/
def Obligations.ChecksDecideInOrder : Prop :=
  ∀ (i : Instr) (c : Cmd) (r : Req) (s : State) (t : Tag), requestOf i = some (c, r) → s.Takes c r t →
    ((s.asAdmitted t).accessOk c (s.who r) r = false → exec i s = .next (s.deny t .notAvailable).flush)
    ∧ ((s.asAdmitted t).accessOk c (s.who r) r = true → c.sealed s (s.who r) r = true → exec i s = .next (s.deny t .sealed).flush)
    ∧ ((s.asAdmitted t).accessOk c (s.who r) r = true → c.sealed s (s.who r) r = false → c.priv s (s.who r) r = true →
        (s.who r).has fCRYPT = false → exec i s = .next (s.deny t .featureOff).flush)
    ∧ (∀ st, (s.asAdmitted t).accessOk c (s.who r) r = true → c.sealed s (s.who r) r = false →
        (c.priv s (s.who r) r = true → (s.who r).has fCRYPT = true) → s.deliverySession (s.who r) = false → s.Here c r →
        c.check s (s.who r) r = some st → exec i s = .next (s.deny t st).flush)

/-- A denial is answered when its class completes, and has no effect (R159): class F is answered at the fixed count, class P joins
the refusals that the peg answers, class N joins the NV work as a denial, class L waits for the maximum of its command. -/
def Obligations.DenialIsAnsweredAtItsClass : Prop :=
  ∀ (i : Instr) (c : Cmd) (r : Req) (s : State) (t : Tag) (st : Status), requestOf i = some (c, r) → s.Takes c r t →
    s.verdict c t = some st →
    (s.latOf c.op r = .f → ∃ u : State, exec i s = .next u.flush ∧ s.KeepsAllButReplies u ∧ s.SessionsStay u
        ∧ s.Answered u t st [] (s.execF t [] (fixedCount c.op r)))
    ∧ (s.latOf c.op r = .p → s.isWorker = false → ∃ u : State, exec i s = .next u.flush ∧ u.peg = s.peg ∧ u.admitted = s.admitted
        ∧ u.refusedP = s.refusedP ++
          [{ frame := s.clk.frameNo, port := r.port, session := r.session, seq := r.seq, status := st, params := [] }])
    ∧ (s.latOf c.op r = .n → ∃ u : State, exec i s = .next u.flush ∧ s.NvJoins u t (.denied st)
        ∧ u = { s with nvOps := u.nvOps, comm := u.comm })
    ∧ (s.latOf c.op r = .l → ∃ u : State, exec i s = .next u.flush ∧ u.peg = s.peg
        ∧ ∃ x : RingCmd, u.ring = { s.ring with cmds := s.ring.cmds ++ [x] } ∧ x.req = r ∧ x.denied = some st
          ∧ x.maxTicks = s.linkTicks c.op r ∧ x.admitAt = t.admitAt)

/-- What the closing flush of a request does: the replies to requests that came over a link leave the queue for it, no other port's
queue changes and nothing that is pegged; where no reply waits for a link and none is on its way out, it does nothing. -/
def Obligations.FlushSendsLinkReplies : Prop :=
  ∀ s : State, s.flush.outQ .ring = [] ∧ s.flush.outQ .ridge = []
    ∧ (∀ p, p ≠ .ring → p ≠ .ridge → s.flush.outQ p = s.outQ p) ∧ s.flush.peg = s.peg
    ∧ (s.outQ .ring = [] → s.outQ .ridge = [] → s.comm.leaving = [] → s.flush = s)

/-- The SEQ rules of an open session (R122): one above the highest is admitted and becomes the highest, more than one above it
and 0 are BAD_PARAM, more than 63 below it is SEQ_OLD. -/
def Obligations.SeqRulesOfASession : Prop :=
  ∀ (s : State) (x : Sess) (op : Nat) (r : Req), s.sess? r.port r.session = some x → x.high.toNat < 0xFFFFFFFF →
    (r.seq.toNat = x.high.toNat + 1 → s.hasSlot op r = true →
      ∃ (u : State) (y : Sess), s.admitInSession x op r = u ∧ u.sess? r.port r.session = some y ∧ y.high = r.seq
        ∧ ∃ t, u.comm.tags = s.comm.tags ++ [t] ∧ t.req = r ∧ t.admitAt = s.clk.batten ∧ t.begun = false)
    ∧ (r.seq.toNat = x.high.toNat + 1 → s.hasSlot op r = false →
      s.admitInSession x op r = s.noCredit r ∧ (s.noCredit r).comm.noCredits = inc32 s.comm.noCredits)
    ∧ (x.high.toNat + 1 < r.seq.toNat → s.admitInSession x op r = s.feAnswer r.port r.session r.seq .badParam [])
    ∧ (r.seq = 0 → s.admitInSession x op r = s.feAnswer r.port r.session r.seq .badParam [])
    ∧ (0 < r.seq.toNat → r.seq.toNat + 64 ≤ x.high.toNat →
      s.admitInSession x op r = s.feAnswer r.port r.session r.seq .seqOld [])

/-- HELLO answers its parameters and PING at READY the phase 0x0B with no retry-after, each after 13 ticks, CLOSE answers after 13
ticks, and no session changes with them; the session of a CLOSE is closed once that reply has left its port. FEATURES settles the
session on the requested features that are offered and the event mask, answered after 16 ticks; OPEN makes an opening session of
the next number with the role, slot and nonce asked for and a node nonce of 16 bytes, answered after 48 ticks, or BUSY_RETRY with
1000 ms at 32 sessions. PROVE with the right proof of an unlocked, loaded slot opens the session, clears its slot's failures and
answers the node's proof, the generation and the key state; any other is AUTH_FAIL, counted, and closes it; both take 180 ticks.
What authentication adds stands in EXEC beside these counts (R75, R79, R95, R112, R115, R155, R157). -/
def Obligations.SessionCommandsComplete : Prop :=
  (∀ r s t, s.Runs cmdHello r t → ∃ u : State, exec (.hello r) s = .next u.flush ∧ s.KeepsAllButReplies u ∧ s.SessionsStay u
    ∧ s.Answered u t .done (s.helloParams r.port) (s.execF t (s.helloParams r.port) 13))
  ∧ (∀ r s t x, s.Runs cmdFeatures r t → s.sess? r.port r.session = some x →
    ∃ (u : State) (y : Sess), exec (.features r) s = .next u.flush ∧ s.KeepsAllButReplies u
      ∧ u.sess? r.port r.session = some y
      ∧ y.own = { x.own with features := y.features, eventMask := y.eventMask, settledAt := some r.seq }
      ∧ y.features = acceptedWord r.port (BitVec.ofNat 128 (leAt r.params 0 16))
      ∧ y.eventMask = (if y.features.getLsbD fEVENT then BitVec.ofNat 32 (leAt r.params 16 4) else 0)
      ∧ s.Answered u t .done (toLe 16 y.features.toNat ++ toLe 4 y.eventMask.toNat)
        (s.execF t (toLe 16 y.features.toNat ++ toLe 4 y.eventMask.toNat) 16))
  ∧ (∀ r s t, s.Runs cmdOpen r t → s.sessionsOpen < 32 →
    ∃ (u : State) (x : Sess), exec (.openSession r) s = .next u.flush
      ∧ u.comm.sessions.map Sess.own = s.comm.sessions.map Sess.own ++ [x] ∧ u.comm.lastNum = s.nextNum
      ∧ x.num = s.nextNum ∧ x.port = r.port ∧ x.isOpen = false ∧ roleNo x.role = byteAt r.params 0 ∧ x.slot.val = byteAt r.params 1
      ∧ x.nc = slice r.params 2 16 ∧ x.nn.length = 16 ∧ x.high = 0 ∧ x.features = 1 ∧ x.eventMask = 0
      ∧ { s with free := u.free }.KeepsAllButReplies u ∧ s.Answered u t .done x.nn (s.execF t x.nn 48))
  ∧ (∀ r s t, s.Runs cmdOpen r t → 32 ≤ s.sessionsOpen →
    ∃ u : State, exec (.openSession r) s = .next u.flush ∧ s.KeepsAllButReplies u ∧ s.SessionsStay u
      ∧ s.Answered u t .busyRetry (toLe 2 1000) (s.execF t (toLe 2 1000) 48))
  ∧ (∀ r s t x, s.Runs cmdProve r t → s.sess? r.port r.session = some x →
    (s.lockOf x.port (keyIndex x.role x.slot)).locked = false → r.params = proofOf x →
    (s.keyAt (keyIndex x.role x.slot)).state ≠ 0 →
    ∃ (u : State) (y : Sess) (ps : List Byte), exec (.prove r) s = .next u.flush ∧ s.KeepsAllButReplies u
      ∧ u.sess? r.port r.session = some y ∧ y.own = { x.own with isOpen := true }
      ∧ (u.lockOf x.port (keyIndex x.role x.slot)).fails = 0 ∧ u.comm.authFails = s.comm.authFails
      ∧ ps = nodeProofOf x ++ toLe 4 s.peg.gen.toNat ++ toLe 1 (s.keyAt (keyIndex x.role x.slot)).state
      ∧ s.Answered u t .done ps (s.execF t ps 180))
  ∧ (∀ r s t x, s.Runs cmdProve r t → s.sess? r.port r.session = some x →
    ((s.lockOf x.port (keyIndex x.role x.slot)).locked = true ∨ r.params ≠ proofOf x
      ∨ (s.keyAt (keyIndex x.role x.slot)).state = 0) →
    ∃ u : State, exec (.prove r) s = .next u.flush ∧ u.sess? r.port r.session = none
      ∧ u.comm.authFails = inc32 s.comm.authFails ∧ u.peg = s.peg ∧ u.keys = s.keys ∧ s.Answered u t .authFail [] (s.execF t [] 180))
  ∧ (∀ r s t, s.Runs cmdClose r t → ∃ u : State, exec (.close r) s = .next u.flush ∧ s.KeepsAllButReplies u ∧ s.SessionsStay u
    ∧ s.Answered u t .done [] (s.execF t [] 13))
  ∧ (∀ (s : State) (p : Port) (k : Packet), k.holdsTag = true → k.status = .done →
    (∃ t ∈ s.comm.tags, t.no = k.tagNo ∧ t.req.port = p ∧ t.req.session = k.session ∧ t.req.seq = k.seq ∧ t.answered = true
      ∧ t.opcode = 0x0104#16) → (s.packetLeft p k).sess? p k.session = none)
  ∧ (∀ r s t, s.Runs cmdPing r t → s.rst.phase = 0x0B → ∃ u : State, exec (.ping r) s = .next u.flush ∧ s.KeepsAllButReplies u
    ∧ s.SessionsStay u ∧ s.Answered u t .done [0x0B, 0, 0, 0] (s.execF t [0x0B, 0, 0, 0] 13))

/-! ### The OBJECT family -/

/-- GET and GET_RANGE answer DONE with the value: after 18 ticks and one more for each 32 bytes beyond the first 32, a provisional
GET after 18 whatever its length (P05, P07, P08, R127, R128). Reading the FLAGS of a DIN clears its edges-lost bit; else nothing
changes but the replies. A value that is owner-private leaves under the session's encryption key, numbered as the session's next
messages, after the ticks that encryption adds. A provisional read answers the provisional result of the frame with PROVISIONAL
set from 5.000 ms on, and the pegged value with the last pegged frame before that or where there is none; a plain read answers
the pegged value (R128, R129). -/
def Obligations.ReadsComplete : Prop :=
  ((∀ r s t, s.Runs cmdGetAttr r t → ownerPrivate (oidClass r.target) (oidAttr r.target) = false →
    ∃ (u : State) (v : List Byte) (p : Bool) (f : Frame), exec (.getAttr r) s = .next u.flush ∧ (v, p, f) = s.getValue r
      ∧ s.AnsweredAs u t .done v (s.execF t v (if r.wantProv then 18 else 18 + (v.length - 32 + 31) / 32)) p f [] ∧ s.SessionsStay u
      ∧ (¬ (oidClass r.target = cDIN ∧ oidAttr r.target = 3) → s.KeepsAllButReplies u)
      ∧ (oidClass r.target = cDIN → oidAttr r.target = 3 →
          (u.dinSt (oidIndex r.target)).lostSinceRead = false
          ∧ { s with fio := { s.fio with din := u.fio.din } }.KeepsAllButReplies u
          ∧ ∀ i, i ≠ oidIndex r.target → u.dinSt i = s.dinSt i))
  ∧ (∀ r s t, s.Runs cmdGetRange r t → ownerPrivate (oidClass r.target) (oidAttr r.target) = false →
    ∃ (u : State) (v : List Byte), exec (.getRange r) s = .next u.flush
      ∧ v = (rangeOids r).flatMap (fun o => s.readAttr r.port (oidClass o) (oidIndex o) (oidAttr o))
      ∧ s.AnsweredAs u t .done v (s.execF t v (18 + (v.length - 32 + 31) / 32)) false s.clk.frameNo [] ∧ s.SessionsStay u
      ∧ { s with fio := { s.fio with din := u.fio.din } }.KeepsAllButReplies u
      ∧ (∀ o ∈ rangeOids r, oidClass o = cDIN → oidAttr o = 3 → (u.dinSt (oidIndex o)).lostSinceRead = false))
  ∧ (∀ r s t x v, s.Runs cmdGetAttr r t → ownerPrivate (oidClass r.target) (oidAttr r.target) = true →
    s.sess? r.port r.session = some x → v = (s.getValue r).1 →
    ∃ (u : State) (ms : List (List Byte)) (y : Sess), exec (.getAttr r) s = .next u.flush
      ∧ ms = parts (partSize (s.who r) - 24) v.length v
      ∧ s.AnsweredAs u t .done (privateParts (x.msgOut + 1) ms)
        (s.execF t (privateParts (x.msgOut + 1) ms) ((if r.wantProv then 18 else 18 + (v.length - 32 + 31) / 32) + gcmTicks v.length))
        false s.clk.frameNo x.kEnc
      ∧ u.sess? r.port r.session = some y ∧ y.own = { x.own with msgOut := x.msgOut + ms.length } ∧ s.KeepsAllButReplies u)
  ∧ (∀ r s t x v, s.Runs cmdGetRange r t → ownerPrivate (oidClass r.target) (oidAttr r.target) = true →
    s.sess? r.port r.session = some x →
    v = (rangeOids r).flatMap (fun o => s.readAttr r.port (oidClass o) (oidIndex o) (oidAttr o)) →
    ∃ (u : State) (ms : List (List Byte)) (y : Sess), exec (.getRange r) s = .next u.flush
      ∧ ms = parts (partSize (s.who r) - 24) v.length v
      ∧ s.AnsweredAs u t .done (privateParts (x.msgOut + 1) ms)
        (s.execF t (privateParts (x.msgOut + 1) ms) (18 + (v.length - 32 + 31) / 32 + gcmTicks v.length)) false s.clk.frameNo x.kEnc
      ∧ u.sess? r.port r.session = some y ∧ y.own = { x.own with msgOut := x.msgOut + ms.length } ∧ s.KeepsAllButReplies u))
  ∧ (∀ (r : Req) (s : State),
    (r.wantProv = true → hasProvisional (oidClass r.target) (oidAttr r.target) = true →
      (∀ p, s.prov = some p → 62500 ≤ s.offset →
        s.getValue r = ((s.under p).readAttr r.port (oidClass r.target) (oidIndex r.target) (oidAttr r.target), true, p.frame))
      ∧ (s.prov = none ∨ s.offset < 62500 →
        s.getValue r = (s.readAttr r.port (oidClass r.target) (oidIndex r.target) (oidAttr r.target), false, s.pair.lastPegFrame)))
    ∧ (r.wantProv = false →
      s.getValue r = (s.readAttr r.port (oidClass r.target) (oidIndex r.target) (oidAttr r.target), false, s.clk.frameNo)))

/-- SET stages while its session holds the stage and joins the batch otherwise; STAGE_BEGIN, STAGE_COMMIT and STAGE_DROP open
the stage, put it into the batch as one item and discard it (R180). None of them changes the pegged configuration. -/
def Obligations.SetAndStageComplete : Prop :=
  (∀ r s t l, s.Runs cmdSetAttr r t → s.isWorker = false → ownerPrivate (oidClass r.target) (oidAttr r.target) = false →
    s.stageOf r = some l → ∃ u : State, exec (.setAttr r) s = .next u.flush ∧ u.stage = some (r.port, r.session, l ++ [r])
      ∧ s.Answered u t .done [] (s.execF t [] 18) ∧ { s with stage := u.stage }.KeepsAllButReplies u)
  ∧ (∀ r s t, s.Runs cmdSetAttr r t → s.isWorker = false → ownerPrivate (oidClass r.target) (oidAttr r.target) = false →
    s.stageOf r = none → ∃ u : State, exec (.setAttr r) s = .next u.flush ∧ s.Joins u t (.command t.opcode r))
  ∧ (∀ r s t, s.Runs cmdStageBegin r t → ∃ u : State, exec (.stageBegin r) s = .next u.flush
      ∧ u.stage = some (r.port, r.session, []) ∧ s.Answered u t .done (s.peg.digest.take 4) (s.execF t (s.peg.digest.take 4) 14)
      ∧ { s with stage := u.stage }.KeepsAllButReplies u)
  ∧ (∀ r s t, s.Runs cmdStageCommit r t → ∃ (u : State) (l : List Req), exec (.stageCommit r) s = .next u.flush
      ∧ s.stageOf r = some l ∧ u.stage = none ∧ s.Joins u t (.commit r l))
  ∧ (∀ r s t, s.Runs cmdStageDrop r t → ∃ (u : State) (l : List Req), exec (.stageDrop r) s = .next u.flush
      ∧ s.stageOf r = some l ∧ u.stage = none ∧ s.Answered u t .done (toLe 2 l.length) (s.execF t (toLe 2 l.length) 14)
      ∧ { s with stage := none }.KeepsAllButReplies u)

/-- A class-P command is put at the end of the batch of the next frame, with the matrix generation of its admission; nothing of
the pegged state changes before the peg (R15, R130, R145). -/
def Obligations.PeggedCommandsJoinTheBatch : Prop :=
  ∀ (r : Req) (i : Instr) (c : Cmd) (s : State) (t : Tag),
    i ∈ [.outputForce r, .outputRelease r, .ack r, .silence r, .shelve r, .unshelve r, .dutySelect r, .callAccept r,
      .deadmanResetRestart r, .deadmanResetStart r, .deadmanResetStop r, .timeSet r, .timeShift r, .hourAdd r, .hourSub r,
      .weekdaySet r, .wakeSet r, .logMark r, .logPolicy r, .pairUnbind r, .swapNow r, .swapPolicy r, .yieldRole r,
      .matrixWrite r, .seal r, .unsealRelease r, .unsealBreak r, .consentEnter r, .consentLeave r, .domainSetLaidUp r] →
    requestOf i = some (c, r) → s.Runs c r t →
    ∃ u : State, exec i s = .next u.flush ∧ s.Joins u t (.command t.opcode r)

/-- A SET, and every item of a committed stage, writes at its place in the batch what the attribute's table says: a plain
configuration attribute reads back the value, every other object ID keeps its own (R6, R180). A sealed attribute is not written:
SET completes SEALED at its place in the batch and changes nothing (R148). -/
def Obligations.AppliedSetWritesOneAttribute : Prop :=
  (∀ (s : State) (p : Prov) (i : BatchItem) (r : Req),
    oidNode r.target = 0 → sealedIn p.st.seals (oidClass r.target) (oidIndex r.target) (oidAttr r.target) = false →
    nodeLocalAttr (oidClass r.target) (oidIndex r.target) (oidAttr r.target) = false →
    setEffect (oidClass r.target) (oidIndex r.target) (oidAttr r.target) (setValue r) = none →
    (oidClass r.target = cLOG → oidAttr r.target ≠ 0x20) →
    s.objectOk (writeCfg p.st.cfg (oidClass r.target) (oidIndex r.target) (oidAttr r.target) (setValue r))
      (oidClass r.target) (oidIndex r.target) (oidAttr r.target) = true →
    applySetAttr s p i r =
      ({ p with st := { p.st with cfg := writeCfg p.st.cfg (oidClass r.target) (oidIndex r.target) (oidAttr r.target) (setValue r) } }).ok [])
  ∧ (∀ (s : State) (p : Prov) (i : BatchItem) (r : Req), oidNode r.target = 0 →
    sealedIn p.st.seals (oidClass r.target) (oidIndex r.target) (oidAttr r.target) = true →
    applySetAttr s p i r = { prov := p, status := .sealed, params := [] })

/-! ### Fixed-count reads and settings -/

/-- CAL_READ, ALARM_LIST, LOG_READ, GUTTER_READ, PAIR_STATUS, RING_STATUS, MATRIX_READ, ATTEST, AGING_READ and
RESET_COUNTERS_READ answer DONE at their fixed counts and change nothing but their replies. -/
def Obligations.FixedReadsComplete : Prop :=
  ∀ (r : Req) (s : State) (t : Tag) (i : Instr) (c : Cmd) (ps : List Byte) (n : Nat),
    (i, c, ps, n) ∈
      [(Instr.calRead r, cmdCalRead,
          (let x := s.calTerms (oidIndex r.target) (s.ainMode (oidIndex r.target))
           toLe 4 (ofSigned 4 x.1) ++ toLe 4 (ofSigned 4 x.2.1) ++ toLe 4 x.2.2.1 ++ toLe 1 x.2.2.2), 20),
       (.alarmList r, cmdAlarmList, toLe 2 (listPoints s r).length ++ (listPoints s r).flatMap (listEntry s),
          18 + (2 + 8 * (listPoints s r).length - 32 + 31) / 32),
       (.logRead r, cmdLogRead,
          (List.range (byteAt r.params 2)).flatMap (fun k => s.recorder.readSlot (leAt r.params 0 2 + k)), 18 + 8 * byteAt r.params 2),
       (.gutterRead r, cmdGutterRead,
          (List.range (byteAt r.params 2)).flatMap (fun k => s.gut.read (leAt r.params 0 2 + k)), 18 + 4 * byteAt r.params 2),
       (.pairStatus r, cmdPairStatus, s.pairStatus, 24),
       (.ringStatus r, cmdRingStatus, s.ringStatusBytes, 24),
       (.matrixRead r, cmdMatrixRead,
          toLe 4 s.peg.gen.toNat ++ (List.range (byteAt r.params 1)).flatMap (fun k =>
            toLe 1 (classRows.getD (byteAt r.params 0 + k) 0) ++ rowBytes s.peg.matrix (byteAt r.params 0 + k)),
          18 + 8 * byteAt r.params 1),
       (.attest r, cmdAttest,
          s.statement r.params ++ Config.identitySign (sha256 (s.statement r.params)) ++ Config.certificates, 15000),
       (.agingRead r, cmdAgingRead, s.agingBytes (oidIndex r.target), 20),
       (.resetCountersRead r, cmdResetCountersRead, s.eave.counters.flatMap (toLe 2), 22)] →
    s.Runs c r t → ∃ u : State, exec i s = .next u.flush ∧ s.Answered u t .done ps (s.execF t ps n) ∧ s.KeepsAllButReplies u

/-- CHARGER_SET answers DONE after 16 ticks; EAVE and NV hold the setting, and nothing else changes (R259). BACKUP_EVENTS_READ
returns both FIFOs after 40 ticks, and with drain 1 takes out what the recorder holds (R262). -/
def Obligations.EaveCommandsComplete : Prop :=
  (∀ r s t, s.Runs cmdChargerSet r t → ∃ u : State, exec (.chargerSet r) s = .next u.flush
    ∧ u.eave.charger = BitVec.ofNat 8 (byteAt r.params 0 + 8 * byteAt r.params 1) ∧ u.eave.chargerNv = u.eave.charger
    ∧ s.Answered u t .done [] (s.execF t [] 16) ∧ { s with eave := u.eave }.KeepsAllButReplies u
    ∧ u.eave = { s.eave with charger := u.eave.charger, chargerNv := u.eave.chargerNv, chargerState := u.eave.chargerState })
  ∧ (∀ r s t, s.Runs cmdBackupEventsRead r t → ∃ u : State, exec (.backupEventsRead r) s = .next u.flush
    ∧ s.Answered u t .done s.eave.backupBytes (s.execF t s.eave.backupBytes 40)
    ∧ { s with eave := u.eave }.KeepsAllButReplies u
    ∧ (byteAt r.params 0 = 0 → u.eave = s.eave)
    ∧ (byteAt r.params 0 = 1 → u.eave.evt0.fifo = s.eave.evt0.fifo.filter (fun e => !e.recorded)
      ∧ u.eave.evt1.fifo = s.eave.evt1.fifo.filter (fun e => !e.recorded)))

/-! ### Class N and the long commands -/

/-- CAL_ZERO and CAL_SPAN begin an averaging of N results of their channel (R181). -/
def Obligations.CalibrationsBegin : Prop :=
  (∀ r s t, s.Runs cmdCalZero r t → ∃ u : State, exec (.calZero r) s = .next u.flush ∧ ∃ x : Cal,
    u.afe = { s.afe with cals := s.afe.cals ++ [x] } ∧ x.channel = oidIndex r.target ∧ x.left = byteAt r.params 0 ∧ x.results = []
      ∧ x.span = none ∧ x.req = r ∧ u.peg = s.peg)
  ∧ (∀ r s t, s.Runs cmdCalSpan r t → ∃ u : State, exec (.calSpan r) s = .next u.flush ∧ ∃ x : Cal,
    u.afe = { s.afe with cals := s.afe.cals ++ [x] } ∧ x.channel = oidIndex r.target ∧ x.left = byteAt r.params 0 ∧ x.results = []
      ∧ x.span = some (signedOf 4 (leAt r.params 1 4)) ∧ x.req = r ∧ u.peg = s.peg)

/-- GUTTER_SAVE, KEY_RETIRE, CONSENT ISSUE, DEBUG_UNLOCK and IMAGE_VERIFY put their work into the NV queue and nothing else;
KEY_LOAD puts the opened key there, or a denial with BAD_PARAM where its parameters do not open; IMAGE_BEGIN opens the transfer and
empties the image it writes to, IMAGE_BLOCK moves the transfer's offset on, and each puts its work into the queue (R145, R152,
R153, R163, R167, R168, R172, R189, R319). -/
def Obligations.NvCommandsBegin : Prop :=
  (∀ (r : Req) (s : State) (t : Tag) (i : Instr) (c : Cmd) (w : NvWork),
    (i, c, w) ∈ [(Instr.gutterSave r, cmdGutterSave, NvWork.gutterSave), (.keyRetire r, cmdKeyRetire, .keyRetire (byteAt r.params 0)),
      (.consentIssue r, cmdConsentIssue, .consentIssue (byteAt r.params 1) (byteAt r.params 2) (leAt r.params 3 2)),
      (.debugUnlock r, cmdDebugUnlock, .debugUnlock (Config.unwrapDelivery (slice r.params 4 48))),
      (.imageVerify r, cmdImageVerify, .imageVerify)] →
    s.Runs c r t → ∃ u : State, exec i s = .next u.flush ∧ s.NvJoins u t w ∧ u = { s with nvOps := u.nvOps, comm := u.comm } ∧ u.Begun t)
  ∧ (∀ r s t, s.Runs cmdKeyLoad r t → ∃ u : State, exec (.keyLoad r) s = .next u.flush
      ∧ u = { s with nvOps := u.nvOps, comm := u.comm } ∧ u.Begun t
      ∧ (∀ k s1, s.decrypt t 1 (keyLen (byteAt r.params 0)) = some (k, s1) → s.NvJoins u t (.keyLoad (byteAt r.params 0) k))
      ∧ (s.decrypt t 1 (keyLen (byteAt r.params 0)) = none → s.NvJoins u t (.denied .badParam)))
  ∧ (∀ r s t, s.Runs cmdImageBegin r t → ∃ (u : State) (x : Transfer), exec (.imageBegin r) s = .next u.flush
      ∧ u.transfer = some x ∧ x.slot = byteAt r.params 0 ∧ x.length = leAt r.params 1 4 ∧ x.received = 0
      ∧ x.session = r.session ∧ x.port = r.port ∧ (u.transferImage x).received = [] ∧ (u.transferImage x).verified = false
      ∧ s.NvJoins u t (.imageBegin x.slot x.length) ∧ u.Begun t
      ∧ u = { s with nvOps := u.nvOps, comm := u.comm, transfer := u.transfer, images := u.images, sram := u.sram })
  ∧ (∀ r s t x, s.Runs cmdImageBlock r t → s.transfer = some x → ∃ u : State, exec (.imageBlock r) s = .next u.flush
      ∧ u.transfer = some { x with received := x.received + (r.params.length - 4) }
      ∧ s.NvJoins u t (.imageBlock (leAt r.params 0 4) (r.params.drop 4)) ∧ u.Begun t
      ∧ u = { s with nvOps := u.nvOps, comm := u.comm, transfer := u.transfer })

/-- IMAGE_ACTIVATE on a node that has booted from NV answers after 20 ticks, orders the other image for one start, and a warm reset
waits (R189); NODE_RESET answers after 14 ticks, and a reset of its class waits (R85). -/
def Obligations.ResetCommandsComplete : Prop :=
  (∀ r s t, s.Runs cmdImageActivate r t → s.nvBoot = true → ∃ u : State, exec (.imageActivate r) s = .next u.flush
    ∧ s.Answered u t .done [] (s.execF t [] 20) ∧ u.eave.bootOnce = some (byteAt r.params 0)
    ∧ u.rst = { s.rst with commanded := some (s.commandedBy t false) } ∧ u.images = s.images ∧ u.peg = s.peg)
  ∧ (∀ r s t, s.Runs cmdNodeResetWarm r t → ∃ u : State, exec (.nodeResetWarm r) s = .next u.flush
    ∧ s.Answered u t .done [] (s.execF t [] 14) ∧ u.rst = { s.rst with commanded := some (s.commandedBy t false) }
    ∧ { s with rst := u.rst }.KeepsAllButReplies u)
  ∧ (∀ r s t, s.Runs cmdNodeResetPowerOn r t → ∃ u : State, exec (.nodeResetPowerOn r) s = .next u.flush
    ∧ s.Answered u t .done [] (s.execF t [] 14) ∧ u.rst = { s.rst with commanded := some (s.commandedBy t true) }
    ∧ { s with rst := u.rst }.KeepsAllButReplies u)

/-- BLOCK_RESET GRACEFUL waits for its block, IMMEDIATE puts it into reset where no island relocks and none is in reset yet, and
waits behind those; SELFTEST joins the tests; ISLAND_RATE waits for the relock point, or is answered with the last lock time where
the island has the rate and no request waits; DOMAIN_SET waits for its slot (R48, R69, R72, R96, R190). -/
def Obligations.DiagCommandsBegin : Prop :=
  (∀ r s t, s.Runs cmdBlockResetGraceful r t → ∃ u : State, exec (.blockResetGraceful r) s = .next u.flush
    ∧ u.blocks = s.blocks ++ [{ block := byteAt r.params 0, mode := 0, inReset := false, idle := false, completed := 0, req := r }]
    ∧ u = { s with blocks := u.blocks, comm := u.comm } ∧ u.Begun t)
  ∧ (∀ r s t, s.Runs cmdBlockResetImmediate r t →
    (s.blockWaits (byteAt r.params 0) = false → s.blockInReset (byteAt r.params 0) = false →
      ∃ (u : State) (b : BlockReset), exec (.blockResetImmediate r) s = .next u.flush
        ∧ b ∈ u.blocks ∧ b.block = byteAt r.params 0 ∧ b.mode = 1 ∧ b.inReset = true ∧ b.req = r ∧ u.peg = s.peg)
    ∧ (s.blockWaits (byteAt r.params 0) = true ∨ s.blockInReset (byteAt r.params 0) = true →
      ∃ u : State, exec (.blockResetImmediate r) s = .next u.flush
        ∧ u.blocks = s.blocks ++ [{ block := byteAt r.params 0, mode := 1, inReset := false, idle := false, completed := 0, req := r }]
        ∧ u = { s with blocks := u.blocks, comm := u.comm } ∧ u.Begun t))
  ∧ (∀ r s t, s.Runs cmdSelftest r t → ∃ u : State, exec (.selftest r) s = .next u.flush
    ∧ u.selftest = s.selftest ++ [(r, BitVec.ofNat 16 (leAt r.params 0 2))] ∧ u = { s with selftest := u.selftest, comm := u.comm }
    ∧ u.Begun t)
  ∧ (∀ r s t, s.Runs cmdIslandRate r t →
    ((s.islandSt (oidIndex r.target)).rate ≠ byteAt r.params 0
        ∨ s.clk.rateReqs.any (fun q => q.island == oidIndex r.target) = true → ∃ u : State, exec (.islandRate r) s = .next u.flush
      ∧ u.clk = { s.clk with rateReqs := s.clk.rateReqs ++
        [{ island := oidIndex r.target, rate := byteAt r.params 0, req := r, frame := s.clk.frameNo, begun := false }] }
      ∧ u = { s with clk := u.clk, comm := u.comm } ∧ u.Begun t)
    ∧ ((s.islandSt (oidIndex r.target)).rate = byteAt r.params 0 →
        s.clk.rateReqs.any (fun q => q.island == oidIndex r.target) = false → ∃ u : State, exec (.islandRate r) s = .next u.flush
      ∧ s.Answered u t .done (toLe 2 (s.islandSt (oidIndex r.target)).lastLock) (s.execLate t) ∧ s.KeepsAllButReplies u))
  ∧ (∀ r s t, s.Runs cmdDomainSetOff r t → ∃ u : State, exec (.domainSetOff r) s = .next u.flush
    ∧ u.clk = { s.clk with domainReqs := s.clk.domainReqs ++
      [{ domain := oidIndex r.target, on := false, req := r, frame := s.clk.frameNo, due := false, begun := false }] }
    ∧ u = { s with clk := u.clk, comm := u.comm } ∧ u.Begun t)
  ∧ (∀ r s t, s.Runs cmdDomainSetOn r t → ∃ u : State, exec (.domainSetOn r) s = .next u.flush
    ∧ u.clk = { s.clk with domainReqs := s.clk.domainReqs ++
      [{ domain := oidIndex r.target, on := true, req := r, frame := s.clk.frameNo, due := false, begun := false }] }
    ∧ u = { s with clk := u.clk, comm := u.comm } ∧ u.Begun t)

/-- PAIR_BIND holds the opened key, its partner's serial and its admission tick for the handshake, or waits as a denial with
BAD_PARAM for the command's 61 s where its parameters do not open (R186, R326); RING_SCAN sends its cell where the ring segment is
open, and answers that nobody was found where it is not, no session taking events (R367); RING_ADMIT takes up an admission for
each listed worker, or waits as a denial where its parameters do not open (R368); RING_EXPEL sets the order of its worker for the
claim cells (R375). -/
def Obligations.LinkedCommandsBegin : Prop :=
  (∀ r s t, s.Runs cmdPairBind r t →
    (∀ k s1, s.decrypt t 4 32 = some (k, s1) → ∃ u : State, exec (.pairBind r) s = .next u.flush
      ∧ u.pair = { s.pair with
          bindReq := some ({ r with params := r.params.take 4 ++ k }, BitVec.ofNat 32 (leAt r.params 0 4), t.admitAt), pairOffers := 0 }
      ∧ u = { s with pair := u.pair, comm := u.comm } ∧ u.Begun t)
    ∧ (s.decrypt t 4 32 = none → ∃ (u : State) (x : RingCmd), exec (.pairBind r) s = .next u.flush
      ∧ u.ring = { s.ring with cmds := s.ring.cmds ++ [x] } ∧ x.req = r ∧ x.denied = some .badParam ∧ x.maxTicks = msTicks 61000
      ∧ x.admitAt = t.admitAt ∧ u = { s with ring := u.ring, comm := u.comm } ∧ u.Begun t))
  ∧ (∀ r s t, s.Runs cmdRingScan r t →
    (s.ringUp s.ringPort = true → ∃ u : State, exec (.ringScan r) s = .next u.flush
      ∧ u.ring.scanReq = some r ∧ u.ring.counterOut = s.ring.counterOut + 1 ∧ u.ring.scanned = s.ring.scanned ∧ u.peg = s.peg
      ∧ u.Begun t)
    ∧ (s.ringUp s.ringPort = false → (∀ x ∈ s.comm.sessions, x.eventMask = 0) → ∃ u : State, exec (.ringScan r) s = .next u.flush
      ∧ u.ring = { s.ring with scan := [], scanned := true, scanReq := none } ∧ s.Answered u t .done [0#8] (s.execLate t)
      ∧ u.peg = s.peg))
  ∧ (∀ r s t, s.Runs cmdRingAdmit r t →
    (∀ k s1, s.decrypt t 1 32 = some (k, s1) → ∃ u : State, exec (.ringAdmit r) s = .next u.flush
      ∧ u.ring.admitReq = some (r, admitList r, k, 0)
      ∧ u.ring.admits.map (fun a => (a.serial, a.worker, a.step)) = (admitList r).map (fun e => (e.1, e.2, 1))
      ∧ u.keys = s.keys ∧ u.peg = s.peg ∧ u.Begun t)
    ∧ (s.decrypt t 1 32 = none → ∃ (u : State) (x : RingCmd), exec (.ringAdmit r) s = .next u.flush
      ∧ u.ring = { s.ring with cmds := s.ring.cmds ++ [x] } ∧ x.req = r ∧ x.denied = some .badParam
      ∧ u = { s with ring := u.ring, comm := u.comm } ∧ u.Begun t))
  ∧ (∀ r s t, s.Runs cmdRingExpel r t → ∃ u : State, exec (.ringExpel r) s = .next u.flush
    ∧ u.ring = { s.ring with orders := u.ring.orders, expelReq := some (r, oidNode r.target) }
    ∧ (sget 0 u.ring.orders (oidNode r.target)).getLsbD 3 = true
    ∧ (∀ n, n ≠ oidNode r.target → sget 0 u.ring.orders n = sget 0 s.ring.orders n)
    ∧ u = { s with ring := u.ring, comm := u.comm } ∧ u.Begun t)

/-- A command for a worker that is not class P becomes a command of the ring with its maximum, under a ring sequence number that is
new unless the request is the repeat of one that ended TIMEOUT; where the matrix in force denies it, it waits as a denial with
REVOKED; one of class P joins the batch first (R131, R145, R173, R370). -/
def Obligations.WorkerCommandsAreCarried : Prop :=
  ∀ (i : Instr) (c : Cmd) (r : Req) (s : State) (t : Tag), requestOf i = some (c, r) → s.Takes c r t → s.Passes c t →
    oidNode r.target ≠ 0 → c.op ≠ 0x0802 → s.staging c.op r = false → s.isWorker = false →
    (rowLat c.op r ≠ .p → s.accessOk c (s.who r) r = true → s.isStandby = false →
      ∃ (u : State) (x : RingCmd), exec i s = .next u.flush ∧ x ∈ u.ring.cmds ∧ x.worker = oidNode r.target ∧ x.req = r
        ∧ x.denied = none ∧ x.inner = false ∧ x.maxTicks = s.linkTicks c.op r ∧ x.admitAt = t.admitAt
        ∧ (s.carried? r = none → x.ringSeq = s.ring.ringSeq + 1) ∧ (∀ y, s.carried? r = some y → x.ringSeq = y.ringSeq)
        ∧ u.peg = s.peg ∧ u.Begun t)
    ∧ (rowLat c.op r ≠ .p → s.accessOk c (s.who r) r = false → ∃ (u : State) (x : RingCmd), exec i s = .next u.flush
        ∧ u.ring = { s.ring with cmds := s.ring.cmds ++ [x] } ∧ x.req = r ∧ x.denied = some .revoked
        ∧ x.maxTicks = s.linkTicks c.op r ∧ u.peg = s.peg ∧ u.Begun t)
    ∧ (rowLat c.op r = .p → ∃ u : State, exec i s = .next u.flush ∧ s.Joins u t (.command t.opcode r))

/-! ### What the batch does at the peg -/

/-- ACK of a point: an unacknowledged one is acknowledged by the item's sender, EFFECT says whether it changed, and every other
point, the stations, the horn and the configuration stay (R283). ACK of a group acknowledges each of its members. SHELVE sets a
point shelved until its frame p + 100 d and returns that frame, UNSHELVE ends it; a duration above SHELVE_MAX_S is BAD_PARAM and
changes nothing (R282). -/
def Obligations.AckAndShelvingAtTheirPeg : Prop :=
  (pegOp 0x0400 = some (cmdAck, applyAck)
  ∧ (∀ (s : State) (p : Prov) (i : BatchItem) (r : Req), oidClass r.target = cPOINT →
    ∃ (q : Prov), applyAck s p i r = q.ok [if (p.pt (oidIndex r.target)).unack then 1#8 else 0#8]
      ∧ (q.pt (oidIndex r.target)).unack = false ∧ (q.pt (oidIndex r.target)).active = (p.pt (oidIndex r.target)).active
      ∧ ((p.pt (oidIndex r.target)).unack = true → (q.pt (oidIndex r.target)).ackBy = BitVec.ofNat 8 i.actor)
      ∧ (∀ n, n ≠ oidIndex r.target → q.pt n = p.pt n)
      ∧ q.st = { p.st with engine := { p.st.engine with points := q.st.engine.points } })
  ∧ (∀ (s : State) (p : Prov) (i : BatchItem) (r : Req), oidClass r.target = cGROUP →
    ∃ (q : Prov), applyAck s p i r = q.ok [if (groupMembers p.st.cfg (oidIndex r.target)).any (fun n => (p.pt n).unack) then 1#8 else 0#8]
      ∧ (∀ n ∈ groupMembers p.st.cfg (oidIndex r.target), (q.pt n).unack = false)
      ∧ (∀ n, n ∉ groupMembers p.st.cfg (oidIndex r.target) → q.pt n = p.pt n)))
  ∧ (pegOp 0x0402 = some (cmdShelve, applyShelve) ∧ pegOp 0x0403 = some (cmdUnshelve, applyUnshelve)
  ∧ (∀ (s : State) (p : Prov) (i : BatchItem) (r : Req),
    (p.c cPOINT (oidIndex r.target) 0x24 < leAt r.params 0 2 → applyShelve s p i r = { prov := p, status := .badParam, params := [] })
    ∧ (leAt r.params 0 2 ≤ p.c cPOINT (oidIndex r.target) 0x24 → ∃ q : Prov, (applyShelve s p i r).prov = q
        ∧ (applyShelve s p i r).status = .done
        ∧ (q.pt (oidIndex r.target)).shelved = true
        ∧ (q.pt (oidIndex r.target)).shelveEnd = p.frame + BitVec.ofNat 32 (100 * leAt r.params 0 2)
        ∧ (applyShelve s p i r).params.drop 1 = toLe 4 (p.frame + BitVec.ofNat 32 (100 * leAt r.params 0 2)).toNat
        ∧ (q.pt (oidIndex r.target)).active = (p.pt (oidIndex r.target)).active
        ∧ (∀ n, n ≠ oidIndex r.target → q.pt n = p.pt n))
    ∧ ((applyUnshelve s p i r).prov.pt (oidIndex r.target)).shelved = false
    ∧ (applyUnshelve s p i r).params = [if (p.pt (oidIndex r.target)).shelved then 1#8 else 0#8]
    ∧ (∀ n, n ≠ oidIndex r.target → (applyUnshelve s p i r).prov.pt n = p.pt n)))

/-- SILENCE with TARGET 0 stops the horn (R284); DUTY_SELECT makes the entry duty, an empty entry is BAD_STATE (R286);
CALL_ACCEPT makes the called station the attending one and is BAD_STATE for a station that is not called (R288). DEADMAN_RESET:
start runs the station's timer from this peg whatever it was, restart does so for a running one only, stop ends it; each clears
the station's expiry and no other station's timer changes (R289). -/
def Obligations.CallOutActionsAtTheirPeg : Prop :=
  (∀ (s : State) (p : Prov) (i : BatchItem) (r : Req),
    (r.target = 0 → (applySilence s p i r).prov.st = { p.st with engine := { p.st.engine with horn := false } }
      ∧ (applySilence s p i r).params = [if p.st.engine.horn then 1#8 else 0#8])
    ∧ (p.c cROSTER (oidIndex r.target) 0x10 = 0xFF → applyDutySelect s p i r = { prov := p, status := .badState, params := [] })
    ∧ (p.c cROSTER (oidIndex r.target) 0x10 ≠ 0xFF →
      (applyDutySelect s p i r).prov.st = { p.st with engine := { p.st.engine with duty := some (oidIndex r.target) } }
      ∧ (applyDutySelect s p i r).params = [if p.st.engine.duty ≠ some (oidIndex r.target) then 1#8 else 0#8])
    ∧ (p.enabled (oidIndex r.target) = true → (p.station (oidIndex r.target)).called = true →
      (applyCallAccept s p i r).status = .done ∧ (applyCallAccept s p i r).params = [1#8]
      ∧ (applyCallAccept s p i r).prov.st.engine.callout = 4
      ∧ ((applyCallAccept s p i r).prov.station (oidIndex r.target)).attending = true)
    ∧ ((p.station (oidIndex r.target)).called = false → p.st.engine.accepted ≠ some p.frame →
      applyCallAccept s p i r = { prov := p, status := .badState, params := [] }))
  ∧ (∀ (s : State) (p : Prov) (i : BatchItem) (r : Req) (x y : StationSt), x = p.station (oidIndex r.target) →
    y = (applyDeadman s p i r).prov.station (oidIndex r.target) → byteAt r.params 0 ≤ 2 →
    (byteAt r.params 0 ≠ 1 → x.dmStart = none → applyDeadman s p i r = { prov := p, status := .badState, params := [] })
    ∧ (byteAt r.params 0 = 1 ∨ x.dmStart ≠ none → (applyDeadman s p i r).status = .done
      ∧ y = { x with dmStart := (if byteAt r.params 0 = 2 then none else some p.frame), dmWarned := false, dmExpired := false }
      ∧ ((applyDeadman s p i r).prov.pt 0x811).sources = (p.pt 0x811).sources &&& ~~~(1#32 <<< oidIndex r.target)
      ∧ ∀ n, n ≠ oidIndex r.target → (applyDeadman s p i r).prov.station n = p.station n))

/-- OUTPUT_FORCE holds one force for the output until its limit, a second one replaces it, OUTPUT_RELEASE ends it; the forces of
the other outputs stay (R182). -/
def Obligations.ForcesAtTheirPeg : Prop :=
  ∀ (s : State) (p : Prov) (i : BatchItem) (r : Req),
    (∃ f ∈ (applyOutputForce s p i r).prov.st.engine.forces, f.node = 0 ∧ f.output = oidIndex r.target
        ∧ f.on = (byteAt r.params 0 == 1) ∧ f.endsAt = p.frame + BitVec.ofNat 32 (100 * leAt r.params 1 2)
        ∧ ∀ g ∈ (applyOutputForce s p i r).prov.st.engine.forces, g.node = 0 → g.output = oidIndex r.target → g = f)
    ∧ (∀ g ∈ (applyOutputRelease s p i r).prov.st.engine.forces, ¬ (g.node = 0 ∧ g.output = oidIndex r.target))
    ∧ (∀ g : Force, ¬ (g.node = 0 ∧ g.output = oidIndex r.target) →
        (g ∈ (applyOutputForce s p i r).prov.st.engine.forces ↔ g ∈ p.st.engine.forces)
        ∧ (g ∈ (applyOutputRelease s p i r).prov.st.engine.forces ↔ g ∈ p.st.engine.forces))

/-- The TIME commands at their peg (R253, R254, R263): HOUR_ADD is BAD_STATE with DST set and HOUR_SUB with DST clear, TIME_SHIFT is
BAD_STATE while a slew is under way, and of 0 it changes nothing; TIME_SET of a valid time joins the effects of its frame. When the
frame is pegged TIME_SET loads its date, marks the second, ends a slew and sets VALID; HOUR_ADD moves the date by an hour and sets
DST, HOUR_SUB moves it back and clears DST, and SECONDS and the mark stay with both; WEEKDAY_SET, TIME_SHIFT and WAKE_SET load their
values alone. -/
def Obligations.TimeCommandsAtTheirPeg : Prop :=
  (∀ (s : State) (p : Prov) (i : BatchItem) (r : Req),
    ((s.eaveUnder p).dst = true → applyHourAdd s p i r = { prov := p, status := .badState, params := [] })
    ∧ ((s.eaveUnder p).dst = false → applyHourSub s p i r = { prov := p, status := .badState, params := [] })
    ∧ ((s.eaveUnder p).slew ≠ 0 → applyTimeShift s p i r = { prov := p, status := .badState, params := [] })
    ∧ ((s.eaveUnder p).slew = 0 → shiftOf r = 0 → applyTimeShift s p i r = { prov := p, status := .done, params := [] })
    ∧ (timeOk (s.eaveUnder p).dst r.params = true →
      applyTimeSet s p i r = (p.addEffect (.timeSet (r.params.map BitVec.toNat))).ok []))
  ∧ (∀ (e : Eave) (t : Batten) (now : Nat) (f : List Nat) (d : Date), dateOfBcd (f.map (BitVec.ofNat 8)) = some d →
      e.timeEffect t now (.timeSet f) =
        { e with date := d, secondAt := now, mark := t, marked := true, prevMark := (if e.marked then some e.mark else none),
                 prevSec := e.seconds, slew := 0, slewOn := false, valid := true })
  ∧ (∀ (e : Eave) (t : Batten) (now : Nat), dateOk e.date = true → e.dst = false → dateSecs e.date + 3600 < calendarEnd →
      (e.timeEffect t now .hourAdd).dst = true ∧ dateSecs (e.timeEffect t now .hourAdd).date = dateSecs e.date + 3600
      ∧ (e.timeEffect t now .hourAdd).seconds = e.seconds ∧ (e.timeEffect t now .hourAdd).mark = e.mark)
  ∧ (∀ (e : Eave) (t : Batten) (now : Nat), dateOk e.date = true → e.dst = true → 3600 ≤ dateSecs e.date →
      (e.timeEffect t now .hourSub).dst = false ∧ dateSecs (e.timeEffect t now .hourSub).date = dateSecs e.date - 3600
      ∧ (e.timeEffect t now .hourSub).seconds = e.seconds ∧ (e.timeEffect t now .hourSub).mark = e.mark)
  ∧ (∀ (e : Eave) (t : Batten) (now d : Nat), e.timeEffect t now (.weekdaySet d) = { e with weekday := d })
  ∧ (∀ (e : Eave) (t : Batten) (now : Nat) (n : Int), e.timeEffect t now (.timeShift n) = { e with slew := n, slewOn := false })
  ∧ (∀ (e : Eave) (t : Batten) (now a b c : Nat), e.timeEffect t now (.wakeSet a b c)
      = { e with wakeNext := a, wakeInterval := b, wakeEvt := BitVec.ofNat 2 c })

/-- The full year is Y, leap when divisible by 4 unless by 100 and not by 400; February has 29 days then and 28 otherwise, every
other month its Gregorian length (R247). -/
def Obligations.CalendarOfR247 : Prop :=
  (∀ p d, dateOfBcd p = some d → ∃ c y, unBcd (byteAt p 6) = some c ∧ unBcd (byteAt p 5) = some y ∧ d.year = 100 * c + y)
  ∧ (∀ y, isLeap y = true ↔ (y % 4 = 0 ∧ ¬ (y % 100 = 0 ∧ y % 400 ≠ 0)))
  ∧ isLeap 2000 = true ∧ isLeap 2100 = false ∧ isLeap 2200 = false ∧ isLeap 2300 = false
  ∧ (∀ y, monthLen y 2 = if isLeap y then 29 else 28)
  ∧ (∀ y, [1, 3, 5, 7, 8, 10, 12].map (monthLen y) = List.replicate 7 31 ∧ [4, 6, 9, 11].map (monthLen y) = List.replicate 4 30)

/-- The roll after 2399-12-31 23:59:59 (R249). -/
def Obligations.CalendarRolls : Prop :=
  ∀ e : Eave, e.date = { year := 2399, month := 12, day := 31, hour := 23, min := 59, sec := 59 } →
    e.nextSecond.date = { year := 2000, month := 1, day := 1, hour := 0, min := 0, sec := 0 } ∧ e.nextSecond.dst = false
    ∧ e.nextSecond.weekday = (e.weekday + 1) % 7 ∧ e.nextSecond.valid = false ∧ e.nextSecond.seconds = 0

/-- A date in the calendar and its second number determine each other (R247, R248). -/
def Obligations.CalendarReadsBack : Prop :=
  (∀ d : Date, dateOk d = true → secsDate (dateSecs d) = d) ∧ (∀ n, n < calendarEnd → dateOk (secsDate n) = true ∧ dateSecs (secsDate n) = n)

/-- MATRIX_WRITE at its peg (R144): a wrong expected generation is BAD_STATE and changes nothing; the right one replaces the
named rows and no other cell, raises the generation by one past 0, and answers it. -/
def Obligations.MatrixWriteAtItsPeg : Prop :=
  ∀ (s : State) (p : Prov) (i : BatchItem) (r : Req),
    (BitVec.ofNat 32 (leAt r.params 0 4) ≠ p.st.gen → applyMatrixWrite s p i r = { prov := p, status := .badState, params := [] })
    ∧ (BitVec.ofNat 32 (leAt r.params 0 4) = p.st.gen → ∃ q : Prov, applyMatrixWrite s p i r = q.ok (toLe 4 q.st.gen.toNat)
      ∧ q.st.gen = (if p.st.gen = 0xFFFFFFFF then 1 else p.st.gen + 1) ∧ q.st.lastMatrixFrame = p.frame
      ∧ q.st.cfg = p.st.cfg ∧ q.st.seals = p.st.seals ∧ q.st.engine = p.st.engine
      ∧ (∀ cls grp role bit, grp < 16 → (∀ k < byteAt r.params 4, byteAt r.params (5 + 49 * k) ≠ cls) →
          holds q.st.matrix cls grp role bit = holds p.st.matrix cls grp role bit)
      ∧ (matrixWriteOk r.params = true → ∀ k < byteAt r.params 4, ∀ row, classRow (byteAt r.params (5 + 49 * k)) = some row →
          rowBytes q.st.matrix row = writeRow r.params k))

/-- SEAL, UNSEAL release and UNSEAL break at their peg (R147, R149): a new seal takes the lowest free entry, an equal intact one
changes nothing, release removes the entry, break keeps it broken with one ledger entry. -/
def Obligations.SealsAtTheirPeg : Prop :=
  (∀ (s : State) (p : Prov) (i : BatchItem) (r : Req) (n : Nat),
    p.st.seals.find? (fun e => sameSeal e.2 (sealOf r)) = none → freeSeal p.st.seals = some n → sealOk r = true →
    (applySeal s p i r).status = .done ∧ (applySeal s p i r).params = toLe 2 n
    ∧ sget Seal.none (applySeal s p i r).prov.st.seals n = sealOf r
    ∧ ∀ m, m ≠ n → sget Seal.none (applySeal s p i r).prov.st.seals m = sget Seal.none p.st.seals m)
  ∧ (∀ (s : State) (p : Prov) (i : BatchItem) (r : Req) (n : Nat) (x : Seal),
    p.st.seals.find? (fun e => sameSeal e.2 (sealOf r)) = some (n, x) → x.broken = false →
    applySeal s p i r = { prov := p, status := .done, params := toLe 2 n })
  ∧ (∀ (s : State) (p : Prov) (i : BatchItem) (r : Req) (n : Nat) (x : Seal),
    p.st.seals.find? (fun e => e.1 == leAt r.params 0 2) = some (n, x) → byteAt r.params 2 = 0 →
    (applyUnseal s p i r).status = .done ∧ (applyUnseal s p i r).prov.st.seals = sdel p.st.seals (leAt r.params 0 2))
  ∧ (∀ (s : State) (p : Prov) (i : BatchItem) (r : Req) (n : Nat) (x : Seal),
    p.st.seals.find? (fun e => e.1 == leAt r.params 0 2) = some (n, x) → byteAt r.params 2 = 1 → x.broken = false →
    (applyUnseal s p i r).status = .done
    ∧ sget Seal.none (applyUnseal s p i r).prov.st.seals (leAt r.params 0 2) = { x with broken := true }
    ∧ (applyUnseal s p i r).prov.effects = p.effects ++ [.ledger 1 i.actor (leAt r.params 0 2)])

/-- LOG_POLICY and LOG_MARK, SWAP_POLICY and the hand-over at their peg (R300, R309, R344, R345). -/
def Obligations.LogAndPairAtTheirPeg : Prop :=
  ∀ (s : State) (p : Prov) (i : BatchItem) (r : Req),
    (applyLogPolicy s p i r).prov.effects = p.effects ++ [.refillBucket (leAt r.params 0 2)]
    ∧ cfgOf (applyLogPolicy s p i r).prov.st.cfg cLOG (leAt r.params 0 2) 0x21 = leAt r.params 2 2 + 65536 * byteAt r.params 4
    ∧ (∃ o : Occurrence, (applyLogMark s p i r).prov.records = p.records ++ [o] ∧ o.code = 1016 ∧ o.typ = 4
      ∧ o.object = BitVec.ofNat 32 (leAt r.params 0 4) ∧ o.data = slice r.params 4 4)
    ∧ (applySwapPolicy s p i r).prov.st = { p.st with swapHours := byteAt r.params 0 }
    ∧ (s.twinSynced = false → (applySwapNow s p i r).status = .badState ∧ (applySwapNow s p i r).prov = p
      ∧ applyYield s p i r = { prov := p, status := .badState, params := [] })
    ∧ (s.twinSynced = true → (∀ c, Effect.handover c ∉ p.effects) →
      (applyYield s p i r).prov.effects = p.effects ++ [.handover 2])
    ∧ (s.pair.bound = false → applyPairUnbind s p i r = { prov := p, status := .badState, params := [] })

/-! ### The host port and the UARTs -/

/-- WRITE_PACKET with a good CRC hands its packet to the front end while the port is ready, one with a bad CRC is counted and
sets PORT_IRQ bit 2, and one to a port that is not ready is ignored and sets bit 3 (R380). READ_PACKET clocks out the head
packet with its CRC, and zeros past the end; the packet is gone once all of it was clocked, and stays otherwise (R381). READ_REG
returns the registers of Table PRT-2 at addresses that step by 4 (R382). Writing 1 clears the sticky bits 1 to 5 of PORT_IRQ and
no other; the mask and the width hold what is written, the width from the next transaction on; an unknown command byte sets bit
4; a write to any other address changes nothing (R379, R382, R383). -/
def Obligations.HostPortComplete : Prop :=
  ((∀ (b : List Byte) (s : State), s.portLive .host = true →
    (s.hostTxn.hrdy = true → exec (.writePacket (withCrc16 b)) s = .next (s.hostTxn.frontBytes .host b))
    ∧ (s.hostTxn.hrdy = true → (b.length < 2 ∨ leAt b (b.length - 2) 2 ≠ crc16 (b.take (b.length - 2))) →
      ∃ u : State, exec (.writePacket b) s = .next u ∧ u.comm.framingErrors = inc32 s.comm.framingErrors
        ∧ u.hw.host.sticky = s.hw.host.sticky ||| 4 ∧ u = { s with comm := u.comm, hw := u.hw }
        ∧ u.comm = { s.comm with framingErrors := u.comm.framingErrors })
    ∧ (s.hostTxn.hrdy = false → ∃ u : State, exec (.writePacket b) s = .next u
        ∧ u.hw.host.sticky = s.hw.host.sticky ||| 8 ∧ u = { s with hw := u.hw }))
  ∧ ((∀ (n : Nat) (s : State) (k : Packet) (ks : List Packet), s.hostOn = true → s.outQ .host = k :: ks →
    ∃ u : State, exec (.readPacket n) s = .next u
      ∧ u.hw.host.readOut = ((k.wire ++ toLe 2 (crc16 k.wire)) ++ List.replicate n 0#8).take n
      ∧ u.outQ .host = (if k.wire.length + 2 ≤ n then ks else k :: ks)
      ∧ (∀ p, p ≠ .host → u.outQ p = s.outQ p) ∧ u.peg = s.peg)
  ∧ (∀ (n : Nat) (s : State), s.hostOn = true → s.outQ .host = [] →
    ∃ u : State, exec (.readPacket n) s = .next u ∧ u.hw.host.readOut = List.replicate n 0#8 ∧ u = { s with hw := u.hw })
  ∧ (∀ (a : Byte) (n : Nat) (s : State), s.hostOn = true →
    ∃ u : State, exec (.readReg a n) s = .next u ∧ u = { s with hw := u.hw }
      ∧ u.hw.host.readOut.length = 4 * n
      ∧ ∀ k < n, leAt u.hw.host.readOut (4 * k) 4 = s.hostTxn.portReg ((a.toNat + 4 * k) % 256) % 2 ^ 32)))
  ∧ (∀ (v : Word) (s : State), s.hostOn = true →
    (∃ u : State, exec (.portIrqClear v) s = .next u ∧ u = { s with hw := u.hw }
      ∧ u.hw = { s.hw with host := { s.hostTxn.hw.host with sticky := u.hw.host.sticky } }
      ∧ ∀ i, i < 6 → u.hw.host.sticky.getLsbD i = (s.hw.host.sticky.getLsbD i && !(decide (1 ≤ i) && v.getLsbD i)))
    ∧ exec (.portIrqMaskWrite v) s = .next { s with hw := { s.hw with host := { s.hostTxn.hw.host with mask := v.setWidth 6 } } }
    ∧ exec (.portCfgWrite v) s = .next { s with hw := { s.hw with host := { s.hostTxn.hw.host with quadNext := v.getLsbD 0 } } }
    ∧ (∀ c : Byte, c.toNat = 0 ∨ 4 < c.toNat →
      exec (.hostBadCommand c) s = .next { s with hw := { s.hw with host := { s.hostTxn.hw.host with sticky := s.hw.host.sticky ||| 16 } } })
    ∧ (∀ a : Byte, a.toNat = 8 → exec (.writeReg a [v]) s = exec (.portIrqClear v) s)
    ∧ (∀ a : Byte, a.toNat ≠ 8 → a.toNat ≠ 12 → a.toNat ≠ 24 → exec (.writeReg a [v]) s = .next s.hostTxn))

/-- What COBS encodes decodes to itself and holds no zero byte (R108). -/
def Obligations.CobsReadsBack : Prop :=
  ∀ b : List Byte, (0#8 ∉ cobsEncode (b.length + 1) b)
    ∧ cobsDecode ((cobsEncode (b.length + 1) b).length + 1) (cobsEncode (b.length + 1) b) = some b

/-- A character joins the receive queue, a full queue drops it as an overrun and spoils the frame, one with a line error is
counted and discarded; the idle hand-off empties the queue; a change of CTS is noted (R384, R385, R386). -/
def Obligations.UartCharactersComplete : Prop :=
  ∀ (v : Uart) (c : Byte) (s : State), s.uartOn v = true →
    (∃ u : State, exec (.uartCharReceived v c true) s = .next u ∧ u.uart v = { s.uart v with lineErrors := inc32 (s.uart v).lineErrors }
      ∧ u = { s with hw := u.hw })
    ∧ (¬ (v = .u2 ∧ s.panelMode = true) → 128 ≤ (s.uart v).rx.length → ∃ u : State, exec (.uartCharReceived v c false) s = .next u
      ∧ u.uart v = { s.uart v with overruns := inc32 (s.uart v).overruns, spoiled := true } ∧ u = { s with hw := u.hw })
    ∧ (¬ (v = .u2 ∧ s.panelMode = true) → (s.uart v).rx.length + 1 < triggerLevel (s.uartCfg v 1) → (s.uart v).rx.length < 128 →
      c ≠ delimiter v → ∃ u : State, exec (.uartCharReceived v c false) s = .next u ∧ (u.uart v).rx = (s.uart v).rx ++ [c]
        ∧ u = { s with hw := u.hw })
    ∧ (∃ u : State, exec (.uartIdleHandoff v) s = .next u ∧ u = { s with hw := u.hw }
      ∧ (u.uart v).rx = if s.slotsFull v then (s.uart v).rx else [])
    ∧ (∀ h, ∃ u : State, exec (.ctsChange v h) s = .next u ∧ (u.uart v).ctsHigh = h ∧ (u.uart v).rx = (s.uart v).rx
      ∧ u = { s with hw := u.hw })

/-- A COBS frame of a packet with its CRC passes the packet to the front end of its port; a frame that does not decode, or whose
CRC fails, is counted in FRAMING_ERRORS and nothing is answered (R108); while the port's four answer slots are in use its parser
takes none (R121, R386). The incoming unit's driver comes on at the start of frame m + 20 of its role although no release came
(R387). -/
def Obligations.UartFramesComplete : Prop :=
  ((∀ (b : List Byte) (s : State), s.uartOn .u0 = true → s.slotsFull .u0 = false → (s.uart .u0).spoiled = false →
    (cobsEncode (b.length + 3) (withCrc16 b)).length ≤ 4151 →
    exec (.uartFrameReceived .u0 (cobsEncode (b.length + 3) (withCrc16 b))) s
      = .next (((s.modUart .u0 (fun x => { x with spoiled := false })).frontBytes .u0 b).handOff .u0 |>.rtsUpdate .u0))
  ∧ (∀ (f : List Byte) (s : State), s.uartOn .u0 = true → s.slotsFull .u0 = false → cobsDecode (f.length + 1) f = none →
    ∃ u : State, exec (.uartFrameReceived .u0 f) s = .next u ∧ u.comm = { s.comm with framingErrors := inc32 s.comm.framingErrors }
      ∧ u = { s with comm := u.comm, hw := u.hw })
  ∧ (∀ (f : List Byte) (s : State), s.slotsFull .u0 = true → exec (.uartFrameReceived .u0 f) s = .next s))
  ∧ (∀ (s : State) (m : Frame), s.isActive = true → frameGe s.clk.frameNo (m + 20) = true →
    (s.hw.waitRelease1 = some m → exec (.driverEnableFallback .u1) s
      = .next { s with hw := { s.hw with drive1 := true, waitRelease1 := none, released1 := false } })
    ∧ (s.hw.waitRelease2 = some m → exec (.driverEnableFallback .u2) s
      = .next { s with hw := { s.hw with drive2 := true, waitRelease2 := none, released2 := false } }))

/-! ### The bridge line, CAN and JTAG -/

/-- An ACN that meets R391 goes into the batch as it stands; a bad sentence is counted bad, a good one of another type ignored,
and a valid ZDA on the port that ZDA_PORT names becomes the label (R389, R391). -/
def Obligations.SentencesComplete : Prop :=
  (∀ (text : List Byte) (fs : List (List Byte)) (s : State), s.bridgeOn = true → s.isReady = true → (s.uart .u1).spoiled = false →
    s.pair.detached = false → sentenceFields text = some fs → sentenceType fs = ascii "ACN" → acnTaken fs = true →
    ∃ (u : State) (i : BatchItem), exec (.acnReceived text) s = .next u ∧ u.admitted = s.admitted ++ [i] ∧ i.body = .acn text
      ∧ u.peg = s.peg)
  ∧ (∀ (text : List Byte) (s : State), s.bridgeOn = true → s.isReady = true → sentenceFields text = none →
    ∃ u : State, exec (.otherSentenceReceived text) s = .next u ∧ exec (.acnReceived text) s = .next u
      ∧ u.hw.sentBad = inc32 s.hw.sentBad ∧ u = { s with hw := u.hw })
  ∧ (∀ (text : List Byte) (fs : List (List Byte)) (s : State), s.bridgeOn = true → s.isReady = true →
    (s.uart .u1).spoiled = false → sentenceFields text = some fs → sentenceType fs ≠ ascii "ACN" → sentenceType fs ≠ ascii "ZDA" →
    ∃ u : State, exec (.otherSentenceReceived text) s = .next u ∧ u.hw.sentIgnored = inc32 s.hw.sentIgnored ∧ u = { s with hw := u.hw })
  ∧ (∀ (text : List Byte) (fs : List (List Byte)) (d : Date) (s : State), s.bridgeOn = true → (s.uart .u1).spoiled = false →
    sentenceFields text = some fs → sentenceType fs = ascii "ZDA" → zdaDate fs = some d → s.dev 0x5E = 0 →
    exec (.zdaReceived text) s = .next ((s.modUart .u1 (fun x => { x with spoiled := false })).keepLabel d))

/-- The error counters, LONE after sixteen acknowledgement errors, its retry every 100 ms, bus-off and its recovery, the
protocol exception and a frame of another identifier (R393, R394, R395). The other controller and everything else stay. A
bus-off controller is error-active with both counters at 0 after its recovery (R393). -/
def Obligations.CanControllersComplete : Prop :=
  (∀ (c : CanNo) (s : State), s.canLive c = true →
    (∀ e, ∃ u : State, exec (.canBusError c e) s = .next u ∧ u = s.modCan c (fun _ => u.can c)
      ∧ (e = .transmit → (s.can c).tec + 8 ≤ 255 → (u.can c).tec = (s.can c).tec + 8)
      ∧ (e = .transmit → 255 < (s.can c).tec + 8 → (u.can c).state = 3 ∧ (u.can c).busOffs = inc16 (s.can c).busOffs)
      ∧ (e = .receive → (u.can c).recCount = min 255 ((s.can c).recCount + 1))
      ∧ (e = .acknowledge → (u.can c).ackErrors = (s.can c).ackErrors + 1
        ∧ ((s.can c).state = 2 → (u.can c).tec = (s.can c).tec)))
    ∧ (16 ≤ (s.can c).ackErrors → exec (.lone c) s = .next (s.modCan c (fun x => { x with lone := true })))
    ∧ ((s.can c).ackErrors < 16 → exec (.lone c) s = .next s)
    ∧ ((s.can c).lone = true → (s.can c).lastRetry = none →
      exec (.loneRetry c) s = .next (s.modCan c (fun x => { x with lastRetry := some s.clk.batten })))
    ∧ (∀ t, (s.can c).lastRetry = some t → since s.clk.batten t < 1250000 → exec (.loneRetry c) s = .next s)
    ∧ exec (.protocolException c) s = .next (s.modCan c (fun x => { x with protoExc := inc16 x.protoExc }))
    ∧ (∀ i, s.isSegment i = false → isTimeLabel i = false → (s.can c).recCount ≤ 127 →
      ∃ u : State, exec (.canFrameReceived c i) s = .next u ∧ u = s.modCan c (fun _ => u.can c) ∧ (u.can c).lone = false
        ∧ (u.can c).recCount = (s.can c).recCount - 1))
  ∧ (∀ (c : CanNo) (s : State), s.canOn c = true → (s.can c).state = 3 →
    exec (.busOffRecovery c) s = .next (s.modCan c (fun x => { x with state := 1, tec := 0, recCount := 0 })))

/-- Segments of a train are put together in their order: the first opens it, the next one with the right index extends it, a
wrong index or 100 ms without completion discards it into FRAMING_ERRORS (R109, R397); a label on the controller of ZDA_PORT is
kept (R401). -/
def Obligations.CanTrainsComplete : Prop :=
  (∀ (c : CanNo) (i : BitVec 29) (p : List Byte) (s : State), s.canLive c = true → s.isSegment i = true →
    byteAt p 0 = 0 → 1 ≤ byteAt p 2 → byteAt p 2 ≤ 61 → 3 + byteAt p 2 ≤ p.length →
    ((s.canRx c).can c).trains.find? (fun t => t.src == BitVec.ofNat 7 (idSrc i) && t.num == p.getD 1 0) = none →
    ((s.canRx c).can c).trains.length < 4 →
    ∃ u : State, exec (.turwaSegmentReceived c i p) s = .next u
      ∧ (u.can c).trains = (s.can c).trains ++
        [{ src := BitVec.ofNat 7 (idSrc i), num := p.getD 1 0, next := 1, data := slice p 3 (byteAt p 2), began := s.clk.batten }]
      ∧ u.comm = s.comm)
  ∧ (∀ (c : CanNo) (i : BitVec 29) (p : List Byte) (t : Train) (s : State), s.canLive c = true → s.isSegment i = true →
    ((s.canRx c).can c).trains.find? (fun t => t.src == BitVec.ofNat 7 (idSrc i) && t.num == p.getD 1 0) = some t →
    1 ≤ byteAt p 2 → byteAt p 2 ≤ 61 → 3 + byteAt p 2 ≤ p.length → byteAt p 0 % 128 ≠ t.next →
    ∃ u : State, exec (.turwaSegmentReceived c i p) s = .next u ∧ u.comm.framingErrors = inc32 s.comm.framingErrors
      ∧ (∀ v ∈ (u.can c).trains, ¬ (v.src = t.src ∧ v.num = t.num)) ∧ u.comm.tags = s.comm.tags)
  ∧ (∀ (c : CanNo) (a : BitVec 7) (n : Byte) (t : Train) (s : State),
    (s.can c).trains.find? (fun t => t.src == a && t.num == n) = some t → 1250000 ≤ since s.clk.batten t.began →
    ∃ u : State, exec (.canTrainTimeout c a n) s = .next u ∧ u.comm.framingErrors = inc32 s.comm.framingErrors
      ∧ (∀ v ∈ (u.can c).trains, ¬ (v.src = a ∧ v.num = n)) ∧ u.comm.ports = s.comm.ports)
  ∧ (∀ (c : CanNo) (p : List Byte) (s : State), s.canLive c = true → s.dev 0x5E = 1 + canNo c → (byteAt p 4).testBit 0 = true →
    8 ≤ p.length → exec (.timeLabelReceived c p) s = .next ((s.canRx c).keepLabel (secsDate (leAt p 0 4))))

/-- TRANSMISSION_COMPLETE takes the head of its line's queue off; while flow control stops a UART nothing leaves (R120, R386,
R392, R399). SYS_STATE and STATION_MESSAGE put their broadcast on the lines at a pegged frame whose number is a multiple of 100
(R399, R400), and nothing at another frame. -/
def Obligations.TransmissionsComplete : Prop :=
  ((∀ (s : State) (k : Packet) (ks : List Packet), s.uartOn .u0 = true → s.ctsStops .u0 = false → s.outQ .u0 = k :: ks →
    ∃ u : State, exec (.transmissionComplete .u0) s = .next u ∧ u.outQ .u0 = ks ∧ (u.uart .u0).tx = cobsFrame k.wire ∧ u.peg = s.peg)
  ∧ (∀ s : State, s.uartOn .u0 = true → s.ctsStops .u0 = true → exec (.transmissionComplete .u0) s = .next s)
  ∧ (∀ (s : State) (x : Sentence) (xs : List Sentence), s.uartOn .u1 = true → s.hw.drive1 = true → s.hw.released1 = false →
    s.hw.sentences = x :: xs → ∃ u : State, exec (.transmissionComplete .u1) s = .next u ∧ u.hw.sentences = xs
      ∧ (u.uart .u1).tx = x.text ∧ u = { s with hw := u.hw })
  ∧ (∀ (s : State) (c : CanNo) (f : CanFrame), s.canLive c = true → nextFrame (s.can c).txq = some f →
    ∃ u : State, exec (.transmissionComplete (match c with | .can0 => .can0 | .can1 => .can1)) s = .next u
      ∧ (u.can c).txq = (s.can c).txq.erase f ∧ (u.can c).sent = [f] ∧ u = s.modCan c (fun _ => u.can c)))
  ∧ (∀ (s : State) (n : Fin 16), s.isReady = true →
    (s.hundredth = true → exec .sysState s = .next s.sendSysState)
    ∧ (s.hundredth = false → exec .sysState s = .next s ∧ exec (.stationMessage n) s = .next s)
    ∧ (s.hundredth = true → (s.stationSt n.val).busy = true → exec (.stationMessage n) s = .next (s.sendStation n.val))
    ∧ s.sendSysState.peg = s.peg ∧ (s.sendStation n.val).peg = s.peg
    ∧ (s.isActive = false → s.sendSysState = s ∧ s.sendStation n.val = s))

/-- TRST_N low holds the TAP in Test-Logic-Reset with IDCODE; outside the maintenance state EXTEST and SAMPLE act as BYPASS, and
the debug instructions do unless debug is unlocked; a rising TCK edge moves the controller on (R39, R403, R405). -/
def Obligations.JtagComplete : Prop :=
  (∀ s : State, ∃ u : State, exec (.jtagTrst false) s = .next u ∧ u = { s with hw := u.hw } ∧ u.hw.jtag.tap = .testLogicReset
    ∧ u.hw.jtag.ir = 1 ∧ u.tapHeld = true)
  ∧ (∀ s : State, exec (.jtagTrst true) s = .next (s.modJtag (fun j => { j with trstHigh := true })))
  ∧ (∀ (s : State) (c : BitVec 5), s.tapHeld = false → ∃ u : State, exec (.jtagInstructionUpdate c) s = .next u
    ∧ u = s.modJtag (fun j => { j with ir := u.hw.jtag.ir })
    ∧ (c = 1 → u.hw.jtag.ir = 1) ∧ ((c = 0 ∨ c = 2) → s.maint.mode ≠ 1 → u.hw.jtag.ir = 31)
    ∧ (16 ≤ c.toNat → s.maint.debugUnlocked = false → u.hw.jtag.ir = 31))
  ∧ (∀ (s : State) (tdi tms : Bool), s.tapHeld = false → s.hw.jtag.tap = .shiftDr →
    ∃ u : State, exec (.jtagTckEdge true tms tdi) s = .next u ∧ u.hw.jtag.drShift = s.hw.jtag.drShift.drop 1 ++ [tdi]
      ∧ u.hw.jtag.tap = (if tms then .exit1Dr else .shiftDr) ∧ u.hw.jtag.ir = s.hw.jtag.ir ∧ u = { s with hw := u.hw })
  ∧ (∀ (s : State), s.tapHeld = false → s.hw.jtag.tap = .shiftDr →
    ∃ u : State, exec (.jtagTckEdge false false false) s = .next u ∧ u.hw.jtag.tdo = s.hw.jtag.drShift.head?
      ∧ u = s.modJtag (fun j => { j with tdo := u.hw.jtag.tdo }))

/-! ### Sessions, maintenance and diagnosis in time -/

/-- An open session with no command in flight that has been idle for SESSION_IDLE_S, and an opening one a second after its OPEN reply,
are closed, no reply leaves and no other session changes (R112, R113). A key lock ends: its failures start from 0 and its next lock
lasts twice as long, at most 3600 s (R157). A credit echo is kept, and lets the one waiting event leave where there is credit and
its class may be read (R132, R133). A lone held reply with no earlier one to come leaves, with EXACT 0 and in EXEC the time since
admission, at least the count it had (R74, R125, R126). The token's expiry ends the maintenance state with a record and puts the TAP in
Test-Logic-Reset (R167, R405). -/
def Obligations.SessionEventsComplete : Prop :=
  (∀ (n : Half) (s : State) (x : Sess), s.sessNum n = some x → x.isOpen = true → x.num ≠ 0 → s.inFlight x.port x.num = 0 →
    s.dev 0x50 * Config.ticksPerSecond ≤ since s.clk.batten x.lastSeen →
    ∃ u : State, exec (.sessionIdleTimeout n) s = .next u ∧ u.sess? x.port x.num = none ∧ u.comm.ports = s.comm.ports ∧ u.peg = s.peg
      ∧ (∀ p m, ¬ (p = x.port ∧ m = x.num) → u.sess? p m = s.sess? p m))
  ∧ (∀ (n : Half) (s : State) (x : Sess), s.sessNum n = some x → x.isOpen = false → x.num ≠ 0 →
    s.clockReached (x.openedAt + BitVec.ofNat 40 Config.ticksPerSecond) = true →
    ∃ u : State, exec (.proveTimeout n) s = .next u ∧ u.sess? x.port x.num = none ∧ u.comm.ports = s.comm.ports ∧ u.peg = s.peg
      ∧ (∀ p m, ¬ (p = x.port ∧ m = x.num) → u.sess? p m = s.sess? p m))
  ∧ (∀ (p : Port) (k : Fin 24) (s : State), (s.lockOf p k.val).locked = true → since s.clk.batten (s.lockOf p k.val).endsAt < 2 ^ 39 →
    ∃ u : State, exec (.keyLockExpiry p k) s = .next u ∧ (u.lockOf p k.val).locked = false ∧ (u.lockOf p k.val).fails = 0
      ∧ (u.lockOf p k.val).lockS = min 3600 (2 * (s.lockOf p k.val).lockS)
      ∧ u = { s with comm := { s.comm with locks := u.comm.locks } })
  ∧ (∀ (n : Half) (e : Word) (s : State) (x : Sess), s.sessNum n = some x → s.sess? x.port x.num = some x → x.evtQueue = [] →
    exec (.eventCreditRelease n e) s = .next (s.modSess x.port x.num (fun y => { y with echo := e })))
  ∧ (∀ (n : Half) (e : Word) (s : State) (x : Sess) (v : Event), s.sessNum n = some x → s.sess? x.port x.num = some x →
    x.evtQueue = [v] → x.coalesced = [] → (x.sent - e).toNat < 16 → v.kind ≠ 10 →
    (s.eventFor x v.kind v.object = true →
      ∃ (u : State) (k : Packet), exec (.eventCreditRelease n e) s = .next u ∧ u.outQ x.port = s.outQ x.port ++ [k] ∧ k.event = true
        ∧ k.session = x.num
        ∧ k.params = toLe 2 v.kind ++ toLe 2 (x.evtNo + 1).toNat ++ toLe 4 v.object.toNat ++ v.data ∧ u.peg = s.peg)
    ∧ (s.eventFor x v.kind v.object = false →
      ∃ u : State, exec (.eventCreditRelease n e) s = .next u ∧ u.comm.ports = s.comm.ports ∧ u.peg = s.peg))
  ∧ (∀ (n : Half) (s : State) (h : Held), s.comm.held = [h] → h.packet.session = n → h.port ∈ partnerPorts →
    (∀ v ∈ s.comm.tags, ¬ (v.req.port = h.port ∧ v.req.session = n ∧ v.dup = false ∧ v.answered = false
      ∧ v.req.seq.toNat < h.packet.seq.toNat)) →
    ∃ u : State, exec (.replyRelease n) s = .next u ∧ u.comm.held = [] ∧ u.comm.tags = s.comm.tags ∧ u.peg = s.peg
      ∧ u.outQ h.port = s.outQ h.port ++
        [{ h.packet with exec := max h.packet.exec (satExec (since s.clk.batten h.admitAt)), exact := false }])
  ∧ (∀ s : State, s.inMaint = true → secBefore s.secNow s.maint.expiry = false →
    ∃ u : State, exec .tokenExpiry s = .next u ∧ u.inMaint = false ∧ u.maint.tokens = s.maint.tokens ∧ u.hw.jtag = s.hw.jtag.toReset
      ∧ u.recorder.waiting.length = s.recorder.waiting.length + 1 ∧ u.peg = s.peg)

/-- BLOCK_IDLE and FALLBACK begin a graceful block reset, on idle with nothing outstanding and once its timeout has passed, in an
island that is not relocking; the block then stands in reset with that mode (R96). BLOCK_RESET_COMPLETE ends it 64 ticks later: the
reset is counted in reset counter 15 and its command answered with the mode and the number completed (R98). RELOCK_POINT puts the
island of a request of an earlier frame on the crawl clock at tick 115 000; LOCK_CONFIRMED brings an island back with the target's
rate and its lock time at 29 + L ticks after its retargeting, and answers the command 7 ticks after that (R69, R71); PLL_LOCK_LOSS
sends an island the same way to the rate it had (R73). DOMAIN_SWITCH_COMPLETE leaves a domain in the requested state and answers
(R48). SELFTEST_COMPLETE answers the tests that passed and those that failed; on a standby with the golden-vector test among them the
streak and the referee result follow it (R190, R329). -/
def Obligations.DiagEventsComplete : Prop :=
  (∀ (k : Fin 17) (s : State) (b : BlockReset), s.gracefulOf k.val = some b → s.blockWaits k.val = false → s.blockInReset k.val = false →
    (s.blockTags k.val b.req = [] → exec (.blockIdle k) s = .next (s.startBlock b 0))
    ∧ (s.blockTags k.val b.req ≠ [] → exec (.blockIdle k) s = .next s)
    ∧ (∀ t, s.tag? b.req = some t → msTicks (leAt b.req.params 2 2) ≤ since s.clk.batten t.admitAt →
        exec (.fallback k) s = .next (s.startBlock b 2))
    ∧ (∀ t, s.tag? b.req = some t → since s.clk.batten t.admitAt < msTicks (leAt b.req.params 2 2) → exec (.fallback k) s = .next s))
  ∧ (∀ (s : State) (b : BlockReset) (m : Nat), b ∈ s.blocks →
    ∃ c ∈ (s.startBlock b m).blocks, c.block = b.block ∧ c.mode = m ∧ c.inReset = true ∧ c.req = b.req)
  ∧ (∀ (k : Fin 17) (s : State) (b : BlockReset) (t : Tag), s.blocks = [b] → b.block = k.val → b.inReset = true →
    s.tag? b.req = some t →
    ∃ u : State, exec (.blockResetComplete k) s = .next u.flush ∧ u.blocks = [] ∧ u.eave = s.eave.count 15
      ∧ u.clk.batten = s.clk.batten + 64 ∧ u.peg = s.peg
      ∧ s.Answered u t .done (toLe 1 b.mode ++ toLe 2 b.completed) (since (s.clk.batten + 64) t.admitAt))
  ∧ (∀ (s : State), s.alive = true → s.clk.running = true → s.offset ≤ 115000 → s.clk.rateReqs = [] →
    exec .relockPoint s = .next (s.toOffset 115000).flush)
  ∧ (∀ (s : State) (q : RateReq), s.alive = true → s.clk.running = true → s.offset ≤ 115000 → s.clk.rateReqs = [q] → q.begun = false →
    q.frame ≠ s.clk.frameNo → q.island < 7 → ((s.islandSt q.island).rate ≠ q.rate ∨ 2 ≤ (s.islandSt q.island).state) →
    ∃ u : State, exec .relockPoint s = .next u.flush ∧ (u.islandSt q.island).state = 2 ∧ (u.islandSt q.island).target = q.rate
      ∧ (u.islandSt q.island).relocks = inc32 (s.islandSt q.island).relocks
      ∧ (u.islandSt q.island).retargetAt = (s.toOffset 115000).clk.batten ∧ u.clk.rateReqs = [{ q with begun := true }]
      ∧ (∀ i, i ≠ q.island → u.islandSt i = s.islandSt i) ∧ u.peg = s.peg)
  ∧ (∀ (i : Fin 7) (n : Nat) (s : State) (back : Batten), s.alive = true → (s.islandSt i.val).state = 2 → s.blocks = [] →
    s.clk.domainReqs = [] → back = (s.islandSt i.val).retargetAt + BitVec.ofNat 40 (2 + n + 27) →
    ∃ u : State, exec (.lockConfirmed i n) s = .next u.flush ∧ (u.islandSt i.val).rate = (s.islandSt i.val).target
      ∧ (u.islandSt i.val).state = (if (s.islandSt i.val).target = 0 then 0 else 1) ∧ (u.islandSt i.val).lastLock = n % 65536
      ∧ (u.islandSt i.val).lossAt = none ∧ u.clk.batten = (s.reach back).clk.batten ∧ u.peg = s.peg
      ∧ (∀ q t, s.clk.rateReqs = [q] → q.island = i.val → q.begun = true → s.tag? q.req = some t →
          s.Answered u t .done (toLe 2 (n % 65536)) (since (back + 7) t.admitAt) ∧ u.clk.rateReqs = []))
  ∧ (∀ (i : Fin 7) (s : State), s.alive = true → (s.islandSt i.val).state < 2 →
    ∃ u : State, exec (.pllLockLoss i) s = .next u ∧ (u.islandSt i.val).state = 2
      ∧ (u.islandSt i.val).target = (s.islandSt i.val).rate ∧ (u.islandSt i.val).lossAt = some s.clk.batten
      ∧ (u.islandSt i.val).relocks = inc32 (s.islandSt i.val).relocks ∧ (∀ j, j ≠ i.val → u.islandSt j = s.islandSt j))
  ∧ (∀ (d : Fin 12) (s : State) (q : DomainReq) (t : Tag), s.clk.domainReqs = [q] → q.domain = d.val → q.begun = true →
    s.tag? q.req = some t →
    ∃ u : State, exec (.domainSwitchComplete d) s = .next u.flush ∧ u.clk.domainReqs = []
      ∧ sget 1 u.clk.domains d.val = (if q.on then 1 else 0) ∧ (∀ e, e ≠ d.val → sget 1 u.clk.domains e = sget 1 s.clk.domains e)
      ∧ s.Answered u t .done [if q.on then 1#8 else 0#8] (s.execLate t))
  ∧ (∀ (p : Half) (s : State) (r : Req) (m : Half) (rest : List (Req × Half)) (t : Tag), s.selftest = (r, m) :: rest → s.tag? r = some t →
    ∃ u : State, exec (.selftestComplete p) s = .next u.flush ∧ u.selftest = rest ∧ u.peg = s.peg
      ∧ ((s.isStandby = false ∨ m.getLsbD 7 = false) → u.pair = s.pair)
      ∧ (s.isStandby = true → m.getLsbD 7 = true →
          u.pair.streak = (if p.getLsbD 7 then min 15 (s.pair.streak + 1) else 0) ∧ u.pair.refResult = (if p.getLsbD 7 then 1 else 2))
      ∧ s.Answered u t .done (toLe 2 (m &&& p).toNat ++ toLe 2 (m &&& ~~~p).toNat) (s.execLate t))

/-! ### The recorder and the NV array in time -/

/-- SAVE_ALLOWANCE_GAIN adds 4096 up to 8192 once 24 h have passed (R319). A bucket and the budget gain one token for each span of
their frames that has passed, and the loss fact clears after 360 000 pegged frames (R309, R310, R314). LEDGER_COUNTER_WORD
writes the breaks that no word carries where 600 s have passed since the last; an erased sector joins the erased ones and its erases
are counted (R307, R316). NV_PROGRAM_COMPLETE takes the oldest work out: a key loaded stands in its slot alone and its fingerprint is
answered, a denial changes nothing and is answered with its status no earlier than the command's maximum (R153, R159, R172).
HOUSEKEEPING_SLOT takes out the ledger entries and records whose writes the last one began and stores both configuration copies 250 ms
after a change (R177, R313). A referee result goes to the run under way, or a standby runs one, at most once in 360 000 frames
(R338, R341). NV_SCRUB notes a sector that is due; an hourly reading joins the day's sums, and the daily mean ends them (R419, R423).
COUNTER_SAVE saves the owner counters once in 360 000 frames; a swap that is due joins the batch at a quiet pegged frame (R160, R345). -/
def Obligations.RecorderAndNvEventsComplete : Prop :=
  ((∀ s : State, (86400 * Config.ticksPerSecond ≤ s.passed s.gut.gainFrom → exec .saveAllowanceGain s =
      .next { s with gut := { s.gut with
        allowance := min 8192 (s.gut.allowance + 4096), gainFrom := s.gut.gainFrom + 86400 * Config.ticksPerSecond } })
    ∧ (s.passed s.gut.gainFrom < 86400 * Config.ticksPerSecond → exec .saveAllowanceGain s = .next s))
  ∧ (∀ (c : Fin 1024) (s : State),
    ∃ u : State, exec (.bucketTokenGain c) s = .next u
      ∧ (u.bucket c.val).spent = (s.bucket c.val).spent - (s.clk.frameNo - (s.bucket c.val).since).toNat / (10 * s.policyP c.val)
      ∧ (∀ d, d ≠ c.val → u.bucket d = s.bucket d) ∧ u = { s with recorder := { s.recorder with buckets := u.recorder.buckets } })
  ∧ (∀ (s : State) (n : Nat), s.recorder.budget < 4096 → n = (s.clk.frameNo - s.recorder.budgetSince).toNat / 1000 → n ≠ 0 →
    exec .budgetTokenGain s = .next { s with recorder := { s.recorder with
      budget := min 4096 (s.recorder.budget + n), budgetSince := s.recorder.budgetSince + BitVec.ofNat 32 (1000 * n) } })
  ∧ (∀ s : State, s.recorder.lossFact = true → 360000 ≤ s.recorder.lossClear →
    exec .recorderLossClear s = .next { s with recorder := { s.recorder with lossFact := false, lossClear := 0 } })
  ∧ (∀ s : State, s.alive = true → s.recorder.breaks ≠ s.recorder.breaksSaved →
    (∀ t, s.recorder.counterAt = some t → 600 ≤ (s.secNow + 2 ^ 32 - t) % 2 ^ 32) →
    ∃ u : State, exec .ledgerCounterWord s = .next u ∧ u.recorder.breaksSaved = s.recorder.breaks
      ∧ u.recorder.counterWord = some (counterWordBytes s.recorder.breaks s.recorder.breakSec)
      ∧ u.recorder.counterAt = some s.secNow ∧ u.recorder.ledger = s.recorder.ledger)
  ∧ (∀ (s : State) (k : Nat), s.recorder.erasing = some k → ∃ u : State, exec .sectorEraseComplete s = .next u
      ∧ u.recorder.erasing = none ∧ u.recorder.erased = s.recorder.erased ++ [k] ∧ u.recorder.weather = s.recorder.weather
      ∧ sget 0 u.recorder.erases k = sget 0 s.recorder.erases k + 1))
  ∧ ((∀ (s : State) (o : NvOp) (t : Tag) (i : Nat) (k : List Byte), s.nvOps = [o] → s.tag? o.req = some t →
    (∀ x ∈ s.comm.sessions, keyIndex x.role x.slot ≠ i) → o.work = .keyLoad i k →
    ∃ u : State, exec .nvProgramComplete s = .next u.flush ∧ u.nvOps = [] ∧ (u.keyAt i).value = k ∧ (u.keyAt i).state = 1
      ∧ (∀ j, j ≠ i → u.keyAt j = s.keyAt j) ∧ u.peg = s.peg
      ∧ s.Answered u t .done (u.keyAt i).fingerprint (max (s.execLate t) (s.nvMax o.opcode.toNat o.req)))
  ∧ (∀ (s : State) (o : NvOp) (t : Tag) (st : Status), s.nvOps = [o] → s.tag? o.req = some t → o.work = .denied st →
    ∃ u : State, exec .nvProgramComplete s = .next u.flush ∧ u.nvOps = [] ∧ { s with nvOps := [] }.KeepsAllButReplies u
      ∧ s.Answered u t st [] (max (s.execLate t) (s.nvMax o.opcode.toNat o.req)))
  ∧ (∀ s : State, s.alive = true → s.clk.running = true → s.rst.layingUp = none → s.clk.domainReqs = [] →
    ∃ u : State, exec .housekeepingSlot s = .next u.flush ∧ u.peg = s.peg
      ∧ u.recorder.queue = s.recorder.queue.drop s.recorder.writing
      ∧ u.recorder.ledgerQueue = s.recorder.ledgerQueue.drop s.recorder.ledgerWriting
      ∧ (s.cfgDirty = none → u.nvCopyA = s.nvCopyA ∧ u.nvCopyB = s.nvCopyB)
      ∧ (∀ t, s.cfgDirty = some t → msTicks 250 ≤ since (s.toOffset 112500).clk.batten t →
          u.nvCopyA = s.peg.copy ∧ u.nvCopyB = s.peg.copy ∧ u.cfgDirty = none))
  ∧ (∀ (b : Bool) (s : State), s.isReady = true → s.isWorker = false → s.pair.refStart.isSome = true →
    exec (.backgroundReferee b) s = .next { s with pair := { s.pair with refOwn := some b } })
  ∧ (∀ (b : Bool) (s : State), s.isReady = true → s.isWorker = false → s.pair.refStart = none → s.pair.state = 2 →
    (s.pair.lastRefFrame = 0 ∨ 360000 ≤ framesSince s.clk.frameNo s.pair.lastRefFrame →
      ∃ u : State, exec (.backgroundReferee b) s = .next u ∧ u.peg = s.peg
        ∧ u.pair = { s.pair with refResult := (if b then 1 else 2), lastRefFrame := s.clk.frameNo,
                                 streak := (if b then min 15 (s.pair.streak + 1) else 0) })
    ∧ (s.pair.lastRefFrame ≠ 0 → framesSince s.clk.frameNo s.pair.lastRefFrame < 360000 → exec (.backgroundReferee b) s = .next s))
  ∧ (∀ (k : Nat) (s : State), s.alive = true → s.scrubDue k = true → ∃ u : State, exec (.nvScrub [k]) s = .next u
      ∧ u.scrubs = sput s.scrubs k s.secNow ∧ u = { s with scrubs := u.scrubs, gut := u.gut, weak := s.weak.erase k })
  ∧ (∀ (i : Fin 7) (osc leak : Nat) (s : State) (a b : Aging), s.alive = true → (s.islandSt i.val).state = 0 → s.blockInReset 2 = false →
    s.blockInReset 16 = false → a = sget Aging.none s.aging i.val →
    (∀ t, a.readAt = some t → 3600 * Config.ticksPerSecond ≤ s.passed t) →
    ∃ u : State, exec (.agingReading i osc leak) s = .next u ∧ u = { s with aging := u.aging }
      ∧ (b = sget Aging.none u.aging i.val → b.osc = osc % 2 ^ 32 ∧ b.leak = leak % 65536 ∧ b.n = a.n + 1 ∧ b.trend = a.trend
          ∧ b.means = a.means ∧ b.readAt = some s.time)
      ∧ (∀ j, j ≠ i.val → sget Aging.none u.aging j = sget Aging.none s.aging j))
  ∧ (∀ (i : Fin 7) (s : State) (a : Aging), s.alive = true → a = sget Aging.none s.aging i.val → a.n ≠ 0 →
    86400 * Config.ticksPerSecond ≤ s.passed a.dayAt →
    ∃ u : State, exec (.agingDailyMean i) s = .next u ∧ (sget Aging.none u.aging i.val).n = 0
      ∧ (sget Aging.none u.aging i.val).means.getLast? = some (Config.agingMean a.sumOsc a.n, Config.agingMean a.sumLeak a.n)
      ∧ u = { s with aging := u.aging })
  ∧ (∀ s : State, s.isReady = true → s.isWorker = false → 360000 ≤ framesSince s.clk.frameNo s.savedFrame →
    ∃ u : State, exec .counterSave s = .next u ∧ u.savedCounters = s.peg.counters ∧ u.savedFrame = s.clk.frameNo ∧ u.peg = s.peg
      ∧ (s.pair.state ≠ 1 → u = { s with savedCounters := s.peg.counters, savedFrame := s.clk.frameNo }))
  ∧ (∀ s : State, s.isReady = true → s.isActive = true → s.pair.state = 1 → s.peg.swapHours ≠ 0 →
    frameGe s.clk.frameNo (s.pair.lastRoleFrame + BitVec.ofNat 32 (360000 * s.peg.swapHours)) = true → s.rst.firstPeg = true →
    s.pair.lastPegFrame = s.clk.frameNo → s.quiet s.peg.engine = true → s.stage = none →
    s.admitted.any (fun i => i.body == .internal 2 0 0 0) = false → exec .periodicSwapDue s = .next (s.submit (.internal 2 0 0 0))))

/-! ### Claims, field and sensor inputs -/

/-- The claim word's fields and order (R238): bit 0 UNIT, bits 1-27 EPOCH, bits 28-31 HEALTH; words compare by health, then
epoch, then unit, and the words of two units differ. The own claim is live from its load for 625 000 ticks and then absent; a
WITHDRAW frame makes it absent at once; absent is one value for both (R239). -/
def Obligations.ClaimOfR238AndR239 : Prop :=
  (∀ (h e : Nat) (u : Bool), h < 16 → e < 2 ^ 27 → (claimWord h e u).getLsbD 0 = u ∧ (claimWord h e u).toNat / 2 % 2 ^ 27 = e
    ∧ (claimWord h e u).toNat / 2 ^ 28 = h)
  ∧ (∀ (h e h' e' : Nat) (u u' : Bool), h < 16 → h' < 16 → e < 2 ^ 27 → e' < 2 ^ 27 →
    ((claimWord h e u).toNat < (claimWord h' e' u').toNat ↔
      h < h' ∨ (h = h' ∧ (e < e' ∨ (e = e' ∧ u = false ∧ u' = true)))))
  ∧ (∀ (h e h' e' : Nat), h < 16 → h' < 16 → e < 2 ^ 27 → e' < 2 ^ 27 → claimWord h e false ≠ claimWord h' e' true)
  ∧ (∀ (s : State) (w : BitVec 12) (v : Bool) (c : Word), ∃ u : State, s.dieTakes 2 w v c = u ∧ u.fld.ownClaim = some c
    ∧ u.fld.ownAt = u.time)
  ∧ (∀ (s : State) (c : Word), s.fld.powered = true → s.fld.ownClaim = some c →
    (s.passed s.fld.ownAt < 625000 → exec .ownClaimStale s = .next s)
    ∧ (625000 ≤ s.passed s.fld.ownAt → ∃ u : State, exec .ownClaimStale s = .next u ∧ u.fld.ownClaim = none))
  ∧ (∀ (s : State) (w : BitVec 12) (v : Bool) (c : Word), (s.dieTakes 3 w v c).fld.ownClaim = none)

/-- The arbiter decides as Table FIO-9 says, losing to a higher claim at an own slot edge only; it decides at every own slot edge, at
every good twin frame and when a claim goes stale 625 000 ticks after its load or its frame (R239-R242). A claim frame with a bad CRC or
a reserved bit set changes nothing at the die and is counted (R241). CLAIM_FRAME_SEND puts the pegged claim word and output word on the
downlink with the next sequence number (R232, R233). -/
def Obligations.ClaimEventsComplete : Prop :=
  (∀ (a : Word) (e p : Bool), permissionOf (some a) none p e = true ∧ permissionOf none (some a) p e = false
    ∧ permissionOf none none p e = true ∧ (∀ b : Word, b.toNat < a.toNat → permissionOf (some a) (some b) p e = true)
    ∧ (∀ b : Word, a.toNat < b.toNat → permissionOf (some a) (some b) p true = false ∧ permissionOf (some a) (some b) p false = p))
  ∧ (∀ s : State, s.fld.powered = true → ∃ u : State, exec .claimSlotEdge s = .next u ∧ u.fld.claimOut = some (s.fld.ownWord, s.claimFlags)
    ∧ u.fld.permission = permissionOf s.fld.ownClaim s.fld.liveTwin s.fld.permission true ∧ u.fld.word = s.fld.word
    ∧ u.comm = s.comm ∧ u.peg = s.peg ∧ u = { s with fld := u.fld, fio := { s.fio with dout := u.fio.dout } })
  ∧ (∀ (w : Word) (f : Byte) (c : Half) (s : State), s.fld.powered = true →
    (c.toNat = claimCrc w f → f.toNat < 16 → ∃ u : State, exec (.claimFrameReceived w f c) s = .next u ∧ u.fld.twinClaim = w
      ∧ u.fld.twinFresh = f.getLsbD 0 ∧ u.fld.twinPerm = f.getLsbD 3 ∧ u.fld.twinAt = s.time ∧ u.fld.ownClaim = s.fld.ownClaim
      ∧ u.fld.permission = permissionOf s.fld.ownClaim (if f.getLsbD 0 then some w else none) s.fld.permission false)
    ∧ (s.alive = true → (c.toNat ≠ claimCrc w f ∨ 16 ≤ f.toNat) → ∃ u : State, exec (.claimFrameReceived w f c) s = .next u
      ∧ u.fld = s.fld ∧ u.fio.claimBad = inc32 s.fio.claimBad ∧ u = { s with fio := { s.fio with claimBad := u.fio.claimBad }, gut := u.gut }))
  ∧ (∀ s : State, s.fld.powered = true → s.fld.ownClaim.isSome = true →
    625000 ≤ s.passed s.fld.ownAt → ∃ u : State, exec .ownClaimStale s = .next u ∧ u.fld.ownClaim = none
      ∧ u.fld.permission = s.fld.liveTwin.isNone ∧ u.fld.word = s.fld.word ∧ u.peg = s.peg)
  ∧ (∀ s : State, s.fld.powered = true → s.fld.twinFresh = true → 625000 ≤ s.passed s.fld.twinAt →
    ∃ u : State, exec .twinClaimStale s = .next u ∧ u.fld.liveTwin = none ∧ u.fld.permission = true ∧ u.fld.ownClaim = s.fld.ownClaim
      ∧ u.peg = s.peg)
  ∧ (∀ (s : State) (c : Word) (w : BitVec 12) (v : Bool), s.fio.claimDue = some (c, w, v) → s.sendsFrames = true →
    ∃ u : State, exec .claimFrameSend s = .next u
      ∧ u.fio.downWire = downFrame 2 (s.fio.seq + 1) w v c s.clk.frameNo s.nextRecord
      ∧ u.fio.claimDue = none ∧ u.fio.seq = s.fio.seq + 1 ∧ u.fio.lastWord = (if v then w else s.fio.lastWord)
      ∧ u.fld.ownClaim = s.fld.ownClaim ∧ u.peg = s.peg)

/-- FLASHING_SLOT puts the uplink frame on the wire, takes its three events from the die's queue, and sends KEEP, or WITHDRAW for a unit
that withdraws its claim (R222, R232); a logic that sends no frame leaves both wires empty (R231, R234). At the die a bad CRC is counted;
a KEEP frame refreshes the time of the last good slot, a CLAIM frame loads claim and word and ends safe states, WITHDRAW removes the
claim and TRAIN holds the safe states (R232-R235, R239). At the logic a bad CRC is counted, and a good uplink frame gives levels,
read-back, twin claim, diagnostics and events (R232). Inputs are stale after 2 500 ticks without a good frame, and an active unit
submits a yield after 30 ms (R236). A group takes its safe states T x 12 500 + 2 ticks after the last good slot (R235). -/
def Obligations.FieldLinkComplete : Prop :=
  (∀ s : State, s.fld.powered = true → s.sendsFrames = true → ∃ u : State, exec .flashingSlot s = .next u ∧ u.fio.upWire = s.upFrame
    ∧ u.fld = { s.fld with queue := s.fld.queue.drop 3, queueOverflow := false } ∧ u.fio.seq = s.fio.seq + 1
    ∧ (s.fio.trainLeft = 0 → s.withdraws = false →
        u.fio.downWire = downFrame 1 (s.fio.seq + 1) s.fio.lastWord false 0 s.clk.frameNo s.nextRecord)
    ∧ (s.fio.trainLeft = 0 → s.withdraws = true →
        u.fio.downWire = downFrame 3 (s.fio.seq + 1) s.fio.lastWord false 0 s.clk.frameNo s.nextRecord)
    ∧ (s.fio.trainLeft ≠ 0 →
        u.fio.downWire = downFrame 4 (s.fio.seq + 1) s.fio.lastWord false 0 s.clk.frameNo s.nextRecord)
    ∧ u.fio.din = s.fio.din ∧ u.peg = s.peg)
  ∧ (∀ s : State, s.sendsFrames = false →
    exec .flashingSlot s = .next { s with fio := { s.fio with upWire := [], downWire := [] } })
  ∧ (∀ (b : List Byte) (s : State), s.fld.powered = true → frameGood b = false →
    exec (.downlinkFrameReceived b) s = .next { s with fld := { s.fld with crcDown := s.fld.crcDown + 1 } })
  ∧ (∀ (b : List Byte) (s : State), s.fld.powered = true → frameGood b = true → leAt b 2 2 / 4096 % 8 = 0 → leAt b 30 2 = 0 →
    (byteAt b 0 = 1 → ∃ u : State, exec (.downlinkFrameReceived b) s = .next u ∧ u.fld.lastGood = s.slotTime ∧ u.fld.lastSeq = b.getD 1 0
      ∧ u = { s with fld := { s.fld with lastGood := u.fld.lastGood, lastSeq := u.fld.lastSeq, seqGaps := u.fld.seqGaps } })
    ∧ (byteAt b 0 = 2 → (leAt b 2 2).testBit 15 = true → ∃ u : State, exec (.downlinkFrameReceived b) s = .next u
      ∧ u.fld.ownClaim = some (BitVec.ofNat 32 (leAt b 4 4)) ∧ u.fld.word = BitVec.ofNat 12 (leAt b 2 2 % 4096) ∧ u.fld.haveWord = true
      ∧ u.fld.safe = 0 ∧ u.fld.withdrawn = false ∧ u.fld.training = false ∧ u.fld.permission = s.fld.permission ∧ u.peg = s.peg)
    ∧ (byteAt b 0 = 3 → ∃ u : State, exec (.downlinkFrameReceived b) s = .next u ∧ u.fld.ownClaim = none ∧ u.fld.withdrawn = true
      ∧ u.fld.safe = 7 ∧ u.fld.word = s.fld.word ∧ u.peg = s.peg)
    ∧ (byteAt b 0 = 4 → ∃ u : State, exec (.downlinkFrameReceived b) s = .next u ∧ u.fld.training = true ∧ u.fld.safe = 7
      ∧ u.fld.loaded = true ∧ u.fld.ownClaim = s.fld.ownClaim ∧ u.peg = s.peg))
  ∧ (∀ (b : List Byte) (s : State), s.sendsFrames = true →
    (frameGood b = false → ∃ u : State, exec (.uplinkFrameReceived b) s = .next u ∧ u.fio = { s.fio with crcUp := inc32 s.fio.crcUp }
      ∧ u = { s with fio := u.fio, gut := u.gut })
    ∧ (frameGood b = true → byteAt b 19 = 0 → byteAt b 0 < 128 → ∃ u : State, exec (.uplinkFrameReceived b) s = .next u
      ∧ u.fio.levels = BitVec.ofNat 24 (leAt b 2 3) ∧ u.fio.readback = BitVec.ofNat 12 (leAt b 5 2)
      ∧ u.fio.twinClaim = BitVec.ofNat 32 (leAt b 9 4) ∧ u.fio.stale = false ∧ u.fio.lastUp = some s.clk.batten
      ∧ u.fio.waiting = s.fio.waiting ++ upEvents s.clk.batten b ∧ u.fio.din = s.fio.din
      ∧ (∀ o, o < 12 → (u.doutSt o).overload = (leAt b 13 5).testBit o ∧ (u.doutSt o).openWire = (leAt b 13 5).testBit (12 + o)
          ∧ (u.doutSt o).overTemp = (leAt b 13 5).testBit (24 + o)) ∧ u = { s with fio := u.fio }))
  ∧ (∀ (s : State) (t : BitVec 40), s.alive = true → s.fio.lastUp = some t →
    (2500 ≤ since s.clk.batten t → ∃ u : State, exec .inputsStale s = .next u ∧ u.fio.stale = true ∧ u.fio.levels = s.fio.levels
      ∧ u = { s with fio := u.fio })
    ∧ (since s.clk.batten t < 2500 → exec .inputsStale s = .next s)
    ∧ (s.fio.stale = true → msTicks 30 ≤ since s.clk.batten t → s.isReady = true → s.isWorker = false → s.pair.state = 1 →
        exec .fieldLinkYield s = .next (s.submit (.internal 1 0 0 0))))
  ∧ (∀ (g : Fin 3) (s : State), s.fld.powered = true →
    (s.cfg cDOUT (4 * g.val) 0x11 * 12500 + 2 ≤ s.passed s.fld.lastGood → ∃ u : State, exec (.safeStateTimeout g) s = .next u
      ∧ u.fld.safe = s.fld.safe ||| BitVec.ofNat 3 (2 ^ g.val) ∧ u.fld.word = s.fld.word ∧ u.fld.permission = s.fld.permission
      ∧ u.peg = s.peg)
    ∧ (s.passed s.fld.lastGood < s.cfg cDOUT (4 * g.val) 0x11 * 12500 + 2 → exec (.safeStateTimeout g) s = .next s))

/-- An input's level starts its debounce and a return before acceptance is a glitch; acceptance after 25 x DEBOUNCE_US die samples
queues the edge with the tick of its first sample, or counts it lost where 64 wait (R218, R222). OVERLOAD is set on a stage that has
conducted for 2 500 ticks, a shutdown turns the stage off and is counted, a restart ends it, and the open-wire test sets and clears
OPEN_WIRE (R226, R228). Three mismatches in a row make a read-back fault and three matches clear it (R230). On a standby fifty compared
frames submit the change of DISAGREE (R211, R221). -/
def Obligations.FieldPinsComplete : Prop :=
  (∀ (i : Fin 24) (l : Bool) (s : State), s.fld.powered = true → (s.fld.pin i.val).level ≠ l →
    (l ≠ (s.fld.pin i.val).debounced → ∃ u : State, exec (.diLevelChange i l) s = .next u
      ∧ u.fld.pin i.val = { s.fld.pin i.val with level := l, pending := some s.clk.batten, since := s.time, unsync := !s.dieLocked }
      ∧ u.fio = s.fio ∧ (∀ j, j ≠ i.val → u.fld.pin j = s.fld.pin j))
    ∧ (l = (s.fld.pin i.val).debounced → ∃ u : State, exec (.diLevelChange i l) s = .next u
      ∧ u.fld.pin i.val = { s.fld.pin i.val with level := l, pending := none }
      ∧ (u.dinSt i.val).glitches = inc32 (s.dinSt i.val).glitches ∧ (∀ j, j ≠ i.val → u.dinSt j = s.dinSt j)))
  ∧ (∀ (i : Fin 24) (s : State) (t : BitVec 40), (s.fld.pin i.val).pending = some t → s.fld.powered = true →
    25 * s.cfg cDIN i.val 0x11 ≤ 2 * s.passed (s.fld.pin i.val).since + 2 →
    ∃ u : State, exec (.diDebounceAccept i) s = .next u ∧ (u.fld.pin i.val).debounced = (s.fld.pin i.val).level
      ∧ (u.fld.pin i.val).pending = none ∧ (u.dinSt i.val).cos = inc32 (s.dinSt i.val).cos
      ∧ (s.fld.queue.length < 64 → ∃ e : DiEvent, u.fld.queue = s.fld.queue ++ [e] ∧ e.input = i.val ∧ e.stamp = t
          ∧ e.level = (s.fld.pin i.val).level ∧ e.overflow = (s.fld.pin i.val).lost ∧ e.unsync = (s.fld.pin i.val).unsync)
      ∧ (64 ≤ s.fld.queue.length → u.fld.queue = s.fld.queue ∧ (u.fld.pin i.val).lost = true ∧ u.fld.queueOverflow = true
          ∧ (u.dinSt i.val).lost = inc32 (s.dinSt i.val).lost))
  ∧ (∀ (o : Fin 12) (s : State), s.conducts o.val = true →
    (2500 ≤ s.passed (s.fld.stage o.val).turnedAt → ∃ u : State, exec (.overload o) s = .next u ∧ (u.fld.stage o.val).overload = true
      ∧ ((s.fld.stage o.val).overload = false → (u.doutSt o.val).overloads = inc32 (s.doutSt o.val).overloads)
      ∧ (∀ j, j ≠ o.val → u.fld.stage j = s.fld.stage j) ∧ u.peg = s.peg)
    ∧ (s.passed (s.fld.stage o.val).turnedAt < 2500 → exec (.overload o) s = .next s)
    ∧ (∃ u : State, exec (.thermalShutdown o) s = .next u ∧ (u.fld.stage o.val).shutdown = true ∧ (u.fld.stage o.val).overTemp = true
      ∧ u.conducts o.val = false ∧ (u.doutSt o.val).thermals = inc32 (s.doutSt o.val).thermals ∧ u.peg = s.peg))
  ∧ (∀ (o : Fin 12) (s : State), ∃ u : State, exec (.thermalRestart o) s = .next u ∧ (u.fld.stage o.val).shutdown = false
    ∧ (u.fld.stage o.val).overTemp = (s.fld.stage o.val).overTemp
    ∧ (∀ j, j ≠ o.val → (u.fld.stage j).shutdown = (s.fld.stage j).shutdown) ∧ u.peg = s.peg)
  ∧ (∀ (o : Fin 12) (s : State), s.testsWire o.val = true →
    exec (.openWire o) s = .next (s.modStage o.val (fun d => { d with openWire := true }))
    ∧ exec (.openWireClear o) s = .next (s.modStage o.val (fun d => { d with openWire := false })))
  ∧ (∀ (o : Fin 12) (s : State),
    ((s.doutSt o.val).fault = false → 3 ≤ (s.doutSt o.val).mismatchRun → exec (.readbackFault o) s =
      .next (s.modDout o.val (fun d => { d with fault := true, readbacks := inc32 d.readbacks })))
    ∧ ((s.doutSt o.val).fault = true → 3 ≤ (s.doutSt o.val).matchRun →
      exec (.readbackFault o) s = .next (s.modDout o.val (fun d => { d with fault := false })))
    ∧ ((s.doutSt o.val).fault = false → (s.doutSt o.val).mismatchRun < 3 → exec (.readbackFault o) s = .next s))
  ∧ (∀ (c : Fin 16) (s : State), s.isStandby = true → (s.ainSt c.val).paused = false → 50 ≤ (s.ainSt c.val).run →
    ∃ (u : State) (i : BatchItem), exec (.disagree (.ain c)) s = .next u ∧ u.admitted = s.admitted ++ [i]
      ∧ i.body = .internal 4 0 c.val (b2n (!s.disagrees c.val)) ∧ (u.ainSt c.val).paused = true ∧ u.peg = s.peg)
  ∧ (∀ (i : Fin 24) (s : State), s.isStandby = true → (s.dinSt i.val).paused = false → 50 ≤ (s.dinSt i.val).run →
    ∃ (u : State) (x : BatchItem), exec (.disagree (.din i)) s = .next u ∧ u.admitted = s.admitted ++ [x]
      ∧ x.body = .internal 4 0 (64 + i.val) (b2n (!s.disagrees (64 + i.val))) ∧ (u.dinSt i.val).paused = true ∧ u.peg = s.peg)

/-- AFE_RESULT_LATCH keeps the conversion of the window that ended; where the window just before it was converted too and began under
the settings in force, the mean of the two, each with its window's polarity, is latched, and otherwise no result is (R203, R204, R209).
What has reached SCAN and every other channel stay. More than 32 mA opens a closed shunt, and a second after that it closes (R199). A
clamp sets its sticky bit and counts its window once (R206). 2 500 ticks after the last good frame the die listens and drives nothing
(R209). Before each of these but the last two, the hand-overs that are due take place (R212). -/
def Obligations.AfeEventsComplete : Prop :=
  (∀ (c : Fin 16) (m : AfeMeasure) (s s0 v : State) (n : Nat), s.windowEnd c.val = (some n, s0) → v = s0.turnAfe →
    s.afeRuns = true → s.ainMode c.val ≠ 0 → s.clk.running = true → m.clamped = false → s.afe.cals = [] →
    ((v.ainSt c.val).last = none → ∃ u : State, exec (.afeResultLatch c m) s = .next u
      ∧ (u.ainSt c.val).last = some (n, m.raw) ∧ (u.ainSt c.val).latched = (v.ainSt c.val).latched
      ∧ (∀ j, j ≠ c.val → u.ainSt j = v.ainSt j) ∧ u.peg = s.peg)
    ∧ (∀ k y, (v.ainSt c.val).last = some (k, y) → windowBefore (s.ainRate c.val) n = some k →
      notBefore (v.windowBegan c.val k) (v.ainSt c.val).cleanAt = true →
      ∃ (u : State) (x : AfeResult), exec (.afeResultLatch c m) s = .next u.flush
        ∧ (u.ainSt c.val).last = some (n, m.raw) ∧ (u.ainSt c.val).latched = some (v.clk.batten, x)
        ∧ x.raw = resultOf (s.ainMode c.val) n k m.raw y ∧ (u.ainSt c.val).result = (v.ainSt c.val).result
        ∧ (∀ j, j ≠ c.val → u.ainSt j = v.ainSt j) ∧ u.peg = s.peg))
  ∧ (∀ (c : Fin 16) (s v : State), v = s.turnAfe → s.sup.vafe = true → s.ainMode c.val = 8 → (v.ainSt c.val).shuntClosed = true →
    exec (.shuntOpen c) s = .next (v.modCh c.val (fun x =>
      { x with shuntClosed := false, shuntAt := some s.clk.batten, overcurrent := true })))
  ∧ (∀ (c : Fin 16) (s v : State) (t : BitVec 40), v = s.turnAfe → s.sup.vafe = true → (v.ainSt c.val).shuntAt = some t →
    (12500000 ≤ since s.clk.batten t → exec (.shuntClose c) s = .next (v.modCh c.val (fun x =>
      { x with shuntClosed := true, shuntAt := none, closedAt := some s.clk.batten })))
    ∧ (since s.clk.batten t < 12500000 → exec (.shuntClose c) s = .next v))
  ∧ (∀ (c : Fin 16) (s : State), s.sup.vafe = true → ∃ u : State, exec (.clampConduction c) s = .next u
    ∧ (u.ainSt c.val).clampSticky = true ∧ (u.ainSt c.val).clampNow = true
    ∧ (u.ainSt c.val).clampCount =
        (if (s.ainSt c.val).clampWin = some (s.windowNow c.val) ∨ (s.ainSt c.val).clampPrev = some (s.windowNow c.val)
         then (s.ainSt c.val).clampCount else inc32 (s.ainSt c.val).clampCount)
    ∧ (∀ j, j ≠ c.val → u.ainSt j = s.ainSt j) ∧ u = { s with afe := u.afe })
  ∧ (∀ s : State, s.sup.vafe = true →
    (2500 ≤ s.passed s.afe.lastGood → ∃ u : State, exec .afeListenTimeout s = .next u ∧ u.afe.listen = true ∧ u.afe.linkUp = false
      ∧ (∀ c, c < 16 → (u.ainSt c).drives = false ∧ (u.ainSt c).shuntClosed = false) ∧ u = { s with afe := u.afe })
    ∧ (s.passed s.afe.lastGood < 2500 → exec .afeListenTimeout s = .next s))

/-! ### The steps of the evaluation -/

/-- The rows that name one step take it over the provisional result where it is due, tell of nothing that is pegged, and leave
every other point or station alone (R270, R273, R274, R280, R282, R285-R289, R294, R295). -/
def Obligations.EngineStepsComplete : Prop :=
  ∀ (s : State) (p : Prov), s.prov = some p →
  (∀ n : Fin 2080, 3 ≤ (p.pt n.val).unkRun → p.c cPOINT n.val 0x30 ∉ [0, 8, 9] → (p.pt n.val).sensorFault = false →
    (p.pt n.val).inhibited = false → ∃ q : Prov, exec (.sensorFaultOverride n) s = .next { s with prov := some q }
      ∧ (q.pt n.val).sensorFault = true ∧ (q.pt n.val).active = true ∧ (q.pt n.val).sub = 10 ∧ (∀ m, m ≠ n.val → q.pt m = p.pt m))
  ∧ (∀ n : Fin 2080, (p.pt n.val).cond = true → (p.pt n.val).active = false → (p.pt n.val).inhibited = false →
    heldFor p (p.pt n.val) (p.c cPOINT n.val 0x20) = true → ∃ q : Prov, exec (.onDelayExpiry n) s = .next { s with prov := some q }
      ∧ (q.pt n.val).active = true ∧ (q.pt n.val).unack = true ∧ (q.pt n.val).sub = p.c cPOINT n.val 0x30
      ∧ (q.pt n.val).chFrame = p.frame ∧ (∀ m, m ≠ n.val → q.pt m = p.pt m))
  ∧ (∀ n : Fin 2080, (p.pt n.val).cond = false → (p.pt n.val).active = true → (p.pt n.val).sensorFault = false →
    heldFor p (p.pt n.val) (p.c cPOINT n.val 0x21) = true → ∃ q : Prov, exec (.offDelayExpiry n) s = .next { s with prov := some q }
      ∧ (q.pt n.val).active = false ∧ (q.pt n.val).unack = (p.pt n.val).unack ∧ (∀ m, m ≠ n.val → q.pt m = p.pt m))
  ∧ (∀ n : Fin 2080, (p.pt n.val).shelved = true → frameGe p.frame (p.pt n.val).shelveEnd = true →
    ∃ q : Prov, exec (.shelveExpiry n) s = .next { s with prov := some q } ∧ (q.pt n.val).shelved = false
      ∧ ((p.pt n.val).cond = true → (p.pt n.val).inhibited = false → (q.pt n.val).active = true ∧ (q.pt n.val).unack = true)
      ∧ ((p.pt n.val).cond = false → (p.pt n.val).sensorFault = false → (q.pt n.val).active = (p.pt n.val).active)
      ∧ (∀ m, m ≠ n.val → q.pt m = p.pt m))
  ∧ (∀ n : Fin 256, ∃ q : Prov, exec (.rearmExpiry n) s = .next { s with prov := some q } ∧ q.st.cfg = p.st.cfg
    ∧ sget (false, none) q.st.engine.rules n.val =
      (if ruleTrue s p n.val then (true, some p.frame) else (false, (sget (false, none) p.st.engine.rules n.val).2))
    ∧ (∀ m, m ≠ n.val → sget (false, none) q.st.engine.rules m = sget (false, none) p.st.engine.rules m))
  ∧ (∃ q : Prov, exec .rateSample s = .next { s with prov := some q }
    ∧ (p.frame.toNat % 100 ≠ 0 → q.st = p.st)
    ∧ (p.frame.toNat % 100 = 0 → ∀ n ∈ p.pointList, p.c cPOINT n 0x30 = 5 →
      (q.pt n).rate = (((s.src (p.srcOid n)).eng, (s.src (p.srcOid n)).quality) :: (s.pointSt n).rate).take 61))
  ∧ (p.st.engine.lastMinute ≠ some s.eave.minute → ∃ q : Prov, exec .rosterSchedule s = .next { s with prov := some q }
    ∧ q.st.engine.lastMinute = some s.eave.minute
    ∧ q.st.engine.duty = (match p.scheduled s.eave.weekday s.eave.minute with | some n => some n | none => p.st.engine.duty)
    ∧ q.st.engine.points = p.st.engine.points)
  ∧ (p.st.engine.callout = 1 → 100 * p.callDelay ≤ framesSince p.frame p.st.engine.uSince →
    ∃ q : Prov, exec .callDelayExpiry s = .next { s with prov := some q } ∧ q.st.engine.entered = p.frame
      ∧ (∀ d, p.dutyStation = some d → q.st.engine.callout = 2 ∧ (q.station d).called = true)
      ∧ (p.dutyStation = none → q.st.engine.callout = 3 ∧ (∀ n ∈ p.allEnabled, (q.station n).called = true))
      ∧ q.st.engine.points = p.st.engine.points)
  ∧ (p.st.engine.callout = 2 → 100 * p.c cDEVICE 0 0x2C ≤ framesSince p.frame p.st.engine.entered →
    ∃ q : Prov, exec .escalationExpiry s = .next { s with prov := some q } ∧ q.st.engine.callout = 3 ∧ q.st.engine.entered = p.frame
      ∧ (∀ n ∈ p.allEnabled, (q.station n).called = true) ∧ q.st.engine.points = p.st.engine.points)
  ∧ (∀ f, p.st.engine.accepted = some f → p.st.engine.callout = 4 → p.uAny = true → 60000 ≤ framesSince p.frame f →
    ∃ q : Prov, exec .attendanceExpiry s = .next { s with prov := some q } ∧ q.st.engine.accepted = none
      ∧ q.st.engine.callout = (if p.dutyStation.isSome then 2 else 3) ∧ q.st.engine.points = p.st.engine.points)
  ∧ (∀ (n : Fin 16) (f : Frame), (p.station n.val).dmStart = some f → (p.station n.val).dmExpired = false →
    ((p.station n.val).dmWarned = false → 100 * p.c cDEVICE 0 0x2E ≤ framesSince p.frame f →
      ∃ q : Prov, exec (.deadmanWarning n) s = .next { s with prov := some q } ∧ (q.station n.val).dmWarned = true
        ∧ (∀ m, m ≠ n.val → q.station m = p.station m))
    ∧ (100 * p.c cDEVICE 0 0x2D ≤ framesSince p.frame f →
      ∃ q : Prov, exec (.deadmanExpiry n) s = .next { s with prov := some q } ∧ (q.station n.val).dmExpired = true
        ∧ q.st.engine.callout = 3 ∧ (q.pt 0x811).sources.getLsbD n.val = true ∧ (∀ m, m ≠ 0x811 → q.pt m = p.pt m)))
  ∧ (∀ (k : Fin 16) (o : Fin 12), ∃ q : Prov, exec (.forceLimitExpiry k o) s = .next { s with prov := some q }
    ∧ q.st.engine.forces = p.st.engine.forces.filter (fun f => !(f.node == k.val && f.output == o.val && frameGe p.frame f.endsAt))
    ∧ q.st.engine.points = p.st.engine.points)
  ∧ (∀ (n : Fin 2080) (f : Frame), (p.pt n.val).silenceEnd = some f → frameGe p.frame f = true →
    ∃ q : Prov, exec (.bridgeSilenceExpiry n) s = .next { s with prov := some q } ∧ (q.pt n.val).silenceEnd = none
      ∧ (q.pt n.val).alert = p.alertOf n.val ∧ (q.pt n.val).active = (p.pt n.val).active ∧ (∀ m, m ≠ n.val → q.pt m = p.pt m))
  ∧ (∀ n : Fin 2080, (p.pt n.val).alert ≠ 0 → 6000 ≤ framesSince p.frame (p.pt n.val).alfFrame →
    ∃ q : Prov, exec (.alfRepeat n) s = .next { s with prov := some q } ∧ (q.pt n.val).alfFrame = p.frame
      ∧ q.sentences = p.sentences ++ [{ kind := 0, point := n.val, text := [] }] ∧ (∀ m, m ≠ n.val → q.pt m = p.pt m))
  ∧ ((∃ n ∈ p.pointList, (p.pt n).alert ≠ 0) → 3000 ≤ framesSince p.frame s.hw.lastAlc → (∀ x ∈ p.sentences, x.kind ≠ 1) →
    ∃ q : Prov, exec .alcList s = .next { s with prov := some q } ∧ q.sentences = p.sentences ++ [{ kind := 1, point := 0, text := [] }]
      ∧ q.st = p.st)

/-! ### Supplies, resets and the start -/

/-- Supplies come and go: a lost logic supply, or a lost reference, resets its node as power-on class, also one held in a warm
reset, and holds it; one already in a power-on class reset keeps its cause; EAVE runs from either of its supplies and loses its
contents without both; the AFE die and the field die start over (R42-R44, R57, R62, R99, R209, R234). -/
def Obligations.SuppliesComplete : Prop :=
  (∀ (k : LogicRail) (s : State), s.sup.get k = true → ∃ u : State, exec (.supplyBrownout k) s = .next u ∧ u.sup.get k = false
    ∧ railCause k ∈ u.rst.held
    ∧ ((s.alive = true ∨ s.rst.powerOn = false) → u.rst.inReset = true ∧ u.rst.powerOn = true ∧ u.rst.cause = railCause k)
    ∧ (s.alive = false → s.rst.powerOn = true → u.rst.cause = s.rst.cause ∧ u.rst.inReset = s.rst.inReset)
    ∧ u.sup.eave = s.sup.eave ∧ u.keys = s.keys ∧ s.recorder.ledger <+: u.recorder.ledger)
  ∧ (∀ (k : LogicRail) (s : State), s.sup.get k = false → exec (.supplyBrownout k) s = .next s)
  ∧ (∀ s : State, (s.sup.vcore || s.sup.vio || s.sup.vaux || s.sup.vpll) = true → ∃ u : State, exec .powerOn s = .next u
    ∧ u.sup.logicUp = true ∧ (∀ k ∈ u.rst.held, 4 ≤ k) ∧ u.rst.inReset = s.rst.inReset ∧ u.peg = s.peg ∧ u.eave = s.eave)
  ∧ (∀ s : State, (s.sup.vcore || s.sup.vio || s.sup.vaux || s.sup.vpll) = false → ∃ u : State, exec .powerOn s = .next u
    ∧ u.sup.logicUp = true ∧ (∀ k ∈ u.rst.held, 4 ≤ k) ∧ u.rst.inReset = true ∧ u.rst.cause = 0 ∧ u.rst.powerOn = true ∧ u.keys = s.keys)
  ∧ (∀ (b : Bool) (s : State), s.sup.eave = true → exec (.eaveSupplyChangeover b) s = .next { s with sup := { s.sup with eaveFromBack := b } })
  ∧ (∀ s : State, s.sup.vio = false → s.sup.eave = true → ∃ u : State, exec .eaveSupplyLost s = .next u ∧ u.sup.eave = false
    ∧ u.eave = s.eave.afterLoss s.time ∧ u.peg = s.peg)
  ∧ (∀ s : State, s.sup.vafe = true → s.pair.state ≠ 1 → ∃ u : State, exec .vafeLost s = .next u ∧ u.sup.vafe = false ∧ u.afe.listen = true
    ∧ u.afe.linkUp = false ∧ u.afe.settingsLoaded = false ∧ (∀ c, c < 16 → (u.ainSt c).result = none) ∧ u = { s with sup := u.sup, afe := u.afe })
  ∧ (∀ s : State, s.sup.vafe = true → s.isReady = true → s.isWorker = false → s.pair.state = 1 → s.isStandby = false →
    ∃ (u : State) (i : BatchItem), exec .vafeLost s = .next u ∧ u.sup.vafe = false ∧ u.admitted = s.admitted ++ [i]
      ∧ i.body = .internal 1 0 0 0)
  ∧ (∀ s : State, s.sup.vafe = false → ∃ u : State, exec .vafeReturn s = .next u ∧ u.sup.vafe = true ∧ u.afe.listen = true
    ∧ u.afe.settingsLoaded = false ∧ u = { s with sup := u.sup, afe := u.afe })
  ∧ (∀ s : State, s.sup.vfld = true → s.pair.state ≠ 1 → ∃ u : State, exec .vfldLost s = .next u ∧ u.sup.vfld = false
    ∧ u.fld = { FieldDie.start with powered := false } ∧ (∀ o, u.conducts o = false) ∧ u = { s with sup := u.sup, fld := u.fld })
  ∧ (∀ s : State, s.sup.vfld = false → ∃ u : State, exec .vfldPowerUp s = .next u ∧ u.sup.vfld = true ∧ u.fld = FieldDie.start
    ∧ (∀ o, u.conducts o = false) ∧ u = { s with sup := u.sup, fld := u.fld, fio := u.fio })
  ∧ (∀ s : State, s.sup.reference = true → ∃ u : State, exec .referenceLoss s = .next u ∧ u.sup.reference = false ∧ 4 ∈ u.rst.held
    ∧ ((s.alive = true ∨ s.rst.powerOn = false) → u.rst.inReset = true ∧ u.rst.cause = 4 ∧ u.rst.powerOn = true)
    ∧ (s.alive = false → s.rst.powerOn = true → u.rst.cause = s.rst.cause))
  ∧ (∀ s : State, s.sup.vpll = true → ∃ u : State, exec .referenceReturn s = .next u ∧ u.sup.reference = true ∧ 4 ∉ u.rst.held
    ∧ u.rst.inReset = s.rst.inReset ∧ u.peg = s.peg)

/-- Every source of a node-level reset puts the node into reset with its cause and its class, closes every session and drops every
tag, and keeps the configuration, the keys and the ledger; the pin and the temperature hold it, the pin until it has been low for
10 s, when it is masked until 100 ms high; a commanded reset begins when it is due; a request of the twin needs a failed referee
run, an order of the ring a worker that holds one; a corrected memory error is only noted (R68, R81-R85, R99-R101, R166). -/
def Obligations.ResetSourcesComplete : Prop :=
  (∀ s : State, s.alive = true → ∀ i n p,
    (i, n, p) ∈ [(Instr.wdogCmd, 6, false), (.wdogScan, 7, false), (.wdogHouse, 8, false), (.memEcc .doubleElsewhere, 18, false)] →
    ∃ u : State, exec i s = .next u ∧ u.rst.inReset = true ∧ u.rst.cause = n ∧ u.rst.powerOn = p ∧ u.comm.sessions = [] ∧ u.comm.tags = []
      ∧ u.prov = none ∧ u.peg.cfg = s.peg.cfg ∧ u.peg.gen = s.peg.gen ∧ u.keys = s.keys ∧ s.recorder.ledger <+: u.recorder.ledger
      ∧ u.rst.held = s.rst.held ∧ u.fld = s.fld)
  ∧ (∀ (s : State) (c : Commanded), s.alive = true → s.rst.commanded = some c →
    (s.resetDue c = true → ∃ u : State, exec .nodeResetStart s = .next u ∧ u.rst.inReset = true ∧ u.rst.cause = 9
      ∧ u.rst.powerOn = c.powerOn ∧ u.rst.commanded = none ∧ u.comm.tags = [] ∧ u.peg.cfg = s.peg.cfg)
    ∧ (s.resetDue c = false → exec .nodeResetStart s = .next s))
  ∧ (∀ s : State, s.rst.commanded = none → exec .nodeResetStart s = .next s)
  ∧ (∀ s : State, s.rst.resetNMasked = false → ∃ u : State, exec .resetNAssert s = .next u ∧ u.rst.inReset = true ∧ u.rst.cause = 5
    ∧ u.rst.resetNLow = true ∧ u.rst.resetNAt = s.time ∧ u.peg.cfg = s.peg.cfg)
  ∧ (∀ s : State, s.rst.resetNMasked = true → exec .resetNAssert s = .next { s with
      rst := { s.rst with resetNLow := true, resetNAt := s.time } })
  ∧ (∀ s : State, s.rst.inReset = true → s.rst.resetNLow = true → s.rst.resetNMasked = false →
    (125000000 ≤ s.passed s.rst.resetNAt → exec .stuckReset s = .next { s with
      rst := { s.rst with resetNMasked := true, resetNAt := s.time }, eave := s.eave.count 14 })
    ∧ (s.passed s.rst.resetNAt < 125000000 → exec .stuckReset s = .next s))
  ∧ (∀ s : State, s.rst.resetNMasked = true →
    (1250000 ≤ s.passed s.rst.resetNAt → exec .resetNRearm s = .next { s with
      rst := { s.rst with resetNMasked := false, resetNLow := false } })
    ∧ (s.passed s.rst.resetNAt < 1250000 → exec .resetNRearm s = .next s))
  ∧ (∀ (d : TamperDetector) (s : State), ∃ u : State, exec (.tamper d) s = .next u ∧ u.rst.inReset = true ∧ u.rst.cause = 12
    ∧ u.rst.powerOn = true ∧ u.keys = s.keys ∧ s.secNow ∈ u.rst.tamperAt ∧ u.rst.tamperAt.length ≤ 3)
  ∧ (∀ s : State, 13 ∉ s.rst.held → ∃ u : State, exec .overTemp s = .next u ∧ u.rst.inReset = true ∧ u.rst.cause = 13 ∧ 13 ∈ u.rst.held
    ∧ u.rst.overTemp = true)
  ∧ (∀ s : State, ∃ u : State, exec .overTempRelease s = .next u ∧ 13 ∉ u.rst.held ∧ u = { s with rst := u.rst })
  ∧ (∀ s : State, s.alive = true → s.pair.resetRequested = true →
    (s.pair.refResult = 2 → ∃ u : State, exec .twinRequest s = .next u ∧ u.rst.inReset = true ∧ u.rst.cause = 11)
    ∧ (s.pair.refResult ≠ 2 → ∃ u : State, exec .twinRequest s = .next u ∧ u.pair = { s.pair with resetRequested := false }
        ∧ u = { s with pair := u.pair, gut := u.gut }))
  ∧ (∀ s : State, s.alive = true → s.isWorker = true → (sget 0 s.ring.orders 0).getLsbD 2 = true →
    ∃ u : State, exec .ringOrder s = .next u ∧ u.rst.inReset = true ∧ u.rst.cause = 10 ∧ u.rst.powerOn = false)
  ∧ (∀ s : State, s.isWorker = false → exec .ringOrder s = .next s)
  ∧ (∀ (b : Fin 4) (w : BitVec 24) (s : State), s.alive = true → exec (.memEcc (.single b w)) s = .next (s.gutter 0x06 b.val w.toNat))
  ∧ (∀ (b : Fin 4) (k : Nat) (s : State), s.alive = true → ∃ u : State, exec (.memEcc (.doubleGutter b k)) s = .next u
    ∧ u = { s with gut := u.gut } ∧ u.gut.saved = s.gut.saved
    ∧ (∀ e, s.gut.entries[k]? = some e → s.gut.entries.length < 4096 → u.gut.entries[k]? = some { e with erased := true }))

/-- The release, once every source is inactive, an unmasked RESET_N reads high and a tamper hold is over, latches the straps by
majority, starts the batten counter and boots; a start that does not reach READY within its 1000 ms is repeated, and after three
failures the node waits for an image; 60 s without one end a download boot; without a marker the manager leads when its window is
over; a worker not heard within 2 s is lost; an island not locked within 1 ms stays on the crawl clock; before its time each of
these does nothing (R29, R73, R86-R93, R100, R166, Table RST-4). -/
def Obligations.StartComplete : Prop :=
  (∀ (e : StartEnv) (s : State) (m : BitVec 5), s.rst.inReset = true → s.rst.held = [] → s.sup.logicUp = true → s.sup.reference = true →
    s.sup.eave = true → (e.resetNHigh = true ∨ s.rst.resetNMasked = true) → s.tamperHeld = false →
    m = majority e.sample1 e.sample2 e.sample3 →
    ∃ u : State, exec (.resetRelease e) s = .next u ∧ u.rst.inReset = false ∧ u.rst.latched = m ∧ u.clk.batten = 0
      ∧ u.rst.rstoutLow = false ∧ u.rst.portsUp = true ∧ u.eave.bootOnce = none ∧ u.keys = s.keys
      ∧ (3 ≤ s.eave.startFails → u.rst.phase = 0x0D ∧ u.rst.download = true)
      ∧ (s.eave.startFails < 3 → m.getLsbD 1 = true → s.eave.bootOnce = none → s.rst.imageAOnce = false →
          u.rst.phase = 0x0C ∧ u.rst.download = true)
      ∧ (s.eave.startFails < 3 → m.getLsbD 1 = false → m.getLsbD 0 = false → s.eave.bootOnce = none → s.boots s.images.1 = true →
          s.nvCopyA.good = true → u.rst.bootImage = 0 ∧ u.rst.fallback = false ∧ u.peg.cfg = s.nvCopyA.cfg ∧ u.peg.gen = s.nvCopyA.gen
            ∧ u.peg.counters = s.savedCounters ∧ u.rst.phase = (if m.getLsbD 3 then 0x0E else 9)))
  ∧ (∀ (e : StartEnv) (s : State), (s.rst.held ≠ [] ∨ (e.resetNHigh = false ∧ s.rst.resetNMasked = false) ∨ s.tamperHeld = true) →
    exec (.resetRelease e) s = .next s)
  ∧ (∀ s : State, s.alive = true → s.rst.phase = 9 →
    (msTicks 1000 ≤ s.passed s.rst.startFrom → ∃ u : State, exec .startTimeout s = .next u ∧ u.rst.inReset = true
      ∧ u.rst.cause = 16 ∧ u.eave.startFails = min 255 (s.eave.startFails + 1) ∧ u.peg.cfg = s.peg.cfg)
    ∧ (s.passed s.rst.startFrom < msTicks 1000 → exec .startTimeout s = .next s))
  ∧ (∀ s : State, s.rst.phase = 0x0B → exec .startTimeout s = .next s)
  ∧ (∀ s : State, s.alive = true → s.rst.phase = 0x0C → s.transfer = none → s.sram = none →
    (msTicks 60000 ≤ s.sinceRelease → ∃ u : State, exec .downloadTimeout s = .next u
      ∧ u.rst.inReset = true ∧ u.rst.cause = 17 ∧ u.rst.imageAOnce = true)
    ∧ (s.sinceRelease < msTicks 60000 → exec .downloadTimeout s = .next s))
  ∧ (∀ (n : Fin 16) (s : State), s.isReady = true → s.isWorker = false → (s.worker n.val).state = 1 → (s.worker n.val).okRun = 0 →
    (msTicks 2000 ≤ s.passed s.rst.readyAt → ∃ u : State, exec (.startingTimeout n) s = .next u ∧ (u.worker n.val).state = 3
      ∧ (∀ k, k ≠ n.val → u.worker k = s.worker k) ∧ u.peg = s.peg)
    ∧ (s.passed s.rst.readyAt < msTicks 2000 → exec (.startingTimeout n) s = .next s))
  ∧ (∀ (i : Fin 7) (s : State) (t : Batten), s.alive = true → (s.islandSt i.val).state = 2 → (s.islandSt i.val).lossAt = some t →
    (msTicks 1 ≤ since s.clk.batten t → ∃ u : State, exec (.islandClockFault i) s = .next u ∧ (u.islandSt i.val).state = 3
      ∧ (∀ j, j ≠ i.val → u.islandSt j = s.islandSt j) ∧ (i.val ≠ 1 → i.val ≠ 3 → u = { s with clk := u.clk }))
    ∧ (since s.clk.batten t < msTicks 1 → exec (.islandClockFault i) s = .next s))
  ∧ (∀ s : State, s.alive = true → s.rst.listening = true →
    (s.listenOver = true → ∃ u : State, exec .listenWindowEnd s = .next u ∧ u.pair.leads = true
      ∧ u.rst.listening = false ∧ u.clk.running = true ∧ u.clk.frameStart = s.clk.batten
      ∧ u.clk.frameNo = (if s.rst.powerOn then 0 else s.eave.lastFrame + 1))
    ∧ (s.listenOver = false → exec .listenWindowEnd s = .next s))

/-! ### The frame -/

/-- A frame start opens the next frame 125 000 ticks after the last and pegs nothing; the evaluation runs over the batch; items
that 100 frames have carried are withdrawn; the digest leaves over the ridge link with the frame's number, and the twin's is taken
for the present frame only; a frame whose lanes agree is pegged on a solo unit, and its data come into force with the owner
counters run on; one whose lanes disagree is not (R13-R17, R160, R176, R276, R335-R337). -/
def Obligations.FrameComplete : Prop :=
  (∀ s : State, s.alive = true → s.clk.running = true → s.framesOver = false → ∃ u : State, exec .frameStart s = .next u
    ∧ u.clk.frameNo = s.clk.frameNo + 1 ∧ u.clk.frameStart = s.clk.frameStart + 125000 ∧ u.prov = none ∧ u.pair.decided = false
    ∧ u.peg.cfg = s.peg.cfg ∧ u.peg.gen = s.peg.gen ∧ u.peg.engine.points = s.peg.engine.points ∧ u.keys = s.keys)
  ∧ (∀ s : State, s.clk.running = false → exec .frameStart s = .next s)
  ∧ (∀ (b : Bool) (s : State), s.evaluates = true → s.pair.decided = false → (s.toOffset 37500).offset < 112500 →
    ∃ u : State, exec (.frameEvaluation b) s = .next u ∧ u.prov = some ((s.toOffset 37500).evaluateFrame b)
      ∧ u = { s.toOffset 37500 with prov := u.prov })
  ∧ (∀ s : State, s.alive = true → s.isWorker = false → ∃ u : State, exec .unpegged s = .next u
    ∧ u.batch = s.batch.filter (fun i => !i.overdue s.clk.frameNo) ∧ u.admitted = s.admitted.filter (fun i => !i.overdue s.clk.frameNo)
    ∧ u.peg = s.peg)
  ∧ (∀ (s : State) (p : Prov), s.provDue = some p → s.isReady = true → s.isWorker = false → s.pair.detached = false → s.pair.bound = true →
    s.pair.decided = false → s.refereeDue = false → s.ridge.trained = true → ∃ (u : State) (b : List Byte),
      exec .digestExchange s = .next u ∧ u.ridge.tx = s.ridge.tx ++ [b]
      ∧ b = ridgeBytes true s.ridge.keyOut (s.ridge.lsnOut + 1) kDIGEST s.ridge.lsnAck (s.ownDigest p).bytes ∧ u.peg = s.peg)
  ∧ (∀ (k b : List Byte) (s s1 : State), s.takeRidge kDIGEST k = (some b, s1) → s1.isWorker = false → s1.clk.running = true →
    (digestOf b).frame = s1.clk.frameNo → s1.offset ≤ 112000 → s1.pair.decided = false →
    exec (.digestReceived k) s = .next { s1 with pair := { s1.pair with twinDigest := some (digestOf b) } })
  ∧ (∀ (s : State) (p : Prov), s.provDue = some p → s.isReady = true → s.isWorker = false → s.clk.running = true → s.pair.decided = false →
    s.pair.detached = false → s.pair.state = 0 → s.pair.refStart = none → s.pair.twinState ≠ 3 →
    (p.lanesAgree = false → ∃ u : State, exec .pegDecision s = .next u ∧ u.prov = none ∧ u.batch = s.batch ∧ u.pair.decided = true
      ∧ u.peg = s.peg ∧ u.pair.mismatches = inc32 s.pair.mismatches)
    ∧ (p.lanesAgree = true → p.effects = [] → (p.pt 0x800).sources.getLsbD (b2n s.unitB) = false →
        (p.pt 0x800).sources.getLsbD s.twinBit = s.redundancyLost → s.ring.expelReq = none →
        ∃ u : State, exec .pegDecision s = .next u ∧ u.prov = none ∧ u.batch = [] ∧ u.pair.decided = true ∧ u.peg = (s.under p).countAll
          ∧ u.pair.lastPegFrame = s.clk.frameNo ∧ u.rst.firstPeg = true))

/-! ### The twin and the ring -/

/-- A packet that the ridge link does not take changes nothing but the link's own state, and TURWA takes none while its four answer
slots are in use; each kind it takes has its effect: the marker starts a follower, compensated for the cable, an item is admitted,
the mirror brings the frame's batch, a missing mirror holds its values, the counters and the control codes are taken; a training
starts the link's numbers, but a swapped pair of lanes does not train; an unacknowledged packet is sent again after 20 µs, at most
four times; an acknowledgement leaves by itself after 10 µs (R36, R60, R121, R130, R160, R322-R325, R327, R333, R334, R387). -/
def Obligations.RidgeEventsComplete : Prop :=
  (∀ (k : List Byte) (s : State), ∀ i n, (i, n) ∈ [(Instr.marker k, kMARKER), (.forward k, kFORWARD), (.pairing k, kPAIRING),
      (.statePacket k, kSTATE), (.control k, kCONTROL), (.ringData k, kRINGDATA), (.relayCopy k, kRELAY),
      (.mirrorReceived k, kMIRROR), (.digestReceived k, kDIGEST), (.ackPacket k, kACK)] →
    ∀ s1 : State, s.takeRidge n k = (none, s1) → exec i s = .next s1 ∧ s1.peg = s.peg ∧ s1.batch = s.batch ∧ s1.comm = s.comm)
  ∧ (∀ (k : List Byte) (s : State),
    (∀ s1 : State, s.feUsed .ridge < 4 → s.takeRidge kTURWA k = (none, s1) →
      exec (.turwa k) s = .next s1 ∧ s1.peg = s.peg ∧ s1.batch = s.batch ∧ s1.comm = s.comm)
    ∧ (4 ≤ s.feUsed .ridge → exec (.turwa k) s = .next s))
  ∧ (∀ (k b : List Byte) (s s1 : State), s.takeRidge kACK k = (some b, s1) → exec (.ackPacket k) s = .next s1 ∧ s1.ridge.tx = s.ridge.tx
    ∧ s1.ridge.ackDue = s.ridge.ackDue ∧ s1.ridge.unacked.length ≤ s.ridge.unacked.length)
  ∧ (∀ (a b : List Byte) (d : Nat) (s : State), s.alive = true → s.isWorker = false → s.blockInReset 6 = false →
    sget 1 s.clk.domains 8 = 1 →
    exec (.ridgeLinkTrain true a b d) s = .next { s with ridge := Ridge.down }
    ∧ ∃ u : State, exec (.ridgeLinkTrain false a b d) s = .next u ∧ u.ridge.trained = true
      ∧ u.ridge.lsnOut = 0 ∧ u.ridge.lsnIn = 0 ∧ u.ridge.unacked = [] ∧ u.ridge.delayNs = d
      ∧ u.pair = { s.pair with pairOffers := 0, pairStep := 0, offer := none }
      ∧ u.rst = { s.rst with listenFrom := if s.rst.listening then s.time else s.rst.listenFrom }
      ∧ u.clk = { s.clk with refState := if s.rst.listening then 1 else s.clk.refState }
      ∧ u = { s with ridge := u.ridge, pair := u.pair, rst := u.rst, clk := u.clk })
  ∧ (∀ (s : State) (x : Unacked) (rest : List Unacked), s.ridge.unacked = x :: rest → s.alive = true → s.ridge.trained = true →
    (s.passed x.sentAt < 250 → exec .ridgeResendTimeout s = .next s)
    ∧ (250 ≤ s.passed x.sentAt → x.sends < 4 → ∃ u : State, exec .ridgeResendTimeout s = .next u ∧ u.ridge.tx = s.ridge.tx ++ [x.bytes]
      ∧ u.ridge.unacked = { x with sends := x.sends + 1, sentAt := s.time } :: rest ∧ u = { s with ridge := u.ridge, gut := u.gut })
    ∧ (250 ≤ s.passed x.sentAt → 4 ≤ x.sends → ∃ u : State, exec .ridgeResendTimeout s = .next u ∧ u.ridge.trained = false
      ∧ u.ridge.unacked = [] ∧ u = { s with ridge := u.ridge, gut := u.gut }))
  ∧ (∀ (s : State) (t : Nat), s.ridge.ackDue = some t → s.ridge.trained = true → s.alive = true → s.pair.bound = true →
    (125 ≤ s.passed t → ∃ u : State, exec .ackPacketDue s = .next u ∧ u.ridge.ackDue = none ∧ u.ridge.unacked = s.ridge.unacked
      ∧ u.ridge.tx = s.ridge.tx ++ [ridgeBytes true s.ridge.keyOut (s.ridge.lsnOut + 1) kACK s.ridge.lsnAck []])
    ∧ (s.passed t < 125 → exec .ackPacketDue s = .next s))
  ∧ (∀ s : State, s.ridge.ackDue = none → exec .ackPacketDue s = .next s)
  ∧ (∀ (k b : List Byte) (s s1 : State), s.takeRidge kMARKER k = (some b, s1) → s1.isWorker = false → s1.pair.leads = false →
    s1.clk.running = false → ∃ u : State, exec (.marker k) s = .next u ∧ u.clk.frameNo = BitVec.ofNat 32 (leAt b 0 4)
      ∧ u.clk.frameStart = BitVec.ofNat 40 (leAt b 4 5)
      ∧ u.clk.batten = BitVec.ofNat 40 (leAt b 4 5) + BitVec.ofNat 40 (s1.ridge.delayNs / 80) ∧ u.clk.running = true
      ∧ u.clk.refState = 1 ∧ u.rst.listening = false ∧ u.peg = s1.peg)
  ∧ (∀ (k b : List Byte) (s s1 : State) (i : BatchItem) (r : List Byte), s.takeRidge kFORWARD k = (some b, s1) → s1.isActive = true →
    s1.isReady = true → parseItem (b.drop 4) = some (i, r) →
    exec (.forward k) s = .next { s1 with admitted := s1.admitted ++ [{ i with own := false, forwarded := true }] })
  ∧ (∀ (k b : List Byte) (s s1 : State), s.takeRidge kMIRROR k = (some b, s1) → s1.isStandby = true → s1.clk.running = true →
    BitVec.ofNat 32 (leAt b 0 4) = s1.clk.frameNo → byteAt b 5 = s1.pair.mirrorParts → s1.pair.mirrored = false → s1.pair.unmirrored = false →
    ((byteAt b 4).testBit 0 = true → ∃ u : State, exec (.mirrorReceived k) s = .next u ∧ u.pair.mirrorBuf = s1.pair.mirrorBuf ++ b.drop 16
      ∧ u.pair.mirrorParts = s1.pair.mirrorParts + 1 ∧ u = { s1 with pair := u.pair })
    ∧ ((byteAt b 4).testBit 0 = false → ∃ u : State, exec (.mirrorReceived k) s = .next u ∧ u.pair.mirrored = true
      ∧ u.batch = u.pair.mirrorItems ∧ u.peg = s1.peg ∧ u.admitted = s1.admitted))
  ∧ (∀ s : State, s.isReady = true → s.isStandby = true → s.pair.mirrored = false → s.pair.unmirrored = false → ∃ u : State,
    exec .mirrorDeadline s = .next u ∧ u.pair.unmirrored = true ∧ u.pair.unmirroredSince = true ∧ u.batch = [] ∧ u.peg = s.peg
      ∧ (∀ c, c < 16 → (u.ainIn 0 c).value = (s.ainIn 0 c).value ∧ (u.ainIn 0 c).quality = (if (s.ainIn 0 c).quality = 3 then 3 else 2)))
  ∧ (∀ (k b m : List Byte) (s s1 : State), s.takeRidge kSTATE k = (some b, s1) → s1.isStandby = true → byteAt b 4 = 2 → leAt b 6 2 = 0 →
    s1.openState (b.drop 12) = some m → ∃ u : State, exec (.statePacket k) s = .next u ∧ u.savedCounters = u.peg.counters
      ∧ (∀ i, i < 64 → (sget Counter.zero u.peg.counters i).value = leAt m (8 * i) 8) ∧ u.peg.cfg = s1.peg.cfg)
  ∧ (∀ (k b : List Byte) (s s1 : State), s.takeRidge kCONTROL k = (some b, s1) →
    (byteAt b 0 = 1 → exec (.control k) s = .next { s1 with pair := { s1.pair with resetRequested := true } })
    ∧ (byteAt b 0 = 3 → byteAt b 2 = 1 → exec (.control k) s = .next { s1 with hw := { s1.hw with released1 := true } })
    ∧ (byteAt b 0 = 3 → byteAt b 2 = 2 → exec (.control k) s = .next { s1 with hw := { s1.hw with released2 := true } }))
  ∧ (∀ (k b : List Byte) (s s1 : State), s.takeRidge kPAIRING k = (some b, s1) → s1.isWorker = false → s1.clk.running = true →
    s1.pair.bindReq = none → s1.pair.bound = true →
    (s1.pair.leads = true → byteAt b 0 = 1 → s1.alive = true → s1.ridge.trained = true → ∃ u : State, exec (.pairing k) s = .next u.flush
      ∧ u.pair.offer = some (offerOf b) ∧ u.pair.pairStep = 1 ∧ u.ridge.lsnOut = s1.ridge.lsnOut + 1 ∧ u.peg = s1.peg)
    ∧ (s1.pair.leads = false → byteAt b 0 = 2 → s1.fitsTwin b = false → ∃ u : State, exec (.pairing k) s = .next u.flush
      ∧ u.pair.detached = true ∧ u.pair.state = 0 ∧ u.peg = s1.peg))
  ∧ (∀ (k b : List Byte) (s s1 : State), s.feUsed .ridge < 4 → s.takeRidge kTURWA k = (some b, s1) → s1.isReady = true →
    s1.isWorker = false → byteAt b 2 = 0 → s1.isActive = true →
    exec (.turwa k) s = .next (s1.linkReq .ridge (echoSession (b.drop 4)) (echoSeq (b.drop 4)) (b.drop 4)).flush)
  ∧ (∀ (k b : List Byte) (s s1 : State), s.takeRidge kRELAY k = (some b, s1) → s1.isStandby = true → byteAt b 0 = cTOKEN →
    exec (.relayCopy k) s = .next (s1.putCell s1.ringPort (asRelay b) 0))
  ∧ (∀ (k b : List Byte) (s s1 : State) (c : Cell), s.takeRidge kRINGDATA k = (some b, s1) → parseCell b = some c → s1.isActive = true →
    c.kind = cDATA → s1.acceptable c b = true → s1.workerKnown c.orig = true → c.body.length = 208 → c.frame = s1.clk.frameNo →
    s1.offset ≤ 25000 → ∃ u : State, exec (.ringData k) s = .next u ∧ (u.worker c.orig).gotData = true
      ∧ (u.worker c.orig).tokenSeen = byteAt c.body 0 ∧ u.peg = s1.peg)

/-- A cell with a bad CRC is asked for again, one of another kind is left; each kind that is accepted has its effect at a worker
or a manager, and one that is not accepted is counted; a cell asked for again leaves at most twice; a worker that hears nobody is
isolated; a command carried to a worker ends at its maximum, and not before (R90, R121, R159, R265, R358-R376). -/
def Obligations.RingEventsComplete : Prop :=
  (∀ (d : RingSide) (b : List Byte) (s : State), ∀ i n, (i, n) ∈ [(Instr.tokenReceived d b, cTOKEN), (.relayReceived d b, cRELAY),
      (.claimCellReceived d b, cCLAIM), (.dataCellReceived d b, cDATA), (.trainSegmentReceived d b, cTRAIN), (.scanCellReceived d b, cSCAN),
      (.admitCellReceived d b, cADMIT), (.resendReceived d b, cRESEND)] →
    (s.ringUp d = false → exec i s = .next s)
    ∧ (s.ringUp d = true → parseCell b = none → exec i s = .next (s.badCell d))
    ∧ (∀ c, s.ringUp d = true → parseCell b = some c → c.kind ≠ n → exec i s = .next s))
  ∧ (∀ (d : RingSide) (b : List Byte) (s : State) (c : Cell), ∀ i n, (i, n) ∈ [(Instr.tokenReceived d b, cTOKEN), (.relayReceived d b, cRELAY),
      (.claimCellReceived d b, cCLAIM), (.dataCellReceived d b, cDATA), (.trainSegmentReceived d b, cTRAIN)] →
    s.ringUp d = true → parseCell b = some c → c.kind = n →
    ((s.forwardCell d b).ringKey = [] → exec i s = .next (s.forwardCell d b))
    ∧ ((s.forwardCell d b).ringKey ≠ [] → (s.forwardCell d b).acceptable c b = false → exec i s = .next (s.forwardCell d b).failCell))
  ∧ (∀ (d : RingSide) (b : List Byte) (s : State) (c : Cell), ∀ i n, (i, n) ∈ [(Instr.tokenReceived d b, cTOKEN), (.relayReceived d b, cRELAY)] →
    s.ringUp d = true → parseCell b = some c → c.kind = n → s.isWorker = true → (s.forwardCell d b).acceptable c b = true →
    1 ≤ s.ring.index → s.ring.claimA = none → s.ring.claimB = none → byteAt c.body (62 + (s.ring.index - 1)) = 0 →
    (byteAt c.body 5).testBit 0 = false → ∃ u : State, exec i s = .next u
      ∧ u.ring.execWord = BitVec.ofNat 12 (leAt c.body (32 + 2 * (s.ring.index - 1)) 2) ∧ u.ring.isolated = false
      ∧ u.fio.claimDue = (if s.rst.cfgInvalid then none else some (BitVec.ofNat 32 (leAt c.body 28 4), u.ring.execWord, true))
      ∧ u.ring.tokenSeenNow = (if n = cTOKEN ∨ s.ring.tokenSeenNow = 1 then 1 else 2) ∧ u.clk.running = true ∧ u.peg = s.peg)
  ∧ (∀ (d : RingSide) (b : List Byte) (s : State) (c : Cell), s.ringUp d = true → parseCell b = some c → s.acceptable c b = true →
    s.isWorker = false →
    (c.kind = cTOKEN → c.orig = s.ringOrig → ∃ u : State, exec (.tokenReceived d b) s = .next u ∧ u.ring.tokenSeenNow = 1
      ∧ u.rst.tokensBack = s.rst.tokensBack + 1 ∧ (s.rst.phase = 9 → s.pair.leads = true → 1 ≤ s.rst.tokensBack → u.rst.phase = 0x0A))
    ∧ (c.kind = cRELAY → exec (.relayReceived d b) s = .next (s.noteCell c))
    ∧ (c.kind = cCLAIM → ∃ u : State, exec (.claimCellReceived d b) s = .next u ∧ u.ring.tokenSeenNow = 1
      ∧ u.rst.tokensBack = s.rst.tokensBack + 1)
    ∧ (c.kind = cDATA → s.isActive = true → s.workerKnown c.orig = true → c.body.length = 208 → c.frame = s.clk.frameNo →
      s.offset ≤ 25000 →
      ∃ u : State, exec (.dataCellReceived d b) s = .next u ∧ (u.worker c.orig).gotData = true
        ∧ (∀ h, h < 16 → (u.ainIn c.orig h).value = signedOf 4 (leAt c.body (4 + 8 * h) 4)
          ∧ (u.ainIn c.orig h).quality = byteAt c.body (8 + 8 * h)) ∧ u.peg = s.peg)
    ∧ (c.kind = cTRAIN → (byteAt c.body 2 ≠ s.ringOrig ∨ 4 ≤ s.feUsed .ring) →
      exec (.trainSegmentReceived d b) s = .next (s.noteCell c)))
  ∧ (∀ (d : RingSide) (b : List Byte) (s : State) (c : Cell), s.ringUp d = true → parseCell b = some c → c.kind = cCLAIM → s.isWorker = true →
    (s.forwardCell d b).acceptable c b = true → c.orig = 0x80 → ∃ u : State, exec (.claimCellReceived d b) s = .next u
      ∧ u.ring.claimA = some (BitVec.ofNat 32 (leAt c.body 0 4), s.clk.batten) ∧ u.ring.claimB = s.ring.claimB ∧ u.fio = s.fio)
  ∧ (∀ (d : RingSide) (b data : List Byte) (s s1 : State) (c : Cell), s.ringUp d = true → parseCell b = some c → c.kind = cTRAIN →
    s.isWorker = true → (s.forwardCell d b).acceptable c b = true → byteAt c.body 2 = s.ringOrig → s.feUsed .ring < 4 →
    ((s.forwardCell d b).noteCell c).joinTrain c = (some data, s1) → exec (.trainSegmentReceived d b) s = .next (s1.workerTrain d c data).flush)
  ∧ (∀ s : State, s.alive = true → s.isWorker = true → s.clk.running = true → s.ring.index ≠ 0 → s.ringKey ≠ [] →
    ∃ u : State, exec .dataCellSend s = .next u ∧ u.ring.counterOut = s.ring.counterOut + 1 ∧ u.ring.tokenSeenNow = 0
      ∧ (s.rst.phase = 0x0E → s.ring.tokenSeenNow ≠ 0 → u.rst.phase = 0x0A) ∧ u.peg = s.peg)
  ∧ (∀ s : State, s.isReady = true → s.isActive = true → s.clk.running = true → ∃ u : State,
    exec .workerDataDeadline s = .next u
    ∧ (∀ n, s.workerKnown n = true → n < 16 → (u.worker n).missRun = (if (s.worker n).gotData then 0 else (s.worker n).missRun + 1)
      ∧ (u.worker n).okRun = (if (s.worker n).gotData then (s.worker n).okRun + 1 else 0)) ∧ u.peg = s.peg)
  ∧ (∀ (s : State) (t : Tag), s.comm.tags = [t] → t.begun = true → t.answered = false → s.latOf t.opcode.toNat t.req = .l →
    s.ring.admitReq = none →
    (s.linkTicks t.opcode.toNat t.req ≤ since s.clk.batten t.admitAt → ∃ (u : State) (n : Nat),
      exec (.commandTimeout t.req.session t.req.seq) s = .next u.flush ∧ s.Answered u t (s.endsWith t) [] n
        ∧ u.ring.cmds = s.ring.cmds.filter (fun c => c.req != t.req))
    ∧ (since s.clk.batten t.admitAt < s.linkTicks t.opcode.toNat t.req →
      exec (.commandTimeout t.req.session t.req.seq) s = .next s.flush))
  ∧ (∀ (d : RingSide) (b : List Byte) (s : State) (c : Cell) (r : Req), s.ringUp d = true → parseCell b = some c → c.kind = cSCAN →
    s.isWorker = false → c.orig = s.ringOrig → s.ring.scanReq = some r → ∃ u : State, exec (.scanCellReceived d b) s = .next u.flush
      ∧ u.ring.scanned = true ∧ u.ring.scanReq = none
      ∧ u.ring.scan = (if s.unitB && s.pair.bound then (scanEntries c.body).reverse else scanEntries c.body) ∧ u.peg = s.peg)
  ∧ (∀ (d : RingSide) (b m : List Byte) (s : State) (c : Cell) (a : Admission), s.ringUp d = true → parseCell b = some c → c.kind = cADMIT →
    s.isWorker = true → leAt c.body 4 4 = Config.serial.toNat → byteAt c.body 0 = 4 → s.ring.admits.head? = some a →
    gcmOpen a.kek (slice c.body 8 12) [] (slice c.body 20 41) (slice c.body 61 16) = some m → ∃ u : State,
      exec (.admitCellReceived d b) s = .next u ∧ (u.keyAt 25).value = m.take 32 ∧ u.ring.index = byteAt m 32
        ∧ u.ring.mgrA = BitVec.ofNat 32 (leAt m 33 4) ∧ u.ring.admits = [] ∧ (∀ k, k ≠ 25 → u.keyAt k = s.keyAt k))
  ∧ (∀ (b x : List Byte) (n : Nat) (s : State) (c : Cell), s.ringUp .a = true → parseCell b = some c → c.kind = cRESEND →
    byteAt c.body 0 = 0 → s.ring.sentA.head? = some (x, n) → cellPrio (byteAt x 0) = 0 →
    (n < 2 → ∃ u : State, exec (.resendReceived .a b) s = .next u ∧ u.ring.resends = inc32 s.ring.resends
      ∧ u.ring.txA = queueCell s.ring.txA x ∧ u.ring.txB = s.ring.txB)
    ∧ (2 ≤ n → exec (.resendReceived .a b) s = .next s))
  ∧ (∀ (n : Nat) (s : State), s.alive = true → s.blockInReset 7 = false → sget 1 s.clk.domains 8 = 1 → ∃ u : State,
    exec (.ringSegmentTrain .a n) s = .next u ∧ u.ring.trainedA = true ∧ u.ring.delayA = min 65535 n ∧ u.ring.trainedB = s.ring.trainedB
      ∧ u.ring.downSince = none ∧ u.peg = s.peg)
  ∧ (∀ s : State, s.alive = true → s.isWorker = true → s.liveClaims = [] →
    exec .isolated s = .next { s with ring := { s.ring with isolated := true } })
  ∧ (∀ s : State, s.alive = true → s.isWorker = true → s.inRound = true → s.clk.running = false →
    2 * s.cfg cCLOCK 0 0x34 * 12500000 ≤ s.sinceRelease →
    exec .workerRoundTimeout s = .next (State.queueLayup { s with rst := { s.rst with layingUp := some (s.clk.frameNo - 1) } }))

/-! ### The clock and the die that stays powered -/

/-- The RTC's second with its mark and its slew, a valid and an invalid PPS edge, the fall to ZDA_ONLY after 3 s, the trim after an
hour of lock, the charger's states with their 10 s and 60 s, the wake, PWRON's 100 ms, the laid-up shutdown after the frame whose slot
queued the record, the backup event inputs with their filter and EAVE's cold start (R55, R56, R250-R263). -/
def Obligations.ClockEventsComplete : Prop :=
  (∀ s : State, s.sup.eave = true → (s.alive = false ∨ s.clk.refState ≠ 2) → ∃ u : State, exec .rtcSecond s = .next u
    ∧ u.eave.date = s.eave.nextSecond.date ∧ u.eave.secondAt = s.time
    ∧ u.eave.slew = (if s.eave.slewOn then slewLeft s.eave.slew else s.eave.slew)
    ∧ (s.alive = true → u.eave.marked = true ∧ u.eave.mark = s.clk.batten) ∧ (s.alive = false → u.eave.mark = s.eave.mark)
    ∧ u = { s with eave := u.eave })
  ∧ (∀ s : State, s.disciplines = true → s.ppsValid = false →
    exec .ppsEdge s = .next { s with eave := { s.eave with ppsErrors := inc32 s.eave.ppsErrors } })
  ∧ (∀ s : State, s.disciplines = true → s.ppsValid = true → s.eave.stepTo = none → ∃ u : State, exec .ppsEdge s = .next u
    ∧ u.eave.lastPps = some s.clk.batten ∧ u.eave.ppsLabelled = false ∧ u.eave.date = s.eave.date ∧ u = { s with eave := u.eave })
  ∧ (∀ (s : State) (d : Date), s.disciplines = true → s.ppsValid = true → s.eave.stepTo = some d → ∃ u : State, exec .ppsEdge s = .next u
    ∧ u.eave.valid = true ∧ u.eave.stepTo = none ∧ u.eave.steps = inc32 s.eave.steps ∧ u.eave.lastPps = some s.clk.batten
    ∧ u.eave.mark = s.clk.batten ∧ u.peg = s.peg)
  ∧ (∀ (s : State) (t : Batten), s.disciplines = true → s.eave.lastPps = some t →
    (3 * 12500000 ≤ since s.clk.batten t → ∃ u : State, exec .zdaOnly s = .next u ∧ u.eave.discState = 4 ∧ u.eave.lastPps = none
      ∧ u.eave.date = s.eave.date ∧ u = { s with eave := u.eave })
    ∧ (since s.clk.batten t < 3 * 12500000 → exec .zdaOnly s = .next s))
  ∧ (∀ (n : Int) (t : Nat) (s : State), s.eave.lockedSince = some t → s.disciplines = true → s.eave.discState = 3 →
    (3600 * 12500000 ≤ s.passed t → ∃ u : State, exec (.rtcTrimUpdate n) s = .next u
      ∧ u.eave.trim = max (-127) (min 127 n) ∧ u.eave.date = s.eave.date ∧ u = { s with eave := u.eave })
    ∧ (s.passed t < 3600 * 12500000 → exec (.rtcTrimUpdate n) s = .next s))
  ∧ (∀ s : State, s.chargerOn = true →
    (s.eave.chargerState = 1 → exec .chargerTermination s = .next (s.chargerTo 2)
      ∧ (10 * 12500000 ≤ s.passed s.eave.chargerAt → exec .noElement s = .next (s.chargerTo 3))
      ∧ (s.passed s.eave.chargerAt < 10 * 12500000 → exec .noElement s = .next s))
    ∧ (s.eave.chargerState = 2 → exec .chargerRestart s = .next (s.chargerTo 1))
    ∧ (s.eave.chargerState = 3 → (60 * 12500000 ≤ s.passed s.eave.chargerAt → exec .chargerRetry s = .next (s.chargerTo 1))
      ∧ (s.passed s.eave.chargerAt < 60 * 12500000 → exec .chargerRetry s = .next s)))
  ∧ (∀ s : State, s.sup.eave = true → s.eave.wakeReached = true → ∃ u : State, exec .wakeDue s = .next u
    ∧ u.eave.wakeNext = (if s.eave.wakeInterval = 0 then 0 else (s.eave.wakeNext + 60 * s.eave.wakeInterval) % 2 ^ 32)
    ∧ (s.eave.laidUp = true → u.eave.pwronLow = s.eave.pwronHeld ∧ u.eave.wakePending = some (s.eave.wakePending.getD 1))
    ∧ (s.eave.laidUp = false → u.eave.pwronLow = s.eave.pwronLow) ∧ u = { s with eave := u.eave })
  ∧ (∀ s : State, s.sup.eave = true → s.eave.pwronHeld = true →
    (msTicks 100 ≤ s.passed s.eave.pwronAt → ∃ u : State, exec .pwronHoldEnd s = .next u ∧ u.eave.pwronHeld = false
      ∧ (s.eave.wakePending.isSome = true → u.eave.pwronLow = false) ∧ (s.eave.wakePending = none → u.eave.pwronLow = s.eave.pwronLow)
      ∧ u = { s with eave := u.eave })
    ∧ (s.passed s.eave.pwronAt < msTicks 100 → exec .pwronHoldEnd s = .next s))
  ∧ (∀ (s : State) (n : Frame), s.rst.layingUp = some n → s.alive = true →
    (s.recorder.drained = true → s.rst.layupQueued = true → s.clk.frameNo ≠ n → 125000 ≤ s.offset →
      ∃ u : State, exec .laidUpShutdown s = .next u ∧ u.eave.laidUp = true ∧ u.eave.pwronLow = true ∧ u.eave.pwronHeld = true
        ∧ u.eave.pwronAt = s.time ∧ u.sup.logicUp = false ∧ u.sup.eave = s.sup.eave ∧ u.rst.inReset = true ∧ u.rst.layingUp = none
        ∧ u.peg = s.peg)
    ∧ ((s.recorder.drained = false ∨ s.rst.layupQueued = false ∨ s.offset < 125000) → exec .laidUpShutdown s = .next s))
  ∧ (∀ (i : Fin 2) (l : Bool) (s : State), s.sup.eave = true → ∃ u : State, exec (.evtEdge i l) s = .next u ∧ (u.eave.evt i).level = l
    ∧ (u.eave.evt i).accepted = (s.eave.evt i).accepted ∧ (l = (s.eave.evt i).accepted → (u.eave.evt i).pending = none)
    ∧ (l ≠ (s.eave.evt i).accepted → l ≠ (s.eave.evt i).level → (u.eave.evt i).pending = some (s.secNow, s.subsec / 32))
    ∧ (l ≠ (s.eave.evt i).level → (u.eave.evt i).since = s.time) ∧ u = { s with eave := u.eave })
  ∧ (∀ (i : Fin 2) (s : State) (sec frac : Nat), s.sup.eave = true → (s.eave.evt i).pending = some (sec, frac) →
    (msTicks (s.cfg cCLOCK 0 0x12) ≤ s.passed (s.eave.evt i).since → ∃ u : State, exec (.evtFilterAccept i) s = .next u
      ∧ (u.eave.evt i).pending = none ∧ (u.eave.evt i).accepted = (s.eave.evt i).level
      ∧ (edgeKept (bitsAt (s.cfg cCLOCK 0 0x11) (2 * i.val) 2) (s.eave.evt i).level = true → (s.eave.evt i).fifo.length < 8 →
          (u.eave.evt i).fifo = (s.eave.evt i).fifo ++
            [{ sec := sec, frac := frac, rising := (s.eave.evt i).level, recorded := false }])
      ∧ (edgeKept (bitsAt (s.cfg cCLOCK 0 0x11) (2 * i.val) 2) (s.eave.evt i).level = false → (u.eave.evt i).fifo = (s.eave.evt i).fifo)
      ∧ u = { s with eave := u.eave })
    ∧ (s.passed (s.eave.evt i).since < msTicks (s.cfg cCLOCK 0 0x12) → exec (.evtFilterAccept i) s = .next s))
  ∧ (∀ s : State, s.sup.eave = false → ∃ u : State, exec .eaveColdStart s = .next u ∧ u.sup.eave = true
    ∧ u.eave = s.eave.afterLoss s.time ∧ u.eave.valid = false ∧ u.rst.cold = true ∧ u.peg = s.peg)
end

