-- ==== Sys2Proof/Laws/Bytes.lean ====
section
/-! SUPPORT. Little-endian fields and sparse tables: what is written reads back, what is not stays, the form is kept. -/

namespace Sys2Proof.Machine

/-! ### Sparse tables -/

@[simp] theorem sget_nil {α : Type} (d : α) (i : Nat) : sget d [] i = d := rfl

theorem sget_sput {α : Type} (d : α) (m : Sparse α) (i k : Nat) (a : α) :
    sget d (sput m i a) k = if i = k then a else sget d m k := by
  induction m with
  | nil => simp [sput, sget]
  | cons e m ih =>
    obtain ⟨j, b⟩ := e
    simp only [sput]
    split
    · simp [sget]
    · split
      · subst_vars; simp only [sget]; split <;> rfl
      · simp only [sget, ih]; split <;> split <;> first | rfl | omega

theorem sget_sdel {α : Type} (d : α) (m : Sparse α) (i k : Nat) :
    sget d (sdel m i) k = if i = k then d else sget d m k := by
  induction m with
  | nil => simp [sdel]
  | cons e m ih =>
    obtain ⟨j, b⟩ := e
    simp only [sdel]
    split
    · subst_vars; rw [ih]; simp only [sget]; split <;> rfl
    · simp only [sget, ih]; split <;> split <;> first | rfl | omega

/-- A sparse table reads back what is written, and keeps every other index. -/
theorem sget_sset {α : Type} [DecidableEq α] (d : α) (m : Sparse α) (i k : Nat) (a : α) :
    sget d (sset d m i a) k = if i = k then a else sget d m k := by
  unfold sset
  split
  · subst_vars; exact sget_sdel ..
  · exact sget_sput ..

@[simp] theorem sget_sset_same {α : Type} [DecidableEq α] (d : α) (m : Sparse α) (i : Nat) (a : α) :
    sget d (sset d m i a) i = a := by simp [sget_sset]

theorem sget_sset_other {α : Type} [DecidableEq α] (d : α) (m : Sparse α) (i k : Nat) (a : α) (h : k ≠ i) :
    sget d (sset d m i a) k = sget d m k := by simp [sget_sset, Ne.symm h]

theorem sget_smod {α : Type} [DecidableEq α] (d : α) (m : Sparse α) (i k : Nat) (f : α → α) :
    sget d (smod d m i f) k = if i = k then f (sget d m i) else sget d m k := sget_sset ..

@[simp] theorem sget_smod_same {α : Type} [DecidableEq α] (d : α) (m : Sparse α) (i : Nat) (f : α → α) :
    sget d (smod d m i f) i = f (sget d m i) := sget_sset_same ..

theorem sget_smod_other {α : Type} [DecidableEq α] (d : α) (m : Sparse α) (i k : Nat) (f : α → α) (h : k ≠ i) :
    sget d (smod d m i f) k = sget d m k := sget_sset_other _ _ _ _ _ h

theorem all_lt_sput {α : Type} (m : Sparse α) (n i : Nat) (a : α) (h : n < i) (hm : m.all (fun e => decide (n < e.1)) = true) :
    (sput m i a).all (fun e => decide (n < e.1)) = true := by
  induction m with
  | nil => simp [sput, h]
  | cons e m ih =>
    obtain ⟨j, b⟩ := e
    simp only [List.all_cons, Bool.and_eq_true, decide_eq_true_eq] at hm
    simp only [sput]
    split
    · simp [h, hm.1]; simpa using hm.2
    · split
      · simp [h]; simpa using hm.2
      · simp only [List.all_cons, Bool.and_eq_true, decide_eq_true_eq]; exact ⟨hm.1, ih hm.2⟩

theorem all_lt_sdel {α : Type} (m : Sparse α) (n i : Nat) (hm : m.all (fun e => decide (n < e.1)) = true) :
    (sdel m i).all (fun e => decide (n < e.1)) = true := by
  induction m with
  | nil => simp [sdel]
  | cons e m ih =>
    obtain ⟨j, b⟩ := e
    simp only [List.all_cons, Bool.and_eq_true, decide_eq_true_eq] at hm
    simp only [sdel]
    split
    · exact ih hm.2
    · simp only [List.all_cons, Bool.and_eq_true, decide_eq_true_eq]; exact ⟨hm.1, ih hm.2⟩

theorem swf_sput {α : Type} [DecidableEq α] (d : α) (m : Sparse α) (i : Nat) (a : α) (ha : a ≠ d) (h : swf d m = true) :
    swf d (sput m i a) = true := by
  induction m with
  | nil => simp [sput, swf, ha]
  | cons e m ih =>
    obtain ⟨j, b⟩ := e
    simp only [swf, Bool.and_eq_true, decide_eq_true_eq] at h
    simp only [sput]
    split
    · rename_i hij
      simp only [swf, Bool.and_eq_true, decide_eq_true_eq, List.all_cons]
      exact ⟨⟨ha, hij, List.all_eq_true.2 fun e he => by
        have := List.all_eq_true.1 h.1.2 e he; simp only [decide_eq_true_eq] at *; omega⟩, h⟩
    · split
      · subst_vars; simp only [swf, Bool.and_eq_true, decide_eq_true_eq]; exact ⟨⟨ha, h.1.2⟩, h.2⟩
      · simp only [swf, Bool.and_eq_true, decide_eq_true_eq]
        exact ⟨⟨h.1.1, all_lt_sput m j i a (by omega) h.1.2⟩, ih h.2⟩

theorem swf_sdel {α : Type} [DecidableEq α] (d : α) (m : Sparse α) (i : Nat) (h : swf d m = true) :
    swf d (sdel m i) = true := by
  induction m with
  | nil => simp [sdel, swf]
  | cons e m ih =>
    obtain ⟨j, b⟩ := e
    simp only [swf, Bool.and_eq_true, decide_eq_true_eq] at h
    simp only [sdel]
    split
    · exact ih h.2
    · simp only [swf, Bool.and_eq_true, decide_eq_true_eq]; exact ⟨⟨h.1.1, all_lt_sdel m j i h.1.2⟩, ih h.2⟩

/-- Writing keeps the canonical form. -/
theorem swf_sset {α : Type} [DecidableEq α] (d : α) (m : Sparse α) (i : Nat) (a : α) (h : swf d m = true) :
    swf d (sset d m i a) = true := by
  unfold sset
  split
  · exact swf_sdel d m i h
  · exact swf_sput d m i a ‹_› h

theorem swf_smod {α : Type} [DecidableEq α] (d : α) (m : Sparse α) (i : Nat) (f : α → α) (h : swf d m = true) :
    swf d (smod d m i f) = true := swf_sset d m i _ h

/-! ### Little-endian fields -/

@[simp] theorem toLe_length (n v : Nat) : (toLe n v).length = n := by
  induction n generalizing v with
  | zero => rfl
  | succ n ih => simp [toLe, ih]

/-- n bytes of a number spell it modulo 256^n. -/
theorem leNat_toLe (n v : Nat) : leNat (toLe n v) = v % 256 ^ n := by
  induction n generalizing v with
  | zero => simp [toLe, leNat, Nat.mod_one]
  | succ n ih =>
    simp only [toLe, leNat, ih, BitVec.toNat_ofNat, Nat.reducePow]
    rw [Nat.pow_succ, Nat.mul_comm (256 ^ n) 256, Nat.mod_mul]

theorem leNat_lt (b : List Byte) : leNat b < 256 ^ b.length := by
  induction b with
  | nil => simp [leNat]
  | cons a b ih => simp only [leNat, List.length_cons, Nat.pow_succ]; have := a.isLt; omega

@[simp] theorem slice_length (b : List Byte) (i n : Nat) : (slice b i n).length = min n (b.length - i) := by
  simp [slice]

/-- A slice that begins where a first part ends. -/
theorem slice_append (a b : List Byte) (i n : Nat) (h : a.length = i) : slice (a ++ b) i n = b.take n := by
  subst h; simp [slice]

/-- A slice within the first part. -/
theorem slice_append_left (a b : List Byte) (i n : Nat) (h : i + n ≤ a.length) : slice (a ++ b) i n = slice a i n := by
  unfold slice
  rw [List.drop_append_of_le_length (by omega), List.take_append_of_le_length (by simp; omega)]

/-- A slice behind the first part. -/
theorem slice_append_right (a b : List Byte) (i n : Nat) (h : a.length ≤ i) : slice (a ++ b) i n = slice b (i - a.length) n := by
  unfold slice
  rw [List.drop_append, List.drop_eq_nil_of_le h, List.nil_append]

@[simp] theorem take_toLe_append (n v : Nat) (b : List Byte) : (toLe n v ++ b).take n = toLe n v := by
  rw [List.take_append_of_le_length (by simp), List.take_of_length_le (by simp)]

theorem byteAt_eq (b : List Byte) (i : Nat) : byteAt b i = leAt b i 1 := by
  unfold byteAt leAt slice
  induction b generalizing i with
  | nil => simp [leNat]
  | cons a b ih =>
    cases i with
    | zero => simp [leNat]
    | succ i => simpa using ih i

@[simp] theorem slice_toLe (n v : Nat) (b : List Byte) : slice (toLe n v ++ b) 0 n = toLe n v := by simp [slice]

/-- A field behind an n-byte field. -/
theorem slice_toLe_skip (n v i k : Nat) (b : List Byte) (h : n ≤ i) : slice (toLe n v ++ b) i k = slice b (i - n) k := by
  rw [slice_append_right _ _ _ _ (by simpa using h), toLe_length]

/-- The n-byte field at a place, where the bytes there spell a number. -/
theorem leAt_of_slice {b : List Byte} {i n v : Nat} (h : slice b i n = toLe n v) : leAt b i n = v % 256 ^ n := by
  rw [leAt, h, leNat_toLe]

end Sys2Proof.Machine
end

