-- ==== Sys2Proof/Laws/Crypto.lean ====
section
/-! SUPPORT. The lengths of digests and tags, and that what is sealed opens. -/

namespace Sys2Proof.Machine

@[simp] theorem toBe_length (n v : Nat) : (toBe n v).length = n := by simp [toBe]

@[simp] theorem sha256_length (m : List Byte) : (sha256 m).length = 32 := by
  simp only [sha256, List.length_flatMap, toBe_length]; decide

@[simp] theorem hmac_length (k m : List Byte) : (hmac k m).length = 32 := sha256_length _

@[simp] theorem authTag_length (k m : List Byte) : (authTag k m).length = 16 := by simp [authTag]

theorem xor_xor_stream (m s : List Byte) (h : m.length ≤ s.length) :
    List.zipWith (· ^^^ ·) (List.zipWith (· ^^^ ·) m s) s = m := by
  induction m generalizing s with
  | nil => simp
  | cons a m ih =>
    cases s with
    | nil => simp at h
    | cons b s => simp only [List.zipWith_cons_cons, List.cons.injEq, BitVec.xor_assoc, BitVec.xor_self, BitVec.xor_zero, true_and]
                  exact ih s (by simpa using h)

/-! ### AES-256-GCM -/

/-- A list of n lists of four. -/
def Fours (n : Nat) (l : List (List Nat)) : Prop := l.length = n ∧ ∀ x ∈ l, x.length = 4

theorem xorL_length (a b : List Nat) (n : Nat) (ha : a.length = n) (hb : b.length = n) : (xorL a b).length = n := by
  simp [xorL, ha, hb]

theorem chunks4_fours (n : Nat) (l : List Nat) (h : l.length = 4 * n) : Fours n (chunks4 l) := by
  induction n generalizing l with
  | zero => obtain rfl := List.length_eq_zero_iff.1 h; exact ⟨rfl, by simp [chunks4]⟩
  | succ n ih =>
    match l, h with
    | a :: b :: c :: d :: r, h =>
      have := ih r (by simp at h; omega)
      exact ⟨by simp [chunks4, this.1], by simpa [chunks4] using this.2⟩
    | [], h | [_], h | [_, _], h | [_, _, _], h => simp at h; try omega

theorem fours_flatten (n : Nat) (l : List (List Nat)) (h : Fours n l) : l.flatten.length = 4 * n := by
  obtain ⟨hl, h⟩ := h
  induction l generalizing n with
  | nil => simp at hl; simp [← hl]
  | cons a l ih =>
    have ha := h a (by simp)
    have := ih _ rfl (fun x hx => h x (by simp [hx]))
    simp only [List.flatten_cons, List.length_append, ha, this]; simp at hl; omega

theorem aesExpand_fours (n : Nat) : ∀ (i rcon k : Nat) (ws : List (List Nat)), Fours (k + 8) ws →
    Fours (k + 8 + n) (aesExpand n i rcon ws) := by
  induction n with
  | zero => intro i rcon k ws h; exact h
  | succ n ih =>
    intro i rcon k ws h
    have hold : (ws.getD 7 []).length = 4 := by
      rw [List.getD_eq_getElem _ _ (by rw [h.1]; omega)]; exact h.2 _ (List.getElem_mem _)
    have ht : (ws.headD []).length = 4 := by
      cases ws with
      | nil => have := h.1; simp at this
      | cons a l => exact h.2 a (by simp)
    have step (w : List Nat) (hw : w.length = 4) : Fours (k + 1 + 8) (xorL (ws.getD 7 []) w :: ws) :=
      ⟨by simp [h.1], fun x hx => by
        rcases List.mem_cons.1 hx with rfl | hx
        · exact xorL_length _ _ 4 hold hw
        · exact h.2 x hx⟩
    have hn : k + 8 + (n + 1) = k + 1 + 8 + n := by omega
    rw [hn]
    simp only [aesExpand]
    split
    · exact ih _ _ _ _ (step _ rfl)
    · split
      · exact ih _ _ _ _ (step _ (by simpa using ht))
      · exact ih _ _ _ _ (step _ ht)

/-- The round keys of a 32-byte key: 15 of 16 bytes. -/
theorem aesKeys_spec (key : List Byte) (h : key.length = 32) :
    (aesKeys key).length = 15 ∧ ∀ k ∈ aesKeys key, k.length = 16 := by
  have h0 : Fours 8 (chunks4 (key.map BitVec.toNat)).reverse := by
    have := chunks4_fours 8 (key.map BitVec.toNat) (by simp [h])
    exact ⟨by simpa using this.1, by simpa using this.2⟩
  have h1 := aesExpand_fours 52 8 1 0 _ h0
  refine ⟨by simp [aesKeys], fun k hk => ?_⟩
  simp only [aesKeys, List.mem_map, List.mem_range] at hk
  obtain ⟨r, hr, rfl⟩ := hk
  have hl := h1.1
  refine fours_flatten 4 _ ⟨by simp [hl]; omega, fun x hx => h1.2 x ?_⟩
  exact List.mem_reverse.1 (List.mem_of_mem_drop (List.mem_of_mem_take hx))

theorem shiftRows_length (s : List Nat) : (shiftRows s).length = 16 := by simp [shiftRows]

theorem mixColumns_length (s : List Nat) (h : s.length = 16) : ((chunks4 s).map mixColumn).flatten.length = 16 := by
  have := chunks4_fours 4 s h
  refine fours_flatten 4 _ ⟨by simpa using this.1, fun x hx => ?_⟩
  obtain ⟨c, _, rfl⟩ := List.mem_map.1 hx
  rfl

theorem aesRounds_length (ks : List (List Nat)) (s : List Nat) (hk : ∀ k ∈ ks, k.length = 16) (hs : s.length = 16) :
    (aesRounds ks s).length = 16 := by
  induction ks generalizing s with
  | nil => exact hs
  | cons k ks ih =>
    cases ks with
    | nil => exact xorL_length _ _ 16 (shiftRows_length _) (hk k (by simp))
    | cons k' ks =>
      exact ih _ (fun x hx => hk x (by simp [hx]))
        (xorL_length _ _ 16 (mixColumns_length _ (shiftRows_length _)) (hk k (by simp)))

/-- A block of AES-256 is a block. -/
theorem aesBlock_length (key b : List Byte) (hk : key.length = 32) (hb : b.length = 16) : (aesBlock (aesKeys key) b).length = 16 := by
  obtain ⟨hl, h⟩ := aesKeys_spec key hk
  have hh : ((aesKeys key).headD []).length = 16 := by
    cases he : aesKeys key with
    | nil => rw [he] at hl; simp at hl
    | cons a l => exact h a (by rw [he]; simp)
  simp only [aesBlock, List.length_map]
  exact aesRounds_length _ _ (fun k hk => h k (List.mem_of_mem_tail hk)) (xorL_length _ _ 16 (by simpa using hb) hh)

theorem gcmStream_length (key iv : List Byte) (n c : Nat) (hk : key.length = 32) (hi : iv.length = 12) :
    (gcmStream (aesKeys key) iv n c).length = 16 * n := by
  induction n generalizing c with
  | zero => rfl
  | succ n ih => simp only [gcmStream, List.length_append, ih, aesBlock_length key _ hk (by simp [hi] : (iv ++ toBe 4 c).length = 16)]; omega

theorem gcmCrypt_length (key iv m : List Byte) (hk : key.length = 32) (hi : iv.length = 12) : (gcmCrypt key iv m).length = m.length := by
  simp only [gcmCrypt, List.length_zipWith, gcmStream_length key iv _ _ hk hi, ceilDiv]; omega

/-- Encryption undone. -/
theorem gcmCrypt_crypt (key iv m : List Byte) (hk : key.length = 32) (hi : iv.length = 12) : gcmCrypt key iv (gcmCrypt key iv m) = m := by
  have hl := gcmCrypt_length key iv m hk hi
  rw [gcmCrypt, hl]
  exact xor_xor_stream m _ (by rw [gcmStream_length key iv _ _ hk hi, ceilDiv]; omega)

/-- What is sealed opens. -/
theorem gcmOpen_seal (key iv aad m : List Byte) (hk : key.length = 32) (hi : iv.length = 12) :
    gcmOpen key iv aad (gcmSeal key iv aad m).1 (gcmSeal key iv aad m).2 = some m := by
  simp [gcmOpen, gcmSeal, gcmCrypt_crypt key iv m hk hi]

theorem gcmTag_length (key iv aad c : List Byte) (hk : key.length = 32) (hi : iv.length = 12) : (gcmTag key iv aad c).length = 16 := by
  simp only [gcmTag, List.length_zipWith, toBe_length, aesBlock_length key _ hk (by simp [hi] : (iv ++ toBe 4 1).length = 16)]; rfl

end Sys2Proof.Machine
end

