-- ==== Sys2Proof/Laws/Links.lean ====
section
/-! SUPPORT. A packet of the ridge link and a cell of the ring read back as what was sent. -/

namespace Sys2Proof.Machine

theorem xor_lt32 (a b : Nat) (ha : a < 2 ^ 32) (hb : b < 2 ^ 32) : a ^^^ b < 2 ^ 32 := Nat.xor_lt_two_pow ha hb

theorem crc32Bit_lt (c : Nat) (h : c < 2 ^ 32) : crc32Bit c < 2 ^ 32 := by
  unfold crc32Bit
  have : c >>> 1 < 2 ^ 32 := by rw [Nat.shiftRight_eq_div_pow]; omega
  split
  · exact xor_lt32 _ _ this (by decide)
  · exact this

theorem crc32Byte_lt (c : Nat) (b : Byte) (h : c < 2 ^ 32) : crc32Byte c b < 2 ^ 32 := by
  have : c ^^^ b.toNat < 2 ^ 32 := xor_lt32 _ _ h (by have := b.isLt; omega)
  simp only [crc32Byte]
  repeat' apply crc32Bit_lt
  exact this

/-- A CRC-32 fits its 4 bytes. -/
theorem crc32_lt (b : List Byte) : crc32 b < 2 ^ 32 := by
  have h (l : List Byte) : ∀ c, c < 2 ^ 32 → l.foldl crc32Byte c < 2 ^ 32 := by
    induction l with
    | nil => intro c hc; exact hc
    | cons a l ih => intro c hc; exact ih _ (crc32Byte_lt c a hc)
  exact xor_lt32 _ _ (h b _ (by decide)) (by decide)

/-- A body with its CRC-32: the CRC stands behind it and holds. -/
theorem crc_reads (b : List Byte) : leAt (b ++ toLe 4 (crc32 b)) (b.length + 4 - 4) 4 = crc32 ((b ++ toLe 4 (crc32 b)).take (b.length + 4 - 4)) := by
  have h := crc32_lt b
  simp only [Nat.add_sub_cancel, List.take_left', leAt]
  rw [slice_append b _ _ _ rfl, List.take_of_length_le (by simp), leNat_toLe, Nat.mod_eq_of_lt (by omega)]

@[simp] theorem ridgeTag_length (key : List Byte) (lsn kind : Nat) (p : List Byte) : (ridgeTag key lsn kind p).length = 16 := by
  simp [ridgeTag]

/-- A link packet up to its CRC. -/
def ridgeBody (tagged : Bool) (key : List Byte) (lsn kind ack : Nat) (p : List Byte) : List Byte :=
  toLe 8 lsn ++ (toLe 1 kind ++ (toLe 1 0 ++ (toLe 2 p.length ++ (toLe 8 ack ++ (p ++ (if tagged then ridgeTag key lsn kind p else []))))))

theorem ridgeBytes_eq (tagged : Bool) (key : List Byte) (lsn kind ack : Nat) (p : List Byte) :
    ridgeBytes tagged key lsn kind ack p = ridgeBody tagged key lsn kind ack p ++ toLe 4 (crc32 (ridgeBody tagged key lsn kind ack p)) := by
  simp only [ridgeBytes, ridgeBody, List.append_assoc]

/-- The ridge link takes a packet built for it: its payload, and the link's own bookkeeping (R323, R325). -/
theorem State.takeRidge_ridgeBytes (s : State) (lsn kind ack : Nat) (p : List Byte) (ha : s.alive = true) (ht : s.ridge.trained = true)
    (hl : s.ridge.lsnIn < lsn) (hl' : lsn < 2 ^ 64) (hk : kind < 256) (hp : p.length ≤ 4096) (hack : ack < 2 ^ 64)
    (hu : s.pair.bound = true ∨ untaggedKind kind = true) :
    s.takeRidge kind (ridgeBytes s.pair.bound s.ridge.keyIn lsn kind ack p) =
      (some p, { s with ridge := { s.ridge.received lsn ack s.time (kind == kACK) with lsnIn := lsn } }) := by
  have hb := ridgeBytes_eq s.pair.bound s.ridge.keyIn lsn kind ack p
  generalize hB : ridgeBody s.pair.bound s.ridge.keyIn lsn kind ack p = B at hb
  have hlen : B.length = 20 + p.length + (if s.pair.bound then 16 else 0) := by
    subst hB; simp only [ridgeBody, List.length_append, toLe_length]; split <;> simp <;> omega
  have hcrc : leAt (B ++ toLe 4 (crc32 B)) (B.length + 4 - 4) 4 = crc32 ((B ++ toLe 4 (crc32 B)).take (B.length + 4 - 4)) := crc_reads B
  have f1 : leAt (B ++ toLe 4 (crc32 B)) 10 2 = p.length := by
    subst hB
    rw [ridgeBody, leAt_of_slice (v := p.length)]
    · omega
    · simp [slice_toLe_skip]
  have f2 : leAt (B ++ toLe 4 (crc32 B)) 0 8 = lsn := by
    subst hB
    rw [ridgeBody, leAt_of_slice (v := lsn)]
    · omega
    · simp
  have f3 : byteAt (B ++ toLe 4 (crc32 B)) 8 = kind := by
    subst hB
    rw [byteAt_eq, ridgeBody, leAt_of_slice (v := kind)]
    · omega
    · simp [slice_toLe_skip]
  have f4 : leAt (B ++ toLe 4 (crc32 B)) 12 8 = ack := by
    subst hB
    rw [ridgeBody, leAt_of_slice (v := ack)]
    · omega
    · simp [slice_toLe_skip]
  have f5 : slice (B ++ toLe 4 (crc32 B)) 20 p.length = p := by
    subst hB
    simp only [ridgeBody, List.append_assoc]
    rw [slice_toLe_skip _ _ _ _ _ (by omega), slice_toLe_skip _ _ _ _ _ (by omega), slice_toLe_skip _ _ _ _ _ (by omega),
      slice_toLe_skip _ _ _ _ _ (by omega), slice_toLe_skip _ _ _ _ _ (by omega)]
    simp [slice]
  have f6 : s.pair.bound = true → slice (B ++ toLe 4 (crc32 B)) (20 + p.length) 16 = ridgeTag s.ridge.keyIn lsn kind p := by
    intro hbd
    subst hB
    simp only [ridgeBody, List.append_assoc, hbd, if_true]
    rw [slice_toLe_skip _ _ _ _ _ (by omega), slice_toLe_skip _ _ _ _ _ (by omega), slice_toLe_skip _ _ _ _ _ (by omega),
      slice_toLe_skip _ _ _ _ _ (by omega), slice_toLe_skip _ _ _ _ _ (by omega), slice_append_right _ _ _ _ (by omega)]
    rw [show 20 + p.length - 8 - 1 - 1 - 2 - 8 - p.length = 0 by omega, slice_append_left _ _ _ _ (by simp)]
    simp [slice]
  rw [hb]
  unfold State.takeRidge
  simp only [List.length_append, toLe_length, f1, f2, f3, f4, f5, ha, ht, hlen]
  rw [← hlen, if_neg (by simp; omega), if_neg (not_not.2 hcrc)]
  rw [if_neg, if_neg, if_neg (by omega)]
  · rintro ⟨h1, h2⟩
    exact h2 (f6 h1)
  · rintro (h | h | h | h)
    · split at h <;> simp_all <;> omega
    · exact h rfl
    · omega
    · rcases hu with hu | hu
      · exact h.1 hu
      · exact h.2 hu

@[simp] theorem cellTag_length (key : List Byte) (c : Cell) : (cellTag key c).length = 16 := by simp [cellTag]

/-- A cell up to its CRC. -/
def cellBody (key : List Byte) (c : Cell) : List Byte :=
  toLe 1 c.kind ++ (toLe 1 c.orig ++ (toLe 2 c.body.length ++ (toLe 8 c.ctr ++ (toLe 4 c.frame.toNat
    ++ (c.body ++ (if cellTagged c then cellTag key c else []))))))

theorem cellBytes_eq (key : List Byte) (c : Cell) :
    cellBytes key c = cellBody key c ++ toLe 4 (crc32 (cellBody key c)) := by
  simp only [cellBytes, cellBare, cellBody, List.append_assoc]

/-- What fits a cell's fields. -/
def Cell.fits (c : Cell) : Prop := c.kind < 256 ∧ c.orig < 256 ∧ c.ctr < 2 ^ 64 ∧ c.body.length < 65536

theorem cellBytes_fields (key : List Byte) (c : Cell) (h : c.fits) :
    (cellBytes key c).length = 20 + c.body.length + (if cellTagged c then 16 else 0)
    ∧ byteAt (cellBytes key c) 0 = c.kind ∧ byteAt (cellBytes key c) 1 = c.orig ∧ leAt (cellBytes key c) 2 2 = c.body.length
    ∧ leAt (cellBytes key c) 4 8 = c.ctr ∧ leAt (cellBytes key c) 12 4 = c.frame.toNat
    ∧ slice (cellBytes key c) 16 c.body.length = c.body
    ∧ (cellTagged c = true → slice (cellBytes key c) (16 + c.body.length) 16 = cellTag key c) := by
  obtain ⟨h1, h2, h3, h4⟩ := h
  have hf := c.frame.isLt
  rw [cellBytes_eq]
  refine ⟨?_, ?_, ?_, ?_, ?_, ?_, ?_, ?_⟩
  · simp only [cellBody, List.length_append, toLe_length]; split <;> simp <;> omega
  · rw [byteAt_eq, cellBody, leAt_of_slice (v := c.kind)]
    · omega
    · simp
  · rw [byteAt_eq, cellBody, leAt_of_slice (v := c.orig)]
    · omega
    · simp [slice_toLe_skip]
  · rw [cellBody, leAt_of_slice (v := c.body.length)]
    · omega
    · simp [slice_toLe_skip]
  · rw [cellBody, leAt_of_slice (v := c.ctr)]
    · omega
    · simp [slice_toLe_skip]
  · rw [cellBody, leAt_of_slice (v := c.frame.toNat)]
    · omega
    · simp [slice_toLe_skip]
  · simp only [cellBody, List.append_assoc]
    rw [slice_toLe_skip _ _ _ _ _ (by omega), slice_toLe_skip _ _ _ _ _ (by omega), slice_toLe_skip _ _ _ _ _ (by omega),
      slice_toLe_skip _ _ _ _ _ (by omega), slice_toLe_skip _ _ _ _ _ (by omega)]
    simp [slice]
  · intro ht
    simp only [cellBody, List.append_assoc, ht, if_true]
    rw [slice_toLe_skip _ _ _ _ _ (by omega), slice_toLe_skip _ _ _ _ _ (by omega), slice_toLe_skip _ _ _ _ _ (by omega),
      slice_toLe_skip _ _ _ _ _ (by omega), slice_toLe_skip _ _ _ _ _ (by omega), slice_append_right _ _ _ _ (by omega)]
    rw [show 16 + c.body.length - 1 - 1 - 2 - 8 - 4 - c.body.length = 0 by omega, slice_append_left _ _ _ _ (by simp)]
    simp [slice]

/-- A cell's bytes read back as the cell (R358). -/
theorem parseCell_cellBytes (key : List Byte) (c : Cell) (h : c.fits) : parseCell (cellBytes key c) = some c := by
  obtain ⟨f0, f1, f2, f3, f4, f5, f6, -⟩ := cellBytes_fields key c h
  have hcrc := crc_reads (cellBody key c)
  rw [← cellBytes_eq] at hcrc
  have hl : (cellBody key c).length + 4 = (cellBytes key c).length := by rw [cellBytes_eq]; simp
  rw [hl] at hcrc
  unfold parseCell
  simp only []
  rw [if_neg]
  · simp only [f1, f2, f3, f4, f5, f6, BitVec.ofNat_toNat, BitVec.setWidth_eq]
    exact if_pos f0
  · rintro (h | h)
    · omega
    · exact h hcrc

/-- A tagged cell of the present frame with a counter above the last is accepted (R359). -/
theorem State.acceptable_cellBytes (s : State) (c : Cell) (h : c.fits) (ht : cellTagged c = true) (hk : s.ringKey.isEmpty = false)
    (hf : c.frame = s.clk.frameNo) (hc : sget 0 s.ring.lastIn c.orig < c.ctr) :
    s.acceptable c (cellBytes s.cellTagKey c) = true := by
  obtain ⟨-, -, -, f3, -, -, -, f7⟩ := cellBytes_fields s.cellTagKey c h
  simp [State.acceptable, cellTagBytes, f3, f7 ht, hk, hf, hc]

end Sys2Proof.Machine
end

