-- ==== Sys2Proof/Laws/Ops.lean ====
section
/-! SUPPORT. What each shared operation can change: everything outside the named parts of State stays. -/

namespace Sys2Proof.Machine

/-- A relation that holds of every step of a fold holds from its first state to its last. -/
theorem foldl_rel {α β : Type} (R : α → α → Prop) (refl : ∀ a, R a a) (trans : ∀ {a b c}, R a b → R b c → R a c) (f : α → β → α)
    (h : ∀ a x, R a (f a x)) (l : List β) (a : α) : R a (l.foldl f a) := by
  induction l generalizing a with
  | nil => exact refl a
  | cons x l ih => exact trans (h a x) (ih _)

/-! ### The gutter log and the recorder -/

/-- Nothing but the gutter log changes. -/
def State.OnlyGut (s u : State) : Prop := u = { s with gut := u.gut }
/-- Nothing but the recorder changes. -/
def State.OnlyRecorder (s u : State) : Prop := u = { s with recorder := u.recorder }

theorem State.OnlyRecorder.refl (s : State) : s.OnlyRecorder s := rfl
theorem State.OnlyRecorder.trans {s u v : State} (h : s.OnlyRecorder u) (k : u.OnlyRecorder v) : s.OnlyRecorder v := by
  unfold State.OnlyRecorder at *; rw [k, h]

/-- A gutter entry goes to the gutter log (R317). -/
theorem State.gutter_only (s : State) (k a d : Nat) : s.OnlyGut (s.gutter k a d) := by
  unfold State.OnlyGut State.gutter
  dsimp only
  split
  · split <;> rfl
  · rfl

theorem State.suppress_only (s : State) (o : Occurrence) (c : Nat) : s.OnlyRecorder (s.suppress o c) := rfl
theorem State.gainBucket_only (s : State) (c : Nat) : s.OnlyRecorder (s.gainBucket c) := by
  unfold State.OnlyRecorder State.gainBucket; dsimp only; split <;> rfl
theorem State.gainBudget_only (s : State) : s.OnlyRecorder s.gainBudget := by
  unfold State.OnlyRecorder State.gainBudget; dsimp only; split <;> rfl
theorem State.gainAll_only (s : State) : s.OnlyRecorder s.gainAll :=
  (foldl_rel State.OnlyRecorder .refl .trans _ State.gainBucket_only _ s).trans (State.gainBudget_only _)
theorem State.occur_only (s : State) (o : Occurrence) : s.OnlyRecorder (s.occur o) := by
  unfold State.OnlyRecorder State.occur
  dsimp only
  repeat' split
  all_goals rfl
theorem State.summarise_only (s : State) (c : Nat) : s.OnlyRecorder (s.summarise c) := by
  unfold State.OnlyRecorder State.summarise; dsimp only; split <;> rfl
/-- The release of a peg's records changes the recorder (R309-R312). -/
theorem State.releaseRecords_only (s : State) (os : List Occurrence) : s.OnlyRecorder (s.releaseRecords os) :=
  (s.gainAll_only.trans (foldl_rel _ .refl .trans _ State.occur_only os _)).trans
    (foldl_rel _ .refl .trans _ State.summarise_only _ _)

/-! ### Events -/

/-- Nothing but sessions and ports changes. -/
def State.OnlyComm (s u : State) : Prop := u = { s with comm := u.comm }
theorem State.OnlyComm.refl (s : State) : s.OnlyComm s := rfl
theorem State.OnlyComm.trans {s u v : State} (h : s.OnlyComm u) (k : u.OnlyComm v) : s.OnlyComm v := by
  unfold State.OnlyComm at *; rw [k, h]

theorem State.sendEvent_only (s : State) (x : Sess) (e : Event) : s.OnlyComm (s.sendEvent x e) := rfl
theorem State.raiseFor_only (s : State) (e : Event) (x : Sess) : s.OnlyComm (s.raiseFor e x) := by
  unfold State.raiseFor
  repeat' split
  all_goals rfl
/-- An event goes to the sessions that select it (R132, R133). -/
theorem State.raise_only (s : State) (k : Nat) (o : Word) (d : List Byte) : s.OnlyComm (s.raise k o d) :=
  foldl_rel State.OnlyComm .refl .trans _ (fun a _ => a.raiseFor_only _ _) _ s
theorem State.drainOne_only (s : State) (p : Port) (n : Half) : s.OnlyComm (s.drainOne p n) := by
  unfold State.drainOne
  repeat' split
  all_goals rfl
theorem State.drain_only (s : State) (p : Port) (n : Half) : s.OnlyComm (s.drain p n) :=
  foldl_rel State.OnlyComm .refl .trans _ (fun a _ => a.drainOne_only p n) _ s
theorem State.feAnswer_only (s : State) (p n q st ps) : s.OnlyComm (s.feAnswer p n q st ps) := rfl

/-- A ring or pair change is told in an event and a record that waits for the next peg (R300, R376). -/
theorem State.tellRing_only (s : State) (c w : Nat) :
    s.tellRing c w = { s with comm := (s.tellRing c w).comm, recorder := (s.tellRing c w).recorder } := by
  have h := s.raise_only 5 (0x04100000#32) (s.ringEventData c w)
  unfold State.OnlyComm at h
  unfold State.tellRing State.later
  rw [h]
theorem State.tellPair_only (s : State) (c o : Nat) :
    s.tellPair c o = { s with comm := (s.tellPair c o).comm, recorder := (s.tellPair c o).recorder } := by
  have h := s.raise_only 6 (0x04000000#32) (s.pairEventData c o)
  unfold State.OnlyComm at h
  unfold State.tellPair State.later
  rw [h]

/-! ### The links -/

/-- Nothing but the ring's state and the gutter log changes. -/
def State.OnlyRing (s u : State) : Prop := u = { s with ring := u.ring, gut := u.gut }
theorem State.OnlyRing.refl (s : State) : s.OnlyRing s := rfl
theorem State.OnlyRing.trans {s u v : State} (h : s.OnlyRing u) (k : u.OnlyRing v) : s.OnlyRing v := by
  unfold State.OnlyRing at *; rw [k, h]

theorem State.putCell_only (s : State) (d : RingSide) (b : List Byte) (n : Nat) : s.OnlyRing (s.putCell d b n) := by
  unfold State.putCell
  split
  · exact .refl s
  · cases d <;> rfl
theorem State.sendCell_only (s : State) (d : RingSide) (k : Nat) (f : Frame) (b : List Byte) : s.OnlyRing (s.sendCell d k f b) := by
  unfold State.sendCell
  split
  · exact .refl s
  · exact .trans (u := (s.newCell k f b).2) rfl (State.putCell_only ..)
theorem State.forwardCell_only (s : State) (d : RingSide) (b : List Byte) : s.OnlyRing (s.forwardCell d b) := by
  unfold State.forwardCell
  split
  · exact s.putCell_only ..
  · exact .refl s
theorem State.OnlyGut.onlyRing {s u : State} (h : s.OnlyGut u) : s.OnlyRing u := by
  unfold State.OnlyGut at h; unfold State.OnlyRing; rw [h]
theorem State.badCell_only (s : State) (d : RingSide) : s.OnlyRing (s.badCell d) :=
  (s.gutter_only ..).onlyRing.trans (State.sendCell_only ..)
theorem State.noteCell_only (s : State) (c : Cell) : s.OnlyRing (s.noteCell c) := rfl
theorem State.sendTrain_only (s : State) (d : RingSide) (t w n : Nat) (b : List Byte) : s.OnlyRing (s.sendTrain d t w n b) :=
  foldl_rel State.OnlyRing .refl .trans _ (fun _ _ => State.sendCell_only ..) _ s

/-- Nothing but the ridge link changes. -/
def State.OnlyRidge (s u : State) : Prop := u = { s with ridge := u.ridge }
/-- A packet for the twin (R322, R325). -/
theorem State.sendRidge_only (s : State) (k : Nat) (p : List Byte) : s.OnlyRidge (s.sendRidge k p) := by
  unfold State.OnlyRidge State.sendRidge; split <;> rfl
theorem State.sendForward_only (s : State) (i : BatchItem) : s.OnlyRidge (s.sendForward i) := s.sendRidge_only ..

/-- A command carried to a worker leaves on the ring or over the ridge link (R370). -/
theorem State.carry_only (s : State) (w n op : Nat) (r : Req) :
    s.carry w n op r = { s with ring := (s.carry w n op r).ring, gut := (s.carry w n op r).gut, ridge := (s.carry w n op r).ridge } := by
  unfold State.carry
  dsimp only
  split
  · have h := s.sendTrain_only s.ringPort 0 w n (reqBytes op { r with port := .ring } 0)
    unfold State.OnlyRing at h; rw [h]
  · split
    · have h := s.sendTrain_only (otherSide s.ringPort) 0 w n (reqBytes op { r with port := .ring } 0)
      unfold State.OnlyRing at h; rw [h]
    · have h := s.sendRidge_only kTURWA (toLe 2 (n % 65536) ++ toLe 2 0 ++ reqBytes op { r with port := .ridge } 0)
      unfold State.OnlyRidge at h; rw [h]

/-! ### The batch -/

/-- An own item joins the batch of the next frame; a standby forwards it (R130, R278). -/
theorem State.submit_only (s : State) (b : ItemBody) :
    s.submit b = { s with admitted := s.admitted ++ [{ s.ownItem b with forwarded := s.forwards }], ridge := (s.submit b).ridge } := by
  unfold State.submit
  dsimp only
  split
  · have h := (s.admitItem { s.ownItem b with forwarded := s.forwards }).sendForward_only { s.ownItem b with forwarded := s.forwards }
    unfold State.OnlyRidge at h; rw [h]; rfl
  · rfl

/-- A fact that has changed is submitted; one that stands is not. -/
theorem State.setFact_cases (s : State) (pt bit : Nat) (on : Bool) :
    s.setFact pt bit on = s ∨ s.setFact pt bit on = s.submit (.fact pt bit on) := by
  unfold State.setFact; split <;> simp

/-- A class-P command joins the batch (R15, P11), as an item of its sender's role and its admission's generation. -/
theorem State.admitP_only (s : State) (t : Tag) (w : Who) (b : ItemBody) :
    ∃ i : BatchItem, i.body = b ∧ i.role = w.role ∧ i.slot = w.slot ∧ i.gen = t.gen ∧ i.own = true
      ∧ s.admitP t w b = { s with
          comm := (s.modTag t (fun u => { u with begun := true })).comm, admitted := s.admitted ++ [i], ridge := (s.admitP t w b).ridge } := by
  refine ⟨
    { body := b, forwarded := s.forwards, frame := s.clk.frameNo, gen := t.gen, role := w.role, slot := w.slot,
      unitB := s.unitB, own := true }, rfl, rfl, rfl, rfl, rfl, ?_⟩
  unfold State.admitP
  dsimp only
  split
  · have k := ((s.modTag t (fun u => { u with begun := true })).admitItem
      { body := b, forwarded := s.forwards, frame := s.clk.frameNo, gen := t.gen, role := w.role, slot := w.slot, unitB := s.unitB, own := true }).sendForward_only
        { body := b, forwarded := s.forwards, frame := s.clk.frameNo, gen := t.gen, role := w.role, slot := w.slot, unitB := s.unitB, own := true }
    unfold State.OnlyRidge at k; rw [k]; rfl
  · rfl

/-! ### Replies to the links -/

/-- Without replies for the links and none on its way out, nothing leaves. -/
theorem State.flush_none (s : State) (h1 : s.outQ .ring = []) (h2 : s.outQ .ridge = []) (h3 : s.comm.leaving = []) :
    s.flush = s := by
  have h : { s with comm := { s.comm with leaving := [] } } = s := by rw [← h3]
  simp [State.flush, State.flushRing, State.flushRidge, State.settleLinks, h1, h2, h3, h]

end Sys2Proof.Machine
end

