-- ==== Sys2Proof/Laws/Replies.lean ====
section
/-! SUPPORT. What making a reply ready does, and what carrying out an admitted request comes to. -/

namespace Sys2Proof.Machine

/-! ### Port queues -/

@[simp] theorem Ports.get_set_same (q : Ports) (p : Port) (v : PortQ) : (q.set p v).get p = v := by cases p <;> rfl
theorem Ports.get_set_other (q : Ports) (p p' : Port) (v : PortQ) (h : p' ≠ p) : (q.set p v).get p' = q.get p' := by
  cases p <;> cases p' <;> first | rfl | exact absurd rfl h

theorem State.enqueue_outQ (s : State) (p : Port) (k : Packet) : (s.enqueue p k).outQ p = s.outQ p ++ [k] := by
  simp [State.enqueue, State.outQ, State.modSess]
theorem State.enqueue_outQ_other (s : State) (p p' : Port) (k : Packet) (h : p' ≠ p) :
    (s.enqueue p k).outQ p' = s.outQ p' := by
  simp [State.enqueue, State.outQ, State.modSess, Ports.get_set_other, h]
@[simp] theorem State.enqueue_held (s : State) (p : Port) (k : Packet) : (s.enqueue p k).comm.held = s.comm.held := rfl
@[simp] theorem State.enqueue_tags (s : State) (p : Port) (k : Packet) : (s.enqueue p k).comm.tags = s.comm.tags := rfl

theorem State.enqueueAll_outQ (p : Port) (ks : List Packet) (s : State) :
    (ks.foldl (fun s k => s.enqueue p k) s).outQ p = s.outQ p ++ ks
    ∧ (ks.foldl (fun s k => s.enqueue p k) s).comm.held = s.comm.held
    ∧ (ks.foldl (fun s k => s.enqueue p k) s).comm.tags = s.comm.tags := by
  induction ks generalizing s with
  | nil => simp
  | cons k ks ih => simp [ih, State.enqueue_outQ]

/-! ### The frame of a reply -/

theorem State.KeepsAllButReplies.refl (s : State) : s.KeepsAllButReplies s := rfl
theorem State.KeepsAllButReplies.trans {s u v : State} (h : s.KeepsAllButReplies u) (k : u.KeepsAllButReplies v) :
    s.KeepsAllButReplies v := by
  unfold State.KeepsAllButReplies at *; rw [k, h]
theorem State.enqueue_keeps (s : State) (p : Port) (k : Packet) : s.KeepsAllButReplies (s.enqueue p k) := rfl
theorem State.modSess_keeps (s : State) (p n f) : s.KeepsAllButReplies (s.modSess p n f) := rfl
theorem State.modTag_keeps (s : State) (t f) : s.KeepsAllButReplies (s.modTag t f) := rfl
theorem State.countInexact_keeps (s : State) (i : Nat) : s.KeepsAllButReplies (s.countInexact i) := rfl
theorem State.completeTag_keeps (s : State) (t st ks n) : s.KeepsAllButReplies (s.completeTag t st ks n) := rfl

theorem State.place_keeps (s : State) (t : Tag) (w : Bool) (ks : List Packet) : s.KeepsAllButReplies (s.place t w ks) := by
  unfold State.place
  cases w
  · simp only [Bool.false_eq_true, if_false]
    induction ks generalizing s with
    | nil => exact .refl s
    | cons k ks ih => exact (s.enqueue_keeps _ k).trans (ih _)
  · rfl

theorem State.countAll_keeps (l : List Nat) (s : State) :
    s.KeepsAllButReplies (l.foldl State.countInexact s) ∧ (l.foldl State.countInexact s).comm = s.comm := by
  induction l generalizing s with
  | nil => exact ⟨.refl s, rfl⟩
  | cons a l ih => exact ⟨(s.countInexact_keeps a).trans (ih _).1, (ih _).2⟩

/-- Counting the inexact islands of a reply, or none of a refused one, leaves the ports and sessions alone too. -/
theorem State.counted_keeps (s : State) (p : Prop) [Decidable p] (l : List Nat) :
    s.KeepsAllButReplies (if p then s else l.foldl State.countInexact s)
      ∧ (if p then s else l.foldl State.countInexact s).comm = s.comm := by
  split
  · exact ⟨.refl s, rfl⟩
  · exact State.countAll_keeps l s

/-- A reply leaves all but the ports, the sessions and the inexactness counts alone. -/
theorem State.ready_keeps (s : State) (t : Tag) (st ps n e pr f) : s.KeepsAllButReplies (s.ready t st ps n e pr f) :=
  ((s.counted_keeps _ _).1.trans (State.completeTag_keeps ..)).trans (State.place_keeps ..)

/-! ### The packets of a reply -/

theorem parts_ne_nil (n fuel : Nat) (bs : List Byte) : parts n fuel bs ≠ [] := by
  cases fuel <;> simp [parts]; split <;> simp
theorem parts_flatten (n fuel : Nat) (bs : List Byte) : (parts n fuel bs).flatten = bs := by
  induction fuel generalizing bs with
  | zero => simp [parts]
  | succ k ih => simp only [parts]; split <;> simp [ih]

/-- A reply is at least one packet, its parts make up the parameters, and each carries what the reply says. -/
theorem State.series_spec (s : State) (t : Tag) (st ps n e pr f) :
    s.series t st ps n e pr f ≠ [] ∧ (s.series t st ps n e pr f).flatMap (fun k => k.params) = ps
    ∧ ∀ k ∈ s.series t st ps n e pr f, k.session = t.req.session ∧ k.seq = t.req.seq ∧ k.status = st ∧ k.exec = satExec n
        ∧ k.event = false ∧ k.dup = t.dup ∧ k.prov = pr ∧ k.frame = f ∧ k.encKey = s.encKey t st := by
  refine ⟨?_, ?_, ?_⟩
  · simp [State.series, parts_ne_nil]
  · simp only [State.series, List.flatMap_map, State.packet]
    rw [← List.flatMap_map (f := Prod.fst) (g := fun x => x), List.zipIdx_map_fst]
    simp [List.flatMap_id', parts_flatten]
  · intro k hk
    simp only [State.series, List.mem_map] at hk
    obtain ⟨x, _, rfl⟩ := hk
    simp [State.packet]

/-- What ready does: the reply leaves, or is held, as Answered says. -/
theorem State.ready_answeredAs (s : State) (t : Tag) (st ps n e pr f) :
    s.AnsweredAs (s.ready t st ps n e pr f) t st ps n pr f (s.encKey t st) := by
  unfold State.ready
  simp only []
  generalize hks : s.series t st ps n _ pr f = ks
  have hc := (s.counted_keeps (st = .notAvailable ∨ st = .revoked)
    ((s.badIslands t.opcode.toNat t.req.port ++ t.spoiled).dedup)).2
  generalize (if st = .notAvailable ∨ st = .revoked then s else List.foldl State.countInexact s _) = s1 at hc ⊢
  refine ⟨ks, ?_, ?_, ?_, ?_⟩
  · rw [← hks]; exact (s.series_spec ..).1
  · rw [← hks]; exact (s.series_spec ..).2.1
  · rw [← hks]; exact (s.series_spec ..).2.2
  · have ho : (s1.completeTag t st ks ps.length).outQ t.req.port = s.outQ t.req.port := by
      simp [State.completeTag, State.outQ, State.modSess, State.modTag, hc]
    have hh : (s1.completeTag t st ks ps.length).comm.held = s.comm.held := by
      simp [State.completeTag, State.modSess, State.modTag, hc]
    cases s.mustWait t
    · simp only [Bool.false_eq_true, if_false, State.place]
      exact ⟨by rw [(State.enqueueAll_outQ ..).1, ho], by rw [(State.enqueueAll_outQ ..).2.1, hh]⟩
    · simp only [if_true, State.place]
      exact ⟨ho, _, by rw [hh], by simp [Function.comp_def]⟩

theorem State.ready_answered (s : State) (t : Tag) (st ps n e pr f) : s.Answered (s.ready t st ps n e pr f) t st ps n :=
  ⟨_, _, _, s.ready_answeredAs ..⟩

/-! ### The sessions that a reply leaves alone -/

theorem State.SessionsStay.refl (s : State) : s.SessionsStay s := ⟨rfl, rfl⟩
theorem State.SessionsStay.trans {s u v : State} (h : s.SessionsStay u) (k : u.SessionsStay v) : s.SessionsStay v := by
  refine ⟨k.1.trans h.1, ?_⟩
  rw [k.2, h.2]

/-- A change of the windows and the sent counts alone leaves the sessions. -/
theorem State.modSess_stay (s : State) (p n) (f : Sess → Sess) (h : ∀ x, (f x).own = x.own) : s.SessionsStay (s.modSess p n f) := by
  refine ⟨?_, rfl⟩
  simp only [State.modSess, List.map_map]
  refine List.map_congr_left (fun x _ => ?_)
  simp only [Function.comp]
  split
  · exact h x
  · rfl

theorem State.enqueue_stay (s : State) (p : Port) (k : Packet) : s.SessionsStay (s.enqueue p k) :=
  State.SessionsStay.trans (u := { s with comm := { s.comm with ports := s.comm.ports.set p { out := s.outQ p ++ [k] } } })
    ⟨rfl, rfl⟩ (State.modSess_stay _ _ _ _ (fun _ => rfl))

theorem State.place_stay (s : State) (t : Tag) (w : Bool) (ks : List Packet) : s.SessionsStay (s.place t w ks) := by
  unfold State.place
  cases w
  · simp only [Bool.false_eq_true, if_false]
    induction ks generalizing s with
    | nil => exact .refl s
    | cons k ks ih => exact (s.enqueue_stay _ k).trans (ih _)
  · exact ⟨rfl, rfl⟩

theorem State.completeTag_stay (s : State) (t st ks n) : s.SessionsStay (s.completeTag t st ks n) :=
  State.SessionsStay.trans (u := s.modTag t (fun u => { u with begun := true, answered := true })) ⟨rfl, rfl⟩
    (State.modSess_stay _ _ _ _ (fun _ => rfl))

/-- A reply changes no session beside its window and its sent count. -/
theorem State.ready_stay (s : State) (t : Tag) (st ps n e pr f) : s.SessionsStay (s.ready t st ps n e pr f) := by
  have hc := (s.counted_keeps (st = .notAvailable ∨ st = .revoked)
    ((s.badIslands t.opcode.toNat t.req.port ++ t.spoiled).dedup)).2
  refine State.SessionsStay.trans (State.SessionsStay.trans (u := _) ?_ (State.completeTag_stay _ t st _ _)) (State.place_stay ..)
  unfold State.SessionsStay
  rw [hc]
  exact ⟨rfl, rfl⟩

/-- After ready the request's tag is begun and answered. -/
theorem State.ready_tag (s : State) (t : Tag) (st ps n e pr f) :
    ∀ v ∈ (s.ready t st ps n e pr f).comm.tags, sameTag v t = true → v.begun = true ∧ v.answered = true := by
  have hp (s1 : State) (w : Bool) (ks) : (s1.place t w ks).comm.tags = s1.comm.tags := by
    cases w
    · simp [State.place, State.enqueueAll_outQ]
    · rfl
  intro v hv hs
  simp only [State.ready, hp, State.completeTag, State.modSess, State.modTag, List.mem_map] at hv
  obtain ⟨u, _, rfl⟩ := hv
  split at hs <;> rename_i h
  · simp [h]
  · exact absurd hs h

/-! ### Answers by class -/

theorem State.answerF_spec (s : State) (t : Tag) (st : Status) (ps : List Byte) (count : Nat) :
    s.Answered (s.answerF t st ps count) t st ps (s.execF t ps count) ∧ s.KeepsAllButReplies (s.answerF t st ps count) :=
  ⟨s.ready_answered .., s.ready_keeps ..⟩

theorem State.answerLate_spec (s : State) (t : Tag) (st : Status) (ps : List Byte) (n : Nat) :
    s.Answered (s.answerLate t st ps n) t st ps (max (since s.clk.batten t.admitAt) n)
      ∧ s.KeepsAllButReplies (s.answerLate t st ps n) :=
  ⟨s.ready_answered .., s.ready_keeps ..⟩

/-- Answered looks at the ports, the tags and the held replies alone. -/
theorem State.Answered.of_comm {s s' u : State} {t : Tag} {st ps n} (h : s'.Answered u t st ps n)
    (hp : s'.comm.ports = s.comm.ports) (hh : s'.comm.held = s.comm.held) (ht : s'.comm.tags = s.comm.tags) :
    s.Answered u t st ps n := by
  have hw : s'.mustWait t = s.mustWait t := by simp only [State.mustWait, hh, ht]
  have ho : s'.outQ t.req.port = s.outQ t.req.port := by simp only [State.outQ, hp]
  obtain ⟨pr, f, key, h⟩ := h
  refine ⟨pr, f, key, ?_⟩
  unfold State.AnsweredAs at *
  rw [hw, ho, hh] at h
  exact h

/-! ### Carrying out a request -/

/-- A request that waits has a tag, its own opcode, and has not begun. -/
theorem State.waiting_spec {s : State} {op : Nat} {r : Req} {t : Tag} (h : s.waiting? op r = some t) :
    (s.tag? r).isSome = true ∧ t.begun = false ∧ t.opcode.toNat = op := by
  have hm := List.mem_of_find?_eq_some h
  have hp := List.find?_some h
  simp only [Bool.and_eq_true, beq_iff_eq, Bool.not_eq_true'] at hp
  obtain ⟨⟨⟨⟨⟨h1, h2⟩, h3⟩, h4⟩, h5⟩, h6⟩ := hp
  refine ⟨?_, h5, h6⟩
  rw [State.tag?, List.find?_isSome]
  exact ⟨t, hm, by simp [h1, h2, h3, h4]⟩

/-- An admitted request that waits is decided by perform. -/
theorem State.execute_takes {s : State} {c : Cmd} {r : Req} {t : Tag} (h : s.Takes c r t) :
    s.execute c r = (s.perform c t).flush := by
  obtain ⟨hl, hs, hw, rfl, hf⟩ := h
  have ha : s.admittedAlready c.op t.req = true := by
    simp [State.admittedAlready, (State.waiting_spec hw).1, hw]
  simp [State.execute, hl, hs, ha, hw, hf]

/-- An admitted request that passes is carried out by its row's own effect. -/
theorem State.execute_runs {s : State} {c : Cmd} {r : Req} {t : Tag} (h : s.Runs c r t) :
    s.execute c r = (c.run s t (s.who r)).flush := by
  obtain ⟨ht, hv, hh⟩ := h
  obtain rfl := ht.same
  have hn : ¬ (s.forWorker c.op t.req = true ∧ ¬ s.staging c.op t.req = true) := by rcases hh with h | h <;> simp [h]
  have hp : s.perform c t = c.run s t (s.who t.req) := by
    unfold State.Passes at hv
    simp only [State.perform, hv]
    exact if_neg hn
  rw [State.execute_takes ht, hp]

/-- An admitted request that a check stops is denied. -/
theorem State.execute_denied {s : State} {c : Cmd} {r : Req} {t : Tag} {st : Status} (h : s.Takes c r t)
    (hv : s.verdict c t = some st) : s.execute c r = (s.deny t st).flush := by
  have hp : s.perform c t = s.deny t st := by simp only [State.perform, hv]
  rw [State.execute_takes h, hp]

end Sys2Proof.Machine
end

