-- ==== Sys2Proof/Laws/State.lean ====
section
/-! SUPPORT. What each update of one part of State leaves: one lemma per field and update, true by unfolding. -/

namespace Sys2Proof.Machine

/-! State.pass -/

@[simp] theorem State.pass_rst (s : State) (n : Nat) : (s.pass n).rst = s.rst := rfl
@[simp] theorem State.pass_sup (s : State) (n : Nat) : (s.pass n).sup = s.sup := rfl
@[simp] theorem State.pass_peg (s : State) (n : Nat) : (s.pass n).peg = s.peg := rfl
@[simp] theorem State.pass_prov (s : State) (n : Nat) : (s.pass n).prov = s.prov := rfl
@[simp] theorem State.pass_batch (s : State) (n : Nat) : (s.pass n).batch = s.batch := rfl
@[simp] theorem State.pass_admitted (s : State) (n : Nat) : (s.pass n).admitted = s.admitted := rfl
@[simp] theorem State.pass_refusedP (s : State) (n : Nat) : (s.pass n).refusedP = s.refusedP := rfl
@[simp] theorem State.pass_stage (s : State) (n : Nat) : (s.pass n).stage = s.stage := rfl
@[simp] theorem State.pass_ain (s : State) (n : Nat) : (s.pass n).ain = s.ain := rfl
@[simp] theorem State.pass_din (s : State) (n : Nat) : (s.pass n).din = s.din := rfl
@[simp] theorem State.pass_comm (s : State) (n : Nat) : (s.pass n).comm = s.comm := rfl
@[simp] theorem State.pass_keys (s : State) (n : Nat) : (s.pass n).keys = s.keys := rfl
@[simp] theorem State.pass_nvCopyA (s : State) (n : Nat) : (s.pass n).nvCopyA = s.nvCopyA := rfl
@[simp] theorem State.pass_nvCopyB (s : State) (n : Nat) : (s.pass n).nvCopyB = s.nvCopyB := rfl
@[simp] theorem State.pass_cfgDirty (s : State) (n : Nat) : (s.pass n).cfgDirty = s.cfgDirty := rfl
@[simp] theorem State.pass_maint (s : State) (n : Nat) : (s.pass n).maint = s.maint := rfl
@[simp] theorem State.pass_countersign (s : State) (n : Nat) : (s.pass n).countersign = s.countersign := rfl
@[simp] theorem State.pass_fuse (s : State) (n : Nat) : (s.pass n).fuse = s.fuse := rfl
@[simp] theorem State.pass_images (s : State) (n : Nat) : (s.pass n).images = s.images := rfl
@[simp] theorem State.pass_sram (s : State) (n : Nat) : (s.pass n).sram = s.sram := rfl
@[simp] theorem State.pass_transfer (s : State) (n : Nat) : (s.pass n).transfer = s.transfer := rfl
@[simp] theorem State.pass_nvOps (s : State) (n : Nat) : (s.pass n).nvOps = s.nvOps := rfl
@[simp] theorem State.pass_blocks (s : State) (n : Nat) : (s.pass n).blocks = s.blocks := rfl
@[simp] theorem State.pass_selftest (s : State) (n : Nat) : (s.pass n).selftest = s.selftest := rfl
@[simp] theorem State.pass_afe (s : State) (n : Nat) : (s.pass n).afe = s.afe := rfl
@[simp] theorem State.pass_fld (s : State) (n : Nat) : (s.pass n).fld = s.fld := rfl
@[simp] theorem State.pass_fio (s : State) (n : Nat) : (s.pass n).fio = s.fio := rfl
@[simp] theorem State.pass_eave (s : State) (n : Nat) : (s.pass n).eave = s.eave := rfl
@[simp] theorem State.pass_recorder (s : State) (n : Nat) : (s.pass n).recorder = s.recorder := rfl
@[simp] theorem State.pass_gut (s : State) (n : Nat) : (s.pass n).gut = s.gut := rfl
@[simp] theorem State.pass_hw (s : State) (n : Nat) : (s.pass n).hw = s.hw := rfl
@[simp] theorem State.pass_pair (s : State) (n : Nat) : (s.pass n).pair = s.pair := rfl
@[simp] theorem State.pass_ridge (s : State) (n : Nat) : (s.pass n).ridge = s.ridge := rfl
@[simp] theorem State.pass_ring (s : State) (n : Nat) : (s.pass n).ring = s.ring := rfl
@[simp] theorem State.pass_aging (s : State) (n : Nat) : (s.pass n).aging = s.aging := rfl
@[simp] theorem State.pass_savedCounters (s : State) (n : Nat) : (s.pass n).savedCounters = s.savedCounters := rfl
@[simp] theorem State.pass_scrubs (s : State) (n : Nat) : (s.pass n).scrubs = s.scrubs := rfl
@[simp] theorem State.pass_weak (s : State) (n : Nat) : (s.pass n).weak = s.weak := rfl
@[simp] theorem State.pass_savedFrame (s : State) (n : Nat) : (s.pass n).savedFrame = s.savedFrame := rfl
@[simp] theorem State.pass_pending (s : State) (n : Nat) : (s.pass n).pending = s.pending := rfl
@[simp] theorem State.pass_free (s : State) (n : Nat) : (s.pass n).free = s.free := rfl

/-! State.markSecond -/

@[simp] theorem State.markSecond_rst (s : State) (n : Nat) : (s.markSecond n).rst = s.rst := rfl
@[simp] theorem State.markSecond_sup (s : State) (n : Nat) : (s.markSecond n).sup = s.sup := rfl
@[simp] theorem State.markSecond_clk (s : State) (n : Nat) : (s.markSecond n).clk = s.clk := rfl
@[simp] theorem State.markSecond_peg (s : State) (n : Nat) : (s.markSecond n).peg = s.peg := rfl
@[simp] theorem State.markSecond_prov (s : State) (n : Nat) : (s.markSecond n).prov = s.prov := rfl
@[simp] theorem State.markSecond_batch (s : State) (n : Nat) : (s.markSecond n).batch = s.batch := rfl
@[simp] theorem State.markSecond_admitted (s : State) (n : Nat) : (s.markSecond n).admitted = s.admitted := rfl
@[simp] theorem State.markSecond_refusedP (s : State) (n : Nat) : (s.markSecond n).refusedP = s.refusedP := rfl
@[simp] theorem State.markSecond_stage (s : State) (n : Nat) : (s.markSecond n).stage = s.stage := rfl
@[simp] theorem State.markSecond_ain (s : State) (n : Nat) : (s.markSecond n).ain = s.ain := rfl
@[simp] theorem State.markSecond_din (s : State) (n : Nat) : (s.markSecond n).din = s.din := rfl
@[simp] theorem State.markSecond_comm (s : State) (n : Nat) : (s.markSecond n).comm = s.comm := rfl
@[simp] theorem State.markSecond_keys (s : State) (n : Nat) : (s.markSecond n).keys = s.keys := rfl
@[simp] theorem State.markSecond_nvCopyA (s : State) (n : Nat) : (s.markSecond n).nvCopyA = s.nvCopyA := rfl
@[simp] theorem State.markSecond_nvCopyB (s : State) (n : Nat) : (s.markSecond n).nvCopyB = s.nvCopyB := rfl
@[simp] theorem State.markSecond_cfgDirty (s : State) (n : Nat) : (s.markSecond n).cfgDirty = s.cfgDirty := rfl
@[simp] theorem State.markSecond_maint (s : State) (n : Nat) : (s.markSecond n).maint = s.maint := rfl
@[simp] theorem State.markSecond_countersign (s : State) (n : Nat) : (s.markSecond n).countersign = s.countersign := rfl
@[simp] theorem State.markSecond_fuse (s : State) (n : Nat) : (s.markSecond n).fuse = s.fuse := rfl
@[simp] theorem State.markSecond_images (s : State) (n : Nat) : (s.markSecond n).images = s.images := rfl
@[simp] theorem State.markSecond_sram (s : State) (n : Nat) : (s.markSecond n).sram = s.sram := rfl
@[simp] theorem State.markSecond_transfer (s : State) (n : Nat) : (s.markSecond n).transfer = s.transfer := rfl
@[simp] theorem State.markSecond_nvOps (s : State) (n : Nat) : (s.markSecond n).nvOps = s.nvOps := rfl
@[simp] theorem State.markSecond_blocks (s : State) (n : Nat) : (s.markSecond n).blocks = s.blocks := rfl
@[simp] theorem State.markSecond_selftest (s : State) (n : Nat) : (s.markSecond n).selftest = s.selftest := rfl
@[simp] theorem State.markSecond_afe (s : State) (n : Nat) : (s.markSecond n).afe = s.afe := rfl
@[simp] theorem State.markSecond_fld (s : State) (n : Nat) : (s.markSecond n).fld = s.fld := rfl
@[simp] theorem State.markSecond_fio (s : State) (n : Nat) : (s.markSecond n).fio = s.fio := rfl
@[simp] theorem State.markSecond_recorder (s : State) (n : Nat) : (s.markSecond n).recorder = s.recorder := rfl
@[simp] theorem State.markSecond_gut (s : State) (n : Nat) : (s.markSecond n).gut = s.gut := rfl
@[simp] theorem State.markSecond_hw (s : State) (n : Nat) : (s.markSecond n).hw = s.hw := rfl
@[simp] theorem State.markSecond_pair (s : State) (n : Nat) : (s.markSecond n).pair = s.pair := rfl
@[simp] theorem State.markSecond_ridge (s : State) (n : Nat) : (s.markSecond n).ridge = s.ridge := rfl
@[simp] theorem State.markSecond_ring (s : State) (n : Nat) : (s.markSecond n).ring = s.ring := rfl
@[simp] theorem State.markSecond_aging (s : State) (n : Nat) : (s.markSecond n).aging = s.aging := rfl
@[simp] theorem State.markSecond_savedCounters (s : State) (n : Nat) : (s.markSecond n).savedCounters = s.savedCounters := rfl
@[simp] theorem State.markSecond_scrubs (s : State) (n : Nat) : (s.markSecond n).scrubs = s.scrubs := rfl
@[simp] theorem State.markSecond_weak (s : State) (n : Nat) : (s.markSecond n).weak = s.weak := rfl
@[simp] theorem State.markSecond_savedFrame (s : State) (n : Nat) : (s.markSecond n).savedFrame = s.savedFrame := rfl
@[simp] theorem State.markSecond_time (s : State) (n : Nat) : (s.markSecond n).time = s.time := rfl
@[simp] theorem State.markSecond_pending (s : State) (n : Nat) : (s.markSecond n).pending = s.pending := rfl
@[simp] theorem State.markSecond_free (s : State) (n : Nat) : (s.markSecond n).free = s.free := rfl

/-! State.modSess -/

@[simp] theorem State.modSess_rst (s : State) (p : Port) (n : Half) (f : Sess → Sess) : (s.modSess p n f).rst = s.rst := rfl
@[simp] theorem State.modSess_sup (s : State) (p : Port) (n : Half) (f : Sess → Sess) : (s.modSess p n f).sup = s.sup := rfl
@[simp] theorem State.modSess_clk (s : State) (p : Port) (n : Half) (f : Sess → Sess) : (s.modSess p n f).clk = s.clk := rfl
@[simp] theorem State.modSess_peg (s : State) (p : Port) (n : Half) (f : Sess → Sess) : (s.modSess p n f).peg = s.peg := rfl
@[simp] theorem State.modSess_prov (s : State) (p : Port) (n : Half) (f : Sess → Sess) : (s.modSess p n f).prov = s.prov := rfl
@[simp] theorem State.modSess_batch (s : State) (p : Port) (n : Half) (f : Sess → Sess) : (s.modSess p n f).batch = s.batch := rfl
@[simp] theorem State.modSess_admitted (s : State) (p : Port) (n : Half) (f : Sess → Sess) : (s.modSess p n f).admitted = s.admitted := rfl
@[simp] theorem State.modSess_refusedP (s : State) (p : Port) (n : Half) (f : Sess → Sess) : (s.modSess p n f).refusedP = s.refusedP := rfl
@[simp] theorem State.modSess_stage (s : State) (p : Port) (n : Half) (f : Sess → Sess) : (s.modSess p n f).stage = s.stage := rfl
@[simp] theorem State.modSess_ain (s : State) (p : Port) (n : Half) (f : Sess → Sess) : (s.modSess p n f).ain = s.ain := rfl
@[simp] theorem State.modSess_din (s : State) (p : Port) (n : Half) (f : Sess → Sess) : (s.modSess p n f).din = s.din := rfl
@[simp] theorem State.modSess_keys (s : State) (p : Port) (n : Half) (f : Sess → Sess) : (s.modSess p n f).keys = s.keys := rfl
@[simp] theorem State.modSess_nvCopyA (s : State) (p : Port) (n : Half) (f : Sess → Sess) : (s.modSess p n f).nvCopyA = s.nvCopyA := rfl
@[simp] theorem State.modSess_nvCopyB (s : State) (p : Port) (n : Half) (f : Sess → Sess) : (s.modSess p n f).nvCopyB = s.nvCopyB := rfl
@[simp] theorem State.modSess_cfgDirty (s : State) (p : Port) (n : Half) (f : Sess → Sess) : (s.modSess p n f).cfgDirty = s.cfgDirty := rfl
@[simp] theorem State.modSess_maint (s : State) (p : Port) (n : Half) (f : Sess → Sess) : (s.modSess p n f).maint = s.maint := rfl
@[simp] theorem State.modSess_countersign (s : State) (p : Port) (n : Half) (f : Sess → Sess) : (s.modSess p n f).countersign = s.countersign := rfl
@[simp] theorem State.modSess_fuse (s : State) (p : Port) (n : Half) (f : Sess → Sess) : (s.modSess p n f).fuse = s.fuse := rfl
@[simp] theorem State.modSess_images (s : State) (p : Port) (n : Half) (f : Sess → Sess) : (s.modSess p n f).images = s.images := rfl
@[simp] theorem State.modSess_sram (s : State) (p : Port) (n : Half) (f : Sess → Sess) : (s.modSess p n f).sram = s.sram := rfl
@[simp] theorem State.modSess_transfer (s : State) (p : Port) (n : Half) (f : Sess → Sess) : (s.modSess p n f).transfer = s.transfer := rfl
@[simp] theorem State.modSess_nvOps (s : State) (p : Port) (n : Half) (f : Sess → Sess) : (s.modSess p n f).nvOps = s.nvOps := rfl
@[simp] theorem State.modSess_blocks (s : State) (p : Port) (n : Half) (f : Sess → Sess) : (s.modSess p n f).blocks = s.blocks := rfl
@[simp] theorem State.modSess_selftest (s : State) (p : Port) (n : Half) (f : Sess → Sess) : (s.modSess p n f).selftest = s.selftest := rfl
@[simp] theorem State.modSess_afe (s : State) (p : Port) (n : Half) (f : Sess → Sess) : (s.modSess p n f).afe = s.afe := rfl
@[simp] theorem State.modSess_fld (s : State) (p : Port) (n : Half) (f : Sess → Sess) : (s.modSess p n f).fld = s.fld := rfl
@[simp] theorem State.modSess_fio (s : State) (p : Port) (n : Half) (f : Sess → Sess) : (s.modSess p n f).fio = s.fio := rfl
@[simp] theorem State.modSess_eave (s : State) (p : Port) (n : Half) (f : Sess → Sess) : (s.modSess p n f).eave = s.eave := rfl
@[simp] theorem State.modSess_recorder (s : State) (p : Port) (n : Half) (f : Sess → Sess) : (s.modSess p n f).recorder = s.recorder := rfl
@[simp] theorem State.modSess_gut (s : State) (p : Port) (n : Half) (f : Sess → Sess) : (s.modSess p n f).gut = s.gut := rfl
@[simp] theorem State.modSess_hw (s : State) (p : Port) (n : Half) (f : Sess → Sess) : (s.modSess p n f).hw = s.hw := rfl
@[simp] theorem State.modSess_pair (s : State) (p : Port) (n : Half) (f : Sess → Sess) : (s.modSess p n f).pair = s.pair := rfl
@[simp] theorem State.modSess_ridge (s : State) (p : Port) (n : Half) (f : Sess → Sess) : (s.modSess p n f).ridge = s.ridge := rfl
@[simp] theorem State.modSess_ring (s : State) (p : Port) (n : Half) (f : Sess → Sess) : (s.modSess p n f).ring = s.ring := rfl
@[simp] theorem State.modSess_aging (s : State) (p : Port) (n : Half) (f : Sess → Sess) : (s.modSess p n f).aging = s.aging := rfl
@[simp] theorem State.modSess_savedCounters (s : State) (p : Port) (n : Half) (f : Sess → Sess) : (s.modSess p n f).savedCounters = s.savedCounters := rfl
@[simp] theorem State.modSess_scrubs (s : State) (p : Port) (n : Half) (f : Sess → Sess) : (s.modSess p n f).scrubs = s.scrubs := rfl
@[simp] theorem State.modSess_weak (s : State) (p : Port) (n : Half) (f : Sess → Sess) : (s.modSess p n f).weak = s.weak := rfl
@[simp] theorem State.modSess_savedFrame (s : State) (p : Port) (n : Half) (f : Sess → Sess) : (s.modSess p n f).savedFrame = s.savedFrame := rfl
@[simp] theorem State.modSess_time (s : State) (p : Port) (n : Half) (f : Sess → Sess) : (s.modSess p n f).time = s.time := rfl
@[simp] theorem State.modSess_pending (s : State) (p : Port) (n : Half) (f : Sess → Sess) : (s.modSess p n f).pending = s.pending := rfl
@[simp] theorem State.modSess_free (s : State) (p : Port) (n : Half) (f : Sess → Sess) : (s.modSess p n f).free = s.free := rfl

/-! State.modTag -/

@[simp] theorem State.modTag_rst (s : State) (t : Tag) (f : Tag → Tag) : (s.modTag t f).rst = s.rst := rfl
@[simp] theorem State.modTag_sup (s : State) (t : Tag) (f : Tag → Tag) : (s.modTag t f).sup = s.sup := rfl
@[simp] theorem State.modTag_clk (s : State) (t : Tag) (f : Tag → Tag) : (s.modTag t f).clk = s.clk := rfl
@[simp] theorem State.modTag_peg (s : State) (t : Tag) (f : Tag → Tag) : (s.modTag t f).peg = s.peg := rfl
@[simp] theorem State.modTag_prov (s : State) (t : Tag) (f : Tag → Tag) : (s.modTag t f).prov = s.prov := rfl
@[simp] theorem State.modTag_batch (s : State) (t : Tag) (f : Tag → Tag) : (s.modTag t f).batch = s.batch := rfl
@[simp] theorem State.modTag_admitted (s : State) (t : Tag) (f : Tag → Tag) : (s.modTag t f).admitted = s.admitted := rfl
@[simp] theorem State.modTag_refusedP (s : State) (t : Tag) (f : Tag → Tag) : (s.modTag t f).refusedP = s.refusedP := rfl
@[simp] theorem State.modTag_stage (s : State) (t : Tag) (f : Tag → Tag) : (s.modTag t f).stage = s.stage := rfl
@[simp] theorem State.modTag_ain (s : State) (t : Tag) (f : Tag → Tag) : (s.modTag t f).ain = s.ain := rfl
@[simp] theorem State.modTag_din (s : State) (t : Tag) (f : Tag → Tag) : (s.modTag t f).din = s.din := rfl
@[simp] theorem State.modTag_keys (s : State) (t : Tag) (f : Tag → Tag) : (s.modTag t f).keys = s.keys := rfl
@[simp] theorem State.modTag_nvCopyA (s : State) (t : Tag) (f : Tag → Tag) : (s.modTag t f).nvCopyA = s.nvCopyA := rfl
@[simp] theorem State.modTag_nvCopyB (s : State) (t : Tag) (f : Tag → Tag) : (s.modTag t f).nvCopyB = s.nvCopyB := rfl
@[simp] theorem State.modTag_cfgDirty (s : State) (t : Tag) (f : Tag → Tag) : (s.modTag t f).cfgDirty = s.cfgDirty := rfl
@[simp] theorem State.modTag_maint (s : State) (t : Tag) (f : Tag → Tag) : (s.modTag t f).maint = s.maint := rfl
@[simp] theorem State.modTag_countersign (s : State) (t : Tag) (f : Tag → Tag) : (s.modTag t f).countersign = s.countersign := rfl
@[simp] theorem State.modTag_fuse (s : State) (t : Tag) (f : Tag → Tag) : (s.modTag t f).fuse = s.fuse := rfl
@[simp] theorem State.modTag_images (s : State) (t : Tag) (f : Tag → Tag) : (s.modTag t f).images = s.images := rfl
@[simp] theorem State.modTag_sram (s : State) (t : Tag) (f : Tag → Tag) : (s.modTag t f).sram = s.sram := rfl
@[simp] theorem State.modTag_transfer (s : State) (t : Tag) (f : Tag → Tag) : (s.modTag t f).transfer = s.transfer := rfl
@[simp] theorem State.modTag_nvOps (s : State) (t : Tag) (f : Tag → Tag) : (s.modTag t f).nvOps = s.nvOps := rfl
@[simp] theorem State.modTag_blocks (s : State) (t : Tag) (f : Tag → Tag) : (s.modTag t f).blocks = s.blocks := rfl
@[simp] theorem State.modTag_selftest (s : State) (t : Tag) (f : Tag → Tag) : (s.modTag t f).selftest = s.selftest := rfl
@[simp] theorem State.modTag_afe (s : State) (t : Tag) (f : Tag → Tag) : (s.modTag t f).afe = s.afe := rfl
@[simp] theorem State.modTag_fld (s : State) (t : Tag) (f : Tag → Tag) : (s.modTag t f).fld = s.fld := rfl
@[simp] theorem State.modTag_fio (s : State) (t : Tag) (f : Tag → Tag) : (s.modTag t f).fio = s.fio := rfl
@[simp] theorem State.modTag_eave (s : State) (t : Tag) (f : Tag → Tag) : (s.modTag t f).eave = s.eave := rfl
@[simp] theorem State.modTag_recorder (s : State) (t : Tag) (f : Tag → Tag) : (s.modTag t f).recorder = s.recorder := rfl
@[simp] theorem State.modTag_gut (s : State) (t : Tag) (f : Tag → Tag) : (s.modTag t f).gut = s.gut := rfl
@[simp] theorem State.modTag_hw (s : State) (t : Tag) (f : Tag → Tag) : (s.modTag t f).hw = s.hw := rfl
@[simp] theorem State.modTag_pair (s : State) (t : Tag) (f : Tag → Tag) : (s.modTag t f).pair = s.pair := rfl
@[simp] theorem State.modTag_ridge (s : State) (t : Tag) (f : Tag → Tag) : (s.modTag t f).ridge = s.ridge := rfl
@[simp] theorem State.modTag_ring (s : State) (t : Tag) (f : Tag → Tag) : (s.modTag t f).ring = s.ring := rfl
@[simp] theorem State.modTag_aging (s : State) (t : Tag) (f : Tag → Tag) : (s.modTag t f).aging = s.aging := rfl
@[simp] theorem State.modTag_savedCounters (s : State) (t : Tag) (f : Tag → Tag) : (s.modTag t f).savedCounters = s.savedCounters := rfl
@[simp] theorem State.modTag_scrubs (s : State) (t : Tag) (f : Tag → Tag) : (s.modTag t f).scrubs = s.scrubs := rfl
@[simp] theorem State.modTag_weak (s : State) (t : Tag) (f : Tag → Tag) : (s.modTag t f).weak = s.weak := rfl
@[simp] theorem State.modTag_savedFrame (s : State) (t : Tag) (f : Tag → Tag) : (s.modTag t f).savedFrame = s.savedFrame := rfl
@[simp] theorem State.modTag_time (s : State) (t : Tag) (f : Tag → Tag) : (s.modTag t f).time = s.time := rfl
@[simp] theorem State.modTag_pending (s : State) (t : Tag) (f : Tag → Tag) : (s.modTag t f).pending = s.pending := rfl
@[simp] theorem State.modTag_free (s : State) (t : Tag) (f : Tag → Tag) : (s.modTag t f).free = s.free := rfl

/-! State.enqueue -/

@[simp] theorem State.enqueue_rst (s : State) (p : Port) (k : Packet) : (s.enqueue p k).rst = s.rst := rfl
@[simp] theorem State.enqueue_sup (s : State) (p : Port) (k : Packet) : (s.enqueue p k).sup = s.sup := rfl
@[simp] theorem State.enqueue_clk (s : State) (p : Port) (k : Packet) : (s.enqueue p k).clk = s.clk := rfl
@[simp] theorem State.enqueue_peg (s : State) (p : Port) (k : Packet) : (s.enqueue p k).peg = s.peg := rfl
@[simp] theorem State.enqueue_prov (s : State) (p : Port) (k : Packet) : (s.enqueue p k).prov = s.prov := rfl
@[simp] theorem State.enqueue_batch (s : State) (p : Port) (k : Packet) : (s.enqueue p k).batch = s.batch := rfl
@[simp] theorem State.enqueue_admitted (s : State) (p : Port) (k : Packet) : (s.enqueue p k).admitted = s.admitted := rfl
@[simp] theorem State.enqueue_refusedP (s : State) (p : Port) (k : Packet) : (s.enqueue p k).refusedP = s.refusedP := rfl
@[simp] theorem State.enqueue_stage (s : State) (p : Port) (k : Packet) : (s.enqueue p k).stage = s.stage := rfl
@[simp] theorem State.enqueue_ain (s : State) (p : Port) (k : Packet) : (s.enqueue p k).ain = s.ain := rfl
@[simp] theorem State.enqueue_din (s : State) (p : Port) (k : Packet) : (s.enqueue p k).din = s.din := rfl
@[simp] theorem State.enqueue_keys (s : State) (p : Port) (k : Packet) : (s.enqueue p k).keys = s.keys := rfl
@[simp] theorem State.enqueue_nvCopyA (s : State) (p : Port) (k : Packet) : (s.enqueue p k).nvCopyA = s.nvCopyA := rfl
@[simp] theorem State.enqueue_nvCopyB (s : State) (p : Port) (k : Packet) : (s.enqueue p k).nvCopyB = s.nvCopyB := rfl
@[simp] theorem State.enqueue_cfgDirty (s : State) (p : Port) (k : Packet) : (s.enqueue p k).cfgDirty = s.cfgDirty := rfl
@[simp] theorem State.enqueue_maint (s : State) (p : Port) (k : Packet) : (s.enqueue p k).maint = s.maint := rfl
@[simp] theorem State.enqueue_countersign (s : State) (p : Port) (k : Packet) : (s.enqueue p k).countersign = s.countersign := rfl
@[simp] theorem State.enqueue_fuse (s : State) (p : Port) (k : Packet) : (s.enqueue p k).fuse = s.fuse := rfl
@[simp] theorem State.enqueue_images (s : State) (p : Port) (k : Packet) : (s.enqueue p k).images = s.images := rfl
@[simp] theorem State.enqueue_sram (s : State) (p : Port) (k : Packet) : (s.enqueue p k).sram = s.sram := rfl
@[simp] theorem State.enqueue_transfer (s : State) (p : Port) (k : Packet) : (s.enqueue p k).transfer = s.transfer := rfl
@[simp] theorem State.enqueue_nvOps (s : State) (p : Port) (k : Packet) : (s.enqueue p k).nvOps = s.nvOps := rfl
@[simp] theorem State.enqueue_blocks (s : State) (p : Port) (k : Packet) : (s.enqueue p k).blocks = s.blocks := rfl
@[simp] theorem State.enqueue_selftest (s : State) (p : Port) (k : Packet) : (s.enqueue p k).selftest = s.selftest := rfl
@[simp] theorem State.enqueue_afe (s : State) (p : Port) (k : Packet) : (s.enqueue p k).afe = s.afe := rfl
@[simp] theorem State.enqueue_fld (s : State) (p : Port) (k : Packet) : (s.enqueue p k).fld = s.fld := rfl
@[simp] theorem State.enqueue_fio (s : State) (p : Port) (k : Packet) : (s.enqueue p k).fio = s.fio := rfl
@[simp] theorem State.enqueue_eave (s : State) (p : Port) (k : Packet) : (s.enqueue p k).eave = s.eave := rfl
@[simp] theorem State.enqueue_recorder (s : State) (p : Port) (k : Packet) : (s.enqueue p k).recorder = s.recorder := rfl
@[simp] theorem State.enqueue_gut (s : State) (p : Port) (k : Packet) : (s.enqueue p k).gut = s.gut := rfl
@[simp] theorem State.enqueue_hw (s : State) (p : Port) (k : Packet) : (s.enqueue p k).hw = s.hw := rfl
@[simp] theorem State.enqueue_pair (s : State) (p : Port) (k : Packet) : (s.enqueue p k).pair = s.pair := rfl
@[simp] theorem State.enqueue_ridge (s : State) (p : Port) (k : Packet) : (s.enqueue p k).ridge = s.ridge := rfl
@[simp] theorem State.enqueue_ring (s : State) (p : Port) (k : Packet) : (s.enqueue p k).ring = s.ring := rfl
@[simp] theorem State.enqueue_aging (s : State) (p : Port) (k : Packet) : (s.enqueue p k).aging = s.aging := rfl
@[simp] theorem State.enqueue_savedCounters (s : State) (p : Port) (k : Packet) : (s.enqueue p k).savedCounters = s.savedCounters := rfl
@[simp] theorem State.enqueue_scrubs (s : State) (p : Port) (k : Packet) : (s.enqueue p k).scrubs = s.scrubs := rfl
@[simp] theorem State.enqueue_weak (s : State) (p : Port) (k : Packet) : (s.enqueue p k).weak = s.weak := rfl
@[simp] theorem State.enqueue_savedFrame (s : State) (p : Port) (k : Packet) : (s.enqueue p k).savedFrame = s.savedFrame := rfl
@[simp] theorem State.enqueue_time (s : State) (p : Port) (k : Packet) : (s.enqueue p k).time = s.time := rfl
@[simp] theorem State.enqueue_pending (s : State) (p : Port) (k : Packet) : (s.enqueue p k).pending = s.pending := rfl
@[simp] theorem State.enqueue_free (s : State) (p : Port) (k : Packet) : (s.enqueue p k).free = s.free := rfl

/-! State.admitItem -/

@[simp] theorem State.admitItem_rst (s : State) (i : BatchItem) : (s.admitItem i).rst = s.rst := rfl
@[simp] theorem State.admitItem_sup (s : State) (i : BatchItem) : (s.admitItem i).sup = s.sup := rfl
@[simp] theorem State.admitItem_clk (s : State) (i : BatchItem) : (s.admitItem i).clk = s.clk := rfl
@[simp] theorem State.admitItem_peg (s : State) (i : BatchItem) : (s.admitItem i).peg = s.peg := rfl
@[simp] theorem State.admitItem_prov (s : State) (i : BatchItem) : (s.admitItem i).prov = s.prov := rfl
@[simp] theorem State.admitItem_batch (s : State) (i : BatchItem) : (s.admitItem i).batch = s.batch := rfl
@[simp] theorem State.admitItem_refusedP (s : State) (i : BatchItem) : (s.admitItem i).refusedP = s.refusedP := rfl
@[simp] theorem State.admitItem_stage (s : State) (i : BatchItem) : (s.admitItem i).stage = s.stage := rfl
@[simp] theorem State.admitItem_ain (s : State) (i : BatchItem) : (s.admitItem i).ain = s.ain := rfl
@[simp] theorem State.admitItem_din (s : State) (i : BatchItem) : (s.admitItem i).din = s.din := rfl
@[simp] theorem State.admitItem_comm (s : State) (i : BatchItem) : (s.admitItem i).comm = s.comm := rfl
@[simp] theorem State.admitItem_keys (s : State) (i : BatchItem) : (s.admitItem i).keys = s.keys := rfl
@[simp] theorem State.admitItem_nvCopyA (s : State) (i : BatchItem) : (s.admitItem i).nvCopyA = s.nvCopyA := rfl
@[simp] theorem State.admitItem_nvCopyB (s : State) (i : BatchItem) : (s.admitItem i).nvCopyB = s.nvCopyB := rfl
@[simp] theorem State.admitItem_cfgDirty (s : State) (i : BatchItem) : (s.admitItem i).cfgDirty = s.cfgDirty := rfl
@[simp] theorem State.admitItem_maint (s : State) (i : BatchItem) : (s.admitItem i).maint = s.maint := rfl
@[simp] theorem State.admitItem_countersign (s : State) (i : BatchItem) : (s.admitItem i).countersign = s.countersign := rfl
@[simp] theorem State.admitItem_fuse (s : State) (i : BatchItem) : (s.admitItem i).fuse = s.fuse := rfl
@[simp] theorem State.admitItem_images (s : State) (i : BatchItem) : (s.admitItem i).images = s.images := rfl
@[simp] theorem State.admitItem_sram (s : State) (i : BatchItem) : (s.admitItem i).sram = s.sram := rfl
@[simp] theorem State.admitItem_transfer (s : State) (i : BatchItem) : (s.admitItem i).transfer = s.transfer := rfl
@[simp] theorem State.admitItem_nvOps (s : State) (i : BatchItem) : (s.admitItem i).nvOps = s.nvOps := rfl
@[simp] theorem State.admitItem_blocks (s : State) (i : BatchItem) : (s.admitItem i).blocks = s.blocks := rfl
@[simp] theorem State.admitItem_selftest (s : State) (i : BatchItem) : (s.admitItem i).selftest = s.selftest := rfl
@[simp] theorem State.admitItem_afe (s : State) (i : BatchItem) : (s.admitItem i).afe = s.afe := rfl
@[simp] theorem State.admitItem_fld (s : State) (i : BatchItem) : (s.admitItem i).fld = s.fld := rfl
@[simp] theorem State.admitItem_fio (s : State) (i : BatchItem) : (s.admitItem i).fio = s.fio := rfl
@[simp] theorem State.admitItem_eave (s : State) (i : BatchItem) : (s.admitItem i).eave = s.eave := rfl
@[simp] theorem State.admitItem_recorder (s : State) (i : BatchItem) : (s.admitItem i).recorder = s.recorder := rfl
@[simp] theorem State.admitItem_gut (s : State) (i : BatchItem) : (s.admitItem i).gut = s.gut := rfl
@[simp] theorem State.admitItem_hw (s : State) (i : BatchItem) : (s.admitItem i).hw = s.hw := rfl
@[simp] theorem State.admitItem_pair (s : State) (i : BatchItem) : (s.admitItem i).pair = s.pair := rfl
@[simp] theorem State.admitItem_ridge (s : State) (i : BatchItem) : (s.admitItem i).ridge = s.ridge := rfl
@[simp] theorem State.admitItem_ring (s : State) (i : BatchItem) : (s.admitItem i).ring = s.ring := rfl
@[simp] theorem State.admitItem_aging (s : State) (i : BatchItem) : (s.admitItem i).aging = s.aging := rfl
@[simp] theorem State.admitItem_savedCounters (s : State) (i : BatchItem) : (s.admitItem i).savedCounters = s.savedCounters := rfl
@[simp] theorem State.admitItem_scrubs (s : State) (i : BatchItem) : (s.admitItem i).scrubs = s.scrubs := rfl
@[simp] theorem State.admitItem_weak (s : State) (i : BatchItem) : (s.admitItem i).weak = s.weak := rfl
@[simp] theorem State.admitItem_savedFrame (s : State) (i : BatchItem) : (s.admitItem i).savedFrame = s.savedFrame := rfl
@[simp] theorem State.admitItem_time (s : State) (i : BatchItem) : (s.admitItem i).time = s.time := rfl
@[simp] theorem State.admitItem_pending (s : State) (i : BatchItem) : (s.admitItem i).pending = s.pending := rfl
@[simp] theorem State.admitItem_free (s : State) (i : BatchItem) : (s.admitItem i).free = s.free := rfl

/-! State.later -/

@[simp] theorem State.later_rst (s : State) (o : Occurrence) : (s.later o).rst = s.rst := rfl
@[simp] theorem State.later_sup (s : State) (o : Occurrence) : (s.later o).sup = s.sup := rfl
@[simp] theorem State.later_clk (s : State) (o : Occurrence) : (s.later o).clk = s.clk := rfl
@[simp] theorem State.later_peg (s : State) (o : Occurrence) : (s.later o).peg = s.peg := rfl
@[simp] theorem State.later_prov (s : State) (o : Occurrence) : (s.later o).prov = s.prov := rfl
@[simp] theorem State.later_batch (s : State) (o : Occurrence) : (s.later o).batch = s.batch := rfl
@[simp] theorem State.later_admitted (s : State) (o : Occurrence) : (s.later o).admitted = s.admitted := rfl
@[simp] theorem State.later_refusedP (s : State) (o : Occurrence) : (s.later o).refusedP = s.refusedP := rfl
@[simp] theorem State.later_stage (s : State) (o : Occurrence) : (s.later o).stage = s.stage := rfl
@[simp] theorem State.later_ain (s : State) (o : Occurrence) : (s.later o).ain = s.ain := rfl
@[simp] theorem State.later_din (s : State) (o : Occurrence) : (s.later o).din = s.din := rfl
@[simp] theorem State.later_comm (s : State) (o : Occurrence) : (s.later o).comm = s.comm := rfl
@[simp] theorem State.later_keys (s : State) (o : Occurrence) : (s.later o).keys = s.keys := rfl
@[simp] theorem State.later_nvCopyA (s : State) (o : Occurrence) : (s.later o).nvCopyA = s.nvCopyA := rfl
@[simp] theorem State.later_nvCopyB (s : State) (o : Occurrence) : (s.later o).nvCopyB = s.nvCopyB := rfl
@[simp] theorem State.later_cfgDirty (s : State) (o : Occurrence) : (s.later o).cfgDirty = s.cfgDirty := rfl
@[simp] theorem State.later_maint (s : State) (o : Occurrence) : (s.later o).maint = s.maint := rfl
@[simp] theorem State.later_countersign (s : State) (o : Occurrence) : (s.later o).countersign = s.countersign := rfl
@[simp] theorem State.later_fuse (s : State) (o : Occurrence) : (s.later o).fuse = s.fuse := rfl
@[simp] theorem State.later_images (s : State) (o : Occurrence) : (s.later o).images = s.images := rfl
@[simp] theorem State.later_sram (s : State) (o : Occurrence) : (s.later o).sram = s.sram := rfl
@[simp] theorem State.later_transfer (s : State) (o : Occurrence) : (s.later o).transfer = s.transfer := rfl
@[simp] theorem State.later_nvOps (s : State) (o : Occurrence) : (s.later o).nvOps = s.nvOps := rfl
@[simp] theorem State.later_blocks (s : State) (o : Occurrence) : (s.later o).blocks = s.blocks := rfl
@[simp] theorem State.later_selftest (s : State) (o : Occurrence) : (s.later o).selftest = s.selftest := rfl
@[simp] theorem State.later_afe (s : State) (o : Occurrence) : (s.later o).afe = s.afe := rfl
@[simp] theorem State.later_fld (s : State) (o : Occurrence) : (s.later o).fld = s.fld := rfl
@[simp] theorem State.later_fio (s : State) (o : Occurrence) : (s.later o).fio = s.fio := rfl
@[simp] theorem State.later_eave (s : State) (o : Occurrence) : (s.later o).eave = s.eave := rfl
@[simp] theorem State.later_gut (s : State) (o : Occurrence) : (s.later o).gut = s.gut := rfl
@[simp] theorem State.later_hw (s : State) (o : Occurrence) : (s.later o).hw = s.hw := rfl
@[simp] theorem State.later_pair (s : State) (o : Occurrence) : (s.later o).pair = s.pair := rfl
@[simp] theorem State.later_ridge (s : State) (o : Occurrence) : (s.later o).ridge = s.ridge := rfl
@[simp] theorem State.later_ring (s : State) (o : Occurrence) : (s.later o).ring = s.ring := rfl
@[simp] theorem State.later_aging (s : State) (o : Occurrence) : (s.later o).aging = s.aging := rfl
@[simp] theorem State.later_savedCounters (s : State) (o : Occurrence) : (s.later o).savedCounters = s.savedCounters := rfl
@[simp] theorem State.later_scrubs (s : State) (o : Occurrence) : (s.later o).scrubs = s.scrubs := rfl
@[simp] theorem State.later_weak (s : State) (o : Occurrence) : (s.later o).weak = s.weak := rfl
@[simp] theorem State.later_savedFrame (s : State) (o : Occurrence) : (s.later o).savedFrame = s.savedFrame := rfl
@[simp] theorem State.later_time (s : State) (o : Occurrence) : (s.later o).time = s.time := rfl
@[simp] theorem State.later_pending (s : State) (o : Occurrence) : (s.later o).pending = s.pending := rfl
@[simp] theorem State.later_free (s : State) (o : Occurrence) : (s.later o).free = s.free := rfl

/-! State.noteCell -/

@[simp] theorem State.noteCell_rst (s : State) (c : Cell) : (s.noteCell c).rst = s.rst := rfl
@[simp] theorem State.noteCell_sup (s : State) (c : Cell) : (s.noteCell c).sup = s.sup := rfl
@[simp] theorem State.noteCell_clk (s : State) (c : Cell) : (s.noteCell c).clk = s.clk := rfl
@[simp] theorem State.noteCell_peg (s : State) (c : Cell) : (s.noteCell c).peg = s.peg := rfl
@[simp] theorem State.noteCell_prov (s : State) (c : Cell) : (s.noteCell c).prov = s.prov := rfl
@[simp] theorem State.noteCell_batch (s : State) (c : Cell) : (s.noteCell c).batch = s.batch := rfl
@[simp] theorem State.noteCell_admitted (s : State) (c : Cell) : (s.noteCell c).admitted = s.admitted := rfl
@[simp] theorem State.noteCell_refusedP (s : State) (c : Cell) : (s.noteCell c).refusedP = s.refusedP := rfl
@[simp] theorem State.noteCell_stage (s : State) (c : Cell) : (s.noteCell c).stage = s.stage := rfl
@[simp] theorem State.noteCell_ain (s : State) (c : Cell) : (s.noteCell c).ain = s.ain := rfl
@[simp] theorem State.noteCell_din (s : State) (c : Cell) : (s.noteCell c).din = s.din := rfl
@[simp] theorem State.noteCell_comm (s : State) (c : Cell) : (s.noteCell c).comm = s.comm := rfl
@[simp] theorem State.noteCell_keys (s : State) (c : Cell) : (s.noteCell c).keys = s.keys := rfl
@[simp] theorem State.noteCell_nvCopyA (s : State) (c : Cell) : (s.noteCell c).nvCopyA = s.nvCopyA := rfl
@[simp] theorem State.noteCell_nvCopyB (s : State) (c : Cell) : (s.noteCell c).nvCopyB = s.nvCopyB := rfl
@[simp] theorem State.noteCell_cfgDirty (s : State) (c : Cell) : (s.noteCell c).cfgDirty = s.cfgDirty := rfl
@[simp] theorem State.noteCell_maint (s : State) (c : Cell) : (s.noteCell c).maint = s.maint := rfl
@[simp] theorem State.noteCell_countersign (s : State) (c : Cell) : (s.noteCell c).countersign = s.countersign := rfl
@[simp] theorem State.noteCell_fuse (s : State) (c : Cell) : (s.noteCell c).fuse = s.fuse := rfl
@[simp] theorem State.noteCell_images (s : State) (c : Cell) : (s.noteCell c).images = s.images := rfl
@[simp] theorem State.noteCell_sram (s : State) (c : Cell) : (s.noteCell c).sram = s.sram := rfl
@[simp] theorem State.noteCell_transfer (s : State) (c : Cell) : (s.noteCell c).transfer = s.transfer := rfl
@[simp] theorem State.noteCell_nvOps (s : State) (c : Cell) : (s.noteCell c).nvOps = s.nvOps := rfl
@[simp] theorem State.noteCell_blocks (s : State) (c : Cell) : (s.noteCell c).blocks = s.blocks := rfl
@[simp] theorem State.noteCell_selftest (s : State) (c : Cell) : (s.noteCell c).selftest = s.selftest := rfl
@[simp] theorem State.noteCell_afe (s : State) (c : Cell) : (s.noteCell c).afe = s.afe := rfl
@[simp] theorem State.noteCell_fld (s : State) (c : Cell) : (s.noteCell c).fld = s.fld := rfl
@[simp] theorem State.noteCell_fio (s : State) (c : Cell) : (s.noteCell c).fio = s.fio := rfl
@[simp] theorem State.noteCell_eave (s : State) (c : Cell) : (s.noteCell c).eave = s.eave := rfl
@[simp] theorem State.noteCell_recorder (s : State) (c : Cell) : (s.noteCell c).recorder = s.recorder := rfl
@[simp] theorem State.noteCell_gut (s : State) (c : Cell) : (s.noteCell c).gut = s.gut := rfl
@[simp] theorem State.noteCell_hw (s : State) (c : Cell) : (s.noteCell c).hw = s.hw := rfl
@[simp] theorem State.noteCell_pair (s : State) (c : Cell) : (s.noteCell c).pair = s.pair := rfl
@[simp] theorem State.noteCell_ridge (s : State) (c : Cell) : (s.noteCell c).ridge = s.ridge := rfl
@[simp] theorem State.noteCell_aging (s : State) (c : Cell) : (s.noteCell c).aging = s.aging := rfl
@[simp] theorem State.noteCell_savedCounters (s : State) (c : Cell) : (s.noteCell c).savedCounters = s.savedCounters := rfl
@[simp] theorem State.noteCell_scrubs (s : State) (c : Cell) : (s.noteCell c).scrubs = s.scrubs := rfl
@[simp] theorem State.noteCell_weak (s : State) (c : Cell) : (s.noteCell c).weak = s.weak := rfl
@[simp] theorem State.noteCell_savedFrame (s : State) (c : Cell) : (s.noteCell c).savedFrame = s.savedFrame := rfl
@[simp] theorem State.noteCell_time (s : State) (c : Cell) : (s.noteCell c).time = s.time := rfl
@[simp] theorem State.noteCell_pending (s : State) (c : Cell) : (s.noteCell c).pending = s.pending := rfl
@[simp] theorem State.noteCell_free (s : State) (c : Cell) : (s.noteCell c).free = s.free := rfl

/-! State.setWorker -/

@[simp] theorem State.setWorker_rst (s : State) (n : Nat) (w : Worker) : (s.setWorker n w).rst = s.rst := rfl
@[simp] theorem State.setWorker_sup (s : State) (n : Nat) (w : Worker) : (s.setWorker n w).sup = s.sup := rfl
@[simp] theorem State.setWorker_clk (s : State) (n : Nat) (w : Worker) : (s.setWorker n w).clk = s.clk := rfl
@[simp] theorem State.setWorker_peg (s : State) (n : Nat) (w : Worker) : (s.setWorker n w).peg = s.peg := rfl
@[simp] theorem State.setWorker_prov (s : State) (n : Nat) (w : Worker) : (s.setWorker n w).prov = s.prov := rfl
@[simp] theorem State.setWorker_batch (s : State) (n : Nat) (w : Worker) : (s.setWorker n w).batch = s.batch := rfl
@[simp] theorem State.setWorker_admitted (s : State) (n : Nat) (w : Worker) : (s.setWorker n w).admitted = s.admitted := rfl
@[simp] theorem State.setWorker_refusedP (s : State) (n : Nat) (w : Worker) : (s.setWorker n w).refusedP = s.refusedP := rfl
@[simp] theorem State.setWorker_stage (s : State) (n : Nat) (w : Worker) : (s.setWorker n w).stage = s.stage := rfl
@[simp] theorem State.setWorker_ain (s : State) (n : Nat) (w : Worker) : (s.setWorker n w).ain = s.ain := rfl
@[simp] theorem State.setWorker_din (s : State) (n : Nat) (w : Worker) : (s.setWorker n w).din = s.din := rfl
@[simp] theorem State.setWorker_comm (s : State) (n : Nat) (w : Worker) : (s.setWorker n w).comm = s.comm := rfl
@[simp] theorem State.setWorker_keys (s : State) (n : Nat) (w : Worker) : (s.setWorker n w).keys = s.keys := rfl
@[simp] theorem State.setWorker_nvCopyA (s : State) (n : Nat) (w : Worker) : (s.setWorker n w).nvCopyA = s.nvCopyA := rfl
@[simp] theorem State.setWorker_nvCopyB (s : State) (n : Nat) (w : Worker) : (s.setWorker n w).nvCopyB = s.nvCopyB := rfl
@[simp] theorem State.setWorker_cfgDirty (s : State) (n : Nat) (w : Worker) : (s.setWorker n w).cfgDirty = s.cfgDirty := rfl
@[simp] theorem State.setWorker_maint (s : State) (n : Nat) (w : Worker) : (s.setWorker n w).maint = s.maint := rfl
@[simp] theorem State.setWorker_countersign (s : State) (n : Nat) (w : Worker) : (s.setWorker n w).countersign = s.countersign := rfl
@[simp] theorem State.setWorker_fuse (s : State) (n : Nat) (w : Worker) : (s.setWorker n w).fuse = s.fuse := rfl
@[simp] theorem State.setWorker_images (s : State) (n : Nat) (w : Worker) : (s.setWorker n w).images = s.images := rfl
@[simp] theorem State.setWorker_sram (s : State) (n : Nat) (w : Worker) : (s.setWorker n w).sram = s.sram := rfl
@[simp] theorem State.setWorker_transfer (s : State) (n : Nat) (w : Worker) : (s.setWorker n w).transfer = s.transfer := rfl
@[simp] theorem State.setWorker_nvOps (s : State) (n : Nat) (w : Worker) : (s.setWorker n w).nvOps = s.nvOps := rfl
@[simp] theorem State.setWorker_blocks (s : State) (n : Nat) (w : Worker) : (s.setWorker n w).blocks = s.blocks := rfl
@[simp] theorem State.setWorker_selftest (s : State) (n : Nat) (w : Worker) : (s.setWorker n w).selftest = s.selftest := rfl
@[simp] theorem State.setWorker_afe (s : State) (n : Nat) (w : Worker) : (s.setWorker n w).afe = s.afe := rfl
@[simp] theorem State.setWorker_fld (s : State) (n : Nat) (w : Worker) : (s.setWorker n w).fld = s.fld := rfl
@[simp] theorem State.setWorker_fio (s : State) (n : Nat) (w : Worker) : (s.setWorker n w).fio = s.fio := rfl
@[simp] theorem State.setWorker_eave (s : State) (n : Nat) (w : Worker) : (s.setWorker n w).eave = s.eave := rfl
@[simp] theorem State.setWorker_recorder (s : State) (n : Nat) (w : Worker) : (s.setWorker n w).recorder = s.recorder := rfl
@[simp] theorem State.setWorker_gut (s : State) (n : Nat) (w : Worker) : (s.setWorker n w).gut = s.gut := rfl
@[simp] theorem State.setWorker_hw (s : State) (n : Nat) (w : Worker) : (s.setWorker n w).hw = s.hw := rfl
@[simp] theorem State.setWorker_pair (s : State) (n : Nat) (w : Worker) : (s.setWorker n w).pair = s.pair := rfl
@[simp] theorem State.setWorker_ridge (s : State) (n : Nat) (w : Worker) : (s.setWorker n w).ridge = s.ridge := rfl
@[simp] theorem State.setWorker_aging (s : State) (n : Nat) (w : Worker) : (s.setWorker n w).aging = s.aging := rfl
@[simp] theorem State.setWorker_savedCounters (s : State) (n : Nat) (w : Worker) : (s.setWorker n w).savedCounters = s.savedCounters := rfl
@[simp] theorem State.setWorker_scrubs (s : State) (n : Nat) (w : Worker) : (s.setWorker n w).scrubs = s.scrubs := rfl
@[simp] theorem State.setWorker_weak (s : State) (n : Nat) (w : Worker) : (s.setWorker n w).weak = s.weak := rfl
@[simp] theorem State.setWorker_savedFrame (s : State) (n : Nat) (w : Worker) : (s.setWorker n w).savedFrame = s.savedFrame := rfl
@[simp] theorem State.setWorker_time (s : State) (n : Nat) (w : Worker) : (s.setWorker n w).time = s.time := rfl
@[simp] theorem State.setWorker_pending (s : State) (n : Nat) (w : Worker) : (s.setWorker n w).pending = s.pending := rfl
@[simp] theorem State.setWorker_free (s : State) (n : Nat) (w : Worker) : (s.setWorker n w).free = s.free := rfl

/-! State.modIsland -/

@[simp] theorem State.modIsland_rst (s : State) (i : Nat) (f : Island → Island) : (s.modIsland i f).rst = s.rst := rfl
@[simp] theorem State.modIsland_sup (s : State) (i : Nat) (f : Island → Island) : (s.modIsland i f).sup = s.sup := rfl
@[simp] theorem State.modIsland_peg (s : State) (i : Nat) (f : Island → Island) : (s.modIsland i f).peg = s.peg := rfl
@[simp] theorem State.modIsland_prov (s : State) (i : Nat) (f : Island → Island) : (s.modIsland i f).prov = s.prov := rfl
@[simp] theorem State.modIsland_batch (s : State) (i : Nat) (f : Island → Island) : (s.modIsland i f).batch = s.batch := rfl
@[simp] theorem State.modIsland_admitted (s : State) (i : Nat) (f : Island → Island) : (s.modIsland i f).admitted = s.admitted := rfl
@[simp] theorem State.modIsland_refusedP (s : State) (i : Nat) (f : Island → Island) : (s.modIsland i f).refusedP = s.refusedP := rfl
@[simp] theorem State.modIsland_stage (s : State) (i : Nat) (f : Island → Island) : (s.modIsland i f).stage = s.stage := rfl
@[simp] theorem State.modIsland_ain (s : State) (i : Nat) (f : Island → Island) : (s.modIsland i f).ain = s.ain := rfl
@[simp] theorem State.modIsland_din (s : State) (i : Nat) (f : Island → Island) : (s.modIsland i f).din = s.din := rfl
@[simp] theorem State.modIsland_comm (s : State) (i : Nat) (f : Island → Island) : (s.modIsland i f).comm = s.comm := rfl
@[simp] theorem State.modIsland_keys (s : State) (i : Nat) (f : Island → Island) : (s.modIsland i f).keys = s.keys := rfl
@[simp] theorem State.modIsland_nvCopyA (s : State) (i : Nat) (f : Island → Island) : (s.modIsland i f).nvCopyA = s.nvCopyA := rfl
@[simp] theorem State.modIsland_nvCopyB (s : State) (i : Nat) (f : Island → Island) : (s.modIsland i f).nvCopyB = s.nvCopyB := rfl
@[simp] theorem State.modIsland_cfgDirty (s : State) (i : Nat) (f : Island → Island) : (s.modIsland i f).cfgDirty = s.cfgDirty := rfl
@[simp] theorem State.modIsland_maint (s : State) (i : Nat) (f : Island → Island) : (s.modIsland i f).maint = s.maint := rfl
@[simp] theorem State.modIsland_countersign (s : State) (i : Nat) (f : Island → Island) : (s.modIsland i f).countersign = s.countersign := rfl
@[simp] theorem State.modIsland_fuse (s : State) (i : Nat) (f : Island → Island) : (s.modIsland i f).fuse = s.fuse := rfl
@[simp] theorem State.modIsland_images (s : State) (i : Nat) (f : Island → Island) : (s.modIsland i f).images = s.images := rfl
@[simp] theorem State.modIsland_sram (s : State) (i : Nat) (f : Island → Island) : (s.modIsland i f).sram = s.sram := rfl
@[simp] theorem State.modIsland_transfer (s : State) (i : Nat) (f : Island → Island) : (s.modIsland i f).transfer = s.transfer := rfl
@[simp] theorem State.modIsland_nvOps (s : State) (i : Nat) (f : Island → Island) : (s.modIsland i f).nvOps = s.nvOps := rfl
@[simp] theorem State.modIsland_blocks (s : State) (i : Nat) (f : Island → Island) : (s.modIsland i f).blocks = s.blocks := rfl
@[simp] theorem State.modIsland_selftest (s : State) (i : Nat) (f : Island → Island) : (s.modIsland i f).selftest = s.selftest := rfl
@[simp] theorem State.modIsland_afe (s : State) (i : Nat) (f : Island → Island) : (s.modIsland i f).afe = s.afe := rfl
@[simp] theorem State.modIsland_fld (s : State) (i : Nat) (f : Island → Island) : (s.modIsland i f).fld = s.fld := rfl
@[simp] theorem State.modIsland_fio (s : State) (i : Nat) (f : Island → Island) : (s.modIsland i f).fio = s.fio := rfl
@[simp] theorem State.modIsland_eave (s : State) (i : Nat) (f : Island → Island) : (s.modIsland i f).eave = s.eave := rfl
@[simp] theorem State.modIsland_recorder (s : State) (i : Nat) (f : Island → Island) : (s.modIsland i f).recorder = s.recorder := rfl
@[simp] theorem State.modIsland_gut (s : State) (i : Nat) (f : Island → Island) : (s.modIsland i f).gut = s.gut := rfl
@[simp] theorem State.modIsland_hw (s : State) (i : Nat) (f : Island → Island) : (s.modIsland i f).hw = s.hw := rfl
@[simp] theorem State.modIsland_pair (s : State) (i : Nat) (f : Island → Island) : (s.modIsland i f).pair = s.pair := rfl
@[simp] theorem State.modIsland_ridge (s : State) (i : Nat) (f : Island → Island) : (s.modIsland i f).ridge = s.ridge := rfl
@[simp] theorem State.modIsland_ring (s : State) (i : Nat) (f : Island → Island) : (s.modIsland i f).ring = s.ring := rfl
@[simp] theorem State.modIsland_aging (s : State) (i : Nat) (f : Island → Island) : (s.modIsland i f).aging = s.aging := rfl
@[simp] theorem State.modIsland_savedCounters (s : State) (i : Nat) (f : Island → Island) : (s.modIsland i f).savedCounters = s.savedCounters := rfl
@[simp] theorem State.modIsland_scrubs (s : State) (i : Nat) (f : Island → Island) : (s.modIsland i f).scrubs = s.scrubs := rfl
@[simp] theorem State.modIsland_weak (s : State) (i : Nat) (f : Island → Island) : (s.modIsland i f).weak = s.weak := rfl
@[simp] theorem State.modIsland_savedFrame (s : State) (i : Nat) (f : Island → Island) : (s.modIsland i f).savedFrame = s.savedFrame := rfl
@[simp] theorem State.modIsland_time (s : State) (i : Nat) (f : Island → Island) : (s.modIsland i f).time = s.time := rfl
@[simp] theorem State.modIsland_pending (s : State) (i : Nat) (f : Island → Island) : (s.modIsland i f).pending = s.pending := rfl
@[simp] theorem State.modIsland_free (s : State) (i : Nat) (f : Island → Island) : (s.modIsland i f).free = s.free := rfl

/-! State.modPair -/

@[simp] theorem State.modPair_rst (s : State) (f : PairSt → PairSt) : (s.modPair f).rst = s.rst := rfl
@[simp] theorem State.modPair_sup (s : State) (f : PairSt → PairSt) : (s.modPair f).sup = s.sup := rfl
@[simp] theorem State.modPair_clk (s : State) (f : PairSt → PairSt) : (s.modPair f).clk = s.clk := rfl
@[simp] theorem State.modPair_peg (s : State) (f : PairSt → PairSt) : (s.modPair f).peg = s.peg := rfl
@[simp] theorem State.modPair_prov (s : State) (f : PairSt → PairSt) : (s.modPair f).prov = s.prov := rfl
@[simp] theorem State.modPair_batch (s : State) (f : PairSt → PairSt) : (s.modPair f).batch = s.batch := rfl
@[simp] theorem State.modPair_admitted (s : State) (f : PairSt → PairSt) : (s.modPair f).admitted = s.admitted := rfl
@[simp] theorem State.modPair_refusedP (s : State) (f : PairSt → PairSt) : (s.modPair f).refusedP = s.refusedP := rfl
@[simp] theorem State.modPair_stage (s : State) (f : PairSt → PairSt) : (s.modPair f).stage = s.stage := rfl
@[simp] theorem State.modPair_ain (s : State) (f : PairSt → PairSt) : (s.modPair f).ain = s.ain := rfl
@[simp] theorem State.modPair_din (s : State) (f : PairSt → PairSt) : (s.modPair f).din = s.din := rfl
@[simp] theorem State.modPair_comm (s : State) (f : PairSt → PairSt) : (s.modPair f).comm = s.comm := rfl
@[simp] theorem State.modPair_keys (s : State) (f : PairSt → PairSt) : (s.modPair f).keys = s.keys := rfl
@[simp] theorem State.modPair_nvCopyA (s : State) (f : PairSt → PairSt) : (s.modPair f).nvCopyA = s.nvCopyA := rfl
@[simp] theorem State.modPair_nvCopyB (s : State) (f : PairSt → PairSt) : (s.modPair f).nvCopyB = s.nvCopyB := rfl
@[simp] theorem State.modPair_cfgDirty (s : State) (f : PairSt → PairSt) : (s.modPair f).cfgDirty = s.cfgDirty := rfl
@[simp] theorem State.modPair_maint (s : State) (f : PairSt → PairSt) : (s.modPair f).maint = s.maint := rfl
@[simp] theorem State.modPair_countersign (s : State) (f : PairSt → PairSt) : (s.modPair f).countersign = s.countersign := rfl
@[simp] theorem State.modPair_fuse (s : State) (f : PairSt → PairSt) : (s.modPair f).fuse = s.fuse := rfl
@[simp] theorem State.modPair_images (s : State) (f : PairSt → PairSt) : (s.modPair f).images = s.images := rfl
@[simp] theorem State.modPair_sram (s : State) (f : PairSt → PairSt) : (s.modPair f).sram = s.sram := rfl
@[simp] theorem State.modPair_transfer (s : State) (f : PairSt → PairSt) : (s.modPair f).transfer = s.transfer := rfl
@[simp] theorem State.modPair_nvOps (s : State) (f : PairSt → PairSt) : (s.modPair f).nvOps = s.nvOps := rfl
@[simp] theorem State.modPair_blocks (s : State) (f : PairSt → PairSt) : (s.modPair f).blocks = s.blocks := rfl
@[simp] theorem State.modPair_selftest (s : State) (f : PairSt → PairSt) : (s.modPair f).selftest = s.selftest := rfl
@[simp] theorem State.modPair_afe (s : State) (f : PairSt → PairSt) : (s.modPair f).afe = s.afe := rfl
@[simp] theorem State.modPair_fld (s : State) (f : PairSt → PairSt) : (s.modPair f).fld = s.fld := rfl
@[simp] theorem State.modPair_fio (s : State) (f : PairSt → PairSt) : (s.modPair f).fio = s.fio := rfl
@[simp] theorem State.modPair_eave (s : State) (f : PairSt → PairSt) : (s.modPair f).eave = s.eave := rfl
@[simp] theorem State.modPair_recorder (s : State) (f : PairSt → PairSt) : (s.modPair f).recorder = s.recorder := rfl
@[simp] theorem State.modPair_gut (s : State) (f : PairSt → PairSt) : (s.modPair f).gut = s.gut := rfl
@[simp] theorem State.modPair_hw (s : State) (f : PairSt → PairSt) : (s.modPair f).hw = s.hw := rfl
@[simp] theorem State.modPair_ridge (s : State) (f : PairSt → PairSt) : (s.modPair f).ridge = s.ridge := rfl
@[simp] theorem State.modPair_ring (s : State) (f : PairSt → PairSt) : (s.modPair f).ring = s.ring := rfl
@[simp] theorem State.modPair_aging (s : State) (f : PairSt → PairSt) : (s.modPair f).aging = s.aging := rfl
@[simp] theorem State.modPair_savedCounters (s : State) (f : PairSt → PairSt) : (s.modPair f).savedCounters = s.savedCounters := rfl
@[simp] theorem State.modPair_scrubs (s : State) (f : PairSt → PairSt) : (s.modPair f).scrubs = s.scrubs := rfl
@[simp] theorem State.modPair_weak (s : State) (f : PairSt → PairSt) : (s.modPair f).weak = s.weak := rfl
@[simp] theorem State.modPair_savedFrame (s : State) (f : PairSt → PairSt) : (s.modPair f).savedFrame = s.savedFrame := rfl
@[simp] theorem State.modPair_time (s : State) (f : PairSt → PairSt) : (s.modPair f).time = s.time := rfl
@[simp] theorem State.modPair_pending (s : State) (f : PairSt → PairSt) : (s.modPair f).pending = s.pending := rfl
@[simp] theorem State.modPair_free (s : State) (f : PairSt → PairSt) : (s.modPair f).free = s.free := rfl

/-! State.modCh -/

@[simp] theorem State.modCh_rst (s : State) (c : Nat) (f : AfeCh → AfeCh) : (s.modCh c f).rst = s.rst := rfl
@[simp] theorem State.modCh_sup (s : State) (c : Nat) (f : AfeCh → AfeCh) : (s.modCh c f).sup = s.sup := rfl
@[simp] theorem State.modCh_clk (s : State) (c : Nat) (f : AfeCh → AfeCh) : (s.modCh c f).clk = s.clk := rfl
@[simp] theorem State.modCh_peg (s : State) (c : Nat) (f : AfeCh → AfeCh) : (s.modCh c f).peg = s.peg := rfl
@[simp] theorem State.modCh_prov (s : State) (c : Nat) (f : AfeCh → AfeCh) : (s.modCh c f).prov = s.prov := rfl
@[simp] theorem State.modCh_batch (s : State) (c : Nat) (f : AfeCh → AfeCh) : (s.modCh c f).batch = s.batch := rfl
@[simp] theorem State.modCh_admitted (s : State) (c : Nat) (f : AfeCh → AfeCh) : (s.modCh c f).admitted = s.admitted := rfl
@[simp] theorem State.modCh_refusedP (s : State) (c : Nat) (f : AfeCh → AfeCh) : (s.modCh c f).refusedP = s.refusedP := rfl
@[simp] theorem State.modCh_stage (s : State) (c : Nat) (f : AfeCh → AfeCh) : (s.modCh c f).stage = s.stage := rfl
@[simp] theorem State.modCh_ain (s : State) (c : Nat) (f : AfeCh → AfeCh) : (s.modCh c f).ain = s.ain := rfl
@[simp] theorem State.modCh_din (s : State) (c : Nat) (f : AfeCh → AfeCh) : (s.modCh c f).din = s.din := rfl
@[simp] theorem State.modCh_comm (s : State) (c : Nat) (f : AfeCh → AfeCh) : (s.modCh c f).comm = s.comm := rfl
@[simp] theorem State.modCh_keys (s : State) (c : Nat) (f : AfeCh → AfeCh) : (s.modCh c f).keys = s.keys := rfl
@[simp] theorem State.modCh_nvCopyA (s : State) (c : Nat) (f : AfeCh → AfeCh) : (s.modCh c f).nvCopyA = s.nvCopyA := rfl
@[simp] theorem State.modCh_nvCopyB (s : State) (c : Nat) (f : AfeCh → AfeCh) : (s.modCh c f).nvCopyB = s.nvCopyB := rfl
@[simp] theorem State.modCh_cfgDirty (s : State) (c : Nat) (f : AfeCh → AfeCh) : (s.modCh c f).cfgDirty = s.cfgDirty := rfl
@[simp] theorem State.modCh_maint (s : State) (c : Nat) (f : AfeCh → AfeCh) : (s.modCh c f).maint = s.maint := rfl
@[simp] theorem State.modCh_countersign (s : State) (c : Nat) (f : AfeCh → AfeCh) : (s.modCh c f).countersign = s.countersign := rfl
@[simp] theorem State.modCh_fuse (s : State) (c : Nat) (f : AfeCh → AfeCh) : (s.modCh c f).fuse = s.fuse := rfl
@[simp] theorem State.modCh_images (s : State) (c : Nat) (f : AfeCh → AfeCh) : (s.modCh c f).images = s.images := rfl
@[simp] theorem State.modCh_sram (s : State) (c : Nat) (f : AfeCh → AfeCh) : (s.modCh c f).sram = s.sram := rfl
@[simp] theorem State.modCh_transfer (s : State) (c : Nat) (f : AfeCh → AfeCh) : (s.modCh c f).transfer = s.transfer := rfl
@[simp] theorem State.modCh_nvOps (s : State) (c : Nat) (f : AfeCh → AfeCh) : (s.modCh c f).nvOps = s.nvOps := rfl
@[simp] theorem State.modCh_blocks (s : State) (c : Nat) (f : AfeCh → AfeCh) : (s.modCh c f).blocks = s.blocks := rfl
@[simp] theorem State.modCh_selftest (s : State) (c : Nat) (f : AfeCh → AfeCh) : (s.modCh c f).selftest = s.selftest := rfl
@[simp] theorem State.modCh_fld (s : State) (c : Nat) (f : AfeCh → AfeCh) : (s.modCh c f).fld = s.fld := rfl
@[simp] theorem State.modCh_fio (s : State) (c : Nat) (f : AfeCh → AfeCh) : (s.modCh c f).fio = s.fio := rfl
@[simp] theorem State.modCh_eave (s : State) (c : Nat) (f : AfeCh → AfeCh) : (s.modCh c f).eave = s.eave := rfl
@[simp] theorem State.modCh_recorder (s : State) (c : Nat) (f : AfeCh → AfeCh) : (s.modCh c f).recorder = s.recorder := rfl
@[simp] theorem State.modCh_gut (s : State) (c : Nat) (f : AfeCh → AfeCh) : (s.modCh c f).gut = s.gut := rfl
@[simp] theorem State.modCh_hw (s : State) (c : Nat) (f : AfeCh → AfeCh) : (s.modCh c f).hw = s.hw := rfl
@[simp] theorem State.modCh_pair (s : State) (c : Nat) (f : AfeCh → AfeCh) : (s.modCh c f).pair = s.pair := rfl
@[simp] theorem State.modCh_ridge (s : State) (c : Nat) (f : AfeCh → AfeCh) : (s.modCh c f).ridge = s.ridge := rfl
@[simp] theorem State.modCh_ring (s : State) (c : Nat) (f : AfeCh → AfeCh) : (s.modCh c f).ring = s.ring := rfl
@[simp] theorem State.modCh_aging (s : State) (c : Nat) (f : AfeCh → AfeCh) : (s.modCh c f).aging = s.aging := rfl
@[simp] theorem State.modCh_savedCounters (s : State) (c : Nat) (f : AfeCh → AfeCh) : (s.modCh c f).savedCounters = s.savedCounters := rfl
@[simp] theorem State.modCh_scrubs (s : State) (c : Nat) (f : AfeCh → AfeCh) : (s.modCh c f).scrubs = s.scrubs := rfl
@[simp] theorem State.modCh_weak (s : State) (c : Nat) (f : AfeCh → AfeCh) : (s.modCh c f).weak = s.weak := rfl
@[simp] theorem State.modCh_savedFrame (s : State) (c : Nat) (f : AfeCh → AfeCh) : (s.modCh c f).savedFrame = s.savedFrame := rfl
@[simp] theorem State.modCh_time (s : State) (c : Nat) (f : AfeCh → AfeCh) : (s.modCh c f).time = s.time := rfl
@[simp] theorem State.modCh_pending (s : State) (c : Nat) (f : AfeCh → AfeCh) : (s.modCh c f).pending = s.pending := rfl
@[simp] theorem State.modCh_free (s : State) (c : Nat) (f : AfeCh → AfeCh) : (s.modCh c f).free = s.free := rfl

/-! State.modPin -/

@[simp] theorem State.modPin_rst (s : State) (i : Nat) (f : DiPin → DiPin) : (s.modPin i f).rst = s.rst := rfl
@[simp] theorem State.modPin_sup (s : State) (i : Nat) (f : DiPin → DiPin) : (s.modPin i f).sup = s.sup := rfl
@[simp] theorem State.modPin_clk (s : State) (i : Nat) (f : DiPin → DiPin) : (s.modPin i f).clk = s.clk := rfl
@[simp] theorem State.modPin_peg (s : State) (i : Nat) (f : DiPin → DiPin) : (s.modPin i f).peg = s.peg := rfl
@[simp] theorem State.modPin_prov (s : State) (i : Nat) (f : DiPin → DiPin) : (s.modPin i f).prov = s.prov := rfl
@[simp] theorem State.modPin_batch (s : State) (i : Nat) (f : DiPin → DiPin) : (s.modPin i f).batch = s.batch := rfl
@[simp] theorem State.modPin_admitted (s : State) (i : Nat) (f : DiPin → DiPin) : (s.modPin i f).admitted = s.admitted := rfl
@[simp] theorem State.modPin_refusedP (s : State) (i : Nat) (f : DiPin → DiPin) : (s.modPin i f).refusedP = s.refusedP := rfl
@[simp] theorem State.modPin_stage (s : State) (i : Nat) (f : DiPin → DiPin) : (s.modPin i f).stage = s.stage := rfl
@[simp] theorem State.modPin_ain (s : State) (i : Nat) (f : DiPin → DiPin) : (s.modPin i f).ain = s.ain := rfl
@[simp] theorem State.modPin_din (s : State) (i : Nat) (f : DiPin → DiPin) : (s.modPin i f).din = s.din := rfl
@[simp] theorem State.modPin_comm (s : State) (i : Nat) (f : DiPin → DiPin) : (s.modPin i f).comm = s.comm := rfl
@[simp] theorem State.modPin_keys (s : State) (i : Nat) (f : DiPin → DiPin) : (s.modPin i f).keys = s.keys := rfl
@[simp] theorem State.modPin_nvCopyA (s : State) (i : Nat) (f : DiPin → DiPin) : (s.modPin i f).nvCopyA = s.nvCopyA := rfl
@[simp] theorem State.modPin_nvCopyB (s : State) (i : Nat) (f : DiPin → DiPin) : (s.modPin i f).nvCopyB = s.nvCopyB := rfl
@[simp] theorem State.modPin_cfgDirty (s : State) (i : Nat) (f : DiPin → DiPin) : (s.modPin i f).cfgDirty = s.cfgDirty := rfl
@[simp] theorem State.modPin_maint (s : State) (i : Nat) (f : DiPin → DiPin) : (s.modPin i f).maint = s.maint := rfl
@[simp] theorem State.modPin_countersign (s : State) (i : Nat) (f : DiPin → DiPin) : (s.modPin i f).countersign = s.countersign := rfl
@[simp] theorem State.modPin_fuse (s : State) (i : Nat) (f : DiPin → DiPin) : (s.modPin i f).fuse = s.fuse := rfl
@[simp] theorem State.modPin_images (s : State) (i : Nat) (f : DiPin → DiPin) : (s.modPin i f).images = s.images := rfl
@[simp] theorem State.modPin_sram (s : State) (i : Nat) (f : DiPin → DiPin) : (s.modPin i f).sram = s.sram := rfl
@[simp] theorem State.modPin_transfer (s : State) (i : Nat) (f : DiPin → DiPin) : (s.modPin i f).transfer = s.transfer := rfl
@[simp] theorem State.modPin_nvOps (s : State) (i : Nat) (f : DiPin → DiPin) : (s.modPin i f).nvOps = s.nvOps := rfl
@[simp] theorem State.modPin_blocks (s : State) (i : Nat) (f : DiPin → DiPin) : (s.modPin i f).blocks = s.blocks := rfl
@[simp] theorem State.modPin_selftest (s : State) (i : Nat) (f : DiPin → DiPin) : (s.modPin i f).selftest = s.selftest := rfl
@[simp] theorem State.modPin_afe (s : State) (i : Nat) (f : DiPin → DiPin) : (s.modPin i f).afe = s.afe := rfl
@[simp] theorem State.modPin_fio (s : State) (i : Nat) (f : DiPin → DiPin) : (s.modPin i f).fio = s.fio := rfl
@[simp] theorem State.modPin_eave (s : State) (i : Nat) (f : DiPin → DiPin) : (s.modPin i f).eave = s.eave := rfl
@[simp] theorem State.modPin_recorder (s : State) (i : Nat) (f : DiPin → DiPin) : (s.modPin i f).recorder = s.recorder := rfl
@[simp] theorem State.modPin_gut (s : State) (i : Nat) (f : DiPin → DiPin) : (s.modPin i f).gut = s.gut := rfl
@[simp] theorem State.modPin_hw (s : State) (i : Nat) (f : DiPin → DiPin) : (s.modPin i f).hw = s.hw := rfl
@[simp] theorem State.modPin_pair (s : State) (i : Nat) (f : DiPin → DiPin) : (s.modPin i f).pair = s.pair := rfl
@[simp] theorem State.modPin_ridge (s : State) (i : Nat) (f : DiPin → DiPin) : (s.modPin i f).ridge = s.ridge := rfl
@[simp] theorem State.modPin_ring (s : State) (i : Nat) (f : DiPin → DiPin) : (s.modPin i f).ring = s.ring := rfl
@[simp] theorem State.modPin_aging (s : State) (i : Nat) (f : DiPin → DiPin) : (s.modPin i f).aging = s.aging := rfl
@[simp] theorem State.modPin_savedCounters (s : State) (i : Nat) (f : DiPin → DiPin) : (s.modPin i f).savedCounters = s.savedCounters := rfl
@[simp] theorem State.modPin_scrubs (s : State) (i : Nat) (f : DiPin → DiPin) : (s.modPin i f).scrubs = s.scrubs := rfl
@[simp] theorem State.modPin_weak (s : State) (i : Nat) (f : DiPin → DiPin) : (s.modPin i f).weak = s.weak := rfl
@[simp] theorem State.modPin_savedFrame (s : State) (i : Nat) (f : DiPin → DiPin) : (s.modPin i f).savedFrame = s.savedFrame := rfl
@[simp] theorem State.modPin_time (s : State) (i : Nat) (f : DiPin → DiPin) : (s.modPin i f).time = s.time := rfl
@[simp] theorem State.modPin_pending (s : State) (i : Nat) (f : DiPin → DiPin) : (s.modPin i f).pending = s.pending := rfl
@[simp] theorem State.modPin_free (s : State) (i : Nat) (f : DiPin → DiPin) : (s.modPin i f).free = s.free := rfl

/-! State.modStage -/

@[simp] theorem State.modStage_rst (s : State) (o : Nat) (f : DoStage → DoStage) : (s.modStage o f).rst = s.rst := rfl
@[simp] theorem State.modStage_sup (s : State) (o : Nat) (f : DoStage → DoStage) : (s.modStage o f).sup = s.sup := rfl
@[simp] theorem State.modStage_clk (s : State) (o : Nat) (f : DoStage → DoStage) : (s.modStage o f).clk = s.clk := rfl
@[simp] theorem State.modStage_peg (s : State) (o : Nat) (f : DoStage → DoStage) : (s.modStage o f).peg = s.peg := rfl
@[simp] theorem State.modStage_prov (s : State) (o : Nat) (f : DoStage → DoStage) : (s.modStage o f).prov = s.prov := rfl
@[simp] theorem State.modStage_batch (s : State) (o : Nat) (f : DoStage → DoStage) : (s.modStage o f).batch = s.batch := rfl
@[simp] theorem State.modStage_admitted (s : State) (o : Nat) (f : DoStage → DoStage) : (s.modStage o f).admitted = s.admitted := rfl
@[simp] theorem State.modStage_refusedP (s : State) (o : Nat) (f : DoStage → DoStage) : (s.modStage o f).refusedP = s.refusedP := rfl
@[simp] theorem State.modStage_stage (s : State) (o : Nat) (f : DoStage → DoStage) : (s.modStage o f).stage = s.stage := rfl
@[simp] theorem State.modStage_ain (s : State) (o : Nat) (f : DoStage → DoStage) : (s.modStage o f).ain = s.ain := rfl
@[simp] theorem State.modStage_din (s : State) (o : Nat) (f : DoStage → DoStage) : (s.modStage o f).din = s.din := rfl
@[simp] theorem State.modStage_comm (s : State) (o : Nat) (f : DoStage → DoStage) : (s.modStage o f).comm = s.comm := rfl
@[simp] theorem State.modStage_keys (s : State) (o : Nat) (f : DoStage → DoStage) : (s.modStage o f).keys = s.keys := rfl
@[simp] theorem State.modStage_nvCopyA (s : State) (o : Nat) (f : DoStage → DoStage) : (s.modStage o f).nvCopyA = s.nvCopyA := rfl
@[simp] theorem State.modStage_nvCopyB (s : State) (o : Nat) (f : DoStage → DoStage) : (s.modStage o f).nvCopyB = s.nvCopyB := rfl
@[simp] theorem State.modStage_cfgDirty (s : State) (o : Nat) (f : DoStage → DoStage) : (s.modStage o f).cfgDirty = s.cfgDirty := rfl
@[simp] theorem State.modStage_maint (s : State) (o : Nat) (f : DoStage → DoStage) : (s.modStage o f).maint = s.maint := rfl
@[simp] theorem State.modStage_countersign (s : State) (o : Nat) (f : DoStage → DoStage) : (s.modStage o f).countersign = s.countersign := rfl
@[simp] theorem State.modStage_fuse (s : State) (o : Nat) (f : DoStage → DoStage) : (s.modStage o f).fuse = s.fuse := rfl
@[simp] theorem State.modStage_images (s : State) (o : Nat) (f : DoStage → DoStage) : (s.modStage o f).images = s.images := rfl
@[simp] theorem State.modStage_sram (s : State) (o : Nat) (f : DoStage → DoStage) : (s.modStage o f).sram = s.sram := rfl
@[simp] theorem State.modStage_transfer (s : State) (o : Nat) (f : DoStage → DoStage) : (s.modStage o f).transfer = s.transfer := rfl
@[simp] theorem State.modStage_nvOps (s : State) (o : Nat) (f : DoStage → DoStage) : (s.modStage o f).nvOps = s.nvOps := rfl
@[simp] theorem State.modStage_blocks (s : State) (o : Nat) (f : DoStage → DoStage) : (s.modStage o f).blocks = s.blocks := rfl
@[simp] theorem State.modStage_selftest (s : State) (o : Nat) (f : DoStage → DoStage) : (s.modStage o f).selftest = s.selftest := rfl
@[simp] theorem State.modStage_afe (s : State) (o : Nat) (f : DoStage → DoStage) : (s.modStage o f).afe = s.afe := rfl
@[simp] theorem State.modStage_fio (s : State) (o : Nat) (f : DoStage → DoStage) : (s.modStage o f).fio = s.fio := rfl
@[simp] theorem State.modStage_eave (s : State) (o : Nat) (f : DoStage → DoStage) : (s.modStage o f).eave = s.eave := rfl
@[simp] theorem State.modStage_recorder (s : State) (o : Nat) (f : DoStage → DoStage) : (s.modStage o f).recorder = s.recorder := rfl
@[simp] theorem State.modStage_gut (s : State) (o : Nat) (f : DoStage → DoStage) : (s.modStage o f).gut = s.gut := rfl
@[simp] theorem State.modStage_hw (s : State) (o : Nat) (f : DoStage → DoStage) : (s.modStage o f).hw = s.hw := rfl
@[simp] theorem State.modStage_pair (s : State) (o : Nat) (f : DoStage → DoStage) : (s.modStage o f).pair = s.pair := rfl
@[simp] theorem State.modStage_ridge (s : State) (o : Nat) (f : DoStage → DoStage) : (s.modStage o f).ridge = s.ridge := rfl
@[simp] theorem State.modStage_ring (s : State) (o : Nat) (f : DoStage → DoStage) : (s.modStage o f).ring = s.ring := rfl
@[simp] theorem State.modStage_aging (s : State) (o : Nat) (f : DoStage → DoStage) : (s.modStage o f).aging = s.aging := rfl
@[simp] theorem State.modStage_savedCounters (s : State) (o : Nat) (f : DoStage → DoStage) : (s.modStage o f).savedCounters = s.savedCounters := rfl
@[simp] theorem State.modStage_scrubs (s : State) (o : Nat) (f : DoStage → DoStage) : (s.modStage o f).scrubs = s.scrubs := rfl
@[simp] theorem State.modStage_weak (s : State) (o : Nat) (f : DoStage → DoStage) : (s.modStage o f).weak = s.weak := rfl
@[simp] theorem State.modStage_savedFrame (s : State) (o : Nat) (f : DoStage → DoStage) : (s.modStage o f).savedFrame = s.savedFrame := rfl
@[simp] theorem State.modStage_time (s : State) (o : Nat) (f : DoStage → DoStage) : (s.modStage o f).time = s.time := rfl
@[simp] theorem State.modStage_pending (s : State) (o : Nat) (f : DoStage → DoStage) : (s.modStage o f).pending = s.pending := rfl
@[simp] theorem State.modStage_free (s : State) (o : Nat) (f : DoStage → DoStage) : (s.modStage o f).free = s.free := rfl

/-! State.modDin -/

@[simp] theorem State.modDin_rst (s : State) (i : Nat) (f : DinSt → DinSt) : (s.modDin i f).rst = s.rst := rfl
@[simp] theorem State.modDin_sup (s : State) (i : Nat) (f : DinSt → DinSt) : (s.modDin i f).sup = s.sup := rfl
@[simp] theorem State.modDin_clk (s : State) (i : Nat) (f : DinSt → DinSt) : (s.modDin i f).clk = s.clk := rfl
@[simp] theorem State.modDin_peg (s : State) (i : Nat) (f : DinSt → DinSt) : (s.modDin i f).peg = s.peg := rfl
@[simp] theorem State.modDin_prov (s : State) (i : Nat) (f : DinSt → DinSt) : (s.modDin i f).prov = s.prov := rfl
@[simp] theorem State.modDin_batch (s : State) (i : Nat) (f : DinSt → DinSt) : (s.modDin i f).batch = s.batch := rfl
@[simp] theorem State.modDin_admitted (s : State) (i : Nat) (f : DinSt → DinSt) : (s.modDin i f).admitted = s.admitted := rfl
@[simp] theorem State.modDin_refusedP (s : State) (i : Nat) (f : DinSt → DinSt) : (s.modDin i f).refusedP = s.refusedP := rfl
@[simp] theorem State.modDin_stage (s : State) (i : Nat) (f : DinSt → DinSt) : (s.modDin i f).stage = s.stage := rfl
@[simp] theorem State.modDin_ain (s : State) (i : Nat) (f : DinSt → DinSt) : (s.modDin i f).ain = s.ain := rfl
@[simp] theorem State.modDin_din (s : State) (i : Nat) (f : DinSt → DinSt) : (s.modDin i f).din = s.din := rfl
@[simp] theorem State.modDin_comm (s : State) (i : Nat) (f : DinSt → DinSt) : (s.modDin i f).comm = s.comm := rfl
@[simp] theorem State.modDin_keys (s : State) (i : Nat) (f : DinSt → DinSt) : (s.modDin i f).keys = s.keys := rfl
@[simp] theorem State.modDin_nvCopyA (s : State) (i : Nat) (f : DinSt → DinSt) : (s.modDin i f).nvCopyA = s.nvCopyA := rfl
@[simp] theorem State.modDin_nvCopyB (s : State) (i : Nat) (f : DinSt → DinSt) : (s.modDin i f).nvCopyB = s.nvCopyB := rfl
@[simp] theorem State.modDin_cfgDirty (s : State) (i : Nat) (f : DinSt → DinSt) : (s.modDin i f).cfgDirty = s.cfgDirty := rfl
@[simp] theorem State.modDin_maint (s : State) (i : Nat) (f : DinSt → DinSt) : (s.modDin i f).maint = s.maint := rfl
@[simp] theorem State.modDin_countersign (s : State) (i : Nat) (f : DinSt → DinSt) : (s.modDin i f).countersign = s.countersign := rfl
@[simp] theorem State.modDin_fuse (s : State) (i : Nat) (f : DinSt → DinSt) : (s.modDin i f).fuse = s.fuse := rfl
@[simp] theorem State.modDin_images (s : State) (i : Nat) (f : DinSt → DinSt) : (s.modDin i f).images = s.images := rfl
@[simp] theorem State.modDin_sram (s : State) (i : Nat) (f : DinSt → DinSt) : (s.modDin i f).sram = s.sram := rfl
@[simp] theorem State.modDin_transfer (s : State) (i : Nat) (f : DinSt → DinSt) : (s.modDin i f).transfer = s.transfer := rfl
@[simp] theorem State.modDin_nvOps (s : State) (i : Nat) (f : DinSt → DinSt) : (s.modDin i f).nvOps = s.nvOps := rfl
@[simp] theorem State.modDin_blocks (s : State) (i : Nat) (f : DinSt → DinSt) : (s.modDin i f).blocks = s.blocks := rfl
@[simp] theorem State.modDin_selftest (s : State) (i : Nat) (f : DinSt → DinSt) : (s.modDin i f).selftest = s.selftest := rfl
@[simp] theorem State.modDin_afe (s : State) (i : Nat) (f : DinSt → DinSt) : (s.modDin i f).afe = s.afe := rfl
@[simp] theorem State.modDin_fld (s : State) (i : Nat) (f : DinSt → DinSt) : (s.modDin i f).fld = s.fld := rfl
@[simp] theorem State.modDin_eave (s : State) (i : Nat) (f : DinSt → DinSt) : (s.modDin i f).eave = s.eave := rfl
@[simp] theorem State.modDin_recorder (s : State) (i : Nat) (f : DinSt → DinSt) : (s.modDin i f).recorder = s.recorder := rfl
@[simp] theorem State.modDin_gut (s : State) (i : Nat) (f : DinSt → DinSt) : (s.modDin i f).gut = s.gut := rfl
@[simp] theorem State.modDin_hw (s : State) (i : Nat) (f : DinSt → DinSt) : (s.modDin i f).hw = s.hw := rfl
@[simp] theorem State.modDin_pair (s : State) (i : Nat) (f : DinSt → DinSt) : (s.modDin i f).pair = s.pair := rfl
@[simp] theorem State.modDin_ridge (s : State) (i : Nat) (f : DinSt → DinSt) : (s.modDin i f).ridge = s.ridge := rfl
@[simp] theorem State.modDin_ring (s : State) (i : Nat) (f : DinSt → DinSt) : (s.modDin i f).ring = s.ring := rfl
@[simp] theorem State.modDin_aging (s : State) (i : Nat) (f : DinSt → DinSt) : (s.modDin i f).aging = s.aging := rfl
@[simp] theorem State.modDin_savedCounters (s : State) (i : Nat) (f : DinSt → DinSt) : (s.modDin i f).savedCounters = s.savedCounters := rfl
@[simp] theorem State.modDin_scrubs (s : State) (i : Nat) (f : DinSt → DinSt) : (s.modDin i f).scrubs = s.scrubs := rfl
@[simp] theorem State.modDin_weak (s : State) (i : Nat) (f : DinSt → DinSt) : (s.modDin i f).weak = s.weak := rfl
@[simp] theorem State.modDin_savedFrame (s : State) (i : Nat) (f : DinSt → DinSt) : (s.modDin i f).savedFrame = s.savedFrame := rfl
@[simp] theorem State.modDin_time (s : State) (i : Nat) (f : DinSt → DinSt) : (s.modDin i f).time = s.time := rfl
@[simp] theorem State.modDin_pending (s : State) (i : Nat) (f : DinSt → DinSt) : (s.modDin i f).pending = s.pending := rfl
@[simp] theorem State.modDin_free (s : State) (i : Nat) (f : DinSt → DinSt) : (s.modDin i f).free = s.free := rfl

/-! State.modDout -/

@[simp] theorem State.modDout_rst (s : State) (o : Nat) (f : DoutSt → DoutSt) : (s.modDout o f).rst = s.rst := rfl
@[simp] theorem State.modDout_sup (s : State) (o : Nat) (f : DoutSt → DoutSt) : (s.modDout o f).sup = s.sup := rfl
@[simp] theorem State.modDout_clk (s : State) (o : Nat) (f : DoutSt → DoutSt) : (s.modDout o f).clk = s.clk := rfl
@[simp] theorem State.modDout_peg (s : State) (o : Nat) (f : DoutSt → DoutSt) : (s.modDout o f).peg = s.peg := rfl
@[simp] theorem State.modDout_prov (s : State) (o : Nat) (f : DoutSt → DoutSt) : (s.modDout o f).prov = s.prov := rfl
@[simp] theorem State.modDout_batch (s : State) (o : Nat) (f : DoutSt → DoutSt) : (s.modDout o f).batch = s.batch := rfl
@[simp] theorem State.modDout_admitted (s : State) (o : Nat) (f : DoutSt → DoutSt) : (s.modDout o f).admitted = s.admitted := rfl
@[simp] theorem State.modDout_refusedP (s : State) (o : Nat) (f : DoutSt → DoutSt) : (s.modDout o f).refusedP = s.refusedP := rfl
@[simp] theorem State.modDout_stage (s : State) (o : Nat) (f : DoutSt → DoutSt) : (s.modDout o f).stage = s.stage := rfl
@[simp] theorem State.modDout_ain (s : State) (o : Nat) (f : DoutSt → DoutSt) : (s.modDout o f).ain = s.ain := rfl
@[simp] theorem State.modDout_din (s : State) (o : Nat) (f : DoutSt → DoutSt) : (s.modDout o f).din = s.din := rfl
@[simp] theorem State.modDout_comm (s : State) (o : Nat) (f : DoutSt → DoutSt) : (s.modDout o f).comm = s.comm := rfl
@[simp] theorem State.modDout_keys (s : State) (o : Nat) (f : DoutSt → DoutSt) : (s.modDout o f).keys = s.keys := rfl
@[simp] theorem State.modDout_nvCopyA (s : State) (o : Nat) (f : DoutSt → DoutSt) : (s.modDout o f).nvCopyA = s.nvCopyA := rfl
@[simp] theorem State.modDout_nvCopyB (s : State) (o : Nat) (f : DoutSt → DoutSt) : (s.modDout o f).nvCopyB = s.nvCopyB := rfl
@[simp] theorem State.modDout_cfgDirty (s : State) (o : Nat) (f : DoutSt → DoutSt) : (s.modDout o f).cfgDirty = s.cfgDirty := rfl
@[simp] theorem State.modDout_maint (s : State) (o : Nat) (f : DoutSt → DoutSt) : (s.modDout o f).maint = s.maint := rfl
@[simp] theorem State.modDout_countersign (s : State) (o : Nat) (f : DoutSt → DoutSt) : (s.modDout o f).countersign = s.countersign := rfl
@[simp] theorem State.modDout_fuse (s : State) (o : Nat) (f : DoutSt → DoutSt) : (s.modDout o f).fuse = s.fuse := rfl
@[simp] theorem State.modDout_images (s : State) (o : Nat) (f : DoutSt → DoutSt) : (s.modDout o f).images = s.images := rfl
@[simp] theorem State.modDout_sram (s : State) (o : Nat) (f : DoutSt → DoutSt) : (s.modDout o f).sram = s.sram := rfl
@[simp] theorem State.modDout_transfer (s : State) (o : Nat) (f : DoutSt → DoutSt) : (s.modDout o f).transfer = s.transfer := rfl
@[simp] theorem State.modDout_nvOps (s : State) (o : Nat) (f : DoutSt → DoutSt) : (s.modDout o f).nvOps = s.nvOps := rfl
@[simp] theorem State.modDout_blocks (s : State) (o : Nat) (f : DoutSt → DoutSt) : (s.modDout o f).blocks = s.blocks := rfl
@[simp] theorem State.modDout_selftest (s : State) (o : Nat) (f : DoutSt → DoutSt) : (s.modDout o f).selftest = s.selftest := rfl
@[simp] theorem State.modDout_afe (s : State) (o : Nat) (f : DoutSt → DoutSt) : (s.modDout o f).afe = s.afe := rfl
@[simp] theorem State.modDout_fld (s : State) (o : Nat) (f : DoutSt → DoutSt) : (s.modDout o f).fld = s.fld := rfl
@[simp] theorem State.modDout_eave (s : State) (o : Nat) (f : DoutSt → DoutSt) : (s.modDout o f).eave = s.eave := rfl
@[simp] theorem State.modDout_recorder (s : State) (o : Nat) (f : DoutSt → DoutSt) : (s.modDout o f).recorder = s.recorder := rfl
@[simp] theorem State.modDout_gut (s : State) (o : Nat) (f : DoutSt → DoutSt) : (s.modDout o f).gut = s.gut := rfl
@[simp] theorem State.modDout_hw (s : State) (o : Nat) (f : DoutSt → DoutSt) : (s.modDout o f).hw = s.hw := rfl
@[simp] theorem State.modDout_pair (s : State) (o : Nat) (f : DoutSt → DoutSt) : (s.modDout o f).pair = s.pair := rfl
@[simp] theorem State.modDout_ridge (s : State) (o : Nat) (f : DoutSt → DoutSt) : (s.modDout o f).ridge = s.ridge := rfl
@[simp] theorem State.modDout_ring (s : State) (o : Nat) (f : DoutSt → DoutSt) : (s.modDout o f).ring = s.ring := rfl
@[simp] theorem State.modDout_aging (s : State) (o : Nat) (f : DoutSt → DoutSt) : (s.modDout o f).aging = s.aging := rfl
@[simp] theorem State.modDout_savedCounters (s : State) (o : Nat) (f : DoutSt → DoutSt) : (s.modDout o f).savedCounters = s.savedCounters := rfl
@[simp] theorem State.modDout_scrubs (s : State) (o : Nat) (f : DoutSt → DoutSt) : (s.modDout o f).scrubs = s.scrubs := rfl
@[simp] theorem State.modDout_weak (s : State) (o : Nat) (f : DoutSt → DoutSt) : (s.modDout o f).weak = s.weak := rfl
@[simp] theorem State.modDout_savedFrame (s : State) (o : Nat) (f : DoutSt → DoutSt) : (s.modDout o f).savedFrame = s.savedFrame := rfl
@[simp] theorem State.modDout_time (s : State) (o : Nat) (f : DoutSt → DoutSt) : (s.modDout o f).time = s.time := rfl
@[simp] theorem State.modDout_pending (s : State) (o : Nat) (f : DoutSt → DoutSt) : (s.modDout o f).pending = s.pending := rfl
@[simp] theorem State.modDout_free (s : State) (o : Nat) (f : DoutSt → DoutSt) : (s.modDout o f).free = s.free := rfl

/-! State.modJtag -/

@[simp] theorem State.modJtag_rst (s : State) (f : Jtag → Jtag) : (s.modJtag f).rst = s.rst := rfl
@[simp] theorem State.modJtag_sup (s : State) (f : Jtag → Jtag) : (s.modJtag f).sup = s.sup := rfl
@[simp] theorem State.modJtag_clk (s : State) (f : Jtag → Jtag) : (s.modJtag f).clk = s.clk := rfl
@[simp] theorem State.modJtag_peg (s : State) (f : Jtag → Jtag) : (s.modJtag f).peg = s.peg := rfl
@[simp] theorem State.modJtag_prov (s : State) (f : Jtag → Jtag) : (s.modJtag f).prov = s.prov := rfl
@[simp] theorem State.modJtag_batch (s : State) (f : Jtag → Jtag) : (s.modJtag f).batch = s.batch := rfl
@[simp] theorem State.modJtag_admitted (s : State) (f : Jtag → Jtag) : (s.modJtag f).admitted = s.admitted := rfl
@[simp] theorem State.modJtag_refusedP (s : State) (f : Jtag → Jtag) : (s.modJtag f).refusedP = s.refusedP := rfl
@[simp] theorem State.modJtag_stage (s : State) (f : Jtag → Jtag) : (s.modJtag f).stage = s.stage := rfl
@[simp] theorem State.modJtag_ain (s : State) (f : Jtag → Jtag) : (s.modJtag f).ain = s.ain := rfl
@[simp] theorem State.modJtag_din (s : State) (f : Jtag → Jtag) : (s.modJtag f).din = s.din := rfl
@[simp] theorem State.modJtag_comm (s : State) (f : Jtag → Jtag) : (s.modJtag f).comm = s.comm := rfl
@[simp] theorem State.modJtag_keys (s : State) (f : Jtag → Jtag) : (s.modJtag f).keys = s.keys := rfl
@[simp] theorem State.modJtag_nvCopyA (s : State) (f : Jtag → Jtag) : (s.modJtag f).nvCopyA = s.nvCopyA := rfl
@[simp] theorem State.modJtag_nvCopyB (s : State) (f : Jtag → Jtag) : (s.modJtag f).nvCopyB = s.nvCopyB := rfl
@[simp] theorem State.modJtag_cfgDirty (s : State) (f : Jtag → Jtag) : (s.modJtag f).cfgDirty = s.cfgDirty := rfl
@[simp] theorem State.modJtag_maint (s : State) (f : Jtag → Jtag) : (s.modJtag f).maint = s.maint := rfl
@[simp] theorem State.modJtag_countersign (s : State) (f : Jtag → Jtag) : (s.modJtag f).countersign = s.countersign := rfl
@[simp] theorem State.modJtag_fuse (s : State) (f : Jtag → Jtag) : (s.modJtag f).fuse = s.fuse := rfl
@[simp] theorem State.modJtag_images (s : State) (f : Jtag → Jtag) : (s.modJtag f).images = s.images := rfl
@[simp] theorem State.modJtag_sram (s : State) (f : Jtag → Jtag) : (s.modJtag f).sram = s.sram := rfl
@[simp] theorem State.modJtag_transfer (s : State) (f : Jtag → Jtag) : (s.modJtag f).transfer = s.transfer := rfl
@[simp] theorem State.modJtag_nvOps (s : State) (f : Jtag → Jtag) : (s.modJtag f).nvOps = s.nvOps := rfl
@[simp] theorem State.modJtag_blocks (s : State) (f : Jtag → Jtag) : (s.modJtag f).blocks = s.blocks := rfl
@[simp] theorem State.modJtag_selftest (s : State) (f : Jtag → Jtag) : (s.modJtag f).selftest = s.selftest := rfl
@[simp] theorem State.modJtag_afe (s : State) (f : Jtag → Jtag) : (s.modJtag f).afe = s.afe := rfl
@[simp] theorem State.modJtag_fld (s : State) (f : Jtag → Jtag) : (s.modJtag f).fld = s.fld := rfl
@[simp] theorem State.modJtag_fio (s : State) (f : Jtag → Jtag) : (s.modJtag f).fio = s.fio := rfl
@[simp] theorem State.modJtag_eave (s : State) (f : Jtag → Jtag) : (s.modJtag f).eave = s.eave := rfl
@[simp] theorem State.modJtag_recorder (s : State) (f : Jtag → Jtag) : (s.modJtag f).recorder = s.recorder := rfl
@[simp] theorem State.modJtag_gut (s : State) (f : Jtag → Jtag) : (s.modJtag f).gut = s.gut := rfl
@[simp] theorem State.modJtag_pair (s : State) (f : Jtag → Jtag) : (s.modJtag f).pair = s.pair := rfl
@[simp] theorem State.modJtag_ridge (s : State) (f : Jtag → Jtag) : (s.modJtag f).ridge = s.ridge := rfl
@[simp] theorem State.modJtag_ring (s : State) (f : Jtag → Jtag) : (s.modJtag f).ring = s.ring := rfl
@[simp] theorem State.modJtag_aging (s : State) (f : Jtag → Jtag) : (s.modJtag f).aging = s.aging := rfl
@[simp] theorem State.modJtag_savedCounters (s : State) (f : Jtag → Jtag) : (s.modJtag f).savedCounters = s.savedCounters := rfl
@[simp] theorem State.modJtag_scrubs (s : State) (f : Jtag → Jtag) : (s.modJtag f).scrubs = s.scrubs := rfl
@[simp] theorem State.modJtag_weak (s : State) (f : Jtag → Jtag) : (s.modJtag f).weak = s.weak := rfl
@[simp] theorem State.modJtag_savedFrame (s : State) (f : Jtag → Jtag) : (s.modJtag f).savedFrame = s.savedFrame := rfl
@[simp] theorem State.modJtag_time (s : State) (f : Jtag → Jtag) : (s.modJtag f).time = s.time := rfl
@[simp] theorem State.modJtag_pending (s : State) (f : Jtag → Jtag) : (s.modJtag f).pending = s.pending := rfl
@[simp] theorem State.modJtag_free (s : State) (f : Jtag → Jtag) : (s.modJtag f).free = s.free := rfl

/-! What an update writes reads back -/

@[simp] theorem State.pass_batten (s : State) (n : Nat) : (s.pass n).clk.batten = s.clk.batten + BitVec.ofNat 40 n := rfl
@[simp] theorem State.admitItem_admitted (s : State) (i : BatchItem) : (s.admitItem i).admitted = s.admitted ++ [i] := rfl
@[simp] theorem State.later_waiting (s : State) (o : Occurrence) : (s.later o).recorder.waiting = s.recorder.waiting ++ [o] := rfl
@[simp] theorem State.modPair_pair (s : State) (f : PairSt → PairSt) : (s.modPair f).pair = f s.pair := rfl
@[simp] theorem State.setWorker_same (s : State) (n : Nat) (w : Worker) : (s.setWorker n w).worker n = w := by
  simp [State.setWorker, State.worker]
theorem State.setWorker_other (s : State) (n k : Nat) (w : Worker) (h : k ≠ n) : (s.setWorker n w).worker k = s.worker k := by
  simp [State.setWorker, State.worker, sget_sset_other _ _ _ _ _ h]
@[simp] theorem State.modIsland_same (s : State) (i : Nat) (f : Island → Island) : (s.modIsland i f).islandSt i = f (s.islandSt i) := by
  simp [State.modIsland, State.islandSt]
@[simp] theorem State.modCh_same (s : State) (c : Nat) (f : AfeCh → AfeCh) : (s.modCh c f).ainSt c = f (s.ainSt c) := by
  simp [State.modCh, State.ainSt]
@[simp] theorem State.modPin_same (s : State) (i : Nat) (f : DiPin → DiPin) : (s.modPin i f).fld.pin i = f (s.fld.pin i) := by
  simp [State.modPin, FieldDie.pin]
@[simp] theorem State.modStage_same (s : State) (o : Nat) (f : DoStage → DoStage) : (s.modStage o f).fld.stage o = f (s.fld.stage o) := by
  simp [State.modStage, FieldDie.stage]
@[simp] theorem State.modDin_same (s : State) (i : Nat) (f : DinSt → DinSt) : (s.modDin i f).dinSt i = f (s.dinSt i) := by
  simp [State.modDin, State.dinSt]
@[simp] theorem State.modDout_same (s : State) (o : Nat) (f : DoutSt → DoutSt) : (s.modDout o f).doutSt o = f (s.doutSt o) := by
  simp [State.modDout, State.doutSt]
@[simp] theorem State.modUart_same (s : State) (u : Uart) (f : UartSt → UartSt) : (s.modUart u f).uart u = f (s.uart u) := by cases u <;> rfl
theorem State.modUart_other (s : State) (u v : Uart) (f : UartSt → UartSt) (h : v ≠ u) : (s.modUart u f).uart v = s.uart v := by
  cases u <;> cases v <;> first | rfl | exact absurd rfl h
/-- A serial port's update touches the port hardware alone. -/
theorem State.modUart_only (s : State) (u : Uart) (f : UartSt → UartSt) : s.modUart u f = { s with hw := (s.modUart u f).hw } := by
  cases u <;> rfl
theorem State.modCan_only (s : State) (c : CanNo) (f : CanSt → CanSt) : s.modCan c f = { s with hw := (s.modCan c f).hw } := by
  cases c <;> rfl

end Sys2Proof.Machine
end

