-- ==== Sys2Proof/Tests/Slice0.lean ====
section
/-! SUPPORT. The model's own tests, and for each statement states and operands that meet its hypotheses. -/

namespace Sys2Proof.Tests
open Sys2Proof Sys2Proof.Machine

/-! ### Small states and requests -/

/-- Ticks since the first release: 160 000 s. -/
def now : Nat := 2000000000000

/-- Solo manager A at READY, in frame 100, with its factory configuration. -/
def live : State :=
  { State.reset with
    rst := { ResetCtl.start with
      inReset := false, powerOn := false, phase := 0x0B, rstoutLow := false, portsUp := true, firstClaim := true, firstPeg := true }
    clk := { Clock.reset with batten := 12600000, frameNo := 100, frameStart := 12500000, running := true }
    time := now }

/-- A worker that its managers have admitted, at READY. -/
def liveWorker : State :=
  { live with
    rst := { live.rst with latched := 8 },
    ring := { live.ring with index := 3, trainedA := true, trainedB := true } }

/-- An open session 1 of a role's slot 1 on the host port. -/
def sess (ro : Role) : Sess :=
  { num := 1, port := .host, role := ro, slot := 1, isOpen := true, nc := [], nn := [], key := [], kReq := [], kRep := [],
    kEnc := [], high := 1, window := [], settledAt := some 1, features := offeredWord, eventMask := 0, evtNo := 0, evtQueue := [],
    coalesced := [], sent := 0, echo := 0, tagFails := 0, msgIn := 0, msgOut := 0, openedAt := 12500000,
    lastSeen := 12500000 }

/-- The first request of session 1. -/
def req (target : Word) (params : List Byte) : Req :=
  { port := .host, session := 1, seq := 1, target := target, wantProv := false, params := params }

/-- It, admitted. -/
def tagFor (op : Nat) (r : Req) : Tag :=
  { no := 0, req := r, opcode := BitVec.ofNat 16 op, admitAt := 12599000, gen := 1, dup := false, begun := false, answered := false,
    spoiled := [], blockHit := false, onRing := false, matrix := [] }

/-- A state with one open session, which has one request in flight. -/
def asked (s : State) (ro : Role) (c : Cmd) (r : Req) : State :=
  { s with comm := { s.comm with sessions := [sess ro], lastNum := 1, tags := [tagFor c.op r] } }

/-- The decidable form of State.Takes. -/
def takesB (s : State) (c : Cmd) (r : Req) (t : Tag) : Bool :=
  s.portLive r.port && s.serves c.op r && decide (s.waiting? c.op r = some t) && decide (t.req = r) && !s.blockHolds c.op t

/-- The decidable form of State.Runs. -/
def runsB (s : State) (c : Cmd) (r : Req) (t : Tag) : Bool :=
  takesB s c r t && decide (s.verdict c t = none) && (!s.forWorker c.op r || s.staging c.op r)

theorem takes_of {s : State} {c : Cmd} {r : Req} {t : Tag} (h : takesB s c r t = true) : s.Takes c r t := by
  simp only [takesB, Bool.and_eq_true, decide_eq_true_eq, Bool.not_eq_true'] at h
  exact ⟨h.1.1.1.1, h.1.1.1.2, h.1.1.2, h.1.2, h.2⟩

theorem runs_of {s : State} {c : Cmd} {r : Req} {t : Tag} (h : runsB s c r t = true) : s.Runs c r t := by
  simp only [runsB, Bool.and_eq_true, Bool.or_eq_true, decide_eq_true_eq, Bool.not_eq_true'] at h
  exact ⟨takes_of h.1.1, h.1.2, h.2⟩

/-- The request with these operands, sent in the session of this role, passes every check at this node. -/
def Sent (s : State) (ro : Role) (c : Cmd) (target : Word) (ps : List Byte) : Prop :=
  (asked s ro c (req target ps)).Runs c (req target ps) (tagFor c.op (req target ps))

/-- The decidable form of Sent. -/
def sentB (s : State) (ro : Role) (c : Cmd) (target : Word) (ps : List Byte) : Bool :=
  runsB (asked s ro c (req target ps)) c (req target ps) (tagFor c.op (req target ps))

theorem sent_of {s ro c target ps} (h : sentB s ro c target ps = true) : Sent s ro c target ps := runs_of h

/-- n zero bytes. -/
def zs (n : Nat) : List Byte := List.replicate n 0#8

/-! ### Requests that run -/

/-- live with these configured values by object ID. -/
def liveWith (c : Sparse Nat) : State := { live with peg := { live.peg with cfg := c } }

/-- live as the active unit of a synchronised pair. -/
def livePair : State :=
  { live with pair := { live.pair with state := 1, bound := true, twinState := 2, leads := true },
              ridge := { live.ridge with trained := true } }

/-- live with worker 5 admitted. -/
def liveRing : State :=
  { live with ring := { live.ring with
      state := 0, trainedA := true, trainedB := true, scanned := true, scan := [(7, 1, 10)],
      workers := [(5, { Worker.none with state := 2, serial := 7 })] } }

/-- live with an image transfer to slot 1. -/
def liveImage (received : Nat) : State :=
  { live with transfer := some { slot := 1, length := 256, received := received, session := 1, port := .host } }

/-- A request of session 0 on the host port. -/
def req0 (ps : List Byte) : Req := { port := .host, session := 0, seq := 9, target := 0, wantProv := false, params := ps }

/-- live with one opening session, whose partner's nonces are empty. -/
def opening : Sess := { sess .owner with isOpen := false, high := 0 }
def liveOpening (r : Req) : State :=
  { live with comm := { live.comm with sessions := [opening], lastNum := 1, tags := [tagFor 0x0103 r] },
              keys := [(1, { state := 1, loadedAt := 0, value := zs 32 })] }

/-- A session whose features are still to be settled. -/
def liveUnsettled (r : Req) : State :=
  { live with comm := { live.comm with sessions := [{ sess .owner with settledAt := none }], lastNum := 1, tags := [tagFor 0x0101 r] } }

/-- Thirty-two sessions are open. -/
def full32 : State :=
  { live with comm := { live.comm with
      sessions := (List.range 32).map (fun k => { sess .watch with num := BitVec.ofNat 16 (k + 1) }),
      lastNum := 32, tags := [tagFor 0x0102 (req0 (zs 18))] } }

/-- The reply to a CLOSE whose tag is still held. -/
def closeTag : Tag := { tagFor 0x0104 (req 0 []) with begun := true, answered := true }
def closeReply : Packet :=
  { session := 1, shown := 1, seq := 1, status := .done, prov := false, dup := false, exact := true, standby := false, more := false,
    event := false, frame := 100, exec := 13, params := [], tagKey := [], encKey := [], holdsTag := true, tagNo := 0, frontEnd := false }

theorem witness_sessionCommands :
    Sent live .owner cmdHello 0 [] ∧ Sent live .owner cmdClose 0 [] ∧ Sent live .owner cmdPing 0 [] ∧ live.rst.phase = 0x0B
    ∧ ((liveUnsettled (req 0 (zs 20))).Runs cmdFeatures (req 0 (zs 20)) (tagFor 0x0101 (req 0 (zs 20)))
      ∧ ((liveUnsettled (req 0 (zs 20))).sess? .host 1).isSome = true)
    ∧ (let s : State := { live with comm := { live.comm with tags := [tagFor 0x0102 (req0 (zs 18))] } }
       s.Runs cmdOpen (req0 (zs 18)) (tagFor 0x0102 (req0 (zs 18))) ∧ s.sessionsOpen < 32)
    ∧ (full32.Runs cmdOpen (req0 (zs 18)) (tagFor 0x0102 (req0 (zs 18))) ∧ 32 ≤ full32.sessionsOpen)
    ∧ (closeReply.holdsTag = true ∧ closeReply.status = .done ∧ closeTag ∈ [closeTag] ∧ closeTag.no = closeReply.tagNo
      ∧ closeTag.req.session = closeReply.session ∧ closeTag.req.seq = closeReply.seq ∧ closeTag.answered = true
      ∧ closeTag.opcode = 0x0104#16) :=
  ⟨sent_of (by decide), sent_of (by decide), sent_of (by decide), by decide, ⟨runs_of (by decide), by decide⟩,
    ⟨runs_of (by decide), by decide⟩, ⟨runs_of (by decide), by decide⟩, by decide⟩


theorem lenIs_proof (x : Sess) : (proofOf x).length = 32 := hmac_length ..

set_option maxRecDepth 20000 in
theorem witness_prove :
    (∃ r t x, (liveOpening r).Runs cmdProve r t ∧ (liveOpening r).sess? r.port r.session = some x
      ∧ ((liveOpening r).lockOf x.port (keyIndex x.role x.slot)).locked = false ∧ r.params = proofOf x
      ∧ ((liveOpening r).keyAt (keyIndex x.role x.slot)).state ≠ 0)
    ∧ (∃ r t x, (liveOpening r).Runs cmdProve r t ∧ (liveOpening r).sess? r.port r.session = some x ∧ r.params ≠ proofOf x) := by
  refine ⟨⟨req 0 (proofOf opening), tagFor 0x0103 (req 0 (proofOf opening)), opening, ?_, rfl, rfl, by simp only [req], by decide⟩,
    ⟨req 0 ((proofOf opening).map (· + 1#8)), tagFor 0x0103 (req 0 ((proofOf opening).map (· + 1#8))), opening, ?_, rfl, ?_⟩⟩
  · exact ⟨⟨by decide, by decide, rfl, rfl, by decide⟩, by unfold State.Passes; decide, .inl (by decide)⟩
  · exact ⟨⟨by decide, by decide, rfl, rfl, by decide⟩, by unfold State.Passes; decide, .inl (by decide)⟩
  have hl := lenIs_proof opening
  show (proofOf opening).map (· + 1#8) ≠ proofOf opening
  generalize proofOf opening = p at hl
  cases p with
  | nil => simp at hl
  | cons a p =>
    simp only [List.map_cons, ne_eq, List.cons.injEq, not_and]
    intro h
    exact absurd h (by bv_omega)

/-! ### Reads, settings and the batch -/

/-- A worker with a request of its manager in flight. -/
def ringAsked (c : Cmd) (r : Req) : State := { liveWorker with comm := { liveWorker.comm with tags := [tagFor c.op r] } }

/-- live with a provisional result. -/
def prov0 : Prov :=
  { frame := 100, st := live.peg, lanesAgree := true, effects := [], replies := [], events := [], records := [], sentences := [],
    changed := [], stationChanged := [], applied := 0, digest := 0 }
def liveProv (off : Nat) : State :=
  { live with prov := some prov0, clk := { live.clk with batten := 12500000 + BitVec.ofNat 40 off } }

theorem witness_reads :
    (Sent live .owner cmdGetAttr (oid 0 cPOINT 0 0x20) [] ∧ ownerPrivate cPOINT 0x20 = false)
    ∧ (Sent live .owner cmdGetAttr (oid 0 cDIN 0 3) [] ∧ ownerPrivate cDIN 3 = false)
    ∧ (Sent live .owner cmdGetRange (oid 0 cPOINT 0 0x20) [2, 0] ∧ ownerPrivate cPOINT 0x20 = false)
    ∧ (Sent live .owner cmdGetAttr (oid 0 cCOUNTER 0 0x10) [] ∧ ownerPrivate cCOUNTER 0x10 = true
      ∧ (asked live .owner cmdGetAttr (req (oid 0 cCOUNTER 0 0x10) [])).sess? .host 1 = some (sess .owner))
    ∧ (Sent live .owner cmdGetRange (oid 0 cCOUNTER 0 0x10) [2, 0] ∧ ownerPrivate cCOUNTER 0x10 = true
      ∧ (asked live .owner cmdGetRange (req (oid 0 cCOUNTER 0 0x10) [2, 0])).sess? .host 1 = some (sess .owner))
    ∧ (hasProvisional cPOINT 0 = true ∧ (liveProv 62500).prov = some prov0 ∧ 62500 ≤ (liveProv 62500).offset
      ∧ (liveProv 62499).offset < 62500 ∧ { req (oid 0 cPOINT 0 0) [] with wantProv := true }.wantProv = true
      ∧ (req (oid 0 cPOINT 0 0) []).wantProv = false) :=
  ⟨⟨sent_of (by decide), by decide⟩, ⟨sent_of (by decide), by decide⟩, ⟨sent_of (by decide), by decide⟩,
    ⟨sent_of (by decide), by decide, rfl⟩, ⟨sent_of (by decide), by decide, rfl⟩, by decide, rfl, by decide, by decide, rfl, rfl⟩

/-- live with session 1 staging these. -/
def staging (l : List Req) : State := { live with stage := some (.host, 1, l) }

theorem witness_setAndStage :
    (Sent (staging []) .owner cmdSetAttr (oid 0 cPOINT 0 0x20) [5, 0] ∧ (staging []).isWorker = false ∧ ownerPrivate cPOINT 0x20 = false
      ∧ (staging []).stageOf (req (oid 0 cPOINT 0 0x20) [5, 0]) = some [])
    ∧ (Sent live .owner cmdSetAttr (oid 0 cPOINT 0 0x20) [5, 0] ∧ live.stageOf (req (oid 0 cPOINT 0 0x20) [5, 0]) = none)
    ∧ Sent live .owner cmdStageBegin 0 []
    ∧ Sent (staging [req (oid 0 cPOINT 0 0x20) [5, 0]]) .owner cmdStageCommit 0 [1, 0]
    ∧ Sent (staging [req (oid 0 cPOINT 0 0x20) [5, 0]]) .owner cmdStageDrop 0 [] :=
  ⟨⟨sent_of (by decide), by decide, by decide, rfl⟩, ⟨sent_of (by decide), rfl⟩, sent_of (by decide), sent_of (by decide),
    sent_of (by decide)⟩

/-- live with roster entry 0 naming station 0. -/
def liveRoster : State := liveWith [(cROSTER * 1048576 + 0x10, 0)]

/-- live in the maintenance state. -/
def liveMaint (mode : Nat) : State := { live with maint := { live.maint with mode := mode, session := 1, slot := 1, expiry := 100 } }

/-- A consent token of this node for slot 1, and live with it. -/
def token : Consent := { number := 1, purpose := 0, slot := 1, expiry := 100, used := false }
def liveToken : State := { live with maint := { live.maint with tokens := [token] } }

set_option maxRecDepth 20000 in
theorem witness_consentEnter : Sent liveToken .service cmdConsentEnter 0 (1#8 :: tokenBytes token) := by
  have hl : (tokenBytes token).length = 40 := by
    have : ∀ m : List Byte, ((m ++ List.replicate 16 0#8).take 16).length = 16 := by intro m; simp
    simp only [tokenBytes, List.length_append, toLe_length, this]
  generalize hr : req 0 (1#8 :: tokenBytes token) = r
  have hp : r.params = 1#8 :: tokenBytes token := by rw [← hr]; rfl
  have hf : (asked liveToken .service cmdConsentEnter r).tokenFor (r.params.drop 1) 1 = some token := by
    rw [hp]
    exact List.find?_cons_of_pos (by
      simp only [Bool.and_eq_true]; exact ⟨⟨⟨beq_self_eq_true _, rfl⟩, rfl⟩, (by decide : secBefore liveToken.secNow 100 = true)⟩)
  unfold Sent
  rw [hr]
  have hw : (asked liveToken .service cmdConsentEnter r).who r = { role := .service, slot := 1, feats := offeredWord } := by
    rw [← hr]; rfl
  have hc : cmdConsentEnter.check (asked liveToken .service cmdConsentEnter r) { role := .service, slot := 1, feats := offeredWord } r = none := by
    have hm : (asked liveToken .service cmdConsentEnter r).inMaint = false := rfl
    generalize asked liveToken .service cmdConsentEnter r = st at *
    have h41 : lenIs 41 r = true := by simp [lenIs, hp, hl]
    have hb : (byteAt r.params 0 == 1) = true := by rw [hp]; rfl
    show (if ¬ (lenIs 41 r && byteAt r.params 0 == 1) = true then some Status.badParam
      else if st.inMaint = true ∨ (st.tokenFor (r.params.drop 1) 1).isNone = true then some Status.badState else none) = none
    rw [h41, hb, hm, hf]; rfl
  refine ⟨⟨?_, ?_, ?_, rfl, ?_⟩, ?_, .inl ?_⟩
  · rw [← hr]; decide
  · rw [← hr]; decide
  · rw [← hr]; rfl
  · rw [← hr]; rfl
  · unfold State.Passes State.verdict
    rw [show (tagFor cmdConsentEnter.op r).req = r from rfl]
    rw [if_neg, if_neg (by intro h; cases h), if_neg (by rintro ⟨h, -⟩; cases h), if_neg, if_neg, hw, hc]
    · rw [← hr]; decide
    · rw [← hr]; decide
    · rw [← hr]; decide
  · rw [← hr]; rfl

theorem witness_peggedCommands :
    Sent live .service cmdOutputForce (oid 0 cDOUT 0 0) [1, 1, 0] ∧ Sent live .service cmdOutputRelease (oid 0 cDOUT 0 0) []
    ∧ Sent live .owner cmdAck (oid 0 cPOINT 0 0) [] ∧ Sent live .owner cmdSilence 0 []
    ∧ Sent live .chief cmdShelve (oid 0 cPOINT 0 0) [1, 0] ∧ Sent live .chief cmdUnshelve (oid 0 cPOINT 0 0) []
    ∧ Sent liveRoster .chief cmdDutySelect (oid 0 cROSTER 0 0) [] ∧ Sent live .watch cmdCallAccept (oid 0 cSTATION 0 0) []
    ∧ Sent live .watch cmdDeadmanResetRestart (oid 0 cSTATION 0 0) [0] ∧ Sent live .watch cmdDeadmanResetStart (oid 0 cSTATION 0 0) [1]
    ∧ Sent live .watch cmdDeadmanResetStop (oid 0 cSTATION 0 0) [2] ∧ Sent live .owner cmdTimeSet 0 [0, 0, 0, 1, 1, 0x24, 0x20]
    ∧ Sent live .owner cmdTimeShift 0 [1, 0, 0, 0] ∧ Sent live .owner cmdHourAdd 0 [] ∧ Sent live .owner cmdHourSub 0 []
    ∧ Sent live .owner cmdWeekdaySet 0 [6] ∧ Sent live .owner cmdWakeSet 0 [100, 0, 0, 0, 0, 0, 0] ∧ Sent live .owner cmdLogMark 0 (zs 8)
    ∧ Sent live .owner cmdLogPolicy 0 [1, 0, 1, 0, 1] := by
  refine ⟨?_, ?_, ?_, ?_, ?_, ?_, ?_, ?_, ?_, ?_, ?_, ?_, ?_, ?_, ?_, ?_, ?_, ?_, ?_⟩ <;> exact sent_of (by decide)

theorem witness_peggedCommands2 :
    Sent livePair .owner cmdPairUnbind 0 [] ∧ Sent livePair .owner cmdSwapNow 0 [] ∧ Sent livePair .owner cmdSwapPolicy 0 [168]
    ∧ Sent livePair .owner cmdYieldRole 0 [] ∧ Sent live .owner cmdMatrixWrite 0 ([1, 0, 0, 0, 1, 0x20] ++ zs 48)
    ∧ Sent live .cls cmdSeal (oid 0 cPOINT 0 0x20) [0, 1, 0] ∧ Sent live .cls cmdUnsealRelease 0 [0, 0, 0]
    ∧ Sent live .owner cmdUnsealBreak 0 [0, 0, 1] ∧ Sent (liveMaint 1) .service cmdConsentLeave 0 [2]
    ∧ Sent live .owner cmdDomainSetLaidUp (oid 0 cDOMAIN 0 0) [2] := by
  refine ⟨?_, ?_, ?_, ?_, ?_, ?_, ?_, ?_, ?_, ?_⟩ <;> exact sent_of (by decide)

/-! ### Encrypted parameters -/

theorem passes_of {s : State} {c : Cmd} {t : Tag} {r : Req} (h0 : t.req = r) (h1 : (s.asAdmitted t).accessOk c (s.who r) r = true)
    (h2 : c.sealed s (s.who r) r = false) (h3 : (s.who r).has fCRYPT = true) (h4 : s.deliverySession (s.who r) = false)
    (h5 : c.check s (s.who r) r = none) : s.Passes c t := by
  subst h0; simp [State.Passes, State.verdict, h1, h2, h3, h4, h5]

/-- 32 zero bytes as the first encrypted parameters of session 1, under an all-zero key: MSGNO 1, ciphertext, tag. -/
def sealedZeros (op n : Nat) : List Byte × List Byte :=
  gcmSeal (zs 32) (toLe 2 1 ++ [0x00, 0x00] ++ toLe 8 1) ((reqBytes op (req 0 (zs n)) 0).take 20) (zs 32)

/-- A state with a session whose encryption key is all zero, and one request of it in flight. -/
def keyed (s : State) (op : Nat) (r : Req) : State :=
  { s with comm := { s.comm with sessions := [{ sess .owner with kEnc := zs 32 }], lastNum := 1, tags := [tagFor op r] } }

/-- Parameters with 32 zero bytes encrypted in their place. -/
def encParams (op n : Nat) (pre post : List Byte) : List Byte :=
  pre ++ (toLe 8 1 ++ ((sealedZeros op n).1 ++ ((sealedZeros op n).2 ++ post)))

theorem encParams_length (op n : Nat) (pre post : List Byte) : (encParams op n pre post).length = pre.length + (56 + post.length) := by
  have h1 : (sealedZeros op n).1.length = 32 := gcmCrypt_length _ _ _ rfl rfl
  have h2 : (sealedZeros op n).2.length = 16 := gcmTag_length _ _ _ _ rfl rfl
  simp only [encParams, List.length_append, toLe_length, h1, h2]; omega

theorem header_of_length (op : Nat) (target : Word) (p q : List Byte) (h : p.length = q.length) :
    (reqBytes op (req target p) 0).take 20 = (reqBytes op (req target q) 0).take 20 := by
  simp only [reqBytes]
  rw [List.take_left', List.take_left']
  · simp only [reqFlags, req, h]
  · simp
  · simp

/-- They open. -/
theorem decrypt_encParams (s : State) (op n : Nat) (pre post : List Byte) (hop : op < 65536) (hn : pre.length + (56 + post.length) = n) :
    ∃ s1, (keyed s op (req 0 (encParams op n pre post))).decrypt (tagFor op (req 0 (encParams op n pre post))) pre.length 32
      = some (zs 32, s1) := by
  have hl := encParams_length op n pre post
  have h1 : (sealedZeros op n).1.length = 32 := gcmCrypt_length _ _ _ rfl rfl
  have h2 : (sealedZeros op n).2.length = 16 := gcmTag_length _ _ _ _ rfl rfl
  have hz : (encParams op n pre post).length = (zs n).length := by simp [hl, hn, zs]
  have f1 : leAt (encParams op n pre post) pre.length 8 = 1 := by
    rw [leAt, encParams, slice_append _ _ _ _ rfl, take_toLe_append, leNat_toLe]; rfl
  have f2 : slice (encParams op n pre post) (pre.length + 8) 32 = (sealedZeros op n).1 := by
    rw [encParams, slice_append_right _ _ _ _ (by omega), slice_toLe_skip _ _ _ _ _ (by omega),
      slice_append_left _ _ _ _ (by omega)]
    simp [slice, ← h1]
  have f3 : slice (encParams op n pre post) (pre.length + 8 + 32) 16 = (sealedZeros op n).2 := by
    rw [encParams, slice_append_right _ _ _ _ (by omega), slice_toLe_skip _ _ _ _ _ (by omega),
      slice_append_right _ _ _ _ (by omega), slice_append_left _ _ _ _ (by omega)]
    rw [show pre.length + 8 + 32 - pre.length - 8 - (sealedZeros op n).1.length = 0 by omega]
    simp [slice, ← h2]
  have hx : (keyed s op (req 0 (encParams op n pre post))).sess? .host 1 = some { sess .owner with kEnc := zs 32 } := rfl
  have ht : (tagFor op (req 0 (encParams op n pre post))).opcode.toNat = op := by simp [tagFor]; omega
  have hreq : (tagFor op (req 0 (encParams op n pre post))).req = req 0 (encParams op n pre post) := rfl
  have hp : (req 0 (encParams op n pre post)).params = encParams op n pre post := rfl
  have hq : (req 0 (encParams op n pre post)).port = .host := rfl
  have hs : (req 0 (encParams op n pre post)).session = 1 := rfl
  have ho := gcmOpen_seal (zs 32) (toLe 2 1 ++ [0x00, 0x00] ++ toLe 8 1) ((reqBytes op (req 0 (zs n)) 0).take 20) (zs 32) rfl rfl
  have hd : ((keyed s op (req 0 (encParams op n pre post))).decrypt (tagFor op (req 0 (encParams op n pre post))) pre.length 32).map
      Prod.fst = some (zs 32) := by
    unfold State.decrypt
    simp only [hreq, hq, hs, hx, ht, hp, f1, f2, f3]
    rw [if_neg (by decide)]
    rw [show (sess Role.owner).echo = 0 from rfl, header_of_length op 0 _ _ hz]
    rw [show toLe 2 (sess Role.owner).num.toNat ++ [0x00, 0x00] ++ toLe 8 1 = toLe 2 1 ++ [0x00, 0x00] ++ toLe 8 1 from rfl]
    rw [sealedZeros, ho]
    rfl
  obtain ⟨⟨m, s1⟩, h, rfl⟩ := Option.map_eq_some_iff.1 hd
  exact ⟨s1, h⟩

theorem keyed_who (s : State) (op : Nat) (p : List Byte) :
    (keyed s op (req 0 p)).who (req 0 p) = { role := .owner, slot := 1, feats := offeredWord } := rfl
theorem keyed_crypt (s : State) (op : Nat) (p : List Byte) : ((keyed s op (req 0 p)).who (req 0 p)).has fCRYPT = true := by
  rw [keyed_who]; decide
theorem keyed_delivery (s : State) (op : Nat) (p : List Byte) :
    (keyed s op (req 0 p)).deliverySession ((keyed s op (req 0 p)).who (req 0 p)) = false := by
  rw [keyed_who]; simp [State.deliverySession]
theorem req_here (s : State) (op : Nat) (p : List Byte) : s.forWorker op (req 0 p) = false := by
  unfold State.forWorker; rw [show (req 0 p).target = 0 from rfl]; rfl

/-! ### Reads at a fixed count, EAVE, calibration and NV -/

theorem witness_fixedReads :
    Sent live .service cmdCalRead (oid 0 cAIN 0 0) [] ∧ Sent live .watch cmdAlarmList (oid 0 cPOINT 0 0) [1, 0, 0]
    ∧ Sent live .owner cmdLogRead 0 [0, 0, 1] ∧ Sent live .owner cmdGutterRead 0 [0, 0, 1] ∧ Sent live .owner cmdPairStatus 0 []
    ∧ Sent live .owner cmdRingStatus 0 [] ∧ Sent live .owner cmdMatrixRead 0 [17, 1] ∧ Sent live .owner cmdAttest 0 (zs 16)
    ∧ Sent live .owner cmdAgingRead (oid 0 cISLAND 0 0) [] ∧ Sent live .owner cmdResetCountersRead 0 [] := by
  refine ⟨?_, ?_, ?_, ?_, ?_, ?_, ?_, ?_, ?_, ?_⟩ <;> exact sent_of (by decide)

theorem witness_eaveCommands :
    Sent live .owner cmdChargerSet 0 [4, 2] ∧ Sent live .owner cmdBackupEventsRead 0 [0] ∧ Sent live .owner cmdBackupEventsRead 0 [1] :=
  ⟨sent_of (by decide), sent_of (by decide), sent_of (by decide)⟩

/-- live with AIN channel 0 in a mode. -/
def liveMode (m : Nat) : State := liveWith [(cAIN * 1048576 + 0x10, m)]

theorem witness_calibrations :
    Sent (liveMode 8) .service cmdCalZero (oid 0 cAIN 0 0) [64] ∧ Sent (liveMode 8) .service cmdCalSpan (oid 0 cAIN 0 0) [1, 0, 0, 0, 1] :=
  ⟨sent_of (by decide), sent_of (by decide)⟩

/-- The operands of an unlock record of this node, with a signature. -/
def unlockParams : List Byte := toLe 4 Config.serial.toNat ++ zs 112

/-- DEBUG_UNLOCK passes its checks where the record's signature verifies, which the model leaves open. -/
theorem witness_debugUnlock (h : Config.unlockSigned (slice unlockParams 0 52) (slice unlockParams 52 64) = true) :
    Sent (liveMaint 2) .service cmdDebugUnlock 0 unlockParams := by
  have hs : leAt unlockParams 0 4 = Config.serial.toNat := by
    rw [leAt, unlockParams, slice_toLe, leNat_toLe, Nat.mod_eq_of_lt]; exact Config.serial.isLt
  have hlen : lenIs 116 (req 0 unlockParams) = true := by simp [lenIs, req, unlockParams, zs]
  refine ⟨⟨by decide, by decide, rfl, rfl, rfl⟩,
    passes_of rfl (by with_unfolding_all rfl) (by rfl) (by with_unfolding_all rfl) (by with_unfolding_all rfl) ?_, .inl (by with_unfolding_all rfl)⟩
  show (if ¬ lenIs 116 (req 0 unlockParams) then some Status.badParam else if (2 : Nat) ≠ 2 then some .badState
    else if leAt unlockParams 0 4 ≠ Config.serial.toNat ∨ ¬ Config.unlockSigned (slice unlockParams 0 52) (slice unlockParams 52 64) = true then
      some .authFail else none) = none
  rw [hs, h, if_neg (not_not.2 hlen), if_neg (by decide), if_neg (by simp)]

set_option maxRecDepth 20000 in
theorem witness_nvCommands :
    Sent live .owner cmdGutterSave 0 [] ∧ Sent live .owner cmdKeyRetire 0 [5] ∧ Sent live .owner cmdConsentIssue 0 [0, 1, 1, 1, 0]
    ∧ Sent (liveImage 256) .service cmdImageVerify 0 [] ∧ Sent live .service cmdImageBegin 0 [1, 0, 0x10, 0, 0]
    ∧ Sent (liveImage 0) .service cmdImageBlock 0 (zs 260) ∧ (liveImage 0).transfer.isSome = true :=
  ⟨sent_of (by decide), sent_of (by decide), sent_of (by decide), sent_of (by decide), sent_of (by decide), sent_of (by decide), rfl⟩

/-- KEY_LOAD of OWNER slot 2 with an encrypted key. -/
theorem witness_keyLoad : ∃ r t s1, (keyed live 0x0910 r).Runs cmdKeyLoad r t
    ∧ (keyed live 0x0910 r).decrypt t 1 (keyLen (byteAt r.params 0)) = some (zs 32, s1) := by
  obtain ⟨s1, h⟩ := decrypt_encParams live 0x0910 57 [2#8] [] (by decide) rfl
  have hl := encParams_length 0x0910 57 [2#8] []
  have hb : byteAt (encParams 0x0910 57 [2#8] []) 0 = 2 := rfl
  generalize encParams 0x0910 57 [2#8] [] = p at *
  refine ⟨req 0 p, tagFor 0x0910 (req 0 p), s1, ⟨⟨by with_unfolding_all rfl, by with_unfolding_all rfl, rfl, rfl, rfl⟩,
    passes_of rfl (by with_unfolding_all rfl) (by rfl) (keyed_crypt ..) (keyed_delivery ..) ?_, .inl (req_here ..)⟩, ?_⟩
  · show need (decide (byteAt p 0 ≤ 26) && byteAt p 0 != 24 && byteAt p 0 != 25 && lenIs (25 + keyLen (byteAt p 0)) (req 0 p)) = none
    rw [hb]; simp [lenIs, req, hl, keyLen, need]
  · show (keyed live 0x0910 (req 0 p)).decrypt _ 1 (keyLen (byteAt p 0)) = _
    rw [hb]; exact h

theorem witness_resetCommands :
    (Sent live .service cmdImageActivate 0 [1] ∧ live.nvBoot = true) ∧ Sent live .owner cmdNodeResetWarm 0 [0]
    ∧ Sent live .owner cmdNodeResetPowerOn 0 [1] := ⟨⟨sent_of (by decide), rfl⟩, sent_of (by decide), sent_of (by decide)⟩

/-- live with the island of LEDGER relocking. -/
def liveRelock : State := { live with clk := { live.clk with islands := [(2, { Island.locked with state := 2 })] } }

theorem witness_diagCommands :
    Sent live .owner cmdBlockResetGraceful 0 [16, 0, 0xE8, 3]
    ∧ (Sent live .owner cmdBlockResetImmediate 0 [16, 1, 0, 0] ∧ live.blockWaits 16 = false ∧ live.blockInReset 16 = false)
    ∧ (Sent liveRelock .owner cmdBlockResetImmediate 0 [16, 1, 0, 0] ∧ liveRelock.blockWaits 16 = true)
    ∧ Sent live .owner cmdSelftest 0 [2, 0]
    ∧ (Sent live .owner cmdIslandRate (oid 0 cISLAND 6 0) [1] ∧ (live.islandSt 6).rate ≠ 1)
    ∧ (Sent live .owner cmdIslandRate (oid 0 cISLAND 6 0) [0] ∧ (live.islandSt 6).rate = 0 ∧ live.clk.rateReqs = [])
    ∧ Sent live .owner cmdDomainSetOff (oid 0 cDOMAIN 8 0) [0] ∧ Sent live .owner cmdDomainSetOn (oid 0 cDOMAIN 8 0) [1] :=
  ⟨sent_of (by decide), ⟨sent_of (by decide), by decide, by decide⟩, ⟨sent_of (by decide), by decide⟩, sent_of (by decide),
    ⟨sent_of (by decide), by decide⟩, ⟨sent_of (by decide), by decide, rfl⟩, sent_of (by decide), sent_of (by decide)⟩

/-! ### Links and workers -/

/-- live with the ridge link trained. -/
def liveTrained : State := { live with ridge := { live.ridge with trained := true } }

theorem witness_pairBind : ∃ s r t s1, s = keyed liveTrained 0x0700 r ∧ s.Runs cmdPairBind r t
    ∧ s.decrypt t 4 32 = some (zs 32, s1) := by
  obtain ⟨s1, h⟩ := decrypt_encParams liveTrained 0x0700 60 [7#8, 0#8, 0#8, 0#8] [] (by decide) rfl
  have hl := encParams_length 0x0700 60 [7#8, 0#8, 0#8, 0#8] []
  generalize encParams 0x0700 60 [7#8, 0#8, 0#8, 0#8] [] = p at *
  refine ⟨_, req 0 p, tagFor 0x0700 (req 0 p), s1, rfl, ⟨⟨by with_unfolding_all rfl, by with_unfolding_all rfl, rfl, rfl, rfl⟩,
    passes_of rfl (by with_unfolding_all rfl) (by rfl) (keyed_crypt ..) (keyed_delivery ..) ?_, .inl (req_here ..)⟩, h⟩
  have h60 : lenIs 60 (req 0 p) = true := by simp [lenIs, req, hl]
  show (if ¬ lenIs 60 (req 0 p) = true then some Status.badParam else _) = none
  rw [h60]
  with_unfolding_all rfl

theorem witness_ringAdmit : ∃ r t s1, (keyed liveRing 0x0801 r).Runs cmdRingAdmit r t
    ∧ (keyed liveRing 0x0801 r).decrypt t 1 32 = some (zs 32, s1) := by
  obtain ⟨s1, h⟩ := decrypt_encParams liveRing 0x0801 62 [1#8] [7#8, 0#8, 0#8, 0#8, 1#8] (by decide) rfl
  have hl := encParams_length 0x0801 62 [1#8] [7#8, 0#8, 0#8, 0#8, 1#8]
  have hb : byteAt (encParams 0x0801 62 [1#8] [7#8, 0#8, 0#8, 0#8, 1#8]) 0 = 1 := rfl
  have h1 : (sealedZeros 0x0801 62).1.length = 32 := gcmCrypt_length _ _ _ rfl rfl
  have h2 : (sealedZeros 0x0801 62).2.length = 16 := gcmTag_length _ _ _ _ rfl rfl
  have hs : ∀ k n, slice (encParams 0x0801 62 [1#8] [7#8, 0#8, 0#8, 0#8, 1#8]) (57 + k) n = slice [7#8, 0#8, 0#8, 0#8, 1#8] k n := by
    intro k n
    rw [encParams, slice_append_right _ _ _ _ (by simp; omega), slice_toLe_skip _ _ _ _ _ (by simp; omega),
      slice_append_right _ _ _ _ (by simp; omega), slice_append_right _ _ _ _ (by simp; omega)]
    rw [h1, h2, show [1#8].length = 1 from rfl, show 57 + k - 1 - 8 - 32 - 16 = k by omega]
  have ha : leAt (encParams 0x0801 62 [1#8] [7#8, 0#8, 0#8, 0#8, 1#8]) 57 4 = 7 := by rw [leAt, hs 0 4]; rfl
  have hi : byteAt (encParams 0x0801 62 [1#8] [7#8, 0#8, 0#8, 0#8, 1#8]) 61 = 1 := by rw [byteAt_eq, leAt, hs 4 1]; rfl
  generalize encParams 0x0801 62 [1#8] [7#8, 0#8, 0#8, 0#8, 1#8] = p at *
  refine ⟨req 0 p, tagFor 0x0801 (req 0 p), s1, ⟨⟨by with_unfolding_all rfl, by with_unfolding_all rfl, rfl, rfl, rfl⟩,
    passes_of rfl (by with_unfolding_all rfl) (by rfl) (keyed_crypt ..) (keyed_delivery ..) ?_, .inl (req_here ..)⟩, h⟩
  have hal : admitList (req 0 p) = [(7#32, 1)] := by
    simp only [admitList, req, hb, List.range_one, List.map_cons, List.map_nil, Nat.mul_zero, Nat.add_zero, ha, hi]
  show State.admitCheck (keyed liveRing 0x0801 (req 0 p)) (req 0 p) = none
  unfold State.admitCheck
  simp only [hal]
  rw [if_neg (by simp [req, hb, hl])]
  with_unfolding_all rfl

/-- liveRing with both of its segments down. -/
def closedRing : State := { liveRing with ring := { liveRing.ring with trainedA := false, trainedB := false } }

/-- Encrypted parameters whose message number is not the session's next. -/
theorem witness_unopened :
    (Sent liveTrained .owner cmdPairBind 0 ([7, 0, 0, 0] ++ zs 56)
      ∧ (asked liveTrained .owner cmdPairBind (req 0 ([7, 0, 0, 0] ++ zs 56))).decrypt (tagFor 0x0700 (req 0 ([7, 0, 0, 0] ++ zs 56))) 4 32 = none)
    ∧ (Sent liveRing .owner cmdRingAdmit 0 ([1] ++ zs 56 ++ [7, 0, 0, 0, 1])
      ∧ (asked liveRing .owner cmdRingAdmit (req 0 ([1] ++ zs 56 ++ [7, 0, 0, 0, 1]))).decrypt
          (tagFor 0x0801 (req 0 ([1] ++ zs 56 ++ [7, 0, 0, 0, 1]))) 1 32 = none)
    ∧ (Sent live .owner cmdKeyLoad 0 (2 :: zs 56)
      ∧ (asked live .owner cmdKeyLoad (req 0 (2 :: zs 56))).decrypt (tagFor 0x0910 (req 0 (2 :: zs 56))) 1 32 = none) :=
  ⟨⟨sent_of (by decide), by decide⟩, ⟨sent_of (by decide), by decide⟩, sent_of (by decide), by decide⟩

theorem witness_linkedCommands :
    (Sent liveRing .owner cmdRingScan 0 [] ∧ (asked liveRing .owner cmdRingScan (req 0 [])).ringUp (asked liveRing .owner cmdRingScan (req 0 [])).ringPort = true)
    ∧ (Sent closedRing .owner cmdRingScan 0 [] ∧ closedRing.ringUp closedRing.ringPort = false)
    ∧ Sent liveRing .owner cmdRingExpel (oid 5 cRINGNODE 0 0) [] :=
  ⟨⟨sent_of (by decide), rfl⟩, ⟨sent_of (by decide), rfl⟩, sent_of (by decide)⟩

/-- liveRing under a matrix that takes every right on a worker's inputs from the owner. -/
def deniedRing : State :=
  { liveRing with peg := { liveRing.peg with
      matrix := (List.range 16).map (fun g => (96 * (classRow cDIN).getD 0 + 6 * g + roleNo .owner, 0#4)) } }
/-- The repeat of a read whose original ended TIMEOUT under ring number 77. -/
def carriedRing : State := { liveRing with ring := { liveRing.ring with carried := [{ port := .host, session := 1, seq := 1, ringSeq := 77 }] } }

theorem witness_workerCommands :
    (∀ s0 ∈ [liveRing, carriedRing, deniedRing], let r := req (oid 5 cDIN 0 0) []
     let s := asked s0 .owner cmdGetAttr r
     requestOf (.getAttr r) = some (cmdGetAttr, r) ∧ s.Takes cmdGetAttr r (tagFor 0x0200 r) ∧ s.Passes cmdGetAttr (tagFor 0x0200 r)
     ∧ oidNode r.target ≠ 0 ∧ cmdGetAttr.op ≠ 0x0802 ∧ s.staging cmdGetAttr.op r = false ∧ s.isWorker = false
     ∧ rowLat cmdGetAttr.op r ≠ .p ∧ s.isStandby = false)
    ∧ (let r := req (oid 5 cDIN 0 0) []
       liveRing.carried? r = none ∧ (carriedRing.carried? r).isSome = true
       ∧ (let s := asked liveRing .owner cmdGetAttr r; s.accessOk cmdGetAttr (s.who r) r = true)
       ∧ (let s := asked carriedRing .owner cmdGetAttr r; s.accessOk cmdGetAttr (s.who r) r = true)
       ∧ (let s := asked deniedRing .owner cmdGetAttr r; s.accessOk cmdGetAttr (s.who r) r = false))
    ∧ (let r := req (oid 5 cPOINT 0 0x20) [5, 0]
       let r2 := req (oid 5 cDIN 0 0x10) [1]
       r ≠ r2 ∧ (let s := asked liveRing .owner cmdSetAttr r2
         s.Takes cmdSetAttr r2 (tagFor 0x0201 r2) ∧ s.Passes cmdSetAttr (tagFor 0x0201 r2) ∧ oidNode r2.target ≠ 0
         ∧ s.staging cmdSetAttr.op r2 = false ∧ s.isWorker = false ∧ rowLat cmdSetAttr.op r2 = .p)) := by
  refine ⟨fun s0 h0 => ?_, by decide, by decide, takes_of (by decide), by unfold State.Passes; decide, by decide, by decide, by decide, by decide⟩
  have hs : ∀ s0 ∈ [liveRing, carriedRing, deniedRing],
      takesB (asked s0 .owner cmdGetAttr (req (oid 5 cDIN 0 0) [])) cmdGetAttr (req (oid 5 cDIN 0 0) []) (tagFor 0x0200 (req (oid 5 cDIN 0 0) [])) = true
      ∧ (asked s0 .owner cmdGetAttr (req (oid 5 cDIN 0 0) [])).verdict cmdGetAttr (tagFor 0x0200 (req (oid 5 cDIN 0 0) [])) = none
      ∧ (asked s0 .owner cmdGetAttr (req (oid 5 cDIN 0 0) [])).staging cmdGetAttr.op (req (oid 5 cDIN 0 0) []) = false
      ∧ (asked s0 .owner cmdGetAttr (req (oid 5 cDIN 0 0) [])).isWorker = false
      ∧ (asked s0 .owner cmdGetAttr (req (oid 5 cDIN 0 0) [])).isStandby = false := by decide
  obtain ⟨h1, h2, h3, h4, h5⟩ := hs s0 h0
  exact ⟨rfl, takes_of h1, h2, by decide, by decide, h3, h4, by decide, h5⟩

/-! ### The checks in their order -/

/-- A request that the role may not send, one whose object is sealed, one that needs an encrypted session, one whose
parameter is out of range. -/
theorem witness_checksInOrder :
    (let r := req (oid 0 cPOINT 0 0x20) [0, 1, 0]
     let s := asked live .owner cmdSeal r
     s.Takes cmdSeal r (tagFor 0x0902 r) ∧ (s.asAdmitted (tagFor 0x0902 r)).accessOk cmdSeal (s.who r) r = false)
    ∧ (let r := req (oid 0 cPOINT 0 0x20) [5, 0]
       let s : State := asked { live with peg := { live.peg with seals := [(0, { cls := cPOINT, first := 0, count := 1, scope := 0, attr := 0x20, broken := false })] } } .owner cmdSetAttr r
       s.Takes cmdSetAttr r (tagFor 0x0201 r) ∧ (s.asAdmitted (tagFor 0x0201 r)).accessOk cmdSetAttr (s.who r) r = true ∧ cmdSetAttr.sealed s (s.who r) r = true)
    ∧ (let r := req 0 (5#8 :: zs 56)
       let s : State := { live with comm := { live.comm with sessions := [{ sess .owner with features := 1 }], tags := [tagFor 0x0910 r] } }
       s.Takes cmdKeyLoad r (tagFor 0x0910 r) ∧ (s.asAdmitted (tagFor 0x0910 r)).accessOk cmdKeyLoad (s.who r) r = true ∧ cmdKeyLoad.sealed s (s.who r) r = false
         ∧ cmdKeyLoad.priv s (s.who r) r = true ∧ (s.who r).has fCRYPT = false)
    ∧ (let r := req 0 [7]
       let s := asked live .owner cmdWeekdaySet r
       s.Takes cmdWeekdaySet r (tagFor 0x0504 r) ∧ (s.asAdmitted (tagFor 0x0504 r)).accessOk cmdWeekdaySet (s.who r) r = true
         ∧ cmdWeekdaySet.sealed s (s.who r) r = false ∧ (cmdWeekdaySet.priv s (s.who r) r = true → (s.who r).has fCRYPT = true)
         ∧ s.deliverySession (s.who r) = false ∧ s.Here cmdWeekdaySet r ∧ cmdWeekdaySet.check s (s.who r) r = some .badParam) := by
  refine ⟨⟨takes_of (by decide), by decide⟩, ⟨takes_of (by decide), by decide, by decide⟩,
    ⟨takes_of (by decide), by decide, by decide, by decide, by decide⟩,
    takes_of (by decide), by decide, by decide, by decide, by decide, .inl (by decide), by decide⟩

/-- A denial of each latency class. -/
theorem witness_denial :
    (let r := req 0 [1]
     let s := asked live .owner cmdPing r
     s.Takes cmdPing r (tagFor 0x0105 r) ∧ s.verdict cmdPing (tagFor 0x0105 r) = some .badParam ∧ s.latOf cmdPing.op r = .f)
    ∧ (let r := req 0 [7]
       let s := asked live .owner cmdWeekdaySet r
       s.Takes cmdWeekdaySet r (tagFor 0x0504 r) ∧ s.verdict cmdWeekdaySet (tagFor 0x0504 r) = some .badParam
         ∧ s.latOf cmdWeekdaySet.op r = .p ∧ s.isWorker = false)
    ∧ (let r := req 0 [24]
       let s := asked live .owner cmdKeyRetire r
       s.Takes cmdKeyRetire r (tagFor 0x0911 r) ∧ s.verdict cmdKeyRetire (tagFor 0x0911 r) = some .badParam ∧ s.latOf cmdKeyRetire.op r = .n)
    ∧ (let r := req 0 []
       let s := asked live .owner cmdRingScan r
       s.Takes cmdRingScan r (tagFor 0x0800 r) ∧ s.verdict cmdRingScan (tagFor 0x0800 r) = some .badState ∧ s.latOf cmdRingScan.op r = .l) := by
  refine ⟨⟨takes_of (by decide), by decide, by decide⟩, ⟨takes_of (by decide), by decide, by decide, by decide⟩,
    ⟨takes_of (by decide), by decide, by decide⟩, takes_of (by decide), by decide, by decide⟩

/-- SEQ one above, two above, 0, and 64 below the highest admitted; with a free slot and without. -/
theorem witness_seqRules :
    (let x : Sess := { sess .owner with high := 100 }
     let s : State := { live with comm := { live.comm with sessions := [x] } }
     let r (n : Word) : Req := { req 0 [] with seq := n }
     s.sess? .host 1 = some x ∧ x.high.toNat < 0xFFFFFFFF ∧ ((r 101).seq.toNat = x.high.toNat + 1 ∧ s.hasSlot 0x0105 (r 101) = true)
       ∧ x.high.toNat + 1 < (r 102).seq.toNat ∧ (r 0).seq = 0 ∧ (0 < (r 36).seq.toNat ∧ (r 36).seq.toNat + 64 ≤ x.high.toNat))
    ∧ (let x : Sess := { sess .owner with high := 100 }
       let s : State := { live with comm := { live.comm with
         sessions := [x], tags := (List.range 64).map (fun k => tagFor 0x0105 { req 0 [] with seq := BitVec.ofNat 32 (k + 1) }) } }
       s.sess? .host 1 = some x ∧ s.hasSlot 0x0105 { req 0 [] with seq := 101 } = false) := by decide

theorem witness_requestBytes : (0x0B06 : Nat) < 65536 ∧ (req 0 (zs 4096)).params.length ≤ 4096 := by
  simp only [req, zs, List.length_replicate]; omega

/-! ### At the peg -/

/-- prov0 with these configured values. -/
def provWith (c : Sparse Nat) : Prov := { prov0 with st := { prov0.st with cfg := c } }

theorem witness_appliedSet :
    (let r := req (oid 0 cPOINT 0 0x20) [5, 0]
     oidNode r.target = 0 ∧ sealedIn prov0.st.seals (oidClass r.target) (oidIndex r.target) (oidAttr r.target) = false
     ∧ nodeLocalAttr (oidClass r.target) (oidIndex r.target) (oidAttr r.target) = false
     ∧ setEffect (oidClass r.target) (oidIndex r.target) (oidAttr r.target) (setValue r) = none
     ∧ (oidClass r.target = cLOG → oidAttr r.target ≠ 0x20)
     ∧ live.objectOk (writeCfg prov0.st.cfg (oidClass r.target) (oidIndex r.target) (oidAttr r.target) (setValue r))
        (oidClass r.target) (oidIndex r.target) (oidAttr r.target) = true)
    ∧ (let r := req (oid 0 cPOINT 0 0x20) [5, 0]
       oidNode r.target = 0 ∧ sealedIn [(0, { cls := cPOINT, first := 0, count := 1, scope := 0, attr := 0x20, broken := false })]
         (oidClass r.target) (oidIndex r.target) (oidAttr r.target) = true) := by decide

/-- A point that is active and unacknowledged in group 3. -/
def raised : PointSt := { PointSt.idle with active := true, unack := true }
def provRaised : Prov :=
  { prov0 with st := { prov0.st with
      cfg := [(cPOINT * 1048576 + 256 * 7 + 0x32, 3)], engine := { Engine.idle with points := [(7, raised)] } } }

theorem witness_ackAndShelving :
    (oidClass (oid 0 cPOINT 7 0) = cPOINT ∧ (provRaised.pt (oidIndex (oid 0 cPOINT 7 0))).unack = true)
    ∧ (oidClass (oid 0 cGROUP 3 0) = cGROUP ∧ groupMembers provRaised.st.cfg (oidIndex (oid 0 cGROUP 3 0)) = [7] ∧ (provRaised.pt 7).unack = true)
    ∧ (let d := prov0.c cPOINT 7 0x24
       prov0.c cPOINT (oidIndex (oid 0 cPOINT 7 0)) 0x24 < leAt (toLe 2 (d + 1)) 0 2 ∧ leAt (toLe 2 d) 0 2 ≤ prov0.c cPOINT 7 0x24) := by decide

/-- Station 2 enabled and called with its timer running; roster entry 1 names it, entry 0 is empty. -/
def provCall : Prov :=
  { prov0 with st := { prov0.st with
      cfg := [(cSTATION * 1048576 + 256 * 2 + 0x10, 1), (cROSTER * 1048576 + 256 + 0x10, 2)],
      engine := { Engine.idle with stations := [(2, { StationSt.idle with called := true, dmStart := some 90 })] } } }

theorem witness_callOutActions :
    prov0.c cROSTER (oidIndex (oid 0 cROSTER 0 0)) 0x10 = 0xFF ∧ provCall.c cROSTER (oidIndex (oid 0 cROSTER 1 0)) 0x10 ≠ 0xFF
    ∧ (provCall.enabled (oidIndex (oid 0 cSTATION 2 0)) = true ∧ (provCall.station (oidIndex (oid 0 cSTATION 2 0))).called = true)
    ∧ ((prov0.station (oidIndex (oid 0 cSTATION 2 0))).called = false ∧ prov0.st.engine.accepted ≠ some prov0.frame)
    ∧ ((prov0.station 2).dmStart = none ∧ byteAt [0] 0 ≠ 1 ∧ byteAt [2] 0 ≤ 2)
    ∧ ((provCall.station 2).dmStart ≠ none ∧ byteAt [1] 0 = 1) := by decide

/-- A state whose clock is in summer time, and one with a slew under way. -/
def liveDst (b : Bool) : State := { live with eave := { live.eave with dst := b, date := { live.eave.date with hour := 12 } } }
def liveSlew : State := { live with eave := { live.eave with slew := 5, slewOn := true } }

theorem witness_timeCommands :
    ((liveDst true).eaveUnder prov0).dst = true ∧ ((liveDst false).eaveUnder prov0).dst = false ∧ (liveSlew.eaveUnder prov0).slew ≠ 0
    ∧ (dateOk (liveDst true).eave.date = true ∧ (liveDst true).eave.dst = true ∧ 3600 ≤ dateSecs (liveDst true).eave.date)
    ∧ ((live.eaveUnder prov0).slew = 0 ∧ shiftOf (req 0 [0, 0, 0, 0]) = 0)
    ∧ timeOk (live.eaveUnder prov0).dst [0x59, 0x59, 0x23, 0x31, 0x12, 0x99, 0x23] = true
    ∧ dateOfBcd ([0x59, 0x59, 0x23, 0x31, 0x12, 0x99, 0x23].map (BitVec.ofNat 8))
        = some { year := 2399, month := 12, day := 31, hour := 23, min := 59, sec := 59 }
    ∧ (dateOk live.eave.date = true ∧ live.eave.dst = false ∧ dateSecs live.eave.date + 3600 < calendarEnd) := by decide

/-- The last second of the calendar. -/
theorem witness_calendar :
    dateOk { year := 2399, month := 12, day := 31, hour := 23, min := 59, sec := 59 } = true ∧ calendarEnd - 1 < calendarEnd
    ∧ dateSecs { year := 2399, month := 12, day := 31, hour := 23, min := 59, sec := 59 } = calendarEnd - 1
    ∧ (dateOfBcd [0, 0, 0, 0x29, 0x02, 0x24, 0x20]).isSome = true
    ∧ ({ Eave.cold with date := { year := 2399, month := 12, day := 31, hour := 23, min := 59, sec := 59 } } : Eave).date
        = { year := 2399, month := 12, day := 31, hour := 23, min := 59, sec := 59 } := by decide

theorem witness_matrixWrite :
    BitVec.ofNat 32 (leAt [2#8, 0#8, 0#8, 0#8] 0 4) ≠ prov0.st.gen
    ∧ (BitVec.ofNat 32 (leAt ([1, 0, 0, 0, 1, 0x20] ++ zs 48) 0 4) = prov0.st.gen ∧ matrixWriteOk ([1, 0, 0, 0, 1, 0x20] ++ zs 48) = true
      ∧ classRow (byteAt ([1, 0, 0, 0, 1, 0x20] ++ zs 48) 5) ≠ none) := by decide

/-- A seal of attribute 0x20 of POINT 0. -/
def seal0 (broken : Bool) : Seal := { cls := cPOINT, first := 0, count := 1, scope := 0, attr := 0x20, broken := broken }

theorem witness_seals :
    (prov0.st.seals.find? (fun e => sameSeal e.2 (sealOf (req (oid 0 cPOINT 0 0x20) [0, 1, 0]))) = none ∧ freeSeal prov0.st.seals = some 0
      ∧ sealOk (req (oid 0 cPOINT 0 0x20) [0, 1, 0]) = true)
    ∧ (([(4, seal0 false)] : Sparse Seal).find? (fun e => sameSeal e.2 (sealOf (req (oid 0 cPOINT 0 0x20) [0, 1, 0]))) = some (4, seal0 false)
      ∧ (seal0 false).broken = false)
    ∧ (([(4, seal0 false)] : Sparse Seal).find? (fun e => e.1 == leAt [4#8, 0#8, 0#8] 0 2) = some (4, seal0 false) ∧ byteAt [4, 0, 0] 2 = 0)
    ∧ (([(4, seal0 false)] : Sparse Seal).find? (fun e => e.1 == leAt [4#8, 0#8, 1#8] 0 2) = some (4, seal0 false) ∧ byteAt [4, 0, 1] 2 = 1) := by
  decide

theorem witness_logAndPair : live.twinSynced = false ∧ livePair.twinSynced = true ∧ (∀ c, Effect.handover c ∉ prov0.effects)
    ∧ live.pair.bound = false := ⟨by decide, by decide, fun c h => by simp [prov0] at h, by decide⟩

theorem witness_invariants : State.reset.ledgerFits ∧ (∃ t, step State.reset = .next t) ∧ State.reset.countersFit :=
  ⟨⟨by decide, by decide⟩, ⟨_, rfl⟩, by unfold State.countersFit; decide⟩

theorem witness_emptyQueue : (live.pending = [] ∧ live.alive = true) ∧ (State.reset.pending = [] ∧ State.reset.alive = false) := by decide

/-! ### The host port and the UARTs -/

/-- A reply to a PING on the host port. -/
def reply0 : Packet :=
  { session := 0, shown := 0, seq := 1, status := .done, prov := false, dup := false, exact := true, standby := false, more := false,
    event := false, frame := 100, exec := 13, params := [0x0B, 0, 0, 0], tagKey := [], encKey := [], holdsTag := true, tagNo := 0, frontEnd := false }
def liveOut : State := live.enqueue .host reply0

/-- live with a UART's state. -/
def liveUart (v : Uart) (x : UartSt) : State := live.modUart v (fun _ => x)

theorem witness_hostPort :
    (live.portLive .host = true ∧ live.hostTxn.hrdy = true)
    ∧ (let s : State := (List.range 4).foldl (fun s _ => s.feAnswer .host 0 1 .badParam []) live
       s.portLive .host = true ∧ s.hostTxn.hrdy = false)
    ∧ (live.hostTxn.hrdy = true ∧ leAt [0#8, 0#8] 0 2 ≠ crc16 [])
    ∧ (liveOut.hostOn = true ∧ liveOut.outQ .host = [reply0]) ∧ (live.hostOn = true ∧ live.outQ .host = [])
    ∧ (0xFF#8).toNat ≠ 8 ∧ (5#8).toNat > 4 := by decide

set_option maxRecDepth 20000 in
theorem witness_uartCharacters :
    (live.uartOn .u0 = true ∧ (live.uart .u0).rx.length + 1 < triggerLevel (live.uartCfg .u0 1) ∧ (live.uart .u0).rx.length < 128
      ∧ (5#8 : Byte) ≠ delimiter .u0)
    ∧ ((liveUart .u0 { UartSt.reset with rx := zs 128 }).uartOn .u0 = true
      ∧ 128 ≤ ((liveUart .u0 { UartSt.reset with rx := zs 128 }).uart .u0).rx.length)
    ∧ ((live.uartOn .u2 = true) ∧ ¬ (Uart.u2 = .u2 ∧ live.panelMode = true)) := by decide

/-- Active for five frames, with the drivers waiting for the twin's release since frame 80. -/
def waiting (n : Nat) : State :=
  { live with hw := { live.hw with waitRelease1 := some (BitVec.ofNat 32 n), waitRelease2 := some (BitVec.ofNat 32 n) } }

theorem witness_uartFrames :
    (live.slotsFull .u0 = false ∧ (let s : State := (List.range 4).foldl (fun s _ => s.feAnswer .u0 0 1 .badParam []) live
       s.slotsFull .u0 = true))
    ∧ (live.uartOn .u0 = true ∧ (live.uart .u0).spoiled = false ∧ (cobsEncode 3 (withCrc16 [])).length ≤ 4151)
    ∧ cobsDecode 3 [5#8, 1#8] = none
    ∧ (live.isActive = true ∧ frameGe live.clk.frameNo (80 + 20) = true ∧ (waiting 80).hw.waitRelease1 = some 80
      ∧ (waiting 80).hw.waitRelease2 = some 80) := by decide

/-! ### The bridge line, CAN and JTAG -/

def acnText : List Byte := sentence (ascii "BNACN,120000.00,SDX,3008,1,A,C")
def zdaText : List Byte := sentence (ascii "GPZDA,120000.00,01,06,2031,,")
def xyzText : List Byte := sentence (ascii "GPXYZ,1")

set_option maxRecDepth 20000 in
theorem witness_sentences :
    (live.bridgeOn = true ∧ live.isReady = true ∧ (live.uart .u1).spoiled = false ∧ live.pair.detached = false)
    ∧ (∃ fs, sentenceFields acnText = some fs ∧ sentenceType fs = ascii "ACN" ∧ acnTaken fs = true)
    ∧ sentenceFields (ascii "$BNACN,120000.00,SDX,3008,1,A,C*00") = none
    ∧ (∃ fs, sentenceFields xyzText = some fs ∧ sentenceType fs ≠ ascii "ACN" ∧ sentenceType fs ≠ ascii "ZDA")
    ∧ (∃ fs d, sentenceFields zdaText = some fs ∧ sentenceType fs = ascii "ZDA" ∧ zdaDate fs = some d ∧ live.dev 0x5E = 0) :=
  ⟨by decide, ⟨_, rfl, by decide, by decide⟩, by decide, ⟨_, rfl, by decide, by decide⟩, _,
    { year := 2031, month := 6, day := 1, hour := 12, min := 0, sec := 0 }, rfl, by decide, by decide, by decide⟩

/-- live with a controller's state. -/
def liveCan (x : CanSt) : State := live.modCan .can0 (fun _ => x)
def oldTrain : Train := { src := 3, num := 1, next := 1, data := [9], began := 12600000 - 1250000 }
def fullCan : CanSt := { CanSt.reset with state := 2, tec := 250, ackErrors := 16, lone := true, lastRetry := some 12599000, trains := [oldTrain] }

theorem witness_canControllers :
    ((liveCan fullCan).canLive .can0 = true ∧ 16 ≤ ((liveCan fullCan).can .can0).ackErrors ∧ ((liveCan fullCan).can .can0).state = 2
      ∧ 255 < ((liveCan fullCan).can .can0).tec + 8)
    ∧ ((live.can .can0).tec + 8 ≤ 255 ∧ (live.can .can0).ackErrors < 16 ∧ live.canLive .can0 = true ∧ (live.can .can0).recCount ≤ 127)
    ∧ (let x : CanSt := { fullCan with lastRetry := none }
       (liveCan x).canLive .can0 = true ∧ ((liveCan x).can .can0).lone = true ∧ ((liveCan x).can .can0).lastRetry = none)
    ∧ (((liveCan fullCan).can .can0).lastRetry = some 12599000 ∧ since (liveCan fullCan).clk.batten 12599000 < 1250000)
    ∧ (live.isSegment 0 = false ∧ isTimeLabel 0 = false)
    ∧ (let x : CanSt := { CanSt.reset with state := 3 }
       (liveCan x).canOn .can0 = true ∧ ((liveCan x).can .can0).state = 3) := by decide

/-- A segment's identifier for this node from address 3. -/
def segId : BitVec 29 := canId 4 1 96 3

theorem witness_canTrains :
    (live.canLive .can0 = true ∧ live.isSegment segId = true ∧ byteAt [0, 1, 1, 9] 0 = 0 ∧ 1 ≤ byteAt [0, 1, 1, 9] 2 ∧ byteAt [0, 1, 1, 9] 2 ≤ 61
      ∧ 3 + byteAt [0, 1, 1, 9] 2 ≤ ([0, 1, 1, 9] : List Byte).length
      ∧ ((live.canRx .can0).can .can0).trains.find? (fun t => t.src == BitVec.ofNat 7 (idSrc segId) && t.num == ([0, 1, 1, 9] : List Byte).getD 1 0) = none
      ∧ ((live.canRx .can0).can .can0).trains.length < 4)
    ∧ ((liveCan fullCan).canLive .can0 = true ∧ (liveCan fullCan).isSegment segId = true
      ∧ (((liveCan fullCan).canRx .can0).can .can0).trains.find? (fun t => t.src == BitVec.ofNat 7 (idSrc segId) && t.num == ([2, 1, 1, 9] : List Byte).getD 1 0)
          = some oldTrain ∧ byteAt [2, 1, 1, 9] 0 % 128 ≠ oldTrain.next)
    ∧ (((liveCan fullCan).can .can0).trains.find? (fun t => t.src == 3#7 && t.num == 1#8) = some oldTrain
      ∧ 1250000 ≤ since (liveCan fullCan).clk.batten oldTrain.began)
    ∧ (let s := liveWith [(cDEVICE * 1048576 + 0x5E, 1)]
       s.canLive .can0 = true ∧ s.dev 0x5E = 1 + canNo .can0 ∧ (byteAt [0, 0, 0, 1, 1, 0, 0, 0] 4).testBit 0 = true
         ∧ 8 ≤ ([0, 0, 0, 1, 1, 0, 0, 0] : List Byte).length) := by decide

def alf0 : Sentence := { kind := 0, point := 7, text := [] }
def frame0 : CanFrame := { ident := segId, payload := [1] }

theorem witness_transmissions :
    (live.uartOn .u0 = true ∧ live.ctsStops .u0 = false ∧ (live.enqueue .u0 reply0).outQ .u0 = [reply0])
    ∧ (let s : State := { liveWith [(cDEVICE * 1048576 + 0x57, 2 ^ 40)] with hw := live.hw }
       s.uartOn .u0 = true ∧ s.ctsStops .u0 = true)
    ∧ (let s : State := { live with hw := { live.hw with drive1 := true, sentences := [alf0] } }
       s.uartOn .u1 = true ∧ s.hw.drive1 = true ∧ s.hw.released1 = false ∧ s.hw.sentences = [alf0])
    ∧ ((liveCan { CanSt.reset with txq := [frame0] }).canLive .can0 = true
      ∧ nextFrame ((liveCan { CanSt.reset with txq := [frame0] }).can .can0).txq = some frame0)
    ∧ (let s : State := { live with pair := { live.pair with lastPegFrame := 100 }, peg := { live.peg with engine := provCall.st.engine } }
       s.isReady = true ∧ s.hundredth = true ∧ (s.stationSt 2).busy = true)
    ∧ (live.isReady = true ∧ live.hundredth = false) ∧ (liveWorker.isActive = false) := by decide

/-- live with the TAP running in a state. -/
def liveTap (t : Tap) : State := { live with hw := { live.hw with jtag := { Jtag.reset with trstHigh := true, tap := t, drShift := [true] } } }

theorem witness_jtag : ((liveTap .runTestIdle).tapHeld = false ∧ (liveTap .runTestIdle).maint.mode ≠ 1
      ∧ (liveTap .runTestIdle).maint.debugUnlocked = false ∧ 16 ≤ (16#5).toNat)
    ∧ ((liveTap .shiftDr).tapHeld = false ∧ (liveTap .shiftDr).hw.jtag.tap = .shiftDr) := by decide

/-! ### Time-driven events -/

/-- A session that has been silent for 700 s, one whose key slot is locked, one with an event waiting. -/
def oldSess (openS : Bool) : Sess :=
  { sess .owner with isOpen := openS, lastSeen := 12600000 - 700 * 12500000, openedAt := 12600000 - 12500000 }
def oldLive (openS : Bool) : State := { live with comm := { live.comm with sessions := [oldSess openS] } }
def event0 : Event := { kind := 1, object := 0, data := [], frame := 100 }
def eventSess : Sess := { sess .owner with evtQueue := [event0] }
def heldReply : Held := { port := .host, admitAt := 12599000, packet := { reply0 with session := 1 } }

theorem witness_sessionEvents :
    ((oldLive true).sessNum 1 = some (oldSess true) ∧ (oldSess true).isOpen = true ∧ (oldLive true).inFlight .host 1 = 0
      ∧ (oldLive true).dev 0x50 * Config.ticksPerSecond ≤ since (oldLive true).clk.batten (oldSess true).lastSeen)
    ∧ ((oldLive false).sessNum 1 = some (oldSess false) ∧ (oldSess false).isOpen = false ∧ (oldSess false).num ≠ 0
      ∧ (oldLive false).clockReached ((oldSess false).openedAt + BitVec.ofNat 40 Config.ticksPerSecond) = true)
    ∧ (let s : State := { live with comm := { live.comm with locks := [{ port := .host, key := 1, fails := 0, lockS := 60, locked := true, endsAt := 12600000 }] } }
       (s.lockOf .host 1).locked = true ∧ since s.clk.batten (s.lockOf .host 1).endsAt < 2 ^ 39)
    ∧ (let s : State := { live with comm := { live.comm with sessions := [sess .owner] } }
       s.sessNum 1 = some (sess .owner) ∧ s.sess? .host 1 = some (sess .owner) ∧ (sess .owner).evtQueue = [])
    ∧ (let s : State := { live with comm := { live.comm with sessions := [eventSess] } }
       s.sessNum 1 = some eventSess ∧ s.sess? .host 1 = some eventSess ∧ eventSess.evtQueue = [event0] ∧ eventSess.coalesced = []
         ∧ (eventSess.sent - 0).toNat < 16 ∧ event0.kind ≠ 10 ∧ s.eventFor eventSess event0.kind event0.object = false)
    ∧ (let x : Sess := { eventSess with eventMask := 1 }
       let s : State := { live with comm := { live.comm with sessions := [x] } }
       s.sessNum 1 = some x ∧ s.sess? .host 1 = some x ∧ x.evtQueue = [event0] ∧ x.coalesced = [] ∧ (x.sent - 0).toNat < 16
         ∧ event0.kind ≠ 10 ∧ s.eventFor x event0.kind event0.object = true)
    ∧ (let s : State := { live with comm := { live.comm with held := [heldReply] } }
       s.comm.held = [heldReply] ∧ heldReply.packet.session = 1 ∧ heldReply.port ∈ partnerPorts ∧ s.comm.tags = [])
    ∧ (let s : State := { liveMaint 1 with maint := { (liveMaint 1).maint with expiry := 0 } }
       s.inMaint = true ∧ secBefore s.secNow s.maint.expiry = false) := by decide

/-- A graceful reset of LEDGER'S block 16 that was asked for 1000 ticks ago with a second's timeout. -/
def asking (ms : Nat) : Req := req 0 ([16#8, 0#8] ++ toLe 2 ms)
def askedBlock (ms : Nat) : BlockReset := { block := 16, mode := 0, inReset := false, idle := false, completed := 0, req := asking ms }
def blockState (ms : Nat) : State :=
  { live with blocks := [askedBlock ms], comm := { live.comm with tags := [{ tagFor 0x0B00 (asking ms) with begun := true, admitAt := 12600000 - 12500 }] } }
/-- The same of the housekeeping block, with an earlier GUTTER_SAVE under way. -/
def busyBlock : State :=
  { blockState 1 with
    blocks := [{ askedBlock 1 with block := 2 }]
    comm := { live.comm with tags := [{ tagFor 0x0B00 (asking 1) with begun := true, no := 1 },
      { tagFor 0x0611 { req 0 [] with seq := 7 } with begun := true }] } }
def rate0 : RateReq := { island := 6, rate := 1, req := req 0 [1], frame := 99, begun := false }
def domain0 : DomainReq := { domain := 8, on := false, req := req 0 [0], frame := 99, due := true, begun := true }

theorem witness_diagEvents :
    ((blockState 1).gracefulOf 16 = some (askedBlock 1) ∧ (blockState 1).blockWaits 16 = false ∧ (blockState 1).blockInReset 16 = false
      ∧ (blockState 1).blockTags 16 (asking 1) = [])
    ∧ busyBlock.gracefulOf 2 = some { askedBlock 1 with block := 2 } ∧ busyBlock.blockTags 2 (asking 1) ≠ []
    ∧ (∃ t, (blockState 1).tag? (asking 1) = some t ∧ msTicks (leAt (asking 1).params 2 2) ≤ since (blockState 1).clk.batten t.admitAt)
    ∧ (∃ t, (blockState 2).tag? (asking 2) = some t ∧ since (blockState 2).clk.batten t.admitAt < msTicks (leAt (asking 2).params 2 2))
    ∧ askedBlock 1 ∈ (blockState 1).blocks
    ∧ (let b : BlockReset := { askedBlock 1 with inReset := true }
       let s : State := { blockState 1 with blocks := [b] }
       s.blocks = [b] ∧ b.block = 16 ∧ b.inReset = true ∧ (s.tag? b.req).isSome = true)
    ∧ (live.alive = true ∧ live.clk.running = true ∧ live.offset ≤ 115000 ∧ live.clk.rateReqs = [])
    ∧ (let s : State := { live with clk := { live.clk with rateReqs := [rate0] } }
       s.alive = true ∧ s.clk.running = true ∧ s.offset ≤ 115000 ∧ s.clk.rateReqs = [rate0] ∧ rate0.begun = false ∧ rate0.frame ≠ s.clk.frameNo
         ∧ rate0.island < 7 ∧ (s.islandSt rate0.island).rate ≠ rate0.rate)
    ∧ (let s : State := { live with clk := { live.clk with islands := [(6, { Island.locked with state := 2, target := 1 })] } }
       s.alive = true ∧ (s.islandSt 6).state = 2 ∧ s.clk.rateReqs = [] ∧ s.blocks = [] ∧ s.clk.domainReqs = [])
    ∧ (let q : RateReq := { rate0 with begun := true }
       let s : State := { live with
         clk := { live.clk with islands := [(6, { Island.locked with state := 2, target := 1 })], rateReqs := [q] }
         comm := { live.comm with tags := [tagFor 0x0B02 q.req] } }
       s.clk.rateReqs = [q] ∧ q.island = 6 ∧ (s.tag? q.req).isSome = true)
    ∧ (live.islandSt 6).state < 2
    ∧ (let s : State :=
         { live with clk := { live.clk with domainReqs := [domain0] }, comm := { live.comm with tags := [tagFor 0x0B03 domain0.req] } }
       s.clk.domainReqs = [domain0] ∧ domain0.domain = 8 ∧ domain0.begun = true ∧ (s.tag? domain0.req).isSome = true)
    ∧ (let r := req 0 [2, 0]
       let s : State := { live with selftest := [(r, 2)], comm := { live.comm with tags := [tagFor 0x0B01 r] } }
       s.selftest = [(r, 2)] ∧ s.tag? r = some (tagFor 0x0B01 r) ∧ s.isStandby = false)
    ∧ (let r := req 0 [0x80, 0]
       let s : State := { livePair with
         pair := { livePair.pair with state := 2, leads := false }, selftest := [(r, 0x80)], comm := { live.comm with tags := [tagFor 0x0B01 r] } }
       s.selftest = [(r, 0x80)] ∧ s.tag? r = some (tagFor 0x0B01 r) ∧ s.isStandby = true ∧ (0x80#16).getLsbD 7 = true) := by
  refine ⟨by decide, by decide, by decide, ⟨_, rfl, by decide⟩, ⟨_, rfl, by decide⟩, by decide⟩

/-- live with one NV operation whose request is in flight. -/
def nvReq : Req := req 0 (5#8 :: zs 56)
def nvState (w : NvWork) : State :=
  { live with nvOps := [{ req := nvReq, opcode := 0x0910, gen := 1, work := w, started := true }],
              comm := { live.comm with sessions := [sess .owner], tags := [{ tagFor 0x0910 nvReq with begun := true }] } }

theorem witness_recorderEvents :
    (86400 * Config.ticksPerSecond ≤ live.passed live.gut.gainFrom
      ∧ (let s : State := { live with gut := { live.gut with gainFrom := now } }
         s.passed s.gut.gainFrom < 86400 * Config.ticksPerSecond))
    ∧ (let s : State := { live with recorder := { live.recorder with budget := 4095 }, clk := { live.clk with frameNo := 1000 } }
       s.recorder.budget < 4096 ∧ (s.clk.frameNo - s.recorder.budgetSince).toNat / 1000 ≠ 0)
    ∧ (let s : State := { live with recorder := { live.recorder with lossFact := true, lossClear := 360000 } }
       s.recorder.lossFact = true ∧ 360000 ≤ s.recorder.lossClear)
    ∧ (let s : State := { live with recorder := { live.recorder with breaks := 1 } }
       s.alive = true ∧ s.recorder.breaks ≠ s.recorder.breaksSaved ∧ s.recorder.counterAt = none)
    ∧ (let s : State := { live with recorder := { live.recorder with erasing := some 3 } }
       s.recorder.erasing = some 3) := by decide

theorem witness_nvEvents :
    (let s := nvState (.keyLoad 5 (zs 32))
     (∃ o t, s.nvOps = [o] ∧ s.tag? o.req = some t ∧ (∀ x ∈ s.comm.sessions, keyIndex x.role x.slot ≠ 5) ∧ o.work = .keyLoad 5 (zs 32)))
    ∧ (let s := nvState (.denied .badParam)
       (∃ o t, s.nvOps = [o] ∧ s.tag? o.req = some t ∧ o.work = .denied .badParam))
    ∧ (live.alive = true ∧ live.clk.running = true ∧ live.rst.layingUp = none ∧ live.cfgDirty = none ∧ live.clk.domainReqs = [])
    ∧ (let s : State := { live with cfgDirty := some 1000000 }
       s.cfgDirty = some 1000000 ∧ msTicks 250 ≤ since (s.toOffset 112500).clk.batten 1000000 ∧ s.alive = true ∧ s.clk.running = true
         ∧ s.rst.layingUp = none ∧ s.clk.domainReqs = [])
    ∧ (let s : State := { live with pair := { live.pair with refStart := some 98 } }
       s.isReady = true ∧ s.isWorker = false ∧ s.pair.refStart.isSome = true)
    ∧ (let s : State := { live with pair := { live.pair with state := 2 } }
       s.isReady = true ∧ s.isWorker = false ∧ s.pair.refStart = none ∧ s.pair.state = 2 ∧ s.pair.lastRefFrame = 0)
    ∧ (let s : State := { live with pair := { live.pair with state := 2, lastRefFrame := 100 }, clk := { live.clk with frameNo := 360099 } }
       s.pair.lastRefFrame ≠ 0 ∧ framesSince s.clk.frameNo s.pair.lastRefFrame < 360000)
    ∧ (live.alive = true ∧ live.scrubDue 511 = true)
    ∧ (let s : State := { live with clk := { live.clk with frameNo := 360000 }, pair := { livePair.pair with lastPegFrame := 360000 }, peg := { live.peg with swapHours := 1 } }
       s.isReady = true ∧ s.isActive = true ∧ s.pair.state = 1 ∧ s.peg.swapHours ≠ 0
         ∧ frameGe s.clk.frameNo (s.pair.lastRoleFrame + BitVec.ofNat 32 (360000 * s.peg.swapHours)) = true ∧ s.rst.firstPeg = true
         ∧ s.pair.lastPegFrame = s.clk.frameNo ∧ s.quiet s.peg.engine = true ∧ s.stage = none
         ∧ s.admitted.any (fun i => i.body == .internal 2 0 0 0) = false)
    ∧ (let s : State := { live with clk := { live.clk with frameNo := 360000 } }
       s.isReady = true ∧ s.isWorker = false ∧ 360000 ≤ framesSince s.clk.frameNo s.savedFrame ∧ s.pair.state ≠ 1) :=
  ⟨⟨_, _, rfl, rfl, by decide, rfl⟩, ⟨_, _, rfl, rfl, rfl⟩, by decide⟩

theorem witness_aging :
    (let a : Aging := { Aging.none with n := 2, readAt := some 0 }
     let s : State := { live with aging := [(6, a)] }
     s.alive = true ∧ (s.islandSt 6).state = 0 ∧ s.blockInReset 2 = false ∧ s.blockInReset 16 = false ∧ a = sget Aging.none s.aging 6
       ∧ (∀ t ∈ a.readAt, 3600 * Config.ticksPerSecond ≤ s.passed t) ∧ a.n ≠ 0 ∧ 86400 * Config.ticksPerSecond ≤ s.passed a.dayAt) := by
  decide

/-! ### Claims, field and sensor inputs -/

/-- live with claims at the die that are some ticks old. -/
def liveClaim (age : Nat) : State :=
  { live with fld := { live.fld with ownClaim := some 5, ownAt := now - age, twinClaim := 3, twinFresh := true, twinAt := now - age } }

set_option maxRecDepth 20000 in
/-- Health, epoch and unit at the ends of their ranges; a claim 624 999 and 625 000 ticks old. -/
theorem witness_claims :
    (15 < 16 ∧ 2 ^ 27 - 1 < 2 ^ 27 ∧ (claimWord 15 (2 ^ 27 - 1) true).toNat = 2 ^ 32 - 1)
    ∧ ((liveClaim 624999).fld.powered = true ∧ (liveClaim 624999).fld.ownClaim = some 5 ∧ (liveClaim 624999).passed (liveClaim 624999).fld.ownAt < 625000)
    ∧ ((liveClaim 625000).fld.powered = true ∧ 625000 ≤ (liveClaim 625000).passed (liveClaim 625000).fld.ownAt
      ∧ (liveClaim 625000).fld.ownClaim.isSome = true)
    ∧ ((liveClaim 625000).fld.twinFresh = true ∧ 625000 ≤ (liveClaim 625000).passed (liveClaim 625000).fld.twinAt)
    ∧ ((3 : Word).toNat < (5 : Word).toNat)
    ∧ ((BitVec.ofNat 16 (claimCrc 5 1)).toNat = claimCrc 5 1 ∧ (1#8).toNat < 16 ∧ (16 ≤ (16#8).toNat) ∧ live.alive = true)
    ∧ (let s : State := { live with fio := { live.fio with claimDue := some (5, 1, true) } }
       s.fio.claimDue = some (5, 1, true) ∧ s.sendsFrames = true) := by decide

/-- Frames of the flashing link. -/
def down (kind : Nat) : List Byte := downFrame kind 1 0xFFF true 5 100 noRecord
def liveUp (age : Nat) : State := { live with fio := { live.fio with lastUp := some (12600000 - BitVec.ofNat 40 age), stale := true } }

set_option maxRecDepth 20000 in
theorem witness_fieldLink :
    (live.fld.powered = true ∧ live.sendsFrames = true ∧ live.fio.trainLeft = 0 ∧ live.withdraws = false)
    ∧ ((liveMaint 1).sendsFrames = true ∧ (liveMaint 1).fio.trainLeft = 0 ∧ (liveMaint 1).withdraws = true)
    ∧ (let s : State := { live with fio := { live.fio with trainLeft := 3 } }
       s.fld.powered = true ∧ s.sendsFrames = true ∧ s.fio.trainLeft ≠ 0)
    ∧ (State.reset.fld.powered = true ∧ State.reset.sendsFrames = false)
    ∧ frameGood [] = false
    ∧ ([1, 2, 3, 4].all (fun k => frameGood (down k) && leAt (down k) 2 2 / 4096 % 8 == 0 && leAt (down k) 30 2 == 0 && byteAt (down k) 0 == k
        && (leAt (down k) 2 2).testBit 15) = true)
    ∧ (frameGood live.upFrame = true ∧ byteAt live.upFrame 19 = 0 ∧ byteAt live.upFrame 0 < 128)
    ∧ ((liveUp 2500).alive = true ∧ (liveUp 2500).fio.lastUp = some (12600000 - 2500) ∧ 2500 ≤ since (liveUp 2500).clk.batten (12600000 - 2500))
    ∧ (since (liveUp 2499).clk.batten (12600000 - 2499) < 2500)
    ∧ (let s : State := { liveUp (msTicks 30) with pair := livePair.pair }
       s.fio.stale = true ∧ msTicks 30 ≤ since s.clk.batten (12600000 - BitVec.ofNat 40 (msTicks 30)) ∧ s.isReady = true ∧ s.isWorker = false ∧ s.pair.state = 1) := by
  decide

theorem witness_safeStates :
    (let s : State := { live with fld := { live.fld with lastGood := now - (live.cfg cDOUT 8 0x11 * 12500 + 2) } }
     s.fld.powered = true ∧ s.cfg cDOUT (4 * (2 : Fin 3).val) 0x11 * 12500 + 2 ≤ s.passed s.fld.lastGood)
    ∧ (let s : State := { live with fld := { live.fld with lastGood := now - (live.cfg cDOUT 8 0x11 * 12500 + 1) } }
       s.passed s.fld.lastGood < s.cfg cDOUT (4 * (2 : Fin 3).val) 0x11 * 12500 + 2) := by decide

/-- live with an input whose new level has been held since a count. -/
def livePin (p : DiPin) : State := { live with fld := { live.fld with pins := [(23, p)] } }
/-- live with output 2 conducting, with this stage and this image at the logic half. -/
def liveStage (x : DoutSt) : State :=
  { live with
    fld := { live.fld with word := 4, haveWord := true, loaded := true, safe := 0, permission := true }
    fio := { live.fio with dout := [(2, x)] } }
def standby : State := { livePair with pair := { livePair.pair with state := 2, leads := false } }

theorem witness_fieldPins :
    (live.fld.powered = true ∧ (live.fld.pin 23).level ≠ true ∧ true ≠ (live.fld.pin 23).debounced)
    ∧ (let s := livePin { level := true, pending := some 12590000, since := now - 10000, unsync := false, debounced := false, lost := false }
       (s.fld.pin 23).level ≠ false ∧ false = (s.fld.pin 23).debounced)
    ∧ (let s := livePin { level := true, pending := some 12000000, since := now - 600000, unsync := false, debounced := false, lost := false }
       (s.fld.pin 23).pending = some 12000000 ∧ s.fld.powered = true ∧ 25 * s.cfg cDIN 23 0x11 ≤ 2 * s.passed (s.fld.pin 23).since + 2
         ∧ s.fld.queue.length < 64)
    ∧ (let e : DiEvent := { input := 0, overflow := false, unsync := false, level := true, stamp := 0 }
       let s : State := { live with fld := { live.fld with queue := List.replicate 64 e } }
       64 ≤ s.fld.queue.length)
    ∧ ((liveStage DoutSt.start).conducts 2 = true ∧ ((liveStage DoutSt.start).fld.stage 2).overload = false
      ∧ 2500 ≤ (liveStage DoutSt.start).passed ((liveStage DoutSt.start).fld.stage 2).turnedAt)
    ∧ (let s : State := { liveStage DoutSt.start with fld := { (liveStage DoutSt.start).fld with
         stages := [(2, { DoStage.clear with turnedAt := now - 2499 })] } }
       s.conducts 2 = true ∧ s.passed (s.fld.stage 2).turnedAt < 2500)
    ∧ (let s := liveWith [(cDOUT * 1048576 + 256 * 3 + 0x12, 1)]
       s.testsWire 3 = true)
    ∧ (((liveStage { DoutSt.start with mismatchRun := 3 }).doutSt 2).fault = false ∧ 3 ≤ ((liveStage { DoutSt.start with mismatchRun := 3 }).doutSt 2).mismatchRun)
    ∧ (((liveStage { DoutSt.start with fault := true, matchRun := 3 }).doutSt 2).fault = true
      ∧ 3 ≤ ((liveStage { DoutSt.start with fault := true, matchRun := 3 }).doutSt 2).matchRun)
    ∧ ((live.doutSt 2).fault = false ∧ (live.doutSt 2).mismatchRun < 3)
    ∧ (let s : State := { standby with afe := { live.afe with ch := [(15, { AfeCh.start with run := 50 })] } }
       s.isStandby = true ∧ (s.ainSt 15).paused = false ∧ 50 ≤ (s.ainSt 15).run)
    ∧ (let s : State := { standby with fio := { live.fio with din := [(23, { DinSt.start with run := 50 })] } }
       s.isStandby = true ∧ (s.dinSt 23).paused = false ∧ 50 ≤ (s.dinSt 23).run) := by decide

/-- live with a running AFE, channel 15 in mode 8 at NOTCH_BOTH: window 9 has ended. -/
def liveAfe (c : AfeCh) : State :=
  { liveWith [(cAIN * 1048576 + 256 * 15 + 0x10, 8)] with afe := { live.afe with linkUp := true, settingsLoaded := true, ch := [(15, c)] } }

theorem witness_windowEnd : (liveAfe AfeCh.start).windowEnd (15 : Fin 16).val = (some 9, liveAfe AfeCh.start)
    ∧ (liveAfe { AfeCh.start with last := some (8, 5) }).windowEnd (15 : Fin 16).val = (some 9, liveAfe { AfeCh.start with last := some (8, 5) }) :=
  ⟨rfl, rfl⟩

theorem witness_afe :
    (let s := liveAfe AfeCh.start
     s.afeRuns = true ∧ s.ainMode 15 ≠ 0 ∧ s.clk.running = true ∧ s.afe.cals = []
       ∧ (s.turnAfe.ainSt 15).last = none)
    ∧ (let s := liveAfe { AfeCh.start with last := some (8, 5) }
       (s.turnAfe.ainSt 15).last = some (8, 5) ∧ windowBefore (s.ainRate 15) 9 = some 8
         ∧ notBefore (s.turnAfe.windowBegan 15 8) (s.turnAfe.ainSt 15).cleanAt = true)
    ∧ (let s := liveAfe { AfeCh.start with shuntClosed := true }
       s.sup.vafe = true ∧ s.ainMode 15 = 8 ∧ (s.turnAfe.ainSt 15).shuntClosed = true)
    ∧ (let s := liveAfe { AfeCh.start with shuntAt := some 100000 }
       s.sup.vafe = true ∧ (s.turnAfe.ainSt 15).shuntAt = some 100000 ∧ 12500000 ≤ since s.clk.batten 100000)
    ∧ (let s := liveAfe { AfeCh.start with shuntAt := some 100001 }
       (s.turnAfe.ainSt 15).shuntAt = some 100001 ∧ since s.clk.batten 100001 < 12500000)
    ∧ (let s : State := { live with afe := { live.afe with lastGood := now - 2500 } }
       s.sup.vafe = true ∧ 2500 ≤ s.passed s.afe.lastGood)
    ∧ (let s : State := { live with afe := { live.afe with lastGood := now - 2499 } }
       s.passed s.afe.lastGood < 2500) := by decide

/-! ### The engine -/

/-- A provisional result with point 7 (a STATE function on a DIN) in this state, and with these configured values. -/
def enginePt (x : PointSt) (c : Sparse Nat) : Prov :=
  { prov0 with st := { prov0.st with cfg := c, engine := { Engine.idle with points := [(7, x)] } } }
def cfgPt : Sparse Nat := [(cPOINT * 1048576 + 256 * 7 + 0x30, 7)]
def engineCall (callout : Nat) (uSince entered : Frame) (accepted : Option Frame) : Prov :=
  { provCall with frame := 100000, st := { provCall.st with engine := { provCall.st.engine with callout := callout, uSince := uSince, entered := entered, accepted := accepted, duty := some 1, points := [(7, raised)] } } }

theorem witness_engineSteps :
    (let p := enginePt { PointSt.idle with unkRun := 3 } cfgPt
     3 ≤ (p.pt (7 : Fin 2080).val).unkRun ∧ p.c cPOINT 7 0x30 ∉ [0, 8, 9] ∧ (p.pt 7).sensorFault = false ∧ (p.pt 7).inhibited = false)
    ∧ (let p := enginePt { PointSt.idle with cond := true, since := some 0 } cfgPt
       (p.pt 7).cond = true ∧ (p.pt 7).active = false ∧ (p.pt 7).inhibited = false ∧ heldFor p (p.pt 7) (p.c cPOINT 7 0x20) = true)
    ∧ (let p := enginePt { PointSt.idle with active := true, since := some 0 } cfgPt
       (p.pt 7).cond = false ∧ (p.pt 7).active = true ∧ (p.pt 7).sensorFault = false ∧ heldFor p (p.pt 7) (p.c cPOINT 7 0x21) = true)
    ∧ (let p := enginePt { PointSt.idle with shelved := true, shelveEnd := 100, cond := true } cfgPt
       (p.pt 7).shelved = true ∧ frameGe p.frame (p.pt 7).shelveEnd = true ∧ (p.pt 7).cond = true ∧ (p.pt 7).inhibited = false)
    ∧ (let p := enginePt { PointSt.idle with shelved := true, shelveEnd := 100 } cfgPt
       (p.pt 7).shelved = true ∧ frameGe p.frame (p.pt 7).shelveEnd = true ∧ (p.pt 7).cond = false ∧ (p.pt 7).sensorFault = false)
    ∧ (let p : Prov := { enginePt PointSt.idle [(cPOINT * 1048576 + 256 * 7 + 0x30, 5)] with frame := 100 }
       p.frame.toNat % 100 = 0 ∧ 7 ∈ p.pointList ∧ p.c cPOINT 7 0x30 = 5)
    ∧ prov0.st.engine.lastMinute ≠ some live.eave.minute
    ∧ (let p := engineCall 1 0 0 none
       p.st.engine.callout = 1 ∧ 100 * p.callDelay ≤ framesSince p.frame p.st.engine.uSince ∧ p.dutyStation = some 2)
    ∧ (let p := engineCall 2 0 0 none
       p.st.engine.callout = 2 ∧ 100 * p.c cDEVICE 0 0x2C ≤ framesSince p.frame p.st.engine.entered)
    ∧ (let p := engineCall 4 0 0 (some 40000)
       p.st.engine.accepted = some 40000 ∧ p.st.engine.callout = 4 ∧ 60000 ≤ framesSince p.frame 40000)
    ∧ (let p : Prov := { provCall with frame := 360000 }
       (p.station 2).dmStart = some 90 ∧ (p.station 2).dmExpired = false ∧ (p.station 2).dmWarned = false
         ∧ 100 * p.c cDEVICE 0 0x2E ≤ framesSince p.frame 90 ∧ 100 * p.c cDEVICE 0 0x2D ≤ framesSince p.frame 90)
    ∧ (let p := enginePt { raised with silenceEnd := some 90 } cfgPt
       (p.pt 7).silenceEnd = some 90 ∧ frameGe p.frame 90 = true)
    ∧ (let p : Prov := { enginePt { raised with alert := 1 } cfgPt with frame := 6000 }
       (p.pt 7).alert ≠ 0 ∧ 6000 ≤ framesSince p.frame (p.pt 7).alfFrame ∧ 7 ∈ p.pointList ∧ 3000 ≤ framesSince p.frame live.hw.lastAlc
         ∧ p.sentences = []) := by decide

theorem witness_attendance : (engineCall 4 0 0 (some 40000)).uAny = true := by decide


/-! ### Supplies, resets and the start -/

def inResetWith (x : ResetCtl) : State := { live with rst := { x with inReset := true } }

theorem witness_supplies :
    ([LogicRail.vcore, .vio, .vaux, .vpll].all live.sup.get = true ∧ live.alive = true ∧ live.sup.reference = true)
    ∧ (∀ b ∈ [false, true], let s := inResetWith { live.rst with powerOn := b }
       s.alive = false ∧ s.rst.powerOn = b ∧ s.sup.get .vio = true ∧ s.sup.reference = true)
    ∧ (live.sup.vcore || live.sup.vio || live.sup.vaux || live.sup.vpll) = true
    ∧ (let s : State := { live with sup := { live.sup with vcore := false, vio := false, vaux := false, vpll := false } }
       (s.sup.vcore || s.sup.vio || s.sup.vaux || s.sup.vpll) = false ∧ s.sup.vio = false ∧ s.sup.eave = true)
    ∧ (live.sup.vafe = true ∧ live.pair.state ≠ 1 ∧ live.sup.vfld = true ∧ live.sup.vpll = true ∧ live.sup.reference = true)
    ∧ (livePair.sup.vafe = true ∧ livePair.isReady = true ∧ livePair.isWorker = false ∧ livePair.pair.state = 1 ∧ livePair.isStandby = false)
    ∧ (let s : State := { live with sup := { live.sup with vafe := false, vfld := false } }
       s.sup.vafe = false ∧ s.sup.vfld = false) := by decide

/-- A commanded warm reset that was admitted some ticks ago in the present frame. -/
def ordered (age : Nat) : Commanded := { powerOn := false, frame := 100, at_ := now - age, tagNo := 0 }
def s10ms (age : Nat) : State := { live with rst := { live.rst with commanded := some (ordered age) } }

theorem witness_resetSources :
    live.alive = true
    ∧ (s10ms 125000).alive = true ∧ (s10ms 125000).rst.commanded = some (ordered 125000) ∧ (s10ms 125000).resetDue (ordered 125000) = true
    ∧ (s10ms 124999).rst.commanded = some (ordered 124999) ∧ (s10ms 124999).resetDue (ordered 124999) = false
    ∧ live.rst.commanded = none ∧ live.rst.resetNMasked = false
    ∧ (let s := inResetWith { live.rst with resetNMasked := true, resetNAt := now - 1250000 }
       s.rst.resetNMasked = true ∧ 1250000 ≤ s.passed s.rst.resetNAt)
    ∧ (let s := inResetWith { live.rst with resetNMasked := true, resetNAt := now - 1249999 }
       s.rst.resetNMasked = true ∧ s.passed s.rst.resetNAt < 1250000)
    ∧ (let s := inResetWith { live.rst with resetNLow := true, resetNAt := now - 125000000 }
       s.rst.inReset = true ∧ s.rst.resetNLow = true ∧ s.rst.resetNMasked = false ∧ 125000000 ≤ s.passed s.rst.resetNAt)
    ∧ (let s := inResetWith { live.rst with resetNLow := true, resetNAt := now - 124999999 }
       s.rst.inReset = true ∧ s.rst.resetNLow = true ∧ s.rst.resetNMasked = false ∧ s.passed s.rst.resetNAt < 125000000)
    ∧ 13 ∉ live.rst.held
    ∧ (let s : State := { livePair with pair := { livePair.pair with resetRequested := true, refResult := 2 } }
       s.alive = true ∧ s.pair.resetRequested = true ∧ s.pair.refResult = 2)
    ∧ (let s : State := { livePair with pair := { livePair.pair with resetRequested := true } }
       s.pair.resetRequested = true ∧ s.pair.refResult ≠ 2)
    ∧ (let s : State := { liveWorker with ring := { liveWorker.ring with orders := [(0, 4)] } }
       s.alive = true ∧ s.isWorker = true ∧ (sget 0 s.ring.orders 0).getLsbD 2 = true)
    ∧ live.isWorker = false
    ∧ (let e : Gutter := { batten := 0, sec := 0, kind := 6, source := 0, detail := 0, rep := 0, span := 0, erased := false }
       let s : State := { live with gut := { live.gut with entries := [e] } }
       s.gut.entries[0]? = some e ∧ s.gut.entries.length < 4096) := by decide

/-- A start at reset with these start failures and no strap set. -/
def starting (fails : Nat) : State := { State.reset with eave := { State.reset.eave with startFails := fails } }
def straps (m : BitVec 5) : StartEnv := { sample1 := m, sample2 := ~~~m, sample3 := m, resetNHigh := true }

/-- Worker 15 not heard since a READY at some time. -/
def startingWorker (at_ : Nat) : State :=
  { live with rst := { live.rst with readyAt := at_ }, ring := { live.ring with workers := [(15, { Worker.none with state := 1 })] } }
/-- Unit A listening without a trained link: 20 ms and 50 ms (notes/assumptions/121.md). -/
def listener (age : Nat) : State := { live with rst := { live.rst with listening := true, listenFrom := now - age } }

theorem witness_start :
    ((starting 2).rst.inReset = true ∧ (starting 2).rst.held = [] ∧ (starting 2).sup.logicUp = true ∧ (starting 2).sup.reference = true
      ∧ (starting 2).sup.eave = true ∧ 8#5 = majority (straps 8).sample1 (straps 8).sample2 (straps 8).sample3
      ∧ (straps 8).resetNHigh = true ∧ (starting 2).tamperHeld = false ∧ (starting 2).eave.startFails < 3 ∧ (8#5).getLsbD 1 = false ∧ (8#5).getLsbD 0 = false ∧ (starting 2).eave.bootOnce = none
      ∧ (starting 2).boots (starting 2).images.1 = true ∧ (starting 2).nvCopyA.good = true ∧ (starting 2).rst.imageAOnce = false)
    ∧ (3 ≤ (starting 3).eave.startFails ∧ (starting 3).rst.held = [])
    ∧ (2#5 = majority (straps 2).sample1 (straps 2).sample2 (straps 2).sample3 ∧ (2#5).getLsbD 1 = true)
    ∧ (State.hold (starting 2) 5).rst.held ≠ []
    ∧ (({ straps 0 with resetNHigh := false } : StartEnv).resetNHigh = false ∧ (starting 2).rst.resetNMasked = false)
    ∧ (let s := inResetWith { live.rst with tamperAt := [1, 2, 3], cause := 12, began := now }
       s.tamperHeld = true) := by
  decide

theorem witness_startTimes :
    (let s : State := { live with rst := { live.rst with phase := 9, startFrom := now - msTicks 1000 } }
     s.alive = true ∧ s.rst.phase = 9 ∧ msTicks 1000 ≤ s.passed s.rst.startFrom)
    ∧ (let s : State := { live with rst := { live.rst with phase := 9, startFrom := now + 1 - msTicks 1000 } }
       s.passed s.rst.startFrom < msTicks 1000)
    ∧ live.rst.phase = 0x0B
    ∧ (let s : State := { live with rst := { live.rst with phase := 0x0C, release := now - msTicks 60000 } }
       s.alive = true ∧ s.rst.phase = 0x0C ∧ s.transfer = none ∧ s.sram = none ∧ msTicks 60000 ≤ s.sinceRelease)
    ∧ (let s : State := { live with rst := { live.rst with phase := 0x0C, release := now + 1 - msTicks 60000 } }
       s.sinceRelease < msTicks 60000)
    ∧ ((startingWorker 0).isReady = true ∧ (startingWorker 0).isWorker = false
      ∧ ((startingWorker 0).worker (15 : Fin 16).val).state = 1 ∧ ((startingWorker 0).worker 15).okRun = 0
      ∧ msTicks 2000 ≤ (startingWorker 0).passed (startingWorker 0).rst.readyAt)
    ∧ (startingWorker now).passed (startingWorker now).rst.readyAt < msTicks 2000
    ∧ (let s : State := { live with clk := { live.clk with islands := [(6, { live.islandSt 6 with state := 2, lossAt := some 12587500 })] } }
       s.alive = true ∧ (s.islandSt (6 : Fin 7).val).state = 2 ∧ (s.islandSt 6).lossAt = some 12587500
         ∧ msTicks 1 ≤ since s.clk.batten 12587500 ∧ since s.clk.batten 12587501 < msTicks 1)
    ∧ ((listener 875000).alive = true ∧ (listener 875000).rst.listening = true ∧ (listener 875000).listenOver = true
      ∧ (listener 874999).rst.listening = true ∧ (listener 874999).listenOver = false) := by decide

/-! ### The frame -/

def liveAt (off : Nat) : State := { live with clk := { live.clk with batten := 12500000 + BitVec.ofNat 40 off } }
def decisionOf (p : Prov) : State := { live with prov := some p }

theorem witness_frame :
    (live.alive = true ∧ live.clk.running = true ∧ live.framesOver = false)
    ∧ State.reset.clk.running = false
    ∧ ((liveAt 112499).evaluates = true ∧ (liveAt 112499).pair.decided = false ∧ ((liveAt 112499).toOffset 37500).offset < 112500)
    ∧ ¬((liveAt 112500).toOffset 37500).offset < 112500
    ∧ live.isWorker = false ∧ live.alive = true
    ∧ (let s : State := { livePair with prov := some prov0 }
       s.provDue = some prov0 ∧ s.isReady = true ∧ s.isWorker = false ∧ s.pair.detached = false ∧ s.pair.bound = true ∧ s.pair.decided = false
         ∧ s.refereeDue = false ∧ s.ridge.trained = true)
    ∧ ((decisionOf prov0).provDue = some prov0 ∧ (decisionOf prov0).isReady = true ∧ (decisionOf prov0).isWorker = false
      ∧ (decisionOf prov0).clk.running = true ∧ (decisionOf prov0).pair.decided = false ∧ (decisionOf prov0).pair.detached = false
      ∧ (decisionOf prov0).pair.state = 0 ∧ (decisionOf prov0).pair.refStart = none ∧ (decisionOf prov0).pair.twinState ≠ 3)
    ∧ (decisionOf { prov0 with lanesAgree := false }).provDue = some { prov0 with lanesAgree := false }
    ∧ (let p : Prov := { prov0 with st := { prov0.st with engine := { prov0.st.engine with
          points := [(0x800, { PointSt.idle with sources := 2 })] } } }
       p.lanesAgree = true ∧ p.effects = [] ∧ (p.pt 0x800).sources.getLsbD (b2n (decisionOf p).unitB) = false
         ∧ (p.pt 0x800).sources.getLsbD (decisionOf p).twinBit = (decisionOf p).redundancyLost ∧ (decisionOf p).ring.expelReq = none) := by
  decide

/-! ### The ridge link -/

/-- The first packet of a kind with this payload for the node. -/
def packet (s : State) (kind : Nat) (p : List Byte) : List Byte := ridgeBytes s.pair.bound s.ridge.keyIn 1 kind 0 p
/-- The node when the link has taken it. -/
def taken (s : State) (kind : Nat) : State :=
  { s with ridge := { s.ridge.received 1 0 s.time (kind == kACK) with lsnIn := 1 } }

theorem takes_packet (s : State) (kind : Nat) (p : List Byte)
    (h : (s.alive && s.ridge.trained && s.pair.bound && decide (s.ridge.lsnIn = 0 ∧ kind < 256 ∧ p.length ≤ 4096)) = true) :
    s.takeRidge kind (packet s kind p) = (some p, taken s kind) := by
  simp only [Bool.and_eq_true, decide_eq_true_eq] at h
  obtain ⟨⟨⟨h1, h2⟩, h3⟩, h4, h5, h6⟩ := h
  exact s.takeRidge_ridgeBytes 1 kind 0 p h1 h2 (by omega) (by omega) h5 h6 (by omega) (.inl h3)

def follower : State :=
  { livePair with pair := { livePair.pair with leads := false, state := 3 }, clk := { livePair.clk with running := false } }
def forwardItem : List Byte := zs 4 ++ BatchItem.bytes (live.ownItem (.internal 1 0 0 0))
def mirrorOf (more : Byte) : List Byte := [100#8, 0#8, 0#8, 0#8, more] ++ zs 11
/-- livePair with a packet that was sent n times, the last time some ticks ago. -/
def unackedOf (n age : Nat) : State :=
  { livePair with ridge := { livePair.ridge with unacked := [{ lsn := 1, bytes := [1], sends := n, sentAt := now - age }] } }
/-- livePair with an acknowledgement that has been due for some ticks. -/
def ackDue (age : Nat) : State := { livePair with ridge := { livePair.ridge with ackDue := some (now - age) } }
/-- livePair with the four answer slots of the ridge link in use. -/
def ridgeFull : State := (List.range 4).foldl (fun s _ => s.feAnswer .ridge 0 1 .badParam []) livePair

theorem witness_ridgeNone : ∀ n, live.takeRidge n [] = (none, live) := fun _ => rfl

set_option maxRecDepth 20000 in
theorem witness_ridgeEvents :
    (livePair.takeRidge kACK (packet livePair kACK []) = (some [], taken livePair kACK))
    ∧ (live.alive = true ∧ live.isWorker = false ∧ live.blockInReset 6 = false ∧ sget 1 live.clk.domains 8 = 1)
    ∧ ((∀ n ∈ [3, 4], ∀ a ∈ [249, 250], ∃ x, (unackedOf n a).ridge.unacked = [x] ∧ x.sends = n ∧ (unackedOf n a).alive = true
        ∧ (unackedOf n a).ridge.trained = true ∧ (unackedOf n a).passed x.sentAt = a)
      ∧ (∀ a ∈ [124, 125], ∃ t, (ackDue a).ridge.ackDue = some t ∧ (ackDue a).ridge.trained = true ∧ (ackDue a).alive = true
        ∧ (ackDue a).pair.bound = true ∧ (ackDue a).passed t = a))
    ∧ (live.ridge.ackDue = none ∧ live.feUsed .ridge < 4 ∧ 4 ≤ ridgeFull.feUsed .ridge)
    ∧ (follower.takeRidge kMARKER (packet follower kMARKER (zs 40)) = (some (zs 40), taken follower kMARKER)
      ∧ (taken follower kMARKER).isWorker = false ∧ (taken follower kMARKER).pair.leads = false ∧ (taken follower kMARKER).clk.running = false)
    ∧ (livePair.takeRidge kFORWARD (packet livePair kFORWARD forwardItem) = (some forwardItem, taken livePair kFORWARD)
      ∧ (taken livePair kFORWARD).isActive = true ∧ (taken livePair kFORWARD).isReady = true ∧ (parseItem (forwardItem.drop 4)).isSome = true)
    ∧ (∀ m ∈ [0#8, 1#8], standby.takeRidge kMIRROR (packet standby kMIRROR (mirrorOf m)) = (some (mirrorOf m), taken standby kMIRROR))
    ∧ ((taken standby kMIRROR).isStandby = true ∧ (taken standby kMIRROR).clk.running = true
      ∧ BitVec.ofNat 32 (leAt (mirrorOf 1) 0 4) = (taken standby kMIRROR).clk.frameNo ∧ byteAt (mirrorOf 1) 5 = (taken standby kMIRROR).pair.mirrorParts
      ∧ (taken standby kMIRROR).pair.mirrored = false ∧ (taken standby kMIRROR).pair.unmirrored = false
      ∧ (byteAt (mirrorOf 1) 4).testBit 0 = true ∧ (byteAt (mirrorOf 0) 4).testBit 0 = false)
    ∧ (standby.isReady = true ∧ standby.isStandby = true ∧ standby.pair.mirrored = false ∧ standby.pair.unmirrored = false)
    ∧ (∀ p ∈ [1#8 :: zs 3, [3#8, 0#8, 1#8], [3#8, 0#8, 2#8]], livePair.takeRidge kCONTROL (packet livePair kCONTROL p) = (some p, taken livePair kCONTROL))
    ∧ (livePair.takeRidge kPAIRING (packet livePair kPAIRING (1#8 :: zs 31)) = (some (1#8 :: zs 31), taken livePair kPAIRING)
      ∧ (taken livePair kPAIRING).isWorker = false ∧ (taken livePair kPAIRING).clk.running = true ∧ (taken livePair kPAIRING).pair.bindReq = none
      ∧ (taken livePair kPAIRING).pair.bound = true ∧ (taken livePair kPAIRING).pair.leads = true ∧ (taken livePair kPAIRING).alive = true
      ∧ (taken livePair kPAIRING).ridge.trained = true)
    ∧ (standby.takeRidge kPAIRING (packet standby kPAIRING (2#8 :: zs 31)) = (some (2#8 :: zs 31), taken standby kPAIRING)
      ∧ (taken standby kPAIRING).pair.leads = false ∧ (taken standby kPAIRING).fitsTwin (2#8 :: zs 31) = false)
    ∧ (standby.takeRidge kRELAY (packet standby kRELAY [BitVec.ofNat 8 cTOKEN]) = (some [BitVec.ofNat 8 cTOKEN], taken standby kRELAY)
      ∧ (taken standby kRELAY).isStandby = true ∧ byteAt [BitVec.ofNat 8 cTOKEN] 0 = cTOKEN) := by
  refine ⟨takes_packet _ _ _ (by decide), by decide, ⟨fun n hn a ha => ⟨_, rfl, rfl, by fin_cases hn <;> rfl, by fin_cases hn <;> rfl, ?_⟩,
    fun a ha => ⟨_, rfl, rfl, rfl, rfl, ?_⟩⟩, by decide, ⟨takes_packet _ _ _ (by decide), by decide⟩,
    ⟨takes_packet _ _ _ (by decide), by decide⟩, fun m hm => takes_packet _ _ _ ?_, by decide, by decide, fun p hp => takes_packet _ _ _ ?_,
    ⟨takes_packet _ _ _ (by decide), by decide⟩, ⟨takes_packet _ _ _ (by decide), by with_unfolding_all decide⟩, takes_packet _ _ _ (by decide), by decide⟩
  · fin_cases ha <;> exact Nat.sub_sub_self (by show _ ≤ now; decide)
  · fin_cases ha <;> exact Nat.sub_sub_self (by show _ ≤ now; decide)
  · fin_cases hm <;> decide
  · fin_cases hp <;> decide

/-! ### The ring -/

def keyRing (s : State) : State := { s with keys := [(25, { state := 1, loadedAt := 0, value := zs 32 })] }
def ringWorker : State := keyRing { liveWorker with ring := { liveWorker.ring with trainedA := true } }
def ringManager : State := keyRing liveRing
/-- The manager 2.000 ms into the frame: DATA is still taken. -/
def earlyManager : State := { ringManager with clk := { ringManager.clk with batten := 12525000 } }
def cellOf (kind orig : Nat) (body : List Byte) : Cell := { kind := kind, orig := orig, ctr := 1, frame := 100, body := body }
def bytesOf (s : State) (c : Cell) : List Byte := cellBytes s.cellTagKey c

theorem forwardCell_keeps (s : State) (d : RingSide) (b : List Byte) : (s.forwardCell d b).cellTagKey = s.cellTagKey
    ∧ (s.forwardCell d b).ringKey = s.ringKey ∧ (s.forwardCell d b).ring.lastIn = s.ring.lastIn ∧ (s.forwardCell d b).clk = s.clk := by
  unfold State.forwardCell State.putCell
  split
  · split
    · exact ⟨rfl, rfl, rfl, rfl⟩
    · cases d <;> exact ⟨rfl, rfl, rfl, rfl⟩
  · exact ⟨rfl, rfl, rfl, rfl⟩

/-- The decidable conditions under which a tagged cell is accepted. -/
def acceptsB (s : State) (c : Cell) : Bool :=
  decide (c.kind < 256 ∧ c.orig < 256 ∧ c.ctr < 2 ^ 64 ∧ c.body.length < 65536) && cellTagged c && !s.ringKey.isEmpty
    && decide (c.frame = s.clk.frameNo ∧ sget 0 s.ring.lastIn c.orig < c.ctr)

theorem accepts_of {s : State} {c : Cell} (h : acceptsB s c = true) : parseCell (bytesOf s c) = some c ∧ s.acceptable c (bytesOf s c) = true
    ∧ ∀ d b, b = bytesOf s c → (s.forwardCell d b).acceptable c b = true := by
  simp only [acceptsB, Bool.and_eq_true, decide_eq_true_eq, Bool.not_eq_true'] at h
  obtain ⟨⟨⟨h1, h2⟩, h3⟩, h4, h5⟩ := h
  refine ⟨parseCell_cellBytes _ c h1, s.acceptable_cellBytes c h1 h2 h3 h4 h5, fun d b hb => ?_⟩
  obtain ⟨k1, k2, k3, k4⟩ := forwardCell_keeps s d b
  have := (s.forwardCell d b).acceptable_cellBytes c h1 h2 (by rw [k2]; exact h3) (by rw [k4]; exact h4) (by rw [k3]; exact h5)
  rw [k1] at this
  rw [hb]; rw [hb] at this; exact this

def tokenCell (kind : Nat) : Cell := cellOf kind 0x80 (zs 80)
def trainCell (orig dest : Nat) : Cell := cellOf cTRAIN orig ([1#8, 0#8, BitVec.ofNat 8 dest, 0x80#8] ++ zs 8)
def dataCell : Cell := cellOf cDATA 5 (zs 208)
def scanCell : Cell := cellOf cSCAN 0x80 []
def resendCell : Cell := cellOf cRESEND 3 [0#8, 0#8, 0#8, 0#8]

/-- The four admission operands as a manager of an all-zero KEK sends them. -/
def sealedRing : List Byte × List Byte := gcmSeal (zs 32) (zs 12) [] (zs 41)
def admitBody : List Byte := toLe 4 4 ++ (toLe 4 Config.serial.toNat ++ (zs 12 ++ (sealedRing.1 ++ sealedRing.2)))
def admitting : Admission := { worker := 3, serial := 0, step := 2, nm := [], nw := [], draw := 0, kek := zs 32 }
def beingAdmitted : State := { ringWorker with ring := { ringWorker.ring with admits := [admitting] } }

set_option maxRecDepth 20000 in
theorem witness_ringDown :
    (live.ringUp .a = false) ∧ (ringManager.ringUp .a = true ∧ ringManager.ringUp .b = true ∧ parseCell [] = none)
    ∧ (∃ c, parseCell (bytesOf ringManager dataCell) = some c ∧ c.kind ≠ cTOKEN) :=
  ⟨rfl, by decide, _, (accepts_of (by with_unfolding_all decide)).1, by decide⟩

/-- A cell at a node without a ring key, and one whose counter is not above the last accepted. -/
theorem witness_cellNotAccepted :
    (let s : State := { liveWorker with ring := { liveWorker.ring with trainedA := true } }
     s.ringUp .a = true ∧ parseCell (bytesOf s (tokenCell cTOKEN)) = some (tokenCell cTOKEN)
       ∧ (s.forwardCell .a (bytesOf s (tokenCell cTOKEN))).ringKey = [])
    ∧ (let s : State := { ringManager with ring := { ringManager.ring with lastIn := [(0x80, 1)] } }
       s.ringUp .a = true ∧ parseCell (bytesOf s (tokenCell cTOKEN)) = some (tokenCell cTOKEN)
         ∧ (s.forwardCell .a (bytesOf s (tokenCell cTOKEN))).ringKey ≠ []
         ∧ (s.forwardCell .a (bytesOf s (tokenCell cTOKEN))).acceptable (tokenCell cTOKEN) (bytesOf s (tokenCell cTOKEN)) = false) :=
  ⟨⟨rfl, parseCell_cellBytes _ _ ⟨by decide, by decide, by decide, by decide⟩, rfl⟩,
    rfl, parseCell_cellBytes _ _ ⟨by decide, by decide, by decide, by decide⟩, by decide, Bool.and_eq_false_iff.2 (.inr rfl)⟩

set_option maxRecDepth 20000 in
theorem witness_ringCells :
    (∀ kind ∈ [cTOKEN, cRELAY], ∀ d, ∀ b, b = bytesOf ringWorker (tokenCell kind) → ringWorker.ringUp d = true ∧ parseCell b = some (tokenCell kind)
      ∧ (tokenCell kind).kind = kind ∧ ringWorker.isWorker = true ∧ (ringWorker.forwardCell d b).acceptable (tokenCell kind) b = true
      ∧ 1 ≤ ringWorker.ring.index ∧ ringWorker.ring.claimA = none ∧ ringWorker.ring.claimB = none
      ∧ byteAt (tokenCell kind).body (62 + (ringWorker.ring.index - 1)) = 0 ∧ (byteAt (tokenCell kind).body 5).testBit 0 = false)
    ∧ (∀ c ∈ [tokenCell cTOKEN, tokenCell cRELAY, cellOf cCLAIM 0x80 (zs 8), dataCell, trainCell 5 3],
        parseCell (bytesOf ringManager c) = some c ∧ ringManager.acceptable c (bytesOf ringManager c) = true)
    ∧ (parseCell (bytesOf earlyManager dataCell) = some dataCell ∧ earlyManager.acceptable dataCell (bytesOf earlyManager dataCell) = true)
    ∧ ((tokenCell cTOKEN).orig = ringManager.ringOrig ∧ earlyManager.isActive = true ∧ earlyManager.workerKnown dataCell.orig = true
      ∧ earlyManager.offset ≤ 25000
      ∧ dataCell.body.length = 208 ∧ dataCell.frame = earlyManager.clk.frameNo ∧ byteAt (trainCell 5 3).body 2 ≠ ringManager.ringOrig)
    ∧ (∀ d b, b = bytesOf ringWorker (cellOf cCLAIM 0x80 (zs 8)) → parseCell b = some (cellOf cCLAIM 0x80 (zs 8))
      ∧ (ringWorker.forwardCell d b).acceptable (cellOf cCLAIM 0x80 (zs 8)) b = true)
    ∧ (∀ d b, b = bytesOf ringWorker (trainCell 0x80 3) → parseCell b = some (trainCell 0x80 3)
      ∧ (ringWorker.forwardCell d b).acceptable (trainCell 0x80 3) b = true ∧ byteAt (trainCell 0x80 3).body 2 = ringWorker.ringOrig
      ∧ ringWorker.feUsed .ring < 4 ∧ ∃ data s1, ((ringWorker.forwardCell d b).noteCell (trainCell 0x80 3)).joinTrain (trainCell 0x80 3) = (some data, s1)) := by
  refine ⟨fun kind hk d b hb => ?_, fun c hc => ?_, ?_, by decide, fun d b hb => ?_, fun d b hb => ?_⟩
  · have h : acceptsB ringWorker (tokenCell kind) = true := by fin_cases hk <;> with_unfolding_all decide
    obtain ⟨h1, -, h3⟩ := accepts_of h
    refine ⟨by cases d <;> rfl, hb ▸ h1, rfl, rfl, h3 d b hb, by decide, rfl, rfl, by rfl, ?_⟩
    show (byteAt (zs 80) 5).testBit 0 = false
    decide
  · have h : acceptsB ringManager c = true := by fin_cases hc <;> with_unfolding_all decide
    exact ⟨(accepts_of h).1, (accepts_of h).2.1⟩
  · have h : acceptsB earlyManager dataCell = true := by with_unfolding_all decide
    exact ⟨(accepts_of h).1, (accepts_of h).2.1⟩
  · have h : acceptsB ringWorker (cellOf cCLAIM 0x80 (zs 8)) = true := by with_unfolding_all decide
    exact ⟨hb ▸ (accepts_of h).1, (accepts_of h).2.2 d b hb⟩
  · have h : acceptsB ringWorker (trainCell 0x80 3) = true := by with_unfolding_all decide
    exact ⟨hb ▸ (accepts_of h).1, (accepts_of h).2.2 d b hb, rfl, by decide, _, _, rfl⟩

def scanAsked (n : Nat) : Tag := { tagFor 0x0800 (req 0 []) with begun := true, admitAt := 12600000 - BitVec.ofNat 40 n }
def carried (n : Nat) : State := { live with comm := { live.comm with tags := [scanAsked n] } }
def sentCell (n : Nat) : State := { ringManager with ring := { ringManager.ring with sentA := [(1#8 :: zs 9, n)] } }

def roundWorker : State :=
  { ringWorker with
    eave := { ringWorker.eave with layup := true, wakeCause := 1 }
    clk := { ringWorker.clk with running := false }
    rst := { ringWorker.rst with release := 0 } }

theorem witness_ringEvents :
    (ringWorker.alive = true ∧ ringWorker.isWorker = true ∧ ringWorker.clk.running = true ∧ ringWorker.ring.index ≠ 0 ∧ ringWorker.ringKey ≠ [])
    ∧ (ringManager.isReady = true ∧ ringManager.isActive = true ∧ ringManager.clk.running = true ∧ ringManager.workerKnown 5 = true)
    ∧ ((scanAsked 0).begun = true ∧ (scanAsked 0).answered = false ∧ live.latOf (scanAsked 0).opcode.toNat (scanAsked 0).req = .l ∧ live.ring.admitReq = none)
    ∧ (∀ n : Fin 2, let m := live.linkTicks (scanAsked 0).opcode.toNat (scanAsked 0).req
        (decide (m ≤ since live.clk.batten (scanAsked (m - n.val)).admitAt)) = decide (n = 0))
    ∧ (parseCell (bytesOf ringManager scanCell) = some scanCell ∧ scanCell.orig = ringManager.ringOrig ∧ ringManager.isWorker = false
      ∧ (let s : State := { ringManager with ring := { ringManager.ring with scanReq := some (req 0 []) } }
         s.ringUp .b = true ∧ s.ring.scanReq = some (req 0 [])))
    ∧ (parseCell (bytesOf (sentCell 0) resendCell) = some resendCell ∧ byteAt resendCell.body 0 = 0 ∧ (sentCell 1).ringUp .a = true
      ∧ (sentCell 1).ring.sentA.head? = some (1#8 :: zs 9, 1) ∧ cellPrio (byteAt (1#8 :: zs 9) 0) = 0 ∧ (sentCell 2).ring.sentA.head? = some (1#8 :: zs 9, 2))
    ∧ (live.alive = true ∧ live.blockInReset 7 = false ∧ sget 1 live.clk.domains 8 = 1)
    ∧ (liveWorker.liveClaims = [])
    ∧ (let s := roundWorker
       s.inRound = true ∧ s.clk.running = false ∧ 2 * s.cfg cCLOCK 0 0x34 * 12500000 ≤ s.sinceRelease) := by
  refine ⟨by decide, by decide, by decide, by decide, ⟨parseCell_cellBytes _ _ ⟨by decide, by decide, by decide, by decide⟩, by decide⟩,
    ⟨parseCell_cellBytes _ _ ⟨by decide, by decide, by decide, by decide⟩, by decide⟩, by decide, by decide, by decide⟩

theorem witness_ringAdmitted : ∃ c, parseCell (bytesOf ringWorker c) = some c ∧ c.kind = cADMIT ∧ beingAdmitted.isWorker = true
    ∧ leAt c.body 4 4 = Config.serial.toNat ∧ byteAt c.body 0 = 4 ∧ beingAdmitted.ring.admits.head? = some admitting
    ∧ gcmOpen admitting.kek (slice c.body 8 12) [] (slice c.body 20 41) (slice c.body 61 16) = some (zs 41) := by
  have h1 : sealedRing.1.length = 41 := gcmCrypt_length _ _ _ rfl rfl
  have h2 : sealedRing.2.length = 16 := gcmTag_length _ _ _ _ rfl rfl
  have hl : admitBody.length = 77 := by simp [admitBody, h1, h2, zs]
  refine ⟨cellOf cADMIT 0x80 admitBody, parseCell_cellBytes _ _ ⟨by decide, by decide, by decide, ?_⟩, rfl, rfl, ?_, ?_, rfl, ?_⟩
  · simp [cellOf, hl]
  · have hs := Config.serial.isLt
    simp only [cellOf, admitBody]
    rw [leAt_of_slice (v := Config.serial.toNat)]
    · omega
    · rw [slice_toLe_skip _ _ _ _ _ (by omega)]; simp
  · rfl
  · have e1 : slice admitBody 8 12 = zs 12 := by
      rw [admitBody, slice_toLe_skip _ _ _ _ _ (by omega), slice_toLe_skip _ _ _ _ _ (by omega), slice_append_left _ _ _ _ (by decide)]; rfl
    have e2 : slice admitBody 20 41 = sealedRing.1 := by
      rw [admitBody, slice_toLe_skip _ _ _ _ _ (by omega), slice_toLe_skip _ _ _ _ _ (by omega), slice_append_right _ _ _ _ (by decide),
        slice_append_left _ _ _ _ (by simp [h1, zs])]
      simp [slice, zs, h1]
    have e3 : slice admitBody 61 16 = sealedRing.2 := by
      rw [admitBody, slice_toLe_skip _ _ _ _ _ (by omega), slice_toLe_skip _ _ _ _ _ (by omega), slice_append_right _ _ _ _ (by decide),
        slice_append_right _ _ _ _ (by simp [h1, zs])]
      simp [slice, zs, h1, h2]
    show gcmOpen (zs 32) (slice admitBody 8 12) [] (slice admitBody 20 41) (slice admitBody 61 16) = _
    rw [e1, e2, e3]
    exact gcmOpen_seal _ _ _ _ rfl rfl

/-! ### More of the ridge link -/

def header : List Byte := [1#8, 2#8, 3#8, 2#8, 1#8, 0#8, 0#8, 0#8, 1#8, 0#8] ++ zs 10
def digestBytes : List Byte := toLe 4 100 ++ zs 16
def dataHere : State :=
  keyRing { livePair with ring := liveRing.ring, clk := { livePair.clk with batten := 12525000 } }
def ctrKey : State := { standby with ridge := { standby.ridge with keyCtr := zs 32 } }
def counters : List Byte × List Byte := gcmSeal (zs 32) (zs 12) [] (zs 512)
def countersPart : List Byte := toLe 4 100 ++ (toLe 1 2 ++ (toLe 1 1 ++ (toLe 2 0 ++ (toLe 4 0 ++ (zs 8 ++ (counters.1 ++ counters.2))))))

theorem counters_length : counters.1.length = 512 := by
  have h := gcmCrypt_length (zs 32) (zs 12) (zs 512) rfl rfl
  rw [show (zs 512).length = 512 from List.length_replicate] at h
  simp only [counters, gcmSeal, h]

theorem countersPart_length : countersPart.length = 548 := by
  have h1 : counters.1.length = 512 := counters_length
  have h2 : counters.2.length = 16 := gcmTag_length _ _ _ _ rfl rfl
  simp [countersPart, zs, h1, h2]

theorem witness_ridgeMore :
    (livePair.takeRidge kDIGEST (packet livePair kDIGEST digestBytes) = (some digestBytes, taken livePair kDIGEST)
      ∧ (taken livePair kDIGEST).isWorker = false ∧ (taken livePair kDIGEST).clk.running = true
      ∧ (digestOf digestBytes).frame = (taken livePair kDIGEST).clk.frameNo ∧ (taken livePair kDIGEST).offset ≤ 112000
      ∧ (taken livePair kDIGEST).pair.decided = false)
    ∧ (livePair.feUsed .ridge < 4
      ∧ livePair.takeRidge kTURWA (packet livePair kTURWA (zs 4 ++ header)) = (some (zs 4 ++ header), taken livePair kTURWA)
      ∧ (taken livePair kTURWA).isReady = true ∧ (taken livePair kTURWA).isWorker = false ∧ byteAt (zs 4 ++ header) 2 = 0
      ∧ (taken livePair kTURWA).isActive = true) :=
  ⟨⟨takes_packet _ _ _ (by decide), by decide⟩, by decide, takes_packet _ _ _ (by decide), by decide⟩

theorem witness_ridgeCounters : ∃ b m, ctrKey.takeRidge kSTATE (packet ctrKey kSTATE b) = (some b, taken ctrKey kSTATE)
    ∧ (taken ctrKey kSTATE).isStandby = true ∧ byteAt b 4 = 2 ∧ leAt b 6 2 = 0 ∧ (taken ctrKey kSTATE).openState (b.drop 12) = some m := by
  have h1 : counters.1.length = 512 := counters_length
  have h2 : counters.2.length = 16 := gcmTag_length _ _ _ _ rfl rfl
  refine ⟨countersPart, zs 512, takes_packet _ _ _ ?_, by decide, rfl, rfl, ?_⟩
  · rw [countersPart_length]; decide
  · have hd : countersPart.drop 12 = zs 8 ++ (counters.1 ++ counters.2) := rfl
    rw [hd]
    have hl : (zs 8 ++ (counters.1 ++ counters.2)).length = 536 := by simp [zs, h1, h2]
    have e1 : slice (zs 8 ++ (counters.1 ++ counters.2)) 0 8 = zs 8 := rfl
    have e2 : slice (zs 8 ++ (counters.1 ++ counters.2)) 8 512 = counters.1 := by
      rw [slice_append_right _ _ _ _ (by decide), slice_append_left _ _ _ _ (by simp [h1, zs])]; simp [slice, zs, h1]
    have e3 : slice (zs 8 ++ (counters.1 ++ counters.2)) 520 16 = counters.2 := by
      rw [slice_append_right _ _ _ _ (by decide), slice_append_right _ _ _ _ (by simp [h1, zs])]; simp [slice, zs, h1, h2]
    unfold State.openState
    simp only [hl]
    show gcmOpen (zs 32) ([0, 0, 0, 0] ++ slice _ 0 8) [] (slice _ 8 512) (slice _ 520 16) = _
    rw [e1, e2, e3]
    exact gcmOpen_seal _ _ _ _ rfl rfl

set_option maxRecDepth 20000 in
theorem witness_ridgeData : ∃ b, dataHere.takeRidge kRINGDATA (packet dataHere kRINGDATA b) = (some b, taken dataHere kRINGDATA)
    ∧ parseCell b = some dataCell ∧ (taken dataHere kRINGDATA).isActive = true ∧ (taken dataHere kRINGDATA).acceptable dataCell b = true
    ∧ (taken dataHere kRINGDATA).workerKnown dataCell.orig = true ∧ dataCell.body.length = 208
    ∧ dataCell.frame = (taken dataHere kRINGDATA).clk.frameNo ∧ (taken dataHere kRINGDATA).offset ≤ 25000 := by
  have h : acceptsB (taken dataHere kRINGDATA) dataCell = true := by with_unfolding_all decide
  refine ⟨bytesOf (taken dataHere kRINGDATA) dataCell, takes_packet _ _ _ ?_, (accepts_of h).1, by decide, (accepts_of h).2.1, by decide⟩
  rw [show (bytesOf (taken dataHere kRINGDATA) dataCell).length = 244 from (cellBytes_fields _ _ ⟨by decide, by decide, by decide, by decide⟩).1]
  decide

/-! ### The clock -/

/-- live as a leader that disciplines its clock from the PPS. -/
def ppsLive (last : Option (BitVec 40)) (step : Option Date) : State :=
  { liveWith [(cCLOCK * 1048576 + 0x20, 1)] with pair := { live.pair with leads := true }, eave := { live.eave with lastPps := last, stepTo := step } }

def chargerAt (n age : Nat) : State := { live with eave := { live.eave with charger := 1, chargerState := n, chargerAt := now - age } }
def lockedFor (age : Nat) : State :=
  { ppsLive none none with eave := { live.eave with lockedSince := some (now - age), discState := 3 } }
def pwronFor (age : Nat) : State := { live with eave := { live.eave with pwronHeld := true, pwronAt := now - age } }
def wakeLive : State :=
  { live with
    clk := { live.clk with batten := 12625000 }
    rst := { live.rst with layingUp := some 99, layupQueued := true }
    eave := { live.eave with wakeNext := 0xFFFFFFFF, laidUp := true, pwronHeld := false, wakeInterval := 0 } }
def evtLive (l a : Bool) (p : Option (Nat × Nat)) (since : Nat) : State :=
  { live with eave := { live.eave with evt0 := { live.eave.evt0 with level := l, accepted := a, pending := p, since := since } } }

theorem witness_clock :
    (live.sup.eave = true ∧ live.alive = true ∧ live.clk.refState ≠ 2 ∧ State.reset.alive = false)
    ∧ ((ppsLive (some (12600000 - 12487499)) none).disciplines = true ∧ (ppsLive (some (12600000 - 12487499)) none).ppsValid = false)
    ∧ (ppsLive (some 87499) none).ppsValid = false
    ∧ ((ppsLive (some 87500) none).disciplines = true ∧ (ppsLive (some 87500) none).ppsValid = true
      ∧ (ppsLive (some 87500) none).eave.stepTo = none)
    ∧ ((ppsLive (some 112500) (some live.eave.date)).ppsValid = true)
    ∧ (let s : State := { ppsLive (some 2500000) none with clk := { live.clk with batten := 40000000 } }
       s.disciplines = true ∧ 3 * 12500000 ≤ since s.clk.batten 2500000 ∧ since s.clk.batten 2500001 < 3 * 12500000)
    ∧ ((lockedFor 45000000000).disciplines = true ∧ (lockedFor 45000000000).eave.discState = 3
      ∧ (lockedFor 45000000000).eave.lockedSince = some (now - 45000000000)
      ∧ 3600 * 12500000 ≤ (lockedFor 45000000000).passed (now - 45000000000)
      ∧ (lockedFor 44999999999).passed (now - 44999999999) < 3600 * 12500000)
    ∧ ((chargerAt 1 0).chargerOn = true ∧ (chargerAt 1 0).eave.chargerState = 1 ∧ (chargerAt 2 0).eave.chargerState = 2 ∧ (chargerAt 3 0).chargerOn = true
      ∧ (chargerAt 1 125000000).passed (chargerAt 1 125000000).eave.chargerAt < 10 * 12500000 + 1
      ∧ 10 * 12500000 ≤ (chargerAt 1 125000000).passed (chargerAt 1 125000000).eave.chargerAt
      ∧ (chargerAt 1 124999999).passed (chargerAt 1 124999999).eave.chargerAt < 10 * 12500000
      ∧ 60 * 12500000 ≤ (chargerAt 3 750000000).passed (chargerAt 3 750000000).eave.chargerAt
      ∧ (chargerAt 3 749999999).passed (chargerAt 3 749999999).eave.chargerAt < 60 * 12500000)
    ∧ (wakeLive.sup.eave = true ∧ wakeLive.eave.wakeReached = true ∧ wakeLive.eave.laidUp = true ∧ wakeLive.eave.pwronHeld = false)
    ∧ ((pwronFor 1250000).sup.eave = true ∧ (pwronFor 1250000).eave.pwronHeld = true
      ∧ msTicks 100 ≤ (pwronFor 1250000).passed (pwronFor 1250000).eave.pwronAt
      ∧ (pwronFor 1249999).passed (pwronFor 1249999).eave.pwronAt < msTicks 100)
    ∧ (wakeLive.rst.layingUp = some 99 ∧ wakeLive.alive = true ∧ wakeLive.recorder.drained = true ∧ wakeLive.rst.layupQueued = true
      ∧ wakeLive.clk.frameNo ≠ 99 ∧ 125000 ≤ wakeLive.offset)
    ∧ (let s : State := { live with rst := { live.rst with layingUp := some 99 } }
       s.rst.layingUp = some 99 ∧ s.alive = true ∧ s.rst.layupQueued = false)
    ∧ ((evtLive false false none 0).eave.evt 0).level ≠ true ∧ ((evtLive false false none 0).eave.evt 0).accepted ≠ true
    ∧ (let s := evtLive true false (some (5, 1)) 0
       s.sup.eave = true ∧ (s.eave.evt 0).pending = some (5, 1) ∧ (s.eave.evt 0).fifo.length < 8
         ∧ msTicks (s.cfg cCLOCK 0 0x12) ≤ s.passed (s.eave.evt 0).since)
    ∧ (let s := evtLive true false (some (5, 1)) now
       (s.eave.evt 0).pending = some (5, 1) ∧ s.passed (s.eave.evt 0).since < msTicks (s.cfg cCLOCK 0 0x12))
    ∧ (edgeKept 1 true = true ∧ edgeKept 2 true = false)
    ∧ (let s : State := { live with sup := { live.sup with eave := false } }
       s.sup.eave = false) := by decide

theorem witness_flush : live.outQ .ring = [] ∧ live.outQ .ridge = [] ∧ live.comm.leaving = [] := by decide

/-! ### What is not well formed -/

set_option maxRecDepth 20000 in
theorem test_wf_params : (Instr.ping (req 0 (zs 4096))).wf = true ∧ (Instr.ping (req 0 (zs 4097))).wf = false := by
  simp only [Instr.wf, Req.wf, req, zs, List.length_replicate]; decide
set_option maxRecDepth 20000 in
theorem test_wf_packet : (Instr.writePacket (zs 4134)).wf = true ∧ (Instr.writePacket (zs 4135)).wf = false := by
  simp only [Instr.wf, zs, List.length_replicate]; decide
theorem test_wf_segment : (Instr.turwaSegmentReceived .can0 0 (zs 64)).wf = true ∧ (Instr.turwaSegmentReceived .can0 0 (zs 65)).wf = false := by
  decide
theorem test_wf_label : (Instr.timeLabelReceived .can1 (zs 8)).wf = true ∧ (Instr.timeLabelReceived .can1 (zs 65)).wf = false := by decide
theorem test_wf_lock : (Instr.lockConfirmed 6 65535).wf = true ∧ (Instr.lockConfirmed 6 65536).wf = false := by decide
theorem test_wf_aging : (Instr.agingReading 6 (2 ^ 32 - 1) 65535).wf = true ∧ (Instr.agingReading 6 (2 ^ 32) 0).wf = false
    ∧ (Instr.agingReading 6 0 65536).wf = false := by decide
theorem test_wf_scrub : (Instr.nvScrub [0, 511]).wf = true ∧ (Instr.nvScrub [512]).wf = false := by decide
theorem test_wf_trim : (Instr.rtcTrimUpdate (-127)).wf = true ∧ (Instr.rtcTrimUpdate (-128)).wf = false ∧ (Instr.rtcTrimUpdate 128).wf = false := by
  decide
theorem test_wf_ridgeTrain : (Instr.ridgeLinkTrain true (zs 16) (zs 16) 65535).wf = true ∧ (Instr.ridgeLinkTrain true (zs 15) (zs 16) 0).wf = false
    ∧ (Instr.ridgeLinkTrain true (zs 16) (zs 17) 0).wf = false ∧ (Instr.ridgeLinkTrain true (zs 16) (zs 16) 65536).wf = false := by decide
theorem test_wf_ringTrain : (Instr.ringSegmentTrain .b 65535).wf = true ∧ (Instr.ringSegmentTrain .b 65536).wf = false := by decide

/-! ### Reset and the queue -/

theorem test_reset_idle : State.reset.pending = [] := by rfl
/-- On the release tick (R86) a solo node with no strap set holds no session and drives no output. -/
theorem test_reset_quiet : State.reset.comm.sessions = [] ∧ State.reset.comm.tags = [] ∧ State.reset.prov = none
    ∧ State.reset.rst.inReset = true := by decide
theorem test_step_takes_the_front : step { live with pending := [.readReg 0 0] } = exec (.readReg 0 0) live := rfl
theorem test_no_word_spells_a_command : decodeTableWord 8 0 = none ∧ (State.reset.withFetchWord 8 0).pending = [] := by decide

/-! ### Worked examples of the spec -/

/-- The object ID of TT-W2-03 (chapter 00, On deck after R10): 0x2010_0300, travelling as 00 03 10 20. -/
theorem test_oid : oid 2 cAIN 3 0 = 0x20100300 ∧ toLe 4 (oid 2 cAIN 3 0).toNat = [0x00#8, 0x03#8, 0x10#8, 0x20#8] := by decide
/-- DOMAIN 9 of worker 3 (chapter 03, On deck after Table PWR-11) and DEVICE attribute 0x24 (chapter 06). -/
theorem test_oid_more : oid 3 cDOMAIN 9 1 = 0x37100901 ∧ oid 0 cDEVICE 0 0x24 = 0x07F00024 := by decide
set_option maxRecDepth 20000 in
/-- Table TIM-2: the leap day, the century rule, the date that does not exist. -/
theorem test_calendar : secsDate (dateSecs { year := 2024, month := 2, day := 28, hour := 23, min := 59, sec := 59 } + 1)
      = { year := 2024, month := 2, day := 29, hour := 0, min := 0, sec := 0 }
    ∧ secsDate (dateSecs { year := 2100, month := 2, day := 28, hour := 23, min := 59, sec := 59 } + 1)
      = { year := 2100, month := 3, day := 1, hour := 0, min := 0, sec := 0 }
    ∧ dateOk { year := 2100, month := 2, day := 29, hour := 0, min := 0, sec := 0 } = false := by
  decide
/-- The header of the SET of chapter 06's On deck: 01 02 01 02 41 00 00 00 03 00 01 00 24 00 F0 07 52 00 00 00 06. -/
theorem test_set_bytes : reqBytes 0x0201 { port := .u0, session := 3, seq := 0x41, target := 0x07F00024, wantProv := false, params := [6#8] } 0x52
    = [0x01#8, 0x02#8, 0x01#8, 0x02#8, 0x41#8, 0x00#8, 0x00#8, 0x00#8, 0x03#8, 0x00#8, 0x01#8, 0x00#8, 0x24#8, 0x00#8, 0xF0#8, 0x07#8,
       0x52#8, 0x00#8, 0x00#8, 0x00#8, 0x06#8] := by decide
set_option maxRecDepth 20000 in
/-- The OPEN on CAN0 of chapter 07's On deck begins 01 04 02 01 01 00 00 00 00 00 12 00. -/
theorem test_open_bytes : (reqBytes 0x0102 { port := .can0, session := 0, seq := 1, target := 0, wantProv := false, params := [3#8, 1#8] ++ zs 16 } 0).take 12
    = [0x01#8, 0x04#8, 0x02#8, 0x01#8, 0x01#8, 0x00#8, 0x00#8, 0x00#8, 0x00#8, 0x00#8, 0x12#8, 0x00#8] := by decide
/-- The authenticated GET of chapter 04's On deck takes 45 ticks. -/
theorem test_get_ticks : State.reset.execF (tagFor 0x0200 { port := .host, session := 5, seq := 1, target := 0x00100B00, wantProv := false, params := [] })
    (zs 4) 18 = 45 := by decide
/-- The claims of chapter 14's On deck. -/
theorem test_claims : claimWord 9 0x2A1 false = 0x90000542 ∧ claimWord 9 0x2A0 true = 0x90000541 ∧ claimWord 12 0x2A2 true = 0xC0000545 := by
  decide
/-- Identifiers of chapter 16's On deck. -/
theorem test_canId : canId 4 1 0x60 0x23 = 0x10007023 ∧ canId 4 1 0x23 0x60 = 0x100051E0 ∧ canId 1 0x12 0x23 0x60 = 0x040491E0 := by decide
set_option maxRecDepth 20000 in
/-- The CRC-16 of R108 over "123456789" is the usual check value of its polynomial, initial value and order. -/
theorem test_crc16 : crc16 (ascii "123456789") = 0x29B1 := by decide
set_option maxRecDepth 20000 in
theorem test_crc32 : crc32 (ascii "123456789") = 0xCBF43926 := by decide
/-- COBS: a zero ends a block, a block of 254 needs none. -/
theorem test_cobs : cobsEncode 9 [0x11#8, 0x00#8, 0x22#8] = [0x02#8, 0x11#8, 0x02#8, 0x22#8]
    ∧ cobsDecode 9 [0x02#8, 0x11#8, 0x02#8, 0x22#8] = some [0x11#8, 0x00#8, 0x22#8] ∧ cobsDecode 9 [0x05#8, 0x11#8] = none := by decide
/-- Table FIO-9 with both claims live, one live, none live. -/
theorem test_permission : permissionOf (some 5) (some 3) false false = true ∧ permissionOf (some 3) (some 5) true false = true
    ∧ permissionOf (some 3) (some 5) true true = false ∧ permissionOf none (some 1) true false = false ∧ permissionOf none none false false = true := by
  decide
/-- Windows of chapter 09's On deck: channel 06 and pair 5 at the hand-over of frame 0x0C00_0005. -/
theorem test_windows : toBoundary 2 (gridAt 0x0C000007 123750) = 0 ∧ toBoundary 2 (gridAt 0x0C000005 123750) ≠ 0
    ∧ toBoundary 0 (gridAt 0x0C000005 123750) = 0 ∧ windowNo 0 (gridAt 0x0C000005 123750) = 0x06000003
    ∧ positiveWindow 0x06000003 = false := by decide

end Sys2Proof.Tests
end

section
/-! SUPPORT. A row of the opcode table runs its own entry, and what joins the batch at a class-P command (R15, R130, R145). -/

namespace Sys2Proof.Machine

/-! ### Opcode rows -/

/-- The row of a request hands it to its entry of the opcode table (R171). -/
theorem exec_of_requestOf {i : Instr} {c : Cmd} {r : Req} (h : requestOf i = some (c, r)) (s : State) :
    exec i s = .next (s.execute c r) := by
  cases i <;> cases h <;> rfl

/-! ### Joining the batch -/

/-- Marking a tag as begun begins every tag that is the same. -/
theorem State.modTag_begun (s : State) (t : Tag) : (s.modTag t (fun u => { u with begun := true })).Begun t := by
  intro v hv hs
  simp only [State.modTag, List.mem_map] at hv
  obtain ⟨u, _, rfl⟩ := hv
  split at hs <;> rename_i h
  · simp [h]
  · exact absurd hs h

/-- A class-P command joins the batch as an item of its sender and of its admission's generation, whether it is forwarded or
not (R15, R130). -/
theorem State.admitP_joins (s : State) (t : Tag) (body : ItemBody) : s.Joins (s.admitP t (s.who t.req) body) t body := by
  have joins (u : State) (h : (s.modTag t (fun u => { u with begun := true })).admitItem
      { body := body, forwarded := s.forwards, frame := s.clk.frameNo, gen := t.gen, role := (s.who t.req).role,
        slot := (s.who t.req).slot, unitB := s.unitB, own := true } |>.OnlyRidge u) : s.Joins u t body := by
    unfold State.OnlyRidge at h
    rw [h]
    exact ⟨rfl, rfl, rfl, rfl, rfl, rfl, rfl, s.modTag_begun t⟩
  unfold State.admitP
  dsimp only
  split
  · exact joins _ (State.sendForward_only ..)
  · exact joins _ rfl

/-- The row of a class-P entry puts its request into the batch once every check has passed. -/
theorem runP_row_joins {i : Instr} {c : Cmd} {r : Req} {s : State} {t : Tag} (hi : requestOf i = some (c, r)) (hc : c.run = runP)
    (h : s.Runs c r t) : ∃ u : State, exec i s = .next u.flush ∧ s.Joins u t (.command t.opcode r) := by
  have hr : t.req = r := h.1.same
  refine ⟨runP s t (s.who r), ?_, ?_⟩
  · rw [exec_of_requestOf hi, State.execute_runs h, hc]
  · subst hr
    exact s.admitP_joins t _

end Sys2Proof.Machine
end

section
open Sys2Proof Sys2Proof.Machine

/-- Settles O16: each of the thirty entries runs as `runP`, which puts one item into the batch. -/
theorem peggedCommandsJoinTheBatch : Obligations.PeggedCommandsJoinTheBatch := by
  intro r i c s t hi hreq hruns
  have hc : c.run = runP := by
    fin_cases hi <;> cases hreq <;> rfl
  exact runP_row_joins hreq hc hruns

end

section
/-! SUPPORT. What decides whether a frame is pegged, and what every operation around the peg leaves of it. -/

namespace Sys2Proof.Machine

/-! ### The core of a frame -/

/-- The frame, its batch and its provisional result, the pegged data and keys, and what the peg decision notes of them (R13, R15,
R16, R337). -/
structure FrameCore where
  frameNo      : Frame
  frameStart   : Batten
  prov         : Option Prov
  batch        : List BatchItem
  peg          : Pegged
  keys         : Sparse Key
  decided      : Bool
  lastPegFrame : Frame
  mismatches   : Nat
  twinState    : Nat
  firstPeg     : Bool

def State.frameCore (s : State) : FrameCore :=
  { frameNo := s.clk.frameNo, frameStart := s.clk.frameStart, prov := s.prov, batch := s.batch, peg := s.peg, keys := s.keys,
    decided := s.pair.decided, lastPegFrame := s.pair.lastPegFrame, mismatches := s.pair.mismatches,
    twinState := s.pair.twinState, firstPeg := s.rst.firstPeg }

def FrameCore.withBatch (c : FrameCore) (b : List BatchItem) : FrameCore := { c with batch := b }

/-- A fold whose steps keep the core keeps it. -/
theorem foldl_frameCore {β : Type} {f : State → β → State} (h : ∀ a x, (f a x).frameCore = a.frameCore) (l : List β) (s : State) :
    (l.foldl f s).frameCore = s.frameCore :=
  foldl_rel (fun a b : State => b.frameCore = a.frameCore) (fun _ => rfl) (fun h k => k.trans h) f h l s

/-- The core of the frame and what waits for the next batch stay. -/
def State.KeepsBatch (s u : State) : Prop := u.frameCore = s.frameCore ∧ u.admitted = s.admitted

theorem State.KeepsBatch.refl (s : State) : s.KeepsBatch s := ⟨rfl, rfl⟩
theorem State.KeepsBatch.trans {s u v : State} (h : s.KeepsBatch u) (k : u.KeepsBatch v) : s.KeepsBatch v :=
  ⟨k.1.trans h.1, k.2.trans h.2⟩

theorem State.OnlyComm.keepsBatch {s u : State} (h : s.OnlyComm u) : s.KeepsBatch u := by
  unfold State.OnlyComm at h; rw [h]; exact ⟨rfl, rfl⟩
theorem State.OnlyRecorder.keepsBatch {s u : State} (h : s.OnlyRecorder u) : s.KeepsBatch u := by
  unfold State.OnlyRecorder at h; rw [h]; exact ⟨rfl, rfl⟩
theorem State.OnlyRidge.keepsBatch {s u : State} (h : s.OnlyRidge u) : s.KeepsBatch u := by
  unfold State.OnlyRidge at h; rw [h]; exact ⟨rfl, rfl⟩
theorem State.OnlyRing.keepsBatch {s u : State} (h : s.OnlyRing u) : s.KeepsBatch u := by
  unfold State.OnlyRing at h; rw [h]; exact ⟨rfl, rfl⟩
theorem State.KeepsAllButReplies.keepsBatch {s u : State} (h : s.KeepsAllButReplies u) : s.KeepsBatch u := by
  unfold State.KeepsAllButReplies at h; rw [h]; exact ⟨rfl, rfl⟩

/-! ### Replies to the links -/

theorem State.packetLeft_keepsBatch (s : State) (p : Port) (k : Packet) : s.KeepsBatch (s.packetLeft p k) := by
  unfold State.packetLeft
  dsimp only
  split
  · exact .refl s
  · split <;> exact ⟨rfl, rfl⟩

theorem State.sentHead_keepsBatch (s : State) (p : Port) : s.KeepsBatch (s.sentHead p) := by
  unfold State.sentHead
  split
  · exact .refl s
  · exact State.packetLeft_keepsBatch _ p _

theorem State.headToLink_keepsBatch (s : State) (p : Port) (last : Option (List Byte)) : s.KeepsBatch (s.headToLink p last) := by
  unfold State.headToLink
  split
  · exact ⟨rfl, rfl⟩
  · exact s.sentHead_keepsBatch p

theorem State.settleLinks_keepsBatch (s : State) : s.KeepsBatch s.settleLinks :=
  foldl_rel State.KeepsBatch .refl .trans _ (fun a (l : Leaving) => a.packetLeft_keepsBatch l.port l.packet) _ _

theorem State.flushRing_keepsBatch (s : State) : s.KeepsBatch s.flushRing := by
  refine foldl_rel State.KeepsBatch .refl .trans _ (fun a k => ?_) _ s
  dsimp only
  refine .trans ?_ (State.headToLink_keepsBatch _ _ _)
  refine .trans ?_ (State.sendTrain_only _ _ _ _ _ _).keepsBatch
  exact ⟨rfl, rfl⟩

theorem State.flushRidge_keepsBatch (s : State) : s.KeepsBatch s.flushRidge :=
  foldl_rel State.KeepsBatch .refl .trans _
    (fun a _ => .trans (a.sendRidge_only _ _).keepsBatch (State.headToLink_keepsBatch _ _ _)) _ s

/-- Replies leave for the links, and neither the frame nor a batch moves (R120, R370). -/
theorem State.flush_keepsBatch (s : State) : s.KeepsBatch s.flush :=
  (s.flushRing_keepsBatch.trans (State.flushRidge_keepsBatch _)).trans (State.settleLinks_keepsBatch _)

@[simp] theorem State.flush_frameCore (s : State) : s.flush.frameCore = s.frameCore := s.flush_keepsBatch.1

/-! ### Answers -/

theorem State.answerP_keeps (s : State) (t : Tag) (st : Status) (ps : List Byte) : s.KeepsAllButReplies (s.answerP t st ps) :=
  s.ready_keeps ..

@[simp] theorem State.answerLate_frameCore (s : State) (t : Tag) (st : Status) (ps : List Byte) (n : Nat) :
    (s.answerLate t st ps n).frameCore = s.frameCore := (s.answerLate_spec t st ps n).2.keepsBatch.1

/-- A withdrawn item is answered on the unit that admitted it, and nothing but its reply comes of it (R176). -/
theorem State.answerWithdrawn_keeps (s : State) (i : BatchItem) : s.KeepsAllButReplies (s.answerWithdrawn i) := by
  have answer (t : Tag) : s.KeepsAllButReplies (if i.own then s.answerP t .unpegged [] else s) := by
    split
    · exact s.answerP_keeps ..
    · exact .refl s
  unfold State.answerWithdrawn
  dsimp only
  split
  · split
    · exact answer _
    · exact .refl s
  · split
    · exact answer _
    · exact .refl s
  · exact .refl s

theorem State.pegReply_keeps (s : State) (a : PegReply) : s.KeepsAllButReplies (s.pegReply a) := by
  unfold State.pegReply
  split
  · exact s.answerP_keeps ..
  · exact .refl s

/-- The replies of a peg leave its data alone. -/
theorem State.pegReplies_keepsBatch (s : State) (l : List PegReply) : s.KeepsBatch (l.foldl State.pegReply s) :=
  foldl_rel State.KeepsBatch .refl .trans _ (fun a x => (a.pegReply_keeps x).keepsBatch) l s

@[simp] theorem State.answerRefused_frameCore (s : State) : s.answerRefused.frameCore = s.frameCore :=
  (s.pegReplies_keepsBatch _).1

/-! ### Withdrawal (R176) -/

/-- What stays of a list of items at a frame: those that it does not withdraw. -/
def keptItems (f : Frame) (l : List BatchItem) : List BatchItem := l.filter (fun i => !i.overdue f)

/-- A withdrawal takes the overdue items out of the batch and of what waits for the next one, and leaves the rest of the frame. -/
theorem State.withdraw_spec (s : State) :
    s.withdraw.frameCore = s.frameCore.withBatch (keptItems s.clk.frameNo s.batch)
      ∧ s.withdraw.admitted = keptItems s.clk.frameNo s.admitted := by
  unfold State.withdraw
  dsimp only
  have h0 := (foldl_rel State.KeepsAllButReplies .refl .trans State.answerWithdrawn (fun a i => a.answerWithdrawn_keeps i)
    ((s.batch ++ s.admitted).filter (BatchItem.overdue s.clk.frameNo)) s).keepsBatch
  generalize ((s.batch ++ s.admitted).filter (BatchItem.overdue s.clk.frameNo)).foldl State.answerWithdrawn s = s0 at h0 ⊢
  generalize s0.refusedP.filter (fun a => decide (100 < framesSince s.clk.frameNo a.frame)) = late
  generalize s0.refusedP.filter (fun a => !decide (100 < framesSince s.clk.frameNo a.frame)) = early
  obtain ⟨hcore, hadm⟩ := h0.trans (.trans (u := { s0 with refusedP := early }) ⟨rfl, rfl⟩ (State.pegReplies_keepsBatch _ late))
  generalize late.foldl State.pegReply { s0 with refusedP := early } = s1 at hcore hadm ⊢
  have hbatch : s1.batch = s.batch := congrArg FrameCore.batch hcore
  refine ⟨?_, ?_⟩
  · calc _ = s1.frameCore.withBatch (keptItems s.clk.frameNo s1.batch) := rfl
      _ = _ := by rw [hcore, hbatch]
  · exact congrArg (keptItems s.clk.frameNo) hadm

/-- Once the answers of a withdrawal have left, both lists hold what is not overdue, and the pegged data stand. -/
theorem State.withdraw_flush_spec (s : State) :
    s.withdraw.flush.batch = keptItems s.clk.frameNo s.batch ∧ s.withdraw.flush.admitted = keptItems s.clk.frameNo s.admitted
      ∧ s.withdraw.flush.peg = s.peg := by
  obtain ⟨hcore, hadm⟩ := s.withdraw_spec
  have hflush := s.withdraw.flush_keepsBatch
  have h := hflush.1.trans hcore
  exact ⟨congrArg FrameCore.batch h, hflush.2.trans hadm, congrArg FrameCore.peg h⟩

end Sys2Proof.Machine
end

section
/-! SUPPORT. What a frame start leaves of the frame (R13, R14, R16). -/

namespace Sys2Proof.Machine

/-! ### Shared operations -/

@[simp] theorem State.sendRidge_frameCore (s : State) (k : Nat) (p : List Byte) : (s.sendRidge k p).frameCore = s.frameCore :=
  (s.sendRidge_only k p).keepsBatch.1
@[simp] theorem State.putCell_frameCore (s : State) (d : RingSide) (b : List Byte) (n : Nat) :
    (s.putCell d b n).frameCore = s.frameCore := (s.putCell_only d b n).keepsBatch.1
@[simp] theorem State.sendCell_frameCore (s : State) (d : RingSide) (k : Nat) (f : Frame) (b : List Byte) :
    (s.sendCell d k f b).frameCore = s.frameCore := (s.sendCell_only d k f b).keepsBatch.1
@[simp] theorem State.raise_frameCore (s : State) (k : Nat) (o : Word) (d : List Byte) : (s.raise k o d).frameCore = s.frameCore :=
  (s.raise_only k o d).keepsBatch.1
@[simp] theorem State.later_frameCore (s : State) (o : Occurrence) : (s.later o).frameCore = s.frameCore := rfl
@[simp] theorem State.tellRing_frameCore (s : State) (c w : Nat) : (s.tellRing c w).frameCore = s.frameCore := by
  rw [s.tellRing_only c w]; rfl
@[simp] theorem State.tellPair_frameCore (s : State) (c o : Nat) : (s.tellPair c o).frameCore = s.frameCore := by
  rw [s.tellPair_only c o]; rfl
@[simp] theorem State.submit_frameCore (s : State) (b : ItemBody) : (s.submit b).frameCore = s.frameCore := by
  rw [s.submit_only b]; rfl
@[simp] theorem State.forwardWaiting_frameCore (s : State) : s.forwardWaiting.frameCore = s.frameCore :=
  foldl_frameCore (fun a i => (a.sendForward_only i).keepsBatch.1) _ s
@[simp] theorem State.setRingState_frameCore (s : State) (n : Nat) : (s.setRingState n).frameCore = s.frameCore := by
  unfold State.setRingState
  dsimp only
  split
  · rfl
  · split
    · exact State.tellRing_frameCore ..
    · split
      · exact State.tellRing_frameCore ..
      · exact State.tellRing_frameCore ..
@[simp] theorem State.toOffset_frameCore (s : State) (off : Nat) : (s.toOffset off).frameCore = s.frameCore := by
  unfold State.toOffset; split <;> rfl
@[simp] theorem State.modCh_frameCore (s : State) (ch : Nat) (f : AfeCh → AfeCh) : (s.modCh ch f).frameCore = s.frameCore := rfl
@[simp] theorem State.modDin_frameCore (s : State) (i : Nat) (f : DinSt → DinSt) : (s.modDin i f).frameCore = s.frameCore := rfl
@[simp] theorem State.modDout_frameCore (s : State) (o : Nat) (f : DoutSt → DoutSt) : (s.modDout o f).frameCore = s.frameCore := rfl
@[simp] theorem State.putAin_frameCore (s : State) (n ch : Nat) (v : AinIn) : (s.putAin n ch v).frameCore = s.frameCore := rfl
@[simp] theorem State.putDin_frameCore (s : State) (n i : Nat) (v : DinIn) : (s.putDin n i v).frameCore = s.frameCore := rfl
@[simp] theorem State.enableDriver_frameCore (s : State) (l : DriverLine) : (s.enableDriver l).frameCore = s.frameCore := by
  cases l <;> rfl

/-! ### The facts of a frame start (R278) -/

@[simp] theorem State.setFact_frameCore (s : State) (pt bit : Nat) (on : Bool) : (s.setFact pt bit on).frameCore = s.frameCore := by
  obtain h | h := s.setFact_cases pt bit on <;> simp [h]

@[simp] theorem State.submitFacts_frameCore (s : State) : s.submitFacts.frameCore = s.frameCore := by
  unfold State.submitFacts
  extract_lets s1
  have h : s1.frameCore = s.frameCore := foldl_frameCore (fun _ _ => State.setFact_frameCore ..) _ _
  split <;> simp [h]

/-! ### The snapshot (R16, R204, R223) -/

@[simp] theorem State.arrive_frameCore (s : State) (ch : Nat) : (s.arrive ch).frameCore = s.frameCore := by
  unfold State.arrive
  split
  · rfl
  · split <;> rfl

@[simp] theorem State.snapAin_frameCore (s : State) (ch : Nat) : (s.snapAin ch).frameCore = s.frameCore :=
  State.modCh_frameCore ..

@[simp] theorem State.snapAfe_frameCore (s : State) : s.snapAfe.frameCore = s.frameCore := by
  unfold State.snapAfe
  dsimp only
  refine ((foldl_frameCore State.snapAin_frameCore _ _).trans (foldl_frameCore State.arrive_frameCore _ _)).trans ?_
  split <;> rfl

@[simp] theorem State.snapDin_frameCore (s : State) (i : Nat) : (s.snapDin i).frameCore = s.frameCore := by
  unfold State.snapDin; split <;> rfl

@[simp] theorem State.snapDout_frameCore (s : State) (o : Nat) : (s.snapDout o).frameCore = s.frameCore :=
  State.modDout_frameCore ..

@[simp] theorem State.wholeFrame_frameCore (s : State) (o : Nat) : (s.wholeFrame o).frameCore = s.frameCore := by
  unfold State.wholeFrame
  dsimp only
  split <;> rfl

@[simp] theorem State.snapField_frameCore (s : State) : s.snapField.frameCore = s.frameCore := by
  unfold State.snapField
  dsimp only
  exact ((foldl_frameCore State.wholeFrame_frameCore _ _).trans (foldl_frameCore State.snapDout_frameCore _ _)).trans
    (foldl_frameCore State.snapDin_frameCore _ _)

@[simp] theorem State.takeOwnAin_frameCore (s : State) : s.takeOwnAin.frameCore = s.frameCore := by
  unfold State.takeOwnAin; exact foldl_frameCore (fun _ _ => State.putAin_frameCore ..) _ s
@[simp] theorem State.takeOwnDin_frameCore (s : State) : s.takeOwnDin.frameCore = s.frameCore := by
  unfold State.takeOwnDin; exact foldl_frameCore (fun _ _ => State.putDin_frameCore ..) _ s

/-! ### The rest of a frame start -/

@[simp] theorem State.refAtFrame_frameCore (s : State) : s.refAtFrame.frameCore = s.frameCore := rfl
@[simp] theorem State.measure_frameCore (s : State) : s.measure.frameCore = s.frameCore := rfl
@[simp] theorem State.ringFrame_frameCore (s : State) : s.ringFrame.frameCore = s.frameCore := rfl
@[simp] theorem State.commitWrites_frameCore (s : State) : s.commitWrites.frameCore = s.frameCore := rfl
@[simp] theorem State.discUpdate_frameCore (s : State) : s.discUpdate.frameCore = s.frameCore := by
  unfold State.discUpdate
  extract_lets now
  split <;> rfl
@[simp] theorem State.driversAtFrame_frameCore (s : State) : s.driversAtFrame.frameCore = s.frameCore := by
  unfold State.driversAtFrame
  dsimp only
  split_ifs <;> simp

/-- The pegged data under another duty station. -/
def Pegged.withDuty (p : Pegged) (d : Option Nat) : Pegged := { p with engine := { p.engine with duty := d } }

def FrameCore.withDuty (c : FrameCore) (d : Option Nat) : FrameCore := { c with peg := c.peg.withDuty d }

/-- A frame without a provisional result and not yet decided. -/
def FrameCore.fresh (c : FrameCore) : FrameCore := { c with prov := none, decided := false }

/-- READY takes the roster's station on duty into the pegged data, and moves nothing else of the frame (R91, R286). -/
theorem State.reachReady_frameCore (s : State) :
    s.reachReady.frameCore = s.frameCore.withDuty s.dutyAtReady := by
  have ring (u : State) : (if u.isWorker then u else u.setRingState u.ringStateNow).frameCore = u.frameCore := by
    split <;> simp
  exact (State.later_frameCore _ _).trans (ring _)

/-- A frame start changes the duty station at the most (R90, R91). -/
theorem State.startAtFrame_frameCore (s : State) :
    ∃ d, s.startAtFrame.frameCore = s.frameCore.withDuty d := by
  unfold State.startAtFrame
  split
  · exact ⟨_, s.reachReady_frameCore⟩
  · split <;> exact ⟨s.peg.engine.duty, rfl⟩

@[simp] theorem State.resyncAtFrame_frameCore (s : State) : s.resyncAtFrame.frameCore = s.frameCore := by
  unfold State.resyncAtFrame
  split
  · exact State.forwardWaiting_frameCore _
  · rfl

@[simp] theorem State.sendToken_frameCore (s : State) : s.sendToken.frameCore = s.frameCore := by
  unfold State.sendToken
  split
  · rfl
  · split
    next c s1 hc =>
    extract_lets b s2 s3
    have hs1 : s1.frameCore = s.frameCore := congrArg (fun x : Cell × State => x.2.frameCore) hc.symm
    have hs3 : s3.frameCore = s.frameCore := by
      unfold s3 s2; split_ifs <;> simp [hs1]
    exact hs3

@[simp] theorem State.sendFrameStart_frameCore (s : State) : s.sendFrameStart.frameCore = s.frameCore := by
  unfold State.sendFrameStart State.sendClaimCell
  dsimp only
  split_ifs <;> simp

/-- The batch of a frame is opened without a change of anything else in it (R15). -/
theorem State.openBatch_frameCore (s : State) : ∃ b, s.openBatch.frameCore = s.frameCore.withBatch b := by
  have h := s.withdraw_spec.1
  unfold State.openBatch
  dsimp only
  split
  · exact ⟨s.withdraw.batch ++ s.withdraw.admitted,
      congrArg (FrameCore.withBatch · (s.withdraw.batch ++ s.withdraw.admitted)) h⟩
  · exact ⟨[], congrArg (FrameCore.withBatch · []) h⟩

/-- What a frame start does once the frame before has been let go: the snapshot, the batch, and what leaves the node. -/
def State.enterFrame (s : State) : State :=
  let s2 := (s.refAtFrame.discUpdate.measure.ringFrame.commitWrites.startAtFrame).driversAtFrame
  let s3 := s2.snapAfe.snapField
  let s4 := if s3.isActive ∨ s3.isWorker then s3.takeOwnAin.takeOwnDin else s3
  (s4.openBatch.resyncAtFrame.sendFrameStart).flush

/-- A frame opens without a provisional result and undecided (R14). -/
theorem State.openFrame_eq (s : State) :
    ∃ s1 : State, s.openFrame = s1.enterFrame ∧ s1.frameCore = s.frameCore.fresh :=
  ⟨_, rfl, rfl⟩

/-- Of a frame that is entered the batch is new, and of the pegged data the duty station alone may move (R15, R91). -/
theorem State.enterFrame_frameCore (s : State) :
    ∃ d b, s.enterFrame.frameCore = (s.frameCore.withDuty d).withBatch b := by
  unfold State.enterFrame
  extract_lets s2 s3 s4
  obtain ⟨d, hd⟩ := s.refAtFrame.discUpdate.measure.ringFrame.commitWrites.startAtFrame_frameCore
  obtain ⟨b, hb⟩ := s4.openBatch_frameCore
  have hs4 : s4.frameCore = s2.frameCore := by
    unfold s4 s3; split <;> simp
  exact ⟨d, b, by simp [hb, hs4, s2, hd]⟩

end Sys2Proof.Machine
end

section
/-! SUPPORT. What a peg moves of the frame: the pegged data come into force and the batch is done with; its releases move
nothing of either (R15-R18, R336, R337). -/

namespace Sys2Proof.Machine

/-! ### The ring at a peg (R372, R373, R376) -/

@[simp] theorem State.setWorker_frameCore (s : State) (n : Nat) (w : Worker) : (s.setWorker n w).frameCore = s.frameCore := rfl

@[simp] theorem State.carryCmd_frameCore (s : State) (c : RingCmd) : (s.carryCmd c).frameCore = s.frameCore := by
  unfold State.carryCmd
  dsimp only
  rw [State.carry_only]
  rfl

@[simp] theorem State.carryInner_frameCore (s : State) (op : Half) (r : Req) (n : Nat) :
    (s.carryInner op r n).frameCore = s.frameCore := by
  unfold State.carryInner
  split
  · rfl
  · exact State.carryCmd_frameCore ..

@[simp] theorem State.finishCmd_frameCore (s : State) (c : RingCmd) (st : Status) (ps : List Byte) (dup : Bool) :
    (s.finishCmd c st ps dup).frameCore = s.frameCore := by
  unfold State.finishCmd
  extract_lets s1
  split
  · exact State.answerLate_frameCore ..
  · split
    · exact (State.feAnswer_only ..).keepsBatch.1
    · rfl

@[simp] theorem State.loseWorker_frameCore (s : State) (n : Nat) : (s.loseWorker n).frameCore = s.frameCore := by
  unfold State.loseWorker
  extract_lets w s1 s2 s3
  have hs2 : s2.frameCore = s.frameCore := foldl_frameCore (fun _ _ => State.finishCmd_frameCore ..) _ _
  have hs3 : s3.frameCore = s2.frameCore := by
    unfold s3
    split
    · exact foldl_frameCore (fun _ _ => State.answerLate_frameCore ..) _ _
    · rfl
  exact (State.tellRing_frameCore ..).trans (hs3.trans hs2)

@[simp] theorem State.returnWorker_frameCore (s : State) (n : Nat) : (s.returnWorker n).frameCore = s.frameCore :=
  State.tellRing_frameCore ..

@[simp] theorem State.pegWorker_frameCore (s : State) (n : Nat) : (s.pegWorker n).frameCore = s.frameCore := by
  unfold State.pegWorker
  extract_lets w s1
  have hs1 : s1.frameCore = s.frameCore := rfl
  split_ifs <;> simp [hs1]

@[simp] theorem State.pegWorkerSeen_frameCore (s : State) (n : Nat) : (s.pegWorkerSeen n).frameCore = s.frameCore := by
  unfold State.pegWorkerSeen
  dsimp only
  split_ifs <;> simp

@[simp] theorem State.orderWorker_frameCore (s : State) (n : Nat) (out : Bool) : (s.orderWorker n out).frameCore = s.frameCore := by
  unfold State.orderWorker
  dsimp only
  split_ifs <;> simp

@[simp] theorem State.orderWorkers_frameCore (s : State) : s.orderWorkers.frameCore = s.frameCore :=
  foldl_frameCore (fun _ _ => State.orderWorker_frameCore ..) _ s

@[simp] theorem State.innerRound_frameCore (s : State) : s.innerRound.frameCore = s.frameCore :=
  foldl_frameCore (fun _ _ => State.carryInner_frameCore ..) _ _

@[simp] theorem State.pegRing_frameCore (s : State) : s.pegRing.frameCore = s.frameCore := by
  unfold State.pegRing
  extract_lets s1 ns s2 s3
  have hs1 : s1.frameCore = s.frameCore := by simp [s1]
  have hs2 : s2.frameCore = s1.frameCore := foldl_frameCore State.pegWorker_frameCore ns s1
  have hs3 : s3.frameCore = s1.frameCore := foldl_frameCore State.pegWorkerSeen_frameCore ns s1
  split_ifs <;> simp [hs1, hs2, hs3]

@[simp] theorem State.mapLines_frameCore (s : State) (n : Nat) (f : AinIn → AinIn) (g : DinIn → DinIn) :
    (s.mapLines n f g).frameCore = s.frameCore := by
  unfold State.mapLines
  exact (foldl_frameCore (fun _ _ => State.putDin_frameCore ..) _ _).trans (foldl_frameCore (fun _ _ => State.putAin_frameCore ..) _ _)

@[simp] theorem State.expelWorker_frameCore (s : State) (n : Nat) : (s.expelWorker n).frameCore = s.frameCore := by
  simp [State.expelWorker]

@[simp] theorem State.pegExpel_frameCore (s : State) : s.pegExpel.frameCore = s.frameCore := by
  unfold State.pegExpel
  split
  · rfl
  · split
    · rfl
    · dsimp only
      split
      · exact (State.answerLate_frameCore ..).trans (State.expelWorker_frameCore ..)
      · exact State.expelWorker_frameCore ..

/-! ### What hangs on the configuration (R209, R219, R232, R305, R393) -/

@[simp] theorem State.driveCh_frameCore (s : State) (ch : Nat) (on : Bool) (t : Batten) : (s.driveCh ch on t).frameCore = s.frameCore :=
  State.modCh_frameCore ..

@[simp] theorem State.afeReconfig_frameCore (s : State) (old : Sparse Nat) : (s.afeReconfig old).frameCore = s.frameCore := by
  unfold State.afeReconfig
  dsimp only
  refine (foldl_frameCore (fun _ _ => ?_) _ _).trans (foldl_frameCore (fun _ _ => ?_) _ _)
  · split <;> simp
  · split <;> simp

@[simp] theorem State.dinReconfig_frameCore (s : State) (old : Sparse Nat) : (s.dinReconfig old).frameCore = s.frameCore := by
  unfold State.dinReconfig
  refine foldl_frameCore (fun _ _ => ?_) _ _
  split <;> rfl

@[simp] theorem State.recordsDue_frameCore (s : State) (old : Sparse Nat) : (s.recordsDue old).frameCore = s.frameCore := rfl

@[simp] theorem State.modCan_frameCore (s : State) (c : CanNo) (f : CanSt → CanSt) : (s.modCan c f).frameCore = s.frameCore := by
  rw [State.modCan_only]; rfl

@[simp] theorem State.canConfig_frameCore (s : State) : s.canConfig.frameCore = s.frameCore :=
  foldl_frameCore (fun _ _ => State.modCan_frameCore ..) _ s

@[simp] theorem State.reconfigured_frameCore (s : State) (old : Sparse Nat) : (s.reconfigured old).frameCore = s.frameCore := by
  unfold State.reconfigured; split <;> simp

@[simp] theorem State.openRecorder_frameCore (s : State) : s.openRecorder.frameCore = s.frameCore := by
  unfold State.openRecorder
  dsimp only
  split_ifs <;> rfl

@[simp] theorem State.passItems_frameCore (s : State) : s.passItems.frameCore = s.frameCore := State.forwardWaiting_frameCore _

@[simp] theorem State.markE_frameCore (s old : State) : (s.markE old).frameCore = s.frameCore := by
  unfold State.markE
  refine foldl_frameCore (fun _ _ => ?_) _ _
  split <;> rfl

/-! ### Releases (R17, R132, R399, R400) -/

@[simp] theorem State.queueCan_frameCore (s : State) (c : CanNo) (f : CanFrame) : (s.queueCan c f).frameCore = s.frameCore := by
  unfold State.queueCan
  extract_lets q0 q q1 s1
  split_ifs
  · rfl
  · exact State.modCan_frameCore ..
  · exact State.modCan_frameCore ..

@[simp] theorem State.queuePanel_frameCore (s : State) (n : Nat) (f : List Byte) : (s.queuePanel n f).frameCore = s.frameCore := by
  unfold State.queuePanel
  dsimp only
  split <;> rfl

@[simp] theorem State.broadcast_frameCore (s : State) (prio n : Nat) (b : List Byte) : (s.broadcast prio n b).frameCore = s.frameCore := by
  unfold State.broadcast
  split
  · rfl
  · refine (State.queuePanel_frameCore ..).trans (foldl_frameCore (fun _ _ => ?_) _ _)
    split <;> simp

@[simp] theorem State.sendStation_frameCore (s : State) (n : Nat) : (s.sendStation n).frameCore = s.frameCore := by
  unfold State.sendStation
  extract_lets b s1
  have hs1 : s1.frameCore = s.frameCore := by
    refine foldl_frameCore (fun _ _ => ?_) _ _
    split
    · split <;> simp
    · rfl
  split_ifs <;> simp [hs1]

@[simp] theorem State.queueSentence_frameCore (s : State) (x : Sentence) : (s.queueSentence x).frameCore = s.frameCore := rfl

@[simp] theorem State.releaseSentence_frameCore (s : State) (x : Sentence) : (s.releaseSentence x).frameCore = s.frameCore := by
  unfold State.releaseSentence
  split
  · simp
  · exact foldl_frameCore (fun _ _ => State.queueSentence_frameCore ..) _ s
  · simp

@[simp] theorem State.releaseSentences_frameCore (s : State) (l : List Sentence) : (s.releaseSentences l).frameCore = s.frameCore := by
  unfold State.releaseSentences
  split
  · exact foldl_frameCore State.releaseSentence_frameCore l s
  · split <;> rfl

@[simp] theorem State.releaseCalls_frameCore (s : State) (old : Engine) (p : Prov) : (s.releaseCalls old p).frameCore = s.frameCore := by
  unfold State.releaseCalls
  extract_lets on s1 s2
  have hon (u : State) (l : DriverLine) (v : Uart) : (on u l v).frameCore = u.frameCore := by
    unfold on; split <;> simp
  have hs2 : s2.frameCore = s.frameCore := by
    unfold s2 s1; split <;> simp [hon]
  exact (State.releaseSentences_frameCore ..).trans ((foldl_frameCore State.sendStation_frameCore _ _).trans hs2)

@[simp] theorem State.sendPointChange_frameCore (s : State) (ns : List Nat) : (s.sendPointChange ns).frameCore = s.frameCore := by
  unfold State.sendPointChange
  split
  · rfl
  · exact foldl_frameCore (fun _ _ => State.broadcast_frameCore ..) _ s

@[simp] theorem State.sendSysState_frameCore (s : State) : s.sendSysState.frameCore = s.frameCore := by
  unfold State.sendSysState
  split
  · rfl
  · exact State.broadcast_frameCore ..

@[simp] theorem State.releaseCan_frameCore (s : State) (old : Engine) (was : Nat) (p : Prov) :
    (s.releaseCan old was p).frameCore = s.frameCore := by
  unfold State.releaseCan
  dsimp only
  split <;> simp

@[simp] theorem State.releaseFrame_frameCore (s : State) (p : Prov) : (s.releaseFrame p).frameCore = s.frameCore :=
  (State.releaseRecords_only ..).keepsBatch.1

@[simp] theorem State.workerEdgeEvent_frameCore (s : State) (x : Nat × List Byte) : (s.workerEdgeEvent x).frameCore = s.frameCore := by
  unfold State.workerEdgeEvent
  dsimp only
  split <;> simp

@[simp] theorem State.releaseEvents_frameCore (s : State) (ledger causes : List (Nat × Nat)) (p : Prov) :
    (s.releaseEvents ledger causes p).frameCore = s.frameCore := by
  unfold State.releaseEvents
  extract_lets s1 s2 s3
  have hs1 : s1.frameCore = s.frameCore := foldl_frameCore (fun _ _ => State.raise_frameCore ..) _ _
  have hs2 : s2.frameCore = s1.frameCore := foldl_frameCore (fun _ _ => State.raise_frameCore ..) _ _
  have hs3 : s3.frameCore = s2.frameCore :=
    (foldl_frameCore (fun _ _ => State.raise_frameCore ..) _ _).trans (foldl_frameCore State.workerEdgeEvent_frameCore _ _)
  exact (hs3.trans hs2).trans hs1

/-! ### After the releases -/

@[simp] theorem State.compareLines_frameCore (s : State) : s.compareLines.frameCore = s.frameCore := by
  have ain (u : State) (ch : Nat) : (u.compareAin ch).frameCore = u.frameCore := by
    unfold State.compareAin; dsimp only; split <;> simp
  have din (u : State) (i : Nat) : (u.compareDin i).frameCore = u.frameCore := by
    unfold State.compareDin; dsimp only; split <;> simp
  unfold State.compareLines
  exact (foldl_frameCore din _ _).trans (foldl_frameCore ain _ _)

@[simp] theorem State.endRound_frameCore (s : State) : s.endRound.frameCore = s.frameCore := by
  unfold State.endRound; split <;> simp

/-- No journal leaves while no twin resynchronises (Table TWN-8). -/
theorem State.sendResync_of_twinState {s : State} (h : s.pair.twinState ≠ 3) (old : Pegged) : s.sendResync old = s :=
  if_pos (.inl h)

/-- The claim of a peg is loaded beside the frame (R233, R330). -/
@[simp] theorem State.loadClaim_frameCore (s : State) (b : Bool) : (s.loadClaim b).frameCore = s.frameCore := by
  unfold State.loadClaim
  dsimp only
  split <;> rfl

/-! ### The peg -/

/-- A pegged frame: its data in force, its batch done with (R15, R16). -/
def FrameCore.pegged (c : FrameCore) (q : Pegged) : FrameCore :=
  { c with prov := none, batch := [], peg := q, lastPegFrame := c.frameNo, firstPeg := true }

/-- The owner counters look at the pegged data and the frame's number alone (R160). -/
theorem State.countAll_congr {s u : State} (hp : u.peg = s.peg) (hf : u.clk.frameNo = s.clk.frameNo) : u.countAll = s.countAll := by
  have hcfg : u.cfg = s.cfg := by unfold State.cfg; rw [hp]
  have hpoint : u.pointSt = s.pointSt := by unfold State.pointSt; rw [hp]
  have hcounted : u.counted = s.counted := by
    funext o
    simp only [State.counted, State.dinPeg, State.readGroup, State.groupPoints, State.readInhibit, hp, hf, hcfg, hpoint]
  have hone : u.countOne = s.countOne := by
    funext i c
    simp only [State.countOne, hcounted, hcfg, State.ainPeg, hp]
  simp only [State.countAll, hp, hone]

@[simp] theorem State.takePegged_frameCore (s : State) (p : Prov) : (s.takePegged p).frameCore
    = { s.frameCore with peg := (s.under p).countAll, lastPegFrame := s.clk.frameNo, firstPeg := true } :=
  State.reconfigured_frameCore ..

/-- What a peg does once its batch is in force: outputs, claim, and the releases in the order of R17. -/
def State.releasePeg (s s0 : State) (ledger causes : List (Nat × Nat)) (p : Prov) : State :=
  let s4 := (if s0.isActive ∧ ¬ s.isActive then s.passItems else s).markE s0
  let s5 := s4.loadClaim true
  let s6 := ((s5.releaseCalls s0.peg.engine p).releaseCan s0.peg.engine s0.pair.state p).releaseFrame p
  let s7 := s6.releaseEvents ledger causes p
  let s8 := (p.replies.foldl State.pegReply s7).answerRefused
  let s9 := if s8.pair.state = 2 then s8.compareLines else s8
  (s9.sendResync s0.peg).endRound

/-- Without an effect outside the pegged data a peg closes the batch, takes the data, turns to the ring and releases. -/
theorem State.commit_eq {p : Prov} (he : p.effects = []) (s : State) :
    s.commit p = State.releasePeg
      (({ s with recorder := { s.recorder with logCauses := [] } }.closeBatch.takePegged p).openRecorder.pegRing.pegExpel)
      s [] s.recorder.logCauses p := by
  unfold State.commit
  rw [he]
  rfl

/-- The releases of a peg leave the frame as the peg has made it. -/
theorem State.releasePeg_frameCore {s : State} (ht : s.pair.twinState ≠ 3) (s0 : State) (ledger causes : List (Nat × Nat)) (p : Prov) :
    (s.releasePeg s0 ledger causes p).frameCore = s.frameCore := by
  unfold State.releasePeg
  extract_lets s4 s5 s6 s7 s8 s9
  have hs4 : s4.frameCore = s.frameCore := by
    unfold s4; split <;> simp
  have hs7 : s7.frameCore = s.frameCore := by
    simp [s7, s6, s5, hs4]
  have hs8 : s8.frameCore = s.frameCore := by
    simp [s8, (s7.pegReplies_keepsBatch p.replies).1, hs7]
  have hs9 : s9.frameCore = s.frameCore := by
    unfold s9; split <;> simp [hs8]
  have htwin : s9.pair.twinState = s.pair.twinState := congrArg FrameCore.twinState hs9
  rw [State.sendResync_of_twinState (by rwa [htwin]), State.endRound_frameCore, hs9]

/-- A frame whose batch has no effect outside the pegged data is pegged: its data come into force with the owner counters run on,
and nothing that the peg releases moves them (R15, R16, R17, R160). -/
theorem State.commit_frameCore {s : State} {p : Prov} (he : p.effects = []) (ht : s.pair.twinState ≠ 3) :
    (s.commit p).frameCore = s.frameCore.pegged (s.under p).countAll := by
  rw [State.commit_eq he]
  generalize hs1 : ({ s with recorder := { s.recorder with logCauses := [] } }.closeBatch.takePegged p).openRecorder.pegRing.pegExpel = s1
  have hcore : s1.frameCore = s.frameCore.pegged (s.under p).countAll := by
    rw [← hs1, State.pegExpel_frameCore, State.pegRing_frameCore, State.openRecorder_frameCore, State.takePegged_frameCore,
      State.countAll_congr (s := s.under p) rfl rfl]
    rfl
  have htwin : s1.pair.twinState = s.pair.twinState := congrArg FrameCore.twinState hcore
  rw [State.releasePeg_frameCore (by rwa [htwin]), hcore]

/-! ### The decision of a unit that leads alone (R336, R337) -/

/-- The frame as an unpegged decision leaves it. -/
def FrameCore.unpegged (c : FrameCore) : FrameCore := { c with prov := none }

@[simp] theorem State.unpeg_frameCore (s : State) : s.unpeg.frameCore = s.frameCore.unpegged := by
  unfold State.unpeg
  split <;> rfl

@[simp] theorem State.maybeReferee_frameCore (s : State) : s.maybeReferee.frameCore = s.frameCore := by
  unfold State.maybeReferee
  split
  · rfl
  · exact State.tellPair_frameCore ..

/-- The redundancy-loss facts of an active unit stand as they are pegged: the peg evaluates nothing again (R352). -/
theorem State.pegRedundancy_eq {s : State} {p : Prov} (hp : s.prov = some p) (ha : s.isActive = true)
    (hown : (p.pt 0x800).sources.getLsbD (b2n s.unitB) = false)
    (htwin : (p.pt 0x800).sources.getLsbD s.twinBit = s.redundancyLost) : s.pegRedundancy = s := by
  have fact {bit : Nat} {on : Bool} (h : (p.pt 0x800).sources.getLsbD bit = on) : s.pegFact 0x800 bit on = s := by
    simp [State.pegFact, hp, h]
  unfold State.pegRedundancy
  rw [if_pos ha, fact hown, fact htwin]

end Sys2Proof.Machine
end

section
/-! SUPPORT. The rows of a frame, from its start to its peg decision, each on the states that its rules speak of. -/

namespace Sys2Proof.Machine

/-! ### Frame start (R13, R14) -/

/-- The next frame: its number and its start, 125 000 ticks on. -/
def FrameCore.next (c : FrameCore) : FrameCore :=
  { c with frameNo := c.frameNo + 1, frameStart := c.frameStart + 125000 }

theorem State.nextFrame_frameCore (s : State) : s.nextFrame.frameCore = s.frameCore.next :=
  congrArg FrameCore.next (s.toOffset_frameCore Config.frameTicks)

theorem frameStart_frameCore {s : State} (ha : s.alive = true) (hr : s.clk.running = true) (ho : s.framesOver = false) :
    ∃ (u : State) (d : Option Nat) (b : List BatchItem), exec .frameStart s = .next u
      ∧ u.frameCore = (s.frameCore.next.fresh.withDuty d).withBatch b := by
  have start (s0 : State) (h : s0.frameCore = s.frameCore) :
      ∃ d b, s0.nextFrame.openFrame.frameCore = (s.frameCore.next.fresh.withDuty d).withBatch b := by
    obtain ⟨s1, heq, hs1⟩ := s0.nextFrame.openFrame_eq
    obtain ⟨d, b, hb⟩ := s1.enterFrame_frameCore
    exact ⟨d, b, by rw [heq, hb, hs1, s0.nextFrame_frameCore, h]⟩
  obtain ⟨d, b, h⟩ := start (if s.isReady ∧ ¬ s.isWorker ∧ ¬ s.pair.detached then s.submitFacts else s) (by split <;> simp)
  refine ⟨_, d, b, ?_, h⟩
  show execFrameStart s = _
  simp [execFrameStart, ha, hr, ho]

/-- No frame starts while none runs. -/
theorem frameStart_stopped {s : State} (hr : s.clk.running = false) : exec .frameStart s = .next s := by
  show execFrameStart s = _
  simp [execFrameStart, hr]

/-! ### Evaluation (R276) -/

theorem frameEvaluation_evaluates (b : Bool) {s : State} (he : s.evaluates = true) (hd : s.pair.decided = false)
    (ho : (s.toOffset 37500).offset < 112500) :
    exec (.frameEvaluation b) s = .next { s.toOffset 37500 with prov := some ((s.toOffset 37500).evaluateFrame b) } := by
  show execFrameEvaluation b s = _
  simp [execFrameEvaluation, he, hd, ho]

/-! ### Withdrawal (R176) -/

theorem unpegged_withdraws {s : State} (ha : s.alive = true) (hw : s.isWorker = false) :
    exec .unpegged s = .next s.withdraw.flush := by
  show execUnpegged s = _
  simp [execUnpegged, ha, hw]

/-! ### Digests (R335, R336) -/

/-- On a trained link a bound unit's packet joins what waits to leave, tagged and under the next number (R322, R323). -/
theorem State.sendRidge_tx {s : State} (ht : s.ridge.trained = true) (ha : s.alive = true) (hb : s.pair.bound = true) (k : Nat)
    (p : List Byte) :
    (s.sendRidge k p).ridge.tx = s.ridge.tx ++ [ridgeBytes true s.ridge.keyOut (s.ridge.lsnOut + 1) k s.ridge.lsnAck p] := by
  simp [State.sendRidge, ht, ha, hb]

/-- Time that passes within a frame moves the batten counter and the model's own count alone. -/
theorem State.toOffset_only (s : State) (off : Nat) :
    s.toOffset off = { s with clk := { s.clk with batten := (s.toOffset off).clk.batten }, time := (s.toOffset off).time } := by
  unfold State.toOffset; split <;> rfl

@[simp] theorem State.toOffset_ridge (s : State) (off : Nat) : (s.toOffset off).ridge = s.ridge := by rw [State.toOffset_only]
@[simp] theorem State.toOffset_pair (s : State) (off : Nat) : (s.toOffset off).pair = s.pair := by rw [State.toOffset_only]
@[simp] theorem State.toOffset_alive (s : State) (off : Nat) : (s.toOffset off).alive = s.alive := by
  rw [State.toOffset_only]; rfl

theorem State.isReady_alive {s : State} (h : s.isReady = true) : s.alive = true := by
  simp only [State.isReady, Bool.and_eq_true] at h
  exact h.1

theorem digestExchange_sends {s : State} {p : Prov} (hp : s.provDue = some p) (hready : s.isReady = true) (hw : s.isWorker = false)
    (hdet : s.pair.detached = false) (hb : s.pair.bound = true) (hd : s.pair.decided = false) (href : s.refereeDue = false)
    (ht : s.ridge.trained = true) :
    ∃ u : State, exec .digestExchange s = .next u ∧ u.peg = s.peg ∧ u.ridge.tx = s.ridge.tx
      ++ [ridgeBytes true s.ridge.keyOut (s.ridge.lsnOut + 1) kDIGEST s.ridge.lsnAck (s.ownDigest p).bytes] := by
  have hs1 : (s.toOffset 93750).refereeResult = s.toOffset 93750 := by
    have hdue : (s.toOffset 93750).refereeDue = false := by rw [State.toOffset_only]; exact href
    simp [State.refereeResult, hdue]
  refine ⟨(s.toOffset 93750).sendRidge kDIGEST (s.ownDigest p).bytes, ?_, ?_, ?_⟩
  · have hown : (s.toOffset 93750).ownDigest p = s.ownDigest p := by rw [State.toOffset_only]; rfl
    show execDigestExchange s = _
    simp [execDigestExchange, hp, hready, hw, hdet, hb, hd, hs1, hown]
  · exact congrArg FrameCore.peg ((State.sendRidge_frameCore ..).trans (s.toOffset_frameCore 93750))
  · have htx := State.sendRidge_tx (s := s.toOffset 93750) (by simpa using ht) (by simpa using State.isReady_alive hready)
      (by simpa using hb) kDIGEST (s.ownDigest p).bytes
    simpa using htx

theorem digestReceived_takes {k b : List Byte} {s s1 : State} (h : s.takeRidge kDIGEST k = (some b, s1)) (hw : s1.isWorker = false)
    (hr : s1.clk.running = true) (hf : (digestOf b).frame = s1.clk.frameNo) (ho : s1.offset ≤ 112000) (hd : s1.pair.decided = false) :
    exec (.digestReceived k) s = .next { s1 with pair := { s1.pair with twinDigest := some (digestOf b) } } := by
  show execDigestReceived k s = _
  simp [execDigestReceived, h, hw, hr, hf, ho, hd]

/-! ### The peg decision of a unit that leads alone (R17, R336, R337) -/

/-- The state in which a frame is decided, once in the frame (R17). -/
def State.atDecision (s : State) : State := (s.toOffset 112500).modPair (fun p => { p with decided := true })

/-- The decision of the frame is noted. -/
def FrameCore.markDecided (c : FrameCore) : FrameCore := { c with decided := true }

theorem State.atDecision_frameCore (s : State) : s.atDecision.frameCore = s.frameCore.markDecided :=
  congrArg FrameCore.markDecided (s.toOffset_frameCore 112500)

/-- A manager at READY that leads without a twin, with a provisional result of the present frame. -/
structure State.LeadsAlone (s : State) (p : Prov) : Prop where
  due       : s.provDue = some p
  ready     : s.isReady = true
  manager   : s.isWorker = false
  running   : s.clk.running = true
  attached  : s.pair.detached = false
  solo      : s.pair.state = 0
  noReferee : s.pair.refStart = none

theorem State.LeadsAlone.prov {s : State} {p : Prov} (h : s.LeadsAlone p) : s.prov = some p := by
  have hdue := h.due
  unfold State.provDue at hdue
  split at hdue
  · split at hdue
    · rename_i q hq _
      rw [hq, hdue]
    · cases hdue
  · cases hdue

theorem State.LeadsAlone.isActive {s : State} {p : Prov} (h : s.LeadsAlone p) : s.isActive = true := by
  simp [State.isActive, h.manager, h.solo, h.attached]

theorem State.LeadsAlone.atDecision {s : State} {p : Prov} (h : s.LeadsAlone p) : s.atDecision.LeadsAlone p := by
  obtain ⟨hdue, hready, hmanager, hrunning, hattached, hsolo, hreferee⟩ := h
  unfold State.atDecision
  rw [State.toOffset_only]
  exact ⟨hdue, hready, hmanager, hrunning, hattached, hsolo, hreferee⟩

/-- Such a unit decides on its own lanes (Table TWN-5, last row). -/
theorem State.LeadsAlone.decideFrame {s : State} {p : Prov} (h : s.LeadsAlone p) : s.decideFrame = s.pegOwnLanes p := by
  have hdue : s.refereeDue = false := by simp [State.refereeDue, h.noReferee]
  simp [State.decideFrame, hdue, State.decideRole, h.solo, h.due, h.isActive, State.decideActive]

theorem State.LeadsAlone.pegDecision {s : State} {p : Prov} (h : s.LeadsAlone p) (hd : s.pair.decided = false) :
    exec .pegDecision s = .next (s.atDecision.pegOwnLanes p).flush := by
  have hphase (u : State) (hu : u.isReady = true) : u.rst.phase = 0x0B := by
    simp only [State.isReady, Bool.and_eq_true, beq_iff_eq] at hu
    exact hu.2
  have hs1 : (s.toOffset 112500).modPair (fun p => { p with decided := true }) = s.atDecision := rfl
  show execPegDecision s = _
  simp [execPegDecision, hs1, State.isReady_alive h.ready, h.running, h.manager, hd, hphase _ h.atDecision.ready,
    h.atDecision.ready, h.atDecision.attached, h.atDecision.decideFrame]

/-- A mismatch is counted, and the frame goes on. -/
def FrameCore.disagreed (c : FrameCore) : FrameCore := { c with mismatches := inc32 c.mismatches }

/-- Lanes that disagree leave the frame unpegged, its batch carried and a mismatch counted (R15, R17, R337). -/
theorem State.LeadsAlone.leaves_unpegged {s : State} {p : Prov} (h : s.LeadsAlone p) (hd : s.pair.decided = false)
    (hl : p.lanesAgree = false) : ∃ u : State, exec .pegDecision s = .next u
      ∧ u.frameCore = s.frameCore.markDecided.disagreed.unpegged := by
  refine ⟨_, h.pegDecision hd, ?_⟩
  have hcount : (s.atDecision.modPair PairSt.lanesDisagree).frameCore = s.frameCore.markDecided.disagreed :=
    congrArg FrameCore.disagreed s.atDecision_frameCore
  simp [State.pegOwnLanes, hl, hcount]

/-- The consecutive mismatches end with a frame whose lanes agree. -/
def State.agreed (s : State) : State := s.modPair (fun x => { x with consecMis := 0 })

theorem State.LeadsAlone.agreed {s : State} {p : Prov} (h : s.LeadsAlone p) : s.agreed.LeadsAlone p :=
  ⟨h.due, h.ready, h.manager, h.running, h.attached, h.solo, h.noReferee⟩

/-- Lanes that agree peg the frame on such a unit where its batch has no effect outside the pegged data and the redundancy-loss
facts stand (R16, R17, R160, R352). -/
theorem State.LeadsAlone.pegs {s : State} {p : Prov} (h : s.LeadsAlone p) (hd : s.pair.decided = false) (htwin : s.pair.twinState ≠ 3)
    (hl : p.lanesAgree = true) (he : p.effects = []) (hown : (p.pt 0x800).sources.getLsbD (b2n s.unitB) = false)
    (hlost : (p.pt 0x800).sources.getLsbD s.twinBit = s.redundancyLost) :
    ∃ u : State, exec .pegDecision s = .next u ∧ u.frameCore = s.frameCore.markDecided.pegged (s.under p).countAll := by
  refine ⟨_, h.pegDecision hd, ?_⟩
  have hu := h.atDecision.agreed
  have hcore : s.atDecision.agreed.frameCore = s.frameCore.markDecided := s.atDecision_frameCore
  have hsame : s.atDecision.agreed.pegRedundancy = s.atDecision.agreed := by
    refine State.pegRedundancy_eq hu.prov hu.isActive ?_ ?_
    · unfold State.atDecision; rw [State.toOffset_only]; exact hown
    · unfold State.atDecision; rw [State.toOffset_only]; exact hlost
  have hnow : s.atDecision.agreed.pegNow = s.atDecision.agreed.commit p := by
    simp [State.pegNow, hsame, hu.prov]
  have hframe : s.atDecision.agreed.clk.frameNo = s.clk.frameNo := congrArg FrameCore.frameNo hcore
  have htwin' : s.atDecision.agreed.pair.twinState = s.pair.twinState := congrArg FrameCore.twinState hcore
  have hcount : (s.atDecision.agreed.under p).countAll = (s.under p).countAll := State.countAll_congr rfl hframe
  calc (s.atDecision.pegOwnLanes p).flush.frameCore = (s.atDecision.agreed.commit p).frameCore := by
        rw [State.flush_frameCore, State.pegOwnLanes, if_pos hl, ← hnow]; rfl
    _ = s.atDecision.agreed.frameCore.pegged (s.atDecision.agreed.under p).countAll := State.commit_frameCore he (by rwa [htwin'])
    _ = s.frameCore.markDecided.pegged (s.under p).countAll := by rw [hcore, hcount]

end Sys2Proof.Machine
end

section
open Sys2Proof Sys2Proof.Machine

/-- Settles O57: the start, the withdrawal and the decision through what each leaves of the frame's core, the evaluation and the
digests as their rows answer. -/
theorem frameComplete : Obligations.FrameComplete := by
  refine ⟨?start, fun _ => frameStart_stopped, ?evaluation, ?withdrawal, ?sent, ?taken, ?decision⟩
  case start =>
    intro s ha hr ho
    obtain ⟨u, d, b, hexec, hu⟩ := frameStart_frameCore ha hr ho
    exact ⟨u, hexec, congrArg FrameCore.frameNo hu, congrArg FrameCore.frameStart hu, congrArg FrameCore.prov hu,
      congrArg FrameCore.decided hu, congrArg (·.peg.cfg) hu, congrArg (·.peg.gen) hu, congrArg (·.peg.engine.points) hu,
      congrArg FrameCore.keys hu⟩
  case evaluation =>
    intro b s he hd ho
    exact ⟨_, frameEvaluation_evaluates b he hd ho, rfl, rfl⟩
  case withdrawal =>
    intro s ha hw
    exact ⟨_, unpegged_withdraws ha hw, s.withdraw_flush_spec⟩
  case sent =>
    intro s p hp hready hw hdet hb hd href ht
    obtain ⟨u, hexec, hpeg, htx⟩ := digestExchange_sends hp hready hw hdet hb hd href ht
    exact ⟨u, _, hexec, htx, rfl, hpeg⟩
  case taken =>
    intro k b s s1 h hw hr hf ho hd
    exact digestReceived_takes h hw hr hf ho hd
  case decision =>
    intro s p hdue hready hw hr hd hdet hsolo href htwin
    have h : s.LeadsAlone p := ⟨hdue, hready, hw, hr, hdet, hsolo, href⟩
    refine ⟨fun hl => ?_, fun hl he hown hlost _ => ?_⟩
    · obtain ⟨u, hexec, hu⟩ := h.leaves_unpegged hd hl
      exact ⟨u, hexec, congrArg FrameCore.prov hu, congrArg FrameCore.batch hu, congrArg FrameCore.decided hu,
        congrArg FrameCore.peg hu, congrArg FrameCore.mismatches hu⟩
    · obtain ⟨u, hexec, hu⟩ := h.pegs hd htwin hl he hown hlost
      exact ⟨u, hexec, congrArg FrameCore.prov hu, congrArg FrameCore.batch hu, congrArg FrameCore.decided hu,
        congrArg FrameCore.peg hu, congrArg FrameCore.lastPegFrame hu, congrArg FrameCore.firstPeg hu⟩

end

section
/-! SUPPORT. The TAP: what TRST_N, an instruction and a TCK edge in Shift-DR do (R40, R403, Table PRT-8). -/

namespace Sys2Proof.Machine

/-! ### The instructions -/

@[simp] theorem State.tapInstr_idcode (s : State) : s.tapInstr 1 = 1 := rfl

/-- Outside the maintenance state EXTEST and SAMPLE act as BYPASS (R40, R403, Table PRT-8). -/
theorem State.tapInstr_boundary {s : State} {c : BitVec 5} (hc : c = 0 ∨ c = 2) (hm : s.maint.mode ≠ 1) : s.tapInstr c = 31 := by
  obtain rfl | rfl := hc <;> simp [State.tapInstr, hm]

/-- Without an unlocked debug the instructions from 16 up act as BYPASS (R403, Table PRT-8). -/
theorem State.tapInstr_debug {s : State} {c : BitVec 5} (hc : 16 ≤ c.toNat) (hd : s.maint.debugUnlocked = false) :
    s.tapInstr c = 31 := by
  have h0 : c ≠ 0#5 := by rintro rfl; exact absurd hc (by decide)
  have h1 : c ≠ 1#5 := by rintro rfl; exact absurd hc (by decide)
  have h2 : c ≠ 2#5 := by rintro rfl; exact absurd hc (by decide)
  have hopen : s.debugOpen = false := by simp [State.debugOpen, hd]
  simp [State.tapInstr, h0, h1, h2, hopen]

theorem jtagInstructionUpdate_latches {s : State} (h : s.tapHeld = false) (c : BitVec 5) :
    exec (.jtagInstructionUpdate c) s = .next (s.modJtag (fun j => { j with ir := s.tapInstr c })) := by
  show execJtagInstructionUpdate c s = _
  simp [execJtagInstructionUpdate, h]

/-! ### TCK edges in Shift-DR (IEEE 1149.1) -/

/-- A rising edge in Shift-DR takes TDI in behind the register's other cells, and moves the controller on. -/
theorem State.tckRise_shiftDr {s : State} (h : s.hw.jtag.tap = .shiftDr) (tms tdi : Bool) :
    s.tckRise tms tdi = s.modJtag (fun j =>
      { j with drShift := j.drShift.drop 1 ++ [tdi], tap := if tms then .exit1Dr else .shiftDr }) := by
  cases tms <;> simp [State.tckRise, State.modJtag, h, Tap.next]

/-- A falling edge in Shift-DR puts the register's first cell on TDO. -/
theorem State.tckFall_shiftDr {s : State} (h : s.hw.jtag.tap = .shiftDr) :
    s.tckFall = s.modJtag (fun j => { j with tdo := j.drShift.head? }) := by
  simp [State.tckFall, h]

theorem jtagTckEdge_rising {s : State} (h : s.tapHeld = false) (tms tdi : Bool) :
    exec (.jtagTckEdge true tms tdi) s = .next (s.tckRise tms tdi) := by
  show execJtagTckEdge true tms tdi s = _
  simp [execJtagTckEdge, h]

theorem jtagTckEdge_falling {s : State} (h : s.tapHeld = false) (tms tdi : Bool) :
    exec (.jtagTckEdge false tms tdi) s = .next s.tckFall := by
  show execJtagTckEdge false tms tdi s = _
  simp [execJtagTckEdge, h]

end Sys2Proof.Machine
end

section
open Sys2Proof Sys2Proof.Machine

/-- Settles O44: TRST_N by the reset of the TAP, the instructions by what each acts as, the edges by their effect in Shift-DR. -/
theorem jtagComplete : Obligations.JtagComplete := by
  refine ⟨?held, fun _ => rfl, ?instruction, ?rise, ?fall⟩
  case held =>
    intro s
    exact ⟨s.modJtag (fun j => { j.toReset with trstHigh := false }), rfl, rfl, rfl, rfl, rfl⟩
  case instruction =>
    intro s c h
    exact ⟨_, jtagInstructionUpdate_latches h c, rfl, fun hc => hc ▸ s.tapInstr_idcode, State.tapInstr_boundary, State.tapInstr_debug⟩
  case rise =>
    intro s tdi tms h htap
    refine ⟨_, jtagTckEdge_rising h tms tdi, ?_⟩
    rw [State.tckRise_shiftDr htap]
    exact ⟨rfl, rfl, rfl, rfl⟩
  case fall =>
    intro s h htap
    refine ⟨_, jtagTckEdge_falling h false false, ?_⟩
    rw [State.tckFall_shiftDr htap]
    exact ⟨rfl, rfl⟩

end

section
/-! SUPPORT. What a node sends over its links touches the links, the ports and what a closed session held (R120, R370). -/

namespace Sys2Proof.Machine

/-- Nothing but the links, the ports, the gutter log and what a closed session held changes. -/
def State.OnlyLinks (s u : State) : Prop :=
  u = { s with comm := u.comm, ring := u.ring, gut := u.gut, ridge := u.ridge, stage := u.stage, transfer := u.transfer }

theorem State.OnlyLinks.refl (s : State) : s.OnlyLinks s := rfl
theorem State.OnlyLinks.trans {s u v : State} (h : s.OnlyLinks u) (k : u.OnlyLinks v) : s.OnlyLinks v := by
  unfold State.OnlyLinks at *; rw [k, h]

theorem State.OnlyRing.onlyLinks {s u : State} (h : s.OnlyRing u) : s.OnlyLinks u := by
  unfold State.OnlyRing at h; unfold State.OnlyLinks; rw [h]
theorem State.OnlyRidge.onlyLinks {s u : State} (h : s.OnlyRidge u) : s.OnlyLinks u := by
  unfold State.OnlyRidge at h; unfold State.OnlyLinks; rw [h]

/-! ### Replies -/

theorem State.packetLeft_onlyLinks (s : State) (p : Port) (k : Packet) : s.OnlyLinks (s.packetLeft p k) := by
  unfold State.packetLeft
  dsimp only
  split
  · exact .refl s
  · split <;> rfl

theorem State.headToLink_onlyLinks (s : State) (p : Port) (last : Option (List Byte)) : s.OnlyLinks (s.headToLink p last) := by
  have sent : s.OnlyLinks (s.sentHead p) := by
    unfold State.sentHead
    split
    · exact .refl s
    · refine .trans ?_ (State.packetLeft_onlyLinks _ p _)
      rfl
  unfold State.headToLink
  split
  · rfl
  · exact sent

theorem State.flushRing_onlyLinks (s : State) : s.OnlyLinks s.flushRing := by
  refine foldl_rel State.OnlyLinks .refl .trans _ (fun a k => ?_) _ s
  dsimp only
  refine .trans (.trans ?_ (State.sendTrain_only ..).onlyLinks) (State.headToLink_onlyLinks ..)
  rfl

theorem State.flushRidge_onlyLinks (s : State) : s.OnlyLinks s.flushRidge :=
  foldl_rel State.OnlyLinks .refl .trans _
    (fun a _ => .trans (a.sendRidge_only _ _).onlyLinks (State.headToLink_onlyLinks ..)) _ s

theorem State.settleLinks_onlyLinks (s : State) : s.OnlyLinks s.settleLinks :=
  .trans (u := { s with comm := { s.comm with leaving := s.comm.leaving.filter (fun l => s.onLink l.bytes) } }) rfl
    (foldl_rel State.OnlyLinks .refl .trans _ (fun a (l : Leaving) => a.packetLeft_onlyLinks l.port l.packet) _ _)

theorem State.flush_onlyLinks (s : State) : s.OnlyLinks s.flush :=
  (s.flushRing_onlyLinks.trans (State.flushRidge_onlyLinks _)).trans (State.settleLinks_onlyLinks _)

/-! ### A frame's own packets and cells (R324, R362, R371) -/

theorem State.sendToken_onlyLinks (s : State) : s.OnlyLinks s.sendToken := by
  unfold State.sendToken
  split
  · exact .refl s
  · split
    next c s1 hc =>
    extract_lets b s2 s3
    have hs1 : s.OnlyLinks s1 := by cases hc; rfl
    have hs2 : s1.OnlyLinks s2 := (State.putCell_only ..).onlyLinks
    have hs3 : s2.OnlyLinks s3 := by
      unfold s3
      split
      · exact .refl s2
      · split
        · exact (State.putCell_only ..).onlyLinks
        · exact (State.sendRidge_only ..).onlyLinks
    exact ((hs1.trans hs2).trans hs3).trans rfl

theorem State.sendFrameStart_onlyLinks (s : State) : s.OnlyLinks s.sendFrameStart := by
  unfold State.sendFrameStart
  split
  · exact .refl s
  · split
    · have marker := (s.sendRidge_only kMARKER s.markerBytes).onlyLinks
      dsimp only
      split
      · exact marker
      · exact marker.trans (State.sendToken_onlyLinks _)
    · split
      · exact (State.sendCell_only ..).onlyLinks
      · exact .refl s

end Sys2Proof.Machine
end

section
/-! SUPPORT. Who leads, whether the node still listens and whether frames run: a frame that is entered moves none of them (R90). -/

namespace Sys2Proof.Machine

/-- What the end of the listening window decides (R90). -/
structure LeadCore where
  leads     : Bool
  listening : Bool
  running   : Bool

def State.leadCore (s : State) : LeadCore := { leads := s.pair.leads, listening := s.rst.listening, running := s.clk.running }

theorem State.OnlyLinks.leadCore {s u : State} (h : s.OnlyLinks u) : u.leadCore = s.leadCore := by
  unfold State.OnlyLinks at h; rw [h]; rfl
theorem State.KeepsAllButReplies.leadCore {s u : State} (h : s.KeepsAllButReplies u) : u.leadCore = s.leadCore := by
  unfold State.KeepsAllButReplies at h; rw [h]; rfl

/-- A fold whose steps keep the lead keeps it. -/
theorem foldl_leadCore {β : Type} {f : State → β → State} (h : ∀ a x, (f a x).leadCore = a.leadCore) (l : List β) (s : State) :
    (l.foldl f s).leadCore = s.leadCore :=
  foldl_rel (fun a b : State => b.leadCore = a.leadCore) (fun _ => rfl) (fun h k => k.trans h) f h l s

/-! ### The snapshot -/

theorem State.snapAfe_leadCore (s : State) : s.snapAfe.leadCore = s.leadCore := by
  have snap (a : State) (ch : Nat) : (a.snapAin ch).leadCore = a.leadCore := rfl
  have arrive (a : State) (ch : Nat) : (a.arrive ch).leadCore = a.leadCore := by
    unfold State.arrive
    split
    · rfl
    · split <;> rfl
  unfold State.snapAfe
  dsimp only
  refine ((foldl_leadCore snap _ _).trans (foldl_leadCore arrive _ _)).trans ?_
  split <;> rfl

theorem State.snapField_leadCore (s : State) : s.snapField.leadCore = s.leadCore := by
  have din (a : State) (i : Nat) : (a.snapDin i).leadCore = a.leadCore := by
    unfold State.snapDin; split <;> rfl
  have dout (a : State) (o : Nat) : (a.snapDout o).leadCore = a.leadCore := rfl
  have whole (a : State) (o : Nat) : (a.wholeFrame o).leadCore = a.leadCore := by
    unfold State.wholeFrame; dsimp only; split <;> rfl
  unfold State.snapField
  dsimp only
  exact ((foldl_leadCore whole _ _).trans (foldl_leadCore dout _ _)).trans (foldl_leadCore din _ _)

theorem State.takeOwn_leadCore (s : State) : s.takeOwnAin.takeOwnDin.leadCore = s.leadCore := by
  have ain (a : State) (ch : Nat) : (a.putAin 0 ch (a.ownAin ch)).leadCore = a.leadCore := rfl
  have din (a : State) (i : Nat) : (a.putDin 0 i (a.ownDin i)).leadCore = a.leadCore := rfl
  unfold State.takeOwnDin State.takeOwnAin
  exact (foldl_leadCore din _ _).trans (foldl_leadCore ain _ s)

/-! ### Steps of the start at a frame (R91) -/

theorem State.tellRing_leadCore (s : State) (c w : Nat) : (s.tellRing c w).leadCore = s.leadCore := by
  rw [s.tellRing_only c w]; rfl

theorem State.setRingState_leadCore (s : State) (n : Nat) : (s.setRingState n).leadCore = s.leadCore := by
  unfold State.setRingState
  dsimp only
  split
  · rfl
  · split_ifs <;> exact State.tellRing_leadCore ..

theorem State.startAtFrame_leadCore (s : State) : s.startAtFrame.leadCore = s.leadCore := by
  have ring (u : State) : (if u.isWorker then u else u.setRingState u.ringStateNow).leadCore = u.leadCore := by
    split
    · rfl
    · exact State.setRingState_leadCore ..
  unfold State.startAtFrame
  split
  · exact ring _
  · split <;> rfl

theorem State.discUpdate_leadCore (s : State) : s.discUpdate.leadCore = s.leadCore := by
  unfold State.discUpdate
  extract_lets now
  split <;> rfl

theorem State.driversAtFrame_leadCore (s : State) : s.driversAtFrame.leadCore = s.leadCore := by
  unfold State.driversAtFrame
  dsimp only
  split_ifs <;> rfl

/-! ### The batch -/

theorem State.openBatch_leadCore (s : State) : s.openBatch.leadCore = s.leadCore := by
  have withdraw : s.withdraw.leadCore = s.leadCore :=
    (foldl_leadCore (fun a x => (a.pegReply_keeps x).leadCore) _ _).trans
      (foldl_leadCore (f := State.answerWithdrawn) (fun a i => (a.answerWithdrawn_keeps i).leadCore) _ s)
  unfold State.openBatch
  dsimp only
  split <;> exact withdraw

theorem State.resyncAtFrame_leadCore (s : State) : s.resyncAtFrame.leadCore = s.leadCore := by
  unfold State.resyncAtFrame
  split
  · exact foldl_leadCore (fun a i => (a.sendForward_only i).onlyLinks.leadCore) _ _
  · rfl

/-! ### The frame -/

/-- A frame that is entered leaves the lead as it is. -/
theorem State.enterFrame_leadCore (s : State) : s.enterFrame.leadCore = s.leadCore := by
  unfold State.enterFrame
  extract_lets s2 s3 s4
  have hs2 : s2.leadCore = s.leadCore :=
    calc s2.leadCore = _ := State.driversAtFrame_leadCore _
      _ = s.refAtFrame.discUpdate.leadCore := State.startAtFrame_leadCore _
      _ = s.leadCore := s.refAtFrame.discUpdate_leadCore
  have hs3 : s3.leadCore = s2.leadCore := s2.snapAfe.snapField_leadCore.trans s2.snapAfe_leadCore
  have hs4 : s4.leadCore = s3.leadCore := by
    unfold s4
    split
    · exact s3.takeOwn_leadCore
    · rfl
  calc _ = s4.openBatch.resyncAtFrame.sendFrameStart.leadCore := (State.flush_onlyLinks _).leadCore
    _ = s4.openBatch.resyncAtFrame.leadCore := (State.sendFrameStart_onlyLinks _).leadCore
    _ = s4.openBatch.leadCore := State.resyncAtFrame_leadCore _
    _ = s.leadCore := s4.openBatch_leadCore.trans (hs4.trans (hs3.trans hs2))

theorem State.openFrame_leadCore (s : State) : s.openFrame.leadCore = s.leadCore :=
  State.enterFrame_leadCore _

theorem State.openFrame_frameCore (s : State) :
    ∃ d b, s.openFrame.frameCore = (s.frameCore.fresh.withDuty d).withBatch b := by
  obtain ⟨s1, heq, hs1⟩ := s.openFrame_eq
  obtain ⟨d, b, hb⟩ := s1.enterFrame_frameCore
  exact ⟨d, b, by rw [heq, hb, hs1]⟩

/-! ### The end of the listening window (R90) -/

/-- A manager that has heard no marker leads, and its first frame starts on this tick. -/
def State.takeLead (s : State) : State :=
  let n : Frame := if s.rst.powerOn then 0 else s.eave.lastFrame + 1
  { s with
    rst := { s.rst with listening := false, phase := if s.admittedMask = 0 then 0x0A else 9 }, pair := { s.pair with leads := true },
    clk := { s.clk with frameNo := n, frameStart := s.clk.batten, starts := [(n, s.clk.batten)], running := true } }

theorem listenWindowEnd_leads {s : State} (ha : s.alive = true) (hl : s.rst.listening = true) (ho : s.listenOver = true) :
    exec .listenWindowEnd s = .next s.takeLead.openFrame := by
  show execListenWindowEnd s = _
  simp [execListenWindowEnd, ha, hl, ho, State.takeLead]

/-- Within its window a manager goes on listening. -/
theorem listenWindowEnd_early {s : State} (ho : s.listenOver = false) : exec .listenWindowEnd s = .next s := by
  show execListenWindowEnd s = _
  simp [execListenWindowEnd, ho]

end Sys2Proof.Machine
end

section
/-! SUPPORT. The start sequence: the resets that repeat it, the release and the boot, and what its time limits do (R86-R93). -/

namespace Sys2Proof.Machine

/-! ### A reset that a start's limit begins (R87, R92) -/

/-- Nothing but the recorder, the gutter log and what is free changes. -/
def State.OnlyLogs (s u : State) : Prop := u = { s with recorder := u.recorder, gut := u.gut, free := u.free }
theorem State.OnlyLogs.gutter {s u : State} (h : s.OnlyLogs u) (k a d : Nat) : s.OnlyLogs (u.gutter k a d) := by
  have g := u.gutter_only k a d
  unfold State.OnlyGut at g
  unfold State.OnlyLogs at *
  rw [g, h]

/-- Recorder writes that a reset cuts off touch the logs alone (R304). -/
theorem State.cutWrites_only (s : State) : s.OnlyLogs s.cutWrites := by
  unfold State.cutWrites
  extract_lets r total
  split
  · rfl
  · split
    next v s0 h0 =>
    extract_lets whole
    split
    next w s1 h1 =>
    have hs1 : s.OnlyLogs s1 := by cases h0; cases h1; rfl
    have logs (x : Recorder) (n : Nat) : s.OnlyLogs { s1 with recorder := x, free := n } := by
      unfold State.OnlyLogs at *; rw [hs1]
    extract_lets
    split
    · exact logs ..
    · split
      · exact (logs ..).gutter ..
      · exact (logs ..).gutter ..

@[simp] theorem State.startReset_startFails (s : State) (i : Nat) (p : Bool) :
    (s.startReset i p).eave.startFails = s.eave.startFails := by
  show s.cutWrites.eave.startFails = _
  rw [s.cutWrites_only]

@[simp] theorem State.startReset_cfg (s : State) (i : Nat) (p : Bool) : (s.startReset i p).peg.cfg = s.peg.cfg := by
  show s.cutWrites.peg.cfg = _
  rw [s.cutWrites_only]

theorem startTimeout_repeats {s : State} (ha : s.alive = true) (hp : s.rst.phase = 9) (ht : msTicks 1000 ≤ s.passed s.rst.startFrom) :
    exec .startTimeout s =
      .next ({ s with eave := { s.eave with startFails := min 255 (s.eave.startFails + 1) } }.startReset 16 false) := by
  show execStartTimeout s = _
  simp [execStartTimeout, ha, hp, ht]

theorem startTimeout_early {s : State} (ht : s.passed s.rst.startFrom < msTicks 1000) : exec .startTimeout s = .next s := by
  show execStartTimeout s = _
  simp [execStartTimeout, ht]

/-- A node at READY has no start to repeat. -/
theorem startTimeout_ready {s : State} (hp : s.rst.phase = 0x0B) : exec .startTimeout s = .next s := by
  show execStartTimeout s = _
  simp [execStartTimeout, hp]

theorem downloadTimeout_resets {s : State} (ha : s.alive = true) (hp : s.rst.phase = 0x0C) (hx : s.transfer = none)
    (hm : s.sram = none) (ht : msTicks 60000 ≤ s.sinceRelease) :
    exec .downloadTimeout s = .next ({ s with rst := { s.rst with imageAOnce := true } }.startReset 17 false) := by
  show execDownloadTimeout s = _
  simp [execDownloadTimeout, ha, hp, hx, hm, ht]

theorem downloadTimeout_early {s : State} (ht : s.sinceRelease < msTicks 60000) : exec .downloadTimeout s = .next s := by
  show execDownloadTimeout s = _
  simp [execDownloadTimeout, ht]

/-! ### A worker not heard (R91, R373) -/

theorem State.tellRing_ring (s : State) (c w : Nat) : (s.tellRing c w).ring = s.ring := by rw [s.tellRing_only c w]
theorem State.tellRing_peg (s : State) (c w : Nat) : (s.tellRing c w).peg = s.peg := by rw [s.tellRing_only c w]

theorem startingTimeout_loses {n : Fin 16} {s : State} (hr : s.isReady = true) (hw : s.isWorker = false)
    (hs : (s.worker n.val).state = 1) (ho : (s.worker n.val).okRun = 0) (ht : msTicks 2000 ≤ s.passed s.rst.readyAt) :
    exec (.startingTimeout n) s = .next ((s.setWorker n.val { s.worker n.val with state := 3 }).tellRing 1 n.val) := by
  show execStartingTimeout n s = _
  simp [execStartingTimeout, hr, hw, hs, ho, ht, State.setWorker]

theorem startingTimeout_early {n : Fin 16} {s : State} (ht : s.passed s.rst.readyAt < msTicks 2000) :
    exec (.startingTimeout n) s = .next s := by
  show execStartingTimeout n s = _
  simp [execStartingTimeout, ht]

/-! ### An island without lock (R73) -/

theorem State.modIsland_other (s : State) {i k : Nat} (f : Island → Island) (h : k ≠ i) :
    (s.modIsland i f).islandSt k = s.islandSt k :=
  sget_smod_other _ _ _ _ _ h

/-- A forced yield is an item of the batch, and no island moves (R346). -/
theorem State.forcedYield_clk (s : State) : s.forcedYield.clk = s.clk := by
  unfold State.forcedYield
  split
  · rw [State.submit_only]
  · rfl

/-- An island that stays on the crawl clock; SCAN and MEM take an active unit's yield with them. -/
def State.loseIsland (s : State) (i : Nat) : State :=
  let s1 := s.modIsland i (fun x => { x with state := 3 })
  if i = 1 ∨ i = 3 then s1.forcedYield else s1

theorem State.loseIsland_clk (s : State) (i : Nat) : (s.loseIsland i).clk = (s.modIsland i (fun x => { x with state := 3 })).clk := by
  unfold State.loseIsland
  dsimp only
  split
  · exact State.forcedYield_clk _
  · rfl

theorem State.islandSt_congr {s u : State} (h : u.clk = s.clk) (i : Nat) : u.islandSt i = s.islandSt i := by
  simp [State.islandSt, h]

theorem islandClockFault_loses {i : Fin 7} {s : State} {t : Batten} (ha : s.alive = true) (hs : (s.islandSt i.val).state = 2)
    (hl : (s.islandSt i.val).lossAt = some t) (ht : msTicks 1 ≤ since s.clk.batten t) :
    exec (.islandClockFault i) s = .next (s.loseIsland i.val) := by
  show execIslandClockFault i s = _
  simp [execIslandClockFault, ha, hs, hl, ht, State.loseIsland]

theorem islandClockFault_early {i : Fin 7} {s : State} {t : Batten} (hl : (s.islandSt i.val).lossAt = some t)
    (ht : since s.clk.batten t < msTicks 1) : exec (.islandClockFault i) s = .next s := by
  show execIslandClockFault i s = _
  simp [execIslandClockFault, hl, ht]

/-! ### The steps of a start (R89, R93) -/

/-- Nothing but the port hardware changes. -/
def State.OnlyHw (s u : State) : Prop := u = { s with hw := u.hw }
theorem State.OnlyHw.refl (s : State) : s.OnlyHw s := rfl
theorem State.OnlyHw.trans {s u v : State} (h : s.OnlyHw u) (k : u.OnlyHw v) : s.OnlyHw v := by
  unfold State.OnlyHw at *; rw [k, h]

/-- Nothing but the AFE die changes. -/
def State.OnlyAfe (s u : State) : Prop := u = { s with afe := u.afe }
theorem State.OnlyAfe.refl (s : State) : s.OnlyAfe s := rfl
theorem State.OnlyAfe.trans {s u v : State} (h : s.OnlyAfe u) (k : u.OnlyAfe v) : s.OnlyAfe v := by
  unfold State.OnlyAfe at *; rw [k, h]

/-- Nothing but the islands changes. -/
def State.OnlyIslands (s u : State) : Prop := u = { s with clk := { s.clk with islands := u.clk.islands } }
theorem State.OnlyIslands.refl (s : State) : s.OnlyIslands s := rfl
theorem State.OnlyIslands.trans {s u v : State} (h : s.OnlyIslands u) (k : u.OnlyIslands v) : s.OnlyIslands v := by
  unfold State.OnlyIslands at *; rw [k, h]

theorem State.canConfig_only (s : State) : s.OnlyHw s.canConfig :=
  foldl_rel State.OnlyHw .refl .trans _ (fun a c => a.modCan_only c _) _ s

theorem State.startRates_only (s : State) : s.OnlyIslands s.startRates := by
  refine foldl_rel State.OnlyIslands .refl .trans _ (fun _ _ => ?_) _ s
  rfl

theorem State.loadAfe_only (s : State) : s.OnlyAfe s.loadAfe := by
  have restart : s.OnlyAfe ((List.range 16).foldl (fun a ch => a.modCh ch (AfeCh.restart a.clk.batten)) s) := by
    refine foldl_rel State.OnlyAfe .refl .trans _ (fun _ _ => ?_) _ s
    rfl
  have drive (u : State) : u.OnlyAfe u.driveAll := by
    refine foldl_rel State.OnlyAfe .refl .trans _ (fun _ _ => ?_) _ u
    rfl
  refine (restart.trans ?_).trans (drive _)
  rfl

/-- The configuration that a start takes: its first good copy, else the factory's, with the saved owner counters (R93, R160). -/
def State.startPeg (s : State) : Pegged :=
  if s.nvCopyA.good then Pegged.ofCopy s.nvCopyA s.savedCounters
  else if s.nvCopyB.good then Pegged.ofCopy s.nvCopyB s.savedCounters
  else { Pegged.factory with counters := s.savedCounters }

/-- What the release fixes, and the image that it boots (R29, R86, R89). -/
structure StartCore where
  inReset   : Bool
  latched   : BitVec 5
  rstoutLow : Bool
  portsUp   : Bool
  batten    : Batten
  bootOnce  : Option Nat
  keys      : Sparse Key
  bootImage : Nat
  fallback  : Bool

def State.startCore (s : State) : StartCore :=
  { inReset := s.rst.inReset, latched := s.rst.latched, rstoutLow := s.rst.rstoutLow, portsUp := s.rst.portsUp,
    batten := s.clk.batten, bootOnce := s.eave.bootOnce, keys := s.keys, bootImage := s.rst.bootImage, fallback := s.rst.fallback }

/-- The image of a start, and whether it is the fallback. -/
def StartCore.booting (c : StartCore) (k : Nat) (fb : Bool) : StartCore := { c with bootImage := k, fallback := fb }

/-- What the release has fixed stays, and the pegged data are those given. -/
def State.StartsWith (s : State) (p : Pegged) (u : State) : Prop := u.startCore = s.startCore ∧ u.peg = p

theorem State.OnlyIslands.startsWith {s u v : State} {p : Pegged} (k : u.OnlyIslands v) (h : s.StartsWith p u) : s.StartsWith p v := by
  unfold State.OnlyIslands at k; rw [k]; exact h
theorem State.OnlyHw.startsWith {s u v : State} {p : Pegged} (k : u.OnlyHw v) (h : s.StartsWith p u) : s.StartsWith p v := by
  unfold State.OnlyHw at k; rw [k]; exact h
theorem State.OnlyAfe.startsWith {s u v : State} {p : Pegged} (k : u.OnlyAfe v) (h : s.StartsWith p u) : s.StartsWith p v := by
  unfold State.OnlyAfe at k; rw [k]; exact h
theorem State.OnlyGut.startsWith {s u v : State} {p : Pegged} (k : u.OnlyGut v) (h : s.StartsWith p u) : s.StartsWith p v := by
  unfold State.OnlyGut at k; rw [k]; exact h

/-- Rates, domains and CAN controllers take their configured start states (R47, R65). -/
theorem State.StartsWith.configured {s u : State} {p : Pegged} (h : s.StartsWith p u) :
    s.StartsWith p u.startRates.startDomains.canConfig := by
  have domains (v : State) (hv : s.StartsWith p v) : s.StartsWith p v.startDomains := hv
  exact (State.canConfig_only _).startsWith (domains _ (u.startRates_only.startsWith h))

theorem State.StartsWith.logSaved {s u : State} {p : Pegged} (h : s.StartsWith p u) (g : GutterLog) (k a d : Nat) :
    s.StartsWith p (State.gutter { u with gut := g } k a d) :=
  (State.gutter_only ..).startsWith h

/-- The configuration of a start comes into force, and with it the charger's unless EAVE has kept it (R93, R259). -/
def State.takeCopy (s : State) : State :=
  { s with
    peg := s.startPeg, rst := { s.rst with cfgInvalid := !s.nvCopyA.good && !s.nvCopyB.good },
    eave := if s.eave.charger = s.eave.chargerNv ∧ ¬ s.rst.cold then s.eave
      else { s.eave with charger := s.eave.chargerNv, chargerState := chargerStart s.eave.chargerNv.toNat, chargerAt := s.time } }

theorem State.takeCopy_starts (s : State) : s.StartsWith s.startPeg s.takeCopy := by
  refine ⟨?_, rfl⟩
  unfold State.takeCopy State.startCore
  dsimp only
  split <;> rfl

/-- The configuration in force with the start states that it names (R47, R65, R93). -/
def State.configured (s : State) : State := s.takeCopy.startRates.startDomains.canConfig

/-- A gutter log that was not kept comes back from its save (R46, R318). -/
theorem State.loadConfig_eq (s : State) : s.loadConfig =
    if (!s.rst.powerOn && s.retains) = true ∨ ¬ s.configured.gut.haveSave then s.configured
    else State.gutter { s.configured with gut := { s.configured.gut with entries := s.configured.gut.saved, unsaved := 0 } }
      0x0C 0 s.configured.gut.saved.length := rfl

/-- Step 7 takes the configuration and leaves what the release has fixed (R93). -/
theorem State.loadConfig_starts (s : State) : s.StartsWith s.startPeg s.loadConfig := by
  have h : s.StartsWith s.startPeg s.configured := s.takeCopy_starts.configured
  rw [s.loadConfig_eq]
  split
  · exact h
  · exact h.logSaved ..

/-- Step 8 trains the dies and leaves what the release has fixed (R209, R234). -/
theorem State.StartsWith.trained {s u : State} {p : Pegged} (h : s.StartsWith p u) : s.StartsWith p u.trainDies := by
  unfold State.trainDies
  dsimp only
  split
  · exact (State.loadAfe_only _).startsWith h
  · exact h

/-- The start sequence ends with a manager that listens or a worker that waits for a token (R89, R90). -/
theorem State.startTail_starts (s : State) : s.StartsWith s.startPeg s.startTail
    ∧ s.startTail.rst.phase = (if s.rst.latched.getLsbD 3 then 0x0E else 9) := by
  have h := s.loadConfig_starts.trained
  have hrole : s.loadConfig.trainDies.isWorker = s.rst.latched.getLsbD 3 := congrArg (fun c => c.latched.getLsbD 3) h.1
  unfold State.startTail
  dsimp only
  generalize s.loadConfig.trainDies = u at h hrole ⊢
  rw [← hrole]
  split
  · exact ⟨h, rfl⟩
  · exact ⟨h, rfl⟩

/-! ### The release (R29, R86-R88, R100) -/

/-- The release latches the straps and starts the batten counter (R29, R86, R89). -/
def State.latchStraps (s : State) (e : StartEnv) : State :=
  { s with
    rst := { s.rst with
      inReset := false, latched := majority e.sample1 e.sample2 e.sample3, release := s.time, startFrom := s.time,
      resetNLow := !e.resetNHigh },
    clk := { s.clk with batten := 0 } }

/-- Steps 4 and 5: after three failed starts, for a download or without an image that boots a node waits for an image (R86-R88,
R92). -/
def State.boot (s : State) (forced : Bool) (chosen : Option (Nat × Bool)) : State :=
  if 3 ≤ s.eave.startFails then s.waitImage 0x0D 3
  else if s.strap 1 ∧ ¬ forced then s.waitImage 0x0C (if s.strap 0 then 3 else 2)
  else
    match chosen with
    | none => s.waitImage 0x0D 3
    | some (k, fb) => State.startTail { s with rst := { s.rst with bootImage := k, fallback := fb } }

/-- The straps are latched and EAVE has counted the reset. -/
def State.released (s : State) (e : StartEnv) : State := (s.latchStraps e).startEave

theorem State.released_eq (s : State) (e : StartEnv) : ∃ l, s.released e = { s.latchStraps e with
    eave := { s.eave with counters := l },
    rst := { (s.latchStraps e).rst with overTemp := false, rstoutLow := false, phase := 4, portsUp := true } } := by
  unfold State.released State.startEave
  dsimp only
  split_ifs <;> exact ⟨_, rfl⟩

@[simp] theorem State.released_strap (s : State) (e : StartEnv) (i : Nat) :
    (s.released e).strap i = (majority e.sample1 e.sample2 e.sample3).getLsbD i := by
  obtain ⟨l, h⟩ := s.released_eq e
  rw [h]; rfl
@[simp] theorem State.released_bootOnce (s : State) (e : StartEnv) : (s.released e).eave.bootOnce = s.eave.bootOnce := by
  obtain ⟨l, h⟩ := s.released_eq e
  rw [h]
@[simp] theorem State.released_startFails (s : State) (e : StartEnv) : (s.released e).eave.startFails = s.eave.startFails := by
  obtain ⟨l, h⟩ := s.released_eq e
  rw [h]
@[simp] theorem State.released_imageAOnce (s : State) (e : StartEnv) : (s.released e).rst.imageAOnce = s.rst.imageAOnce := by
  obtain ⟨l, h⟩ := s.released_eq e
  rw [h]; rfl
@[simp] theorem State.released_images (s : State) (e : StartEnv) : (s.released e).images = s.images := by
  obtain ⟨l, h⟩ := s.released_eq e
  rw [h]; rfl
@[simp] theorem State.released_boots (s : State) (e : StartEnv) (i : Image) : (s.released e).boots i = s.boots i := by
  obtain ⟨l, h⟩ := s.released_eq e
  rw [h]; rfl
@[simp] theorem State.released_startPeg (s : State) (e : StartEnv) : (s.released e).startPeg = s.startPeg := by
  obtain ⟨l, h⟩ := s.released_eq e
  rw [h]; rfl

/-- A start has used up what an earlier one has left for its choice of the image (R87, R189). -/
def State.spendChoice (s : State) : State :=
  { s with eave := { s.eave with bootOnce := none }, rst := { s.rst with imageAOnce := false } }

/-- The state in which a release chooses what to boot. -/
def State.atBoot (s : State) (e : StartEnv) : State := (s.released e).spendChoice

theorem State.atBoot_startCore (s : State) (e : StartEnv) : (s.atBoot e).startCore = { s.startCore with
    inReset := false, latched := majority e.sample1 e.sample2 e.sample3, rstoutLow := false, portsUp := true, batten := 0,
    bootOnce := none } := by
  obtain ⟨l, h⟩ := s.released_eq e
  rw [State.atBoot, h]; rfl

theorem resetRelease_boots {e : StartEnv} {s : State} (hr : s.rst.inReset = true) (hh : s.rst.held = []) (hl : s.sup.logicUp = true)
    (href : s.sup.reference = true) (heave : s.sup.eave = true) (hn : e.resetNHigh = true ∨ s.rst.resetNMasked = true)
    (ht : s.tamperHeld = false) :
    exec (.resetRelease e) s =
      .next ((s.atBoot e).boot (s.eave.bootOnce.isSome || s.rst.imageAOnce) (s.released e).chooseImage) := by
  have hn' : e.resetNHigh = false → s.rst.resetNMasked = true := fun h => hn.resolve_left (by simp [h])
  show execResetRelease e s = _
  simp only [execResetRelease, State.alive]
  rw [if_neg (by simpa [hr, hh, hl, href, heave, ht] using hn'), ← s.released_bootOnce e, ← s.released_imageAOnce e]
  rfl

/-- A source that holds the node, an unmasked RESET_N that reads low and a tamper hold keep it in reset (R100, R166). -/
theorem resetRelease_held {e : StartEnv} {s : State}
    (h : s.rst.held ≠ [] ∨ (e.resetNHigh = false ∧ s.rst.resetNMasked = false) ∨ s.tamperHeld = true) :
    exec (.resetRelease e) s = .next s := by
  show execResetRelease e s = _
  obtain h | ⟨h1, h2⟩ | h := h
  · simp [execResetRelease, h]
  · simp [execResetRelease, h1, h2]
  · simp [execResetRelease, h]

/-- Whatever a start boots, what the release has fixed stays. -/
theorem State.boot_startCore (s : State) (forced : Bool) (chosen : Option (Nat × Bool)) :
    ∃ k fb, (s.boot forced chosen).startCore = s.startCore.booting k fb := by
  unfold State.boot
  split
  · exact ⟨3, s.rst.fallback, rfl⟩
  · split
    · exact ⟨_, s.rst.fallback, rfl⟩
    · split
      · exact ⟨3, s.rst.fallback, rfl⟩
      next k fb => exact ⟨k, fb, (State.startTail_starts _).1.1⟩

/-- After three failed starts a node waits for an image (R92). -/
theorem State.boot_failed {s : State} (hf : 3 ≤ s.eave.startFails) (forced : Bool) (chosen : Option (Nat × Bool)) :
    s.boot forced chosen = s.waitImage 0x0D 3 := if_pos hf

/-- BOOT1 asks for a download unless an earlier start has chosen an image (R87). -/
theorem State.boot_download {s : State} (hf : s.eave.startFails < 3) (h1 : s.strap 1 = true) (chosen : Option (Nat × Bool)) :
    s.boot false chosen = s.waitImage 0x0C (if s.strap 0 then 3 else 2) := by
  simp [State.boot, Nat.not_le.2 hf, h1]

/-- With BOOT1 low the image that was chosen starts (R86). -/
theorem State.boot_image {s : State} (hf : s.eave.startFails < 3) (h1 : s.strap 1 = false) (forced : Bool) (k : Nat) (fb : Bool) :
    s.boot forced (some (k, fb)) = State.startTail { s with rst := { s.rst with bootImage := k, fallback := fb } } := by
  simp [State.boot, Nat.not_le.2 hf, h1]

/-- With BOOT0 low and no choice left image A comes first (R86). -/
theorem State.chooseImage_first {s : State} (ho : s.eave.bootOnce = none) (h0 : s.strap 0 = false) (hb : s.boots s.images.1 = true) :
    s.chooseImage = some (0, false) := by
  simp [State.chooseImage, ho, h0, hb]

end Sys2Proof.Machine
end

section
open Sys2Proof Sys2Proof.Machine

/-- Settles O56: the release by what it latches and boots, each limit by its row before and after its time. -/
theorem startComplete : Obligations.StartComplete := by
  refine ⟨?release, fun _ _ => resetRelease_held, ?start, fun _ => startTimeout_ready, ?download, ?worker, ?island, ?listening⟩
  case release =>
    intro e s m hr hh hl href heave hn ht hm
    obtain ⟨k, fb, hcore⟩ := (s.atBoot e).boot_startCore (s.eave.bootOnce.isSome || s.rst.imageAOnce) (s.released e).chooseImage
    rw [s.atBoot_startCore, ← hm] at hcore
    have hfails : (s.atBoot e).eave.startFails = s.eave.startFails := s.released_startFails e
    have hstrap (i : Nat) : (s.atBoot e).strap i = m.getLsbD i := by rw [hm]; exact s.released_strap e i
    refine ⟨_, resetRelease_boots hr hh hl href heave hn ht, congrArg StartCore.inReset hcore, congrArg StartCore.latched hcore,
      congrArg StartCore.batten hcore, congrArg StartCore.rstoutLow hcore, congrArg StartCore.portsUp hcore,
      congrArg StartCore.bootOnce hcore, congrArg StartCore.keys hcore, ?failed, ?port, ?image⟩
    case failed =>
      intro hf
      rw [State.boot_failed (hfails ▸ hf)]
      exact ⟨rfl, rfl⟩
    case port =>
      intro hf h1 ho ha
      rw [ho, ha, Option.isSome_none, Bool.or_self, State.boot_download (hfails ▸ hf) ((hstrap 1).trans h1)]
      exact ⟨rfl, rfl⟩
    case image =>
      intro hf h1 h0 ho hb hgood
      have hchosen : (s.released e).chooseImage = some (0, false) :=
        State.chooseImage_first (by simpa using ho) ((hstrap 0).trans h0) (by simpa using hb)
      rw [hchosen, State.boot_image (hfails ▸ hf) ((hstrap 1).trans h1)]
      obtain ⟨⟨hc, hp⟩, hphase⟩ := State.startTail_starts { s.atBoot e with
        rst := { (s.atBoot e).rst with bootImage := 0, fallback := false } }
      have hpeg := hp.trans ((s.released_startPeg e).trans (if_pos hgood))
      exact ⟨congrArg StartCore.bootImage hc, congrArg StartCore.fallback hc, congrArg Pegged.cfg hpeg, congrArg Pegged.gen hpeg,
        congrArg Pegged.counters hpeg, by rw [hphase, ← hstrap 3]; rfl⟩
  case start =>
    intro s ha hp
    exact ⟨fun ht => ⟨_, startTimeout_repeats ha hp ht, rfl, rfl, by simp, by simp⟩, startTimeout_early⟩
  case download =>
    intro s ha hp hx hm
    exact ⟨fun ht => ⟨_, downloadTimeout_resets ha hp hx hm ht, rfl, rfl, rfl⟩, downloadTimeout_early⟩
  case worker =>
    intro n s hr hw hs ho
    refine ⟨fun ht => ⟨_, startingTimeout_loses hr hw hs ho ht, ?_, fun k hk => ?_, State.tellRing_peg ..⟩, startingTimeout_early⟩
    · rw [State.worker, State.tellRing_ring]
      exact congrArg Worker.state (State.setWorker_same ..)
    · rw [State.worker, State.tellRing_ring]
      exact State.setWorker_other _ _ _ _ hk
  case island =>
    intro i s t ha hs hl
    refine ⟨fun ht => ⟨_, islandClockFault_loses ha hs hl ht, ?_, fun j hj => ?_, fun h1 h3 => ?_⟩, islandClockFault_early hl⟩
    · rw [State.islandSt_congr (s.loseIsland_clk i.val), State.modIsland_same]
    · rw [State.islandSt_congr (s.loseIsland_clk i.val), State.modIsland_other _ _ hj]
    · simp [State.loseIsland, h1, h3, State.modIsland]
  case listening =>
    intro s ha hl
    refine ⟨fun ho => ?_, listenWindowEnd_early⟩
    have hlead := s.takeLead.openFrame_leadCore
    obtain ⟨d, b, hframe⟩ := s.takeLead.openFrame_frameCore
    exact ⟨_, listenWindowEnd_leads ha hl ho, congrArg LeadCore.leads hlead, congrArg LeadCore.listening hlead,
      congrArg LeadCore.running hlead, congrArg FrameCore.frameStart hframe, congrArg FrameCore.frameNo hframe⟩

end

section
/-! SUPPORT. An admitted request does its entry's own effect; what the wrapper of a block leaves alone (R96, R98, R143, R171). -/

namespace Sys2Proof.Machine

/-- The row of a request that passes does its entry's own effect, and the replies for the links leave (R143, R171). -/
theorem exec_of_runs {i : Instr} {c : Cmd} {r : Req} {s : State} {t : Tag} (hi : requestOf i = some (c, r)) (h : s.Runs c r t) :
    exec i s = .next (c.run s t (s.who r)).flush := by
  rw [exec_of_requestOf hi, State.execute_runs h]

/-! ### The wrapper (R96, Table RST-6) -/

/-- The block resets that are asked for or under way stay, and so do the pegged data. -/
def State.KeepsBlocks (s u : State) : Prop := u.blocks = s.blocks ∧ u.peg = s.peg

theorem State.KeepsBlocks.refl (s : State) : s.KeepsBlocks s := ⟨rfl, rfl⟩
theorem State.KeepsBlocks.trans {s u v : State} (h : s.KeepsBlocks u) (k : u.KeepsBlocks v) : s.KeepsBlocks v :=
  ⟨k.1.trans h.1, k.2.trans h.2⟩

theorem State.OnlyLogs.keepsBlocks {s u : State} (h : s.OnlyLogs u) : s.KeepsBlocks u := by
  unfold State.OnlyLogs at h; rw [h]; exact ⟨rfl, rfl⟩
theorem State.OnlyGut.keepsBlocks {s u : State} (h : s.OnlyGut u) : s.KeepsBlocks u := by
  unfold State.OnlyGut at h; rw [h]; exact ⟨rfl, rfl⟩
theorem State.OnlyLinks.keepsBlocks {s u : State} (h : s.OnlyLinks u) : s.KeepsBlocks u := by
  unfold State.OnlyLinks at h; rw [h]; exact ⟨rfl, rfl⟩
theorem State.KeepsAllButReplies.keepsBlocks {s u : State} (h : s.KeepsAllButReplies u) : s.KeepsBlocks u := by
  unfold State.KeepsAllButReplies at h; rw [h]; exact ⟨rfl, rfl⟩

theorem State.sentHead_onlyLinks (s : State) (p : Port) : s.OnlyLinks (s.sentHead p) := by
  unfold State.sentHead
  split
  · exact .refl s
  · refine .trans ?_ (State.packetLeft_onlyLinks _ p _)
    rfl

theorem State.emptyOut_onlyLinks (s : State) (p : Port) : s.OnlyLinks (s.emptyOut p) :=
  foldl_rel State.OnlyLinks .refl .trans _ (fun a _ => a.sentHead_onlyLinks p) _ s

theorem State.blockLoses_keepsBlocks (s : State) (block : Nat) : s.KeepsBlocks (s.blockLoses block) := by
  have cut : s.KeepsBlocks s.cutWrites := s.cutWrites_only.keepsBlocks
  have port (x : PortHw) (p : Port) : s.KeepsBlocks (State.emptyOut { s with hw := x } p) :=
    .trans (u := { s with hw := x }) ⟨rfl, rfl⟩ (State.emptyOut_onlyLinks _ p).keepsBlocks
  unfold State.blockLoses
  split
  case h_2 | h_3 | h_4 => exact cut
  case h_8 | h_10 => exact port ..
  all_goals exact ⟨rfl, rfl⟩

theorem State.answerAll_keepsBlocks (s : State) (ts : List Tag) (st : Status) : s.KeepsBlocks (s.answerAll ts st) :=
  foldl_rel State.KeepsBlocks .refl .trans _ (fun a t => (a.answerLate_spec t st [] 0).2.keepsBlocks) ts s

/-- What the wrapper completes and what the block loses move no block reset and no pegged datum. -/
theorem State.wrapper_keepsBlocks (s : State) (block : Nat) (own : Req) : s.KeepsBlocks (s.wrapper block own).2 := by
  unfold State.wrapper
  extract_lets ts c s1 gone s2
  have hs2 : s.KeepsBlocks s2 :=
    .trans (u := s1) ⟨rfl, rfl⟩ ((s1.blockLoses_keepsBlocks block).trans (State.answerAll_keepsBlocks ..))
  exact hs2.trans ⟨rfl, rfl⟩

/-- A request for a block as it stands while the block is held in reset (R98). -/
def BlockReset.begun (b : BlockReset) (mode completed : Nat) : BlockReset :=
  { b with mode := mode, inReset := true, completed := completed }

theorem State.startBlock_blocks (s : State) (b : BlockReset) (mode : Nat) :
    (s.startBlock b mode).blocks =
      s.blocks.map (fun x => if x.req = b.req then b.begun mode (s.wrapper b.block b.req).1 else x) := by
  unfold State.startBlock
  rw [(State.gutter_only ..).keepsBlocks.1, ← (s.wrapper_keepsBlocks b.block b.req).1]
  rfl

theorem State.startBlock_peg (s : State) (b : BlockReset) (mode : Nat) : (s.startBlock b mode).peg = s.peg := by
  unfold State.startBlock
  rw [(State.gutter_only ..).keepsBlocks.2]
  exact (s.wrapper_keepsBlocks b.block b.req).2

/-- A request whose block reset starts stands among the block resets as begun. -/
theorem State.startBlock_mem {s : State} {b : BlockReset} (hb : b ∈ s.blocks) (mode : Nat) :
    b.begun mode (s.wrapper b.block b.req).1 ∈ (s.startBlock b mode).blocks := by
  rw [State.startBlock_blocks]
  exact List.mem_map.2 ⟨b, hb, if_pos rfl⟩

end Sys2Proof.Machine
end

section
/-! SUPPORT. How BLOCK_RESET IMMEDIATE and ISLAND_RATE go on at once or wait (R69, R72, R96). -/

namespace Sys2Proof.Machine

/-- Neither its island nor a reset of the same block holds an IMMEDIATE reset back: it starts (R96). -/
theorem State.runBlockImmediate_starts {s : State} {t : Tag} (hw : s.blockWaits (byteAt t.req.params 0) = false)
    (hr : s.blockInReset (byteAt t.req.params 0) = false) :
    s.runBlockImmediate t = (s.askBlock t 1).1.startBlock (s.askBlock t 1).2 1 := by
  have h : ¬ ((s.askBlock t 1).1.blockWaits (s.askBlock t 1).2.block = true ∨ s.blockInReset (s.askBlock t 1).2.block = true) := by
    rintro (h | h)
    · exact absurd (hw.symm.trans h) (by decide)
    · exact absurd (hr.symm.trans h) (by decide)
  exact if_neg h

/-- An IMMEDIATE reset waits behind a relocking island and behind a reset of its block (R72). -/
theorem State.runBlockImmediate_waits {s : State} {t : Tag}
    (h : s.blockWaits (byteAt t.req.params 0) = true ∨ s.blockInReset (byteAt t.req.params 0) = true) :
    s.runBlockImmediate t = (s.askBlock t 1).1 := if_pos h

theorem cmdIslandRate_waits {s : State} {t : Tag} (w : Who)
    (h : (s.islandSt (oidIndex t.req.target)).rate ≠ byteAt t.req.params 0
      ∨ s.clk.rateReqs.any (fun q => q.island == oidIndex t.req.target) = true) :
    cmdIslandRate.run s t w = { s.modTag t (fun u => { u with begun := true }) with
      clk := { s.clk with rateReqs := s.clk.rateReqs ++
        [{ island := oidIndex t.req.target, rate := byteAt t.req.params 0, req := t.req, frame := s.clk.frameNo, begun := false }] } } :=
  if_neg fun ⟨hr, hq⟩ => h.elim (absurd hr) hq

/-- An island that has the rate answers at once where none of its requests waits (R69). -/
theorem cmdIslandRate_answers {s : State} {t : Tag} (w : Who)
    (hr : (s.islandSt (oidIndex t.req.target)).rate = byteAt t.req.params 0)
    (hq : s.clk.rateReqs.any (fun q => q.island == oidIndex t.req.target) = false) :
    cmdIslandRate.run s t w = s.answerLate t .done (toLe 2 (s.islandSt (oidIndex t.req.target)).lastLock) 0 :=
  if_pos ⟨hr, by simp [hq]⟩

/-- A late answer that waits for nothing carries the ticks since admission (R75). -/
theorem State.answerLate_now (s : State) (t : Tag) (st : Status) (ps : List Byte) :
    s.Answered (s.answerLate t st ps 0) t st ps (s.execLate t) := by
  have h := (s.answerLate_spec t st ps 0).1
  rwa [Nat.max_zero] at h

end Sys2Proof.Machine
end

section
open Sys2Proof Sys2Proof.Machine

/-- Settles O23: each entry's own effect, by the branch that its block or its island takes. -/
theorem diagCommandsBegin : Obligations.DiagCommandsBegin := by
  refine ⟨?graceful, ?immediate, ?selftest, ?rate, ?off, ?on⟩
  case immediate =>
    intro r s t h
    obtain rfl := h.1.same
    have hexec : exec (.blockResetImmediate t.req) s = .next (s.runBlockImmediate t).flush := exec_of_runs rfl h
    refine ⟨fun hw hr => ?_, fun hw => ?_⟩
    · rw [State.runBlockImmediate_starts hw hr] at hexec
      have hmem : (s.askBlock t 1).2 ∈ (s.askBlock t 1).1.blocks := List.mem_append_right _ (List.mem_singleton.2 rfl)
      exact ⟨_, _, hexec, State.startBlock_mem hmem 1, rfl, rfl, rfl, rfl, State.startBlock_peg ..⟩
    · rw [State.runBlockImmediate_waits hw] at hexec
      exact ⟨_, hexec, rfl, rfl, s.modTag_begun t⟩
  case rate =>
    intro r s t h
    obtain rfl := h.1.same
    have hexec : exec (.islandRate t.req) s = .next (cmdIslandRate.run s t (s.who t.req)).flush := exec_of_runs rfl h
    refine ⟨fun hw => ?_, fun hr hq => ?_⟩
    · rw [cmdIslandRate_waits _ hw] at hexec
      exact ⟨_, hexec, rfl, rfl, s.modTag_begun t⟩
    · rw [cmdIslandRate_answers _ hr hq] at hexec
      exact ⟨_, hexec, s.answerLate_now .., (s.answerLate_spec ..).2⟩
  case graceful | selftest | off | on =>
    intro r s t h
    obtain rfl := h.1.same
    exact ⟨_, exec_of_runs rfl h, rfl, rfl, s.modTag_begun t⟩

end

section
/-! SUPPORT. Block resets: how one begins, and how its 64 ticks end (R96, R98). -/

namespace Sys2Proof.Machine

/-! ### A graceful reset begins (R96) -/

section
variable {k : Fin 17} {s : State} {b : BlockReset} (hg : s.gracefulOf k.val = some b) (hw : s.blockWaits k.val = false)
  (hr : s.blockInReset k.val = false)
include hg hw hr

/-- An idle block with nothing outstanding is reset. -/
theorem blockIdle_starts (ht : s.blockTags k.val b.req = []) : exec (.blockIdle k) s = .next (s.startBlock b 0) := by
  show execBlockIdle k s = _
  simp [execBlockIdle, hg, hw, hr, ht]

omit hw hr in
/-- A block with a transaction outstanding is not idle. -/
theorem blockIdle_busy (ht : s.blockTags k.val b.req ≠ []) : exec (.blockIdle k) s = .next s := by
  show execBlockIdle k s = _
  simp [execBlockIdle, hg, ht]

theorem fallback_starts (h : s.gracefulOver b = true) : exec (.fallback k) s = .next (s.startBlock b 2) := by
  show execFallback k s = _
  simp [execFallback, hg, hw, hr, h]

omit hw hr in
theorem fallback_early (h : s.gracefulOver b = false) : exec (.fallback k) s = .next s := by
  show execFallback k s = _
  simp [execFallback, hg, h]

end

theorem State.gracefulOver_of_tag {s : State} {b : BlockReset} {t : Tag} (h : s.tag? b.req = some t) :
    s.gracefulOver b = decide (msTicks (leAt b.req.params 2 2) ≤ since s.clk.batten t.admitAt) := by
  simp [State.gracefulOver, h]

/-! ### Its end (R96, R98, Table RST-6) -/

/-- A block that is back in service touches the pair's state or the field link alone. -/
theorem State.blockBack_only (s : State) (block : Nat) :
    s.blockBack block = { s with pair := (s.blockBack block).pair, fio := (s.blockBack block).fio } := by
  unfold State.blockBack
  split
  · split <;> rfl
  · rfl
  · rfl

/-- Where no reset is asked for none begins. -/
theorem State.startNext_of_none {s : State} (h : s.blocks = []) (block : Nat) : s.startNext block = s := by
  have hn : s.nextBlock block = none := by
    unfold State.nextBlock
    split <;> simp [h]
  simp [State.startNext, hn]

/-- The state after a block's 64 ticks, its reset counted, before the command is answered. -/
def State.blockEnded (s : State) (b : BlockReset) : State :=
  State.blockBack { s.pass 64 with blocks := s.blocks.erase b, eave := s.eave.count 15 } b.block

theorem State.blockEnded_eq (s : State) (b : BlockReset) : s.blockEnded b =
    { s.pass 64 with
      blocks := s.blocks.erase b, eave := s.eave.count 15, pair := (s.blockEnded b).pair, fio := (s.blockEnded b).fio } := by
  unfold State.blockEnded
  rw [State.blockBack_only]

/-- The only reset under way ends, and its command is answered. -/
theorem blockResetComplete_ends {k : Fin 17} {s : State} {b : BlockReset} {t : Tag} (hs : s.blocks = [b]) (hk : b.block = k.val)
    (hr : b.inReset = true) (ht : s.tag? b.req = some t) :
    exec (.blockResetComplete k) s =
      .next ((s.blockEnded b).answerLate t .done (toLe 1 b.mode ++ toLe 2 b.completed) 0).flush := by
  have hblocks : (s.blockEnded b).blocks = [] := by rw [State.blockEnded_eq]; simp [hs]
  have htag : (s.blockEnded b).tag? b.req = some t := by rw [State.blockEnded_eq]; exact ht
  have hnone : ((s.blockEnded b).answerLate t .done (toLe 1 b.mode ++ toLe 2 b.completed) 0).blocks = [] :=
    ((s.blockEnded b).answerLate_spec ..).2.keepsBlocks.1.trans hblocks
  have hfind : s.blocks.find? (fun x => x.block == k.val && x.inReset) = some b := by simp [hs, hk, hr]
  have hended : State.blockBack { s.pass 64 with blocks := (s.pass 64).blocks.erase b, eave := (s.pass 64).eave.count 15 } k.val
      = s.blockEnded b := by rw [← hk]; rfl
  show execBlockResetComplete k s = _
  simp only [execBlockResetComplete, hfind, hended, htag, State.startNext_of_none hnone]

end Sys2Proof.Machine
end

section
/-! SUPPORT. Islands that leave their PLL and come back to it (R69, R71, R73). -/

namespace Sys2Proof.Machine

/-! ### The relock point (R69, R72) -/

/-- An island whose requests have all begun, or that has none, stays as it is at a relock point. -/
theorem State.relockIsland_idle {s : State} {i : Nat} (h : ∀ q ∈ s.clk.rateReqs, q.island = i → q.begun = true) :
    s.relockIsland i = s := by
  have hf : s.clk.rateReqs.find? (fun q => q.island == i && !q.begun && q.frame != s.clk.frameNo) = none := by
    rw [List.find?_eq_none]
    intro q hq
    by_cases hi : q.island = i
    · simp [h q hq hi]
    · simp [hi]
  simp [State.relockIsland, hf]

/-- An island on the crawl clock, its PLL retargeted to a rate (R69, R73). -/
def Island.retargeted (x : Island) (rate : Nat) (now : Batten) : Island :=
  { x with state := 2, target := rate, relocks := inc32 x.relocks, retargetAt := now }

/-- The island of a request goes to the crawl clock, towards the rate asked for. -/
def State.beginRelock (s : State) (q : RateReq) : State :=
  let s1 := (s.modIsland q.island (fun x => x.retargeted q.rate s.clk.batten)).spoil q.island
  { s1 with clk := { s1.clk with rateReqs := [{ q with begun := true }] } }

/-- The only request of a node, of an earlier frame, takes its island to the crawl clock, unless that runs at its rate. -/
theorem State.relockIsland_begins {s : State} {q : RateReq} (hs : s.clk.rateReqs = [q]) (hb : q.begun = false)
    (hf : q.frame ≠ s.clk.frameNo) (hr : (s.islandSt q.island).rate ≠ q.rate ∨ 2 ≤ (s.islandSt q.island).state) :
    s.relockIsland q.island = s.beginRelock q := by
  have hnot : ¬ ((s.islandSt q.island).rate = q.rate ∧ (s.islandSt q.island).state < 2) :=
    fun ⟨h1, h2⟩ => hr.elim (absurd h1) (Nat.not_le.2 h2)
  have hfind : s.clk.rateReqs.find? (fun x => x.island == q.island && !x.begun && x.frame != s.clk.frameNo) = some q := by
    simp [hs, hb, hf]
  have hany : ¬ s.clk.rateReqs.any (fun x => x.island == q.island && x.begun) = true := by simp [hs, hb]
  unfold State.relockIsland
  simp only [hfind]
  rw [if_neg hany, if_neg hnot]
  simp [State.beginRelock, State.modIsland, State.spoil, hs, Island.retargeted]

/-- At a relock point the only request is served when its island's turn comes. -/
theorem State.relockIslands_begin {s : State} {q : RateReq} (hs : s.clk.rateReqs = [q]) (hb : q.begun = false)
    (hf : q.frame ≠ s.clk.frameNo) (hr : (s.islandSt q.island).rate ≠ q.rate ∨ 2 ≤ (s.islandSt q.island).state) (l : List Nat)
    (hl : q.island ∈ l) : l.foldl State.relockIsland s = s.beginRelock q := by
  have done (m : List Nat) : m.foldl State.relockIsland (s.beginRelock q) = s.beginRelock q := by
    induction m with
    | nil => rfl
    | cons i m ih =>
      have hi : (s.beginRelock q).relockIsland i = s.beginRelock q := by
        refine State.relockIsland_idle (fun x hx _ => ?_)
        rw [List.mem_singleton.1 hx]
      rw [List.foldl_cons, hi, ih]
  induction l with
  | nil => cases hl
  | cons i l ih =>
    by_cases hi : q.island = i
    · rw [List.foldl_cons, ← hi, State.relockIsland_begins hs hb hf hr, done]
    · have hidle : s.relockIsland i = s :=
        State.relockIsland_idle fun x hx hxi => by
          rw [hs, List.mem_singleton] at hx
          exact absurd (hx ▸ hxi) hi
      rw [List.foldl_cons, hidle]
      exact ih ((List.mem_cons.1 hl).resolve_left hi)

theorem relockPoint_serves {s : State} (ha : s.alive = true) (hr : s.clk.running = true) (ho : s.offset ≤ 115000) :
    exec .relockPoint s = .next ((List.range 7).foldl State.relockIsland (s.toOffset 115000)).flush := by
  show execRelockPoint s = _
  simp [execRelockPoint, ha, hr, ho]

/-- Without a request the relock point lets the time pass alone. -/
theorem State.relockIslands_none {s : State} (hs : s.clk.rateReqs = []) (l : List Nat) : l.foldl State.relockIsland s = s := by
  induction l with
  | nil => rfl
  | cons i l ih => rw [List.foldl_cons, State.relockIsland_idle (by simp [hs]), ih]

@[simp] theorem State.toOffset_rateReqs (s : State) (off : Nat) : (s.toOffset off).clk.rateReqs = s.clk.rateReqs := by
  rw [State.toOffset_only]
@[simp] theorem State.toOffset_frameNo (s : State) (off : Nat) : (s.toOffset off).clk.frameNo = s.clk.frameNo := by
  rw [State.toOffset_only]
@[simp] theorem State.toOffset_islandSt (s : State) (off i : Nat) : (s.toOffset off).islandSt i = s.islandSt i := by
  rw [State.toOffset_only]; rfl
@[simp] theorem State.toOffset_peg (s : State) (off : Nat) : (s.toOffset off).peg = s.peg := by
  rw [State.toOffset_only]

@[simp] theorem State.beginRelock_same (s : State) (q : RateReq) : (s.beginRelock q).islandSt q.island =
    (s.islandSt q.island).retargeted q.rate s.clk.batten :=
  State.modIsland_same s q.island (fun x => x.retargeted q.rate s.clk.batten)
theorem State.beginRelock_other (s : State) (q : RateReq) {i : Nat} (h : i ≠ q.island) :
    (s.beginRelock q).islandSt i = s.islandSt i :=
  State.modIsland_other s (fun x => x.retargeted q.rate s.clk.batten) h

/-! ### What a reply leaves of the islands (Table CLK-7) -/

/-- No island changes but in its count of inexact replies. -/
def State.IslandsStay (s u : State) : Prop := ∀ i, ∃ n, u.islandSt i = { s.islandSt i with inexact := n }

theorem State.IslandsStay.refl (s : State) : s.IslandsStay s := fun _ => ⟨_, rfl⟩
theorem State.IslandsStay.trans {s u v : State} (h : s.IslandsStay u) (k : u.IslandsStay v) : s.IslandsStay v := by
  intro i
  obtain ⟨m, hm⟩ := h i
  obtain ⟨n, hn⟩ := k i
  exact ⟨n, by rw [hn, hm]⟩

theorem State.countInexact_islandsStay (s : State) (j : Nat) : s.IslandsStay (s.countInexact j) := by
  intro i
  by_cases h : i = j
  · subst h
    exact ⟨inc32 (s.islandSt i).inexact, State.modIsland_same s i (fun x => { x with inexact := inc32 x.inexact })⟩
  · exact ⟨(s.islandSt i).inexact, State.modIsland_other s (fun x => { x with inexact := inc32 x.inexact }) h⟩

theorem State.ready_islandsStay (s : State) (t : Tag) (st ps n e pr f) : s.IslandsStay (s.ready t st ps n e pr f) := by
  have place (u : State) (w : Bool) (ks : List Packet) : u.IslandsStay (u.place t w ks) := by
    unfold State.place
    split
    · exact .refl u
    · refine foldl_rel State.IslandsStay .refl .trans _ (fun a k => ?_) ks u
      exact .refl a
  unfold State.ready
  extract_lets bad wait held exact ks s1
  have hs1 : s.IslandsStay s1 := by
    unfold s1
    split
    · exact .refl s
    · exact foldl_rel State.IslandsStay .refl .trans _ State.countInexact_islandsStay bad s
  exact hs1.trans (.trans (u := s1.completeTag t st ks ps.length) (.refl s1) (place _ _ _))

/-! ### The lock (R69, R71) -/

/-- An island back on its PLL after n ticks (R71). -/
def Island.relocked (n : Nat) (x : Island) : Island :=
  { x with rate := x.target, state := if x.target = 0 then 0 else 1, lastLock := n % 65536, lossAt := none }

/-- The island is back on its PLL: the tick, its rate and lock time, and the gutter entry that notes them. -/
def State.locked (s : State) (i n : Nat) (back : Batten) : State :=
  ((s.reach back).modIsland i (Island.relocked n)).gutter 0x04 i (n % 65536 + 65536 * b2n (s.islandSt i).lossAt.isSome)

/-- The command of an island's relock, if one has begun it, is answered 7 ticks after the lock. -/
def State.answerLock (s : State) (i n : Nat) (back : Batten) : State :=
  match s.clk.rateReqs.find? (fun q => q.island == i && q.begun) with
  | none => s
  | some q =>
    let s1 : State := { s with clk := { s.clk with rateReqs := s.clk.rateReqs.erase q } }
    match s1.tag? q.req with
    | some t => s1.answerAt t .done (toLe 2 (n % 65536)) (back + 7)
    | none => s1

/-- Where no block reset and no domain waits nothing goes on after a lock. -/
theorem State.afterLock_of_none {s : State} (hb : s.blocks = []) (hd : s.clk.domainReqs = []) (i : Nat) : s.afterLock i = s := by
  have blocks (l : List Nat) : l.foldl State.startNext s = s := by
    induction l with
    | nil => rfl
    | cons b l ih => rw [List.foldl_cons, State.startNext_of_none hb, ih]
  have domains (l : List Nat) : s.serveDomains l = s := by
    unfold State.serveDomains
    induction l with
    | nil => rfl
    | cons d l ih => rw [List.foldl_cons, hd]; exact ih
  unfold State.afterLock
  dsimp only
  rw [blocks, domains]

theorem State.reach_only (s : State) (b : Batten) :
    s.reach b = { s with clk := { s.clk with batten := (s.reach b).clk.batten }, time := (s.reach b).time } := by
  unfold State.reach; split <;> rfl

/-- The lock of an island moves the tick, that island and the gutter log. -/
theorem State.locked_only (s : State) (i n : Nat) (back : Batten) : s.locked i n back = { s with
    clk := { s.clk with batten := (s.reach back).clk.batten, islands := (s.locked i n back).clk.islands },
    time := (s.reach back).time, gut := (s.locked i n back).gut } := by
  have h := ((s.reach back).modIsland i (Island.relocked n)).gutter_only
    0x04 i (n % 65536 + 65536 * b2n (s.islandSt i).lossAt.isSome)
  unfold State.OnlyGut at h
  unfold State.locked
  rw [h, s.reach_only back]
  rfl

@[simp] theorem State.gutter_islandSt (s : State) (k a d i : Nat) : (s.gutter k a d).islandSt i = s.islandSt i := by
  rw [s.gutter_only k a d]; rfl

theorem State.locked_islandSt (s : State) (i n : Nat) (back : Batten) :
    (s.locked i n back).islandSt i = (s.islandSt i).relocked n := by
  have hr : (s.reach back).islandSt i = s.islandSt i := by rw [s.reach_only back]; rfl
  unfold State.locked
  rw [State.gutter_islandSt, State.modIsland_same, hr]

/-- The answer touches the replies, the requests that wait and the counts of the islands. -/
theorem State.answerLock_only (s : State) (i n : Nat) (back : Batten) :
    s.answerLock i n back = { s with
      comm := (s.answerLock i n back).comm,
      clk := { s.clk with
        islands := (s.answerLock i n back).clk.islands, rateReqs := (s.answerLock i n back).clk.rateReqs } }
    ∧ s.IslandsStay (s.answerLock i n back) := by
  unfold State.answerLock
  split
  · exact ⟨rfl, .refl s⟩
  · extract_lets _ s1
    split
    next t _ =>
      have hk : s1.KeepsAllButReplies (s1.answerAt t .done (toLe 2 (n % 65536)) (back + 7)) := State.ready_keeps ..
      refine ⟨?_, .trans (u := s1) (fun _ => ⟨_, rfl⟩) (State.ready_islandsStay _ _ _ _ _ _ _ _)⟩
      unfold State.KeepsAllButReplies at hk
      rw [hk]
    · exact ⟨rfl, fun _ => ⟨_, rfl⟩⟩

/-- The only request of the island is answered and waits no more. -/
theorem State.answerLock_answers {s : State} {i n : Nat} {back : Batten} {q : RateReq} {t : Tag} (hs : s.clk.rateReqs = [q])
    (hi : q.island = i) (hb : q.begun = true) (ht : s.tag? q.req = some t) :
    s.Answered (s.answerLock i n back) t .done (toLe 2 (n % 65536)) (since (back + 7) t.admitAt)
      ∧ (s.answerLock i n back).clk.rateReqs = [] := by
  have h : s.answerLock i n back =
      State.answerAt { s with clk := { s.clk with rateReqs := [] } } t .done (toLe 2 (n % 65536)) (back + 7) := by
    have ht' : State.tag? { s with clk := { s.clk with rateReqs := [] } } q.req = some t := ht
    simp [State.answerLock, hs, hi, hb, ht']
  rw [h]
  refine ⟨(State.ready_answered ..).of_comm rfl rfl rfl, ?_⟩
  exact congrArg (fun u => u.clk.rateReqs) (State.ready_keeps ..)

theorem lockConfirmed_locks {i : Fin 7} {n : Nat} {s : State} (ha : s.alive = true) (hst : (s.islandSt i.val).state = 2)
    (hb : s.blocks = []) (hd : s.clk.domainReqs = []) (back : Batten)
    (hback : back = (s.islandSt i.val).retargetAt + BitVec.ofNat 40 (2 + n + 27)) :
    exec (.lockConfirmed i n) s = .next ((s.locked i.val n back).answerLock i.val n back).flush := by
  have hl := s.locked_only i.val n back
  have hk := ((s.locked i.val n back).answerLock_only i.val n back).1
  have hblocks : ((s.locked i.val n back).answerLock i.val n back).blocks = [] := by rw [hk, hl]; exact hb
  have hdomains : ((s.locked i.val n back).answerLock i.val n back).clk.domainReqs = [] := by rw [hk, hl]; exact hd
  rw [← State.afterLock_of_none hblocks hdomains i.val]
  subst hback
  show execLockConfirmed i n s = _
  unfold execLockConfirmed
  rw [if_neg (by simp [ha, hst])]
  rfl

/-! ### A lock that is lost (R73) -/

theorem pllLockLoss_retargets {i : Fin 7} {s : State} (ha : s.alive = true) (hst : (s.islandSt i.val).state < 2) :
    exec (.pllLockLoss i) s = .next (State.gutter ((s.modIsland i.val (fun x =>
      { x.retargeted x.rate s.clk.batten with lossAt := some s.clk.batten })).spoil i.val) 0x04 i.val 65536) := by
  show execPllLockLoss i s = _
  simp [execPllLockLoss, ha, hst, Island.retargeted]

@[simp] theorem State.spoil_islandSt (s : State) (j i : Nat) : (s.spoil j).islandSt i = s.islandSt i := rfl

end Sys2Proof.Machine
end

section
/-! SUPPORT. How the switching of a domain and the self-tests end (R48, R190). -/

namespace Sys2Proof.Machine

/-- The switching of the only domain that is asked for ends in its answer. -/
theorem domainSwitchComplete_answers {d : Fin 12} {s : State} {q : DomainReq} {t : Tag} (hs : s.clk.domainReqs = [q])
    (hq : q.domain = d.val) (hb : q.begun = true) (ht : s.tag? q.req = some t) :
    exec (.domainSwitchComplete d) s = .next (State.answerLate
      { s with clk := { s.clk with domains := sset 1 s.clk.domains d.val (b2n q.on), domainReqs := [] } } t .done
      (toLe 1 (b2n q.on)) 0).flush := by
  have hdone : s.domainDone q = State.answerLate
      { s with clk := { s.clk with domains := sset 1 s.clk.domains d.val (b2n q.on), domainReqs := [] } } t .done
      (toLe 1 (b2n q.on)) 0 := by
    have ht' : State.tag?
        { s with clk := { s.clk with domains := sset 1 s.clk.domains d.val (b2n q.on), domainReqs := [] } } q.req = some t := ht
    simp [State.domainDone, hs, hq, ht']
  have hnone : (s.domainDone q).clk.domainReqs = [] := by
    rw [hdone]
    exact congrArg (fun u => u.clk.domainReqs) (State.answerLate_spec ..).2
  have hfind : s.clk.domainReqs.find? (fun x => x.domain == d.val && x.begun) = some q := by simp [hs, hq, hb]
  have hserve : (s.domainDone q).serveDomains [d.val] = s.domainDone q := by
    simp [State.serveDomains, hnone, State.serveDomain]
  rw [← hdone]
  show execDomainSwitchComplete d s = _
  simp only [execDomainSwitchComplete, hfind, hserve]

/-- What the results of a self-test leave of a standby's pair state where the golden-vector test is one of them: its streak and the
referee result (R329, R338). -/
def State.goldenPair (s : State) (bad : Half) : PairSt :=
  { s.pair with
    streak := if bad.getLsbD 7 then 0 else min 15 (s.pair.streak + 1), refResult := if bad.getLsbD 7 then 2 else 1,
    lastRefFrame := s.clk.frameNo }

/-- The oldest self-test ends and is answered; the pair's state is the one given. -/
def State.answerSelftest (s : State) (t : Tag) (m p : Half) (rest : List (Req × Half)) (x : PairSt) : State :=
  State.answerLate { s with selftest := rest, pair := x } t .done (toLe 2 (m &&& p).toNat ++ toLe 2 (m &&& ~~~p).toNat) 0

theorem State.answerSelftest_spec (s : State) (t : Tag) (m p : Half) (rest : List (Req × Half)) (x : PairSt) :
    (s.answerSelftest t m p rest x).selftest = rest ∧ (s.answerSelftest t m p rest x).peg = s.peg
      ∧ (s.answerSelftest t m p rest x).pair = x
      ∧ s.Answered (s.answerSelftest t m p rest x) t .done (toLe 2 (m &&& p).toNat ++ toLe 2 (m &&& ~~~p).toNat)
          (s.execLate t) := by
  have hkeeps := (State.answerLate_spec { s with selftest := rest, pair := x } t .done
    (toLe 2 (m &&& p).toNat ++ toLe 2 (m &&& ~~~p).toNat) 0).2
  exact ⟨(congrArg State.selftest hkeeps :), (congrArg State.peg hkeeps :), (congrArg State.pair hkeeps :),
    (State.answerLate_now ..).of_comm rfl rfl rfl⟩

/-- The tests of the mask are answered; the golden-vector test on a standby, and it alone, moves the pair's state (R190, R329). -/
theorem selftestComplete_answers (p : Half) {m : Half} {s : State} {r : Req} {rest : List (Req × Half)} {t : Tag}
    (hs : s.selftest = (r, m) :: rest) (ht : s.tag? r = some t) :
    ∃ x : PairSt, exec (.selftestComplete p) s = .next (s.answerSelftest t m p rest x).flush
      ∧ ((s.isStandby = false ∨ m.getLsbD 7 = false) → x = s.pair)
      ∧ (s.isStandby = true → m.getLsbD 7 = true → x = s.goldenPair (m &&& ~~~p)) := by
  have hstandby : State.isStandby { s with selftest := rest } = s.isStandby := rfl
  have htag (u : State) (h : u.comm.tags = s.comm.tags) : u.tag? r = some t := by rw [← ht, State.tag?, h]; rfl
  by_cases h : s.isStandby = true ∧ m.getLsbD 7 = true
  · refine ⟨s.goldenPair (m &&& ~~~p), ?_, fun h' => ?_, fun _ _ => rfl⟩
    · have hgolden : ¬ (¬ State.isStandby { s with selftest := rest } = true ∨ ¬ m.getLsbD 7 = true) := by
        rwa [hstandby, not_or, not_not, not_not]
      show execSelftestComplete p s = _
      simp only [execSelftestComplete, hs, if_neg hgolden, htag]
      rfl
    · rw [h.1, h.2] at h'
      exact absurd h' (by decide)
  · refine ⟨s.pair, ?_, fun _ => rfl, fun h1 h2 => absurd ⟨h1, h2⟩ h⟩
    have hplain : ¬ State.isStandby { s with selftest := rest } = true ∨ ¬ m.getLsbD 7 = true := by
      rwa [hstandby, ← not_and_or]
    show execSelftestComplete p s = _
    simp only [execSelftestComplete, hs, if_pos hplain, htag]
    rfl

/-- Where the golden-vector test ran, its own result bit decides (R329). -/
theorem State.goldenPair_of_tested (s : State) {m : Half} (p : Half) (h : m.getLsbD 7 = true) :
    (s.goldenPair (m &&& ~~~p)).streak = (if p.getLsbD 7 then min 15 (s.pair.streak + 1) else 0)
      ∧ (s.goldenPair (m &&& ~~~p)).refResult = (if p.getLsbD 7 then 1 else 2) := by
  have hbad : (m &&& ~~~p).getLsbD 7 = !p.getLsbD 7 := by simp only [BitVec.getLsbD_and, h, BitVec.getLsbD_not]; rfl
  unfold State.goldenPair
  rw [hbad]
  cases p.getLsbD 7 <;> exact ⟨rfl, rfl⟩

end Sys2Proof.Machine
end

section
open Sys2Proof Sys2Proof.Machine

/-- Settles O46: the block resets through what begins and ends them, the islands through what a retargeting and a lock leave of each,
the domains and the self-tests through their answers. -/
theorem diagEventsComplete : Obligations.DiagEventsComplete := by
  refine ⟨?asked, ?begun, ?reset, ?idle, ?relock, ?lock, ?loss, ?domain, ?tests⟩
  case asked =>
    intro k s b hg hw hr
    refine ⟨blockIdle_starts hg hw hr, blockIdle_busy hg, fun t ht hover => ?_, fun t ht hearly => ?_⟩
    · exact fallback_starts hg hw hr (by simpa [State.gracefulOver_of_tag ht] using hover)
    · exact fallback_early hg (by simpa [State.gracefulOver_of_tag ht] using hearly)
  case begun =>
    intro s b m hb
    exact ⟨_, State.startBlock_mem hb m, rfl, rfl, rfl, rfl⟩
  case reset =>
    intro k s b t hs hk hr ht
    obtain ⟨-, hkeeps⟩ := (s.blockEnded b).answerLate_spec t .done (toLe 1 b.mode ++ toLe 2 b.completed) 0
    unfold State.KeepsAllButReplies at hkeeps
    refine ⟨_, blockResetComplete_ends hs hk hr ht, ?_, ?_, ?_, ?_, ?_⟩
    · rw [hkeeps, s.blockEnded_eq b]; simp [hs]
    · rw [hkeeps, s.blockEnded_eq b]
    · rw [hkeeps, s.blockEnded_eq b]; rfl
    · rw [hkeeps, s.blockEnded_eq b]; rfl
    · have hnow := (s.blockEnded b).answerLate_now t .done (toLe 1 b.mode ++ toLe 2 b.completed)
      have hcomm : (s.blockEnded b).comm = s.comm := by rw [s.blockEnded_eq b]; rfl
      have hbatten : (s.blockEnded b).execLate t = since (s.clk.batten + 64) t.admitAt := by
        unfold State.execLate; rw [s.blockEnded_eq b]; rfl
      rw [hbatten] at hnow
      exact hnow.of_comm (by rw [hcomm]) (by rw [hcomm]) (by rw [hcomm])
  case idle =>
    intro s ha hrun ho hs
    rw [relockPoint_serves ha hrun ho, State.relockIslands_none (by simpa using hs)]
  case relock =>
    intro s q ha hrun ho hs hb hf hi hrate
    have hserved : (List.range 7).foldl State.relockIsland (s.toOffset 115000) = (s.toOffset 115000).beginRelock q :=
      State.relockIslands_begin (by simpa using hs) hb (by simpa using hf) (by simpa using hrate) _ (List.mem_range.2 hi)
    have hexec := relockPoint_serves ha hrun ho
    rw [hserved] at hexec
    refine ⟨_, hexec, ?_, ?_, ?_, ?_, rfl, fun i hne => ?_, ?_⟩
    · rw [State.beginRelock_same]; rfl
    · rw [State.beginRelock_same]; rfl
    · rw [State.beginRelock_same, State.toOffset_islandSt]; rfl
    · rw [State.beginRelock_same]; rfl
    · rw [State.beginRelock_other _ _ hne, State.toOffset_islandSt]
    · exact s.toOffset_peg 115000
  case lock =>
    intro i n s back ha hst hb hd hback
    have hl := s.locked_only i.val n back
    obtain ⟨hk, hisl⟩ := (s.locked i.val n back).answerLock_only i.val n back
    obtain ⟨c, hc⟩ := hisl i.val
    rw [s.locked_islandSt] at hc
    refine ⟨_, lockConfirmed_locks ha hst hb hd back hback, ?_, ?_, ?_, ?_, ?_, ?_, fun q t hs hq hbegun ht => ?_⟩
    · rw [hc]; rfl
    · rw [hc]; rfl
    · rw [hc]; rfl
    · rw [hc]; rfl
    · rw [hk, hl]
    · rw [hk, hl]
    · have hcomm : (s.locked i.val n back).comm = s.comm := by rw [hl]
      have hreqs : (s.locked i.val n back).clk.rateReqs = [q] := by rw [hl]; exact hs
      have htag : (s.locked i.val n back).tag? q.req = some t := by rw [hl]; exact ht
      obtain ⟨hans, hnone⟩ := State.answerLock_answers (n := n) (back := back) hreqs hq hbegun htag
      exact ⟨hans.of_comm (by rw [hcomm]) (by rw [hcomm]) (by rw [hcomm]), hnone⟩
  case loss =>
    intro i s ha hst
    refine ⟨_, pllLockLoss_retargets ha hst, ?_, ?_, ?_, ?_, fun j hj => ?_⟩
    · simp [Island.retargeted]
    · simp [Island.retargeted]
    · simp
    · simp [Island.retargeted]
    · rw [State.gutter_islandSt, State.spoil_islandSt, State.modIsland_other _ _ hj]
  case domain =>
    intro d s q t hs hq hb ht
    obtain ⟨-, hkeeps⟩ := State.answerLate_spec
      { s with clk := { s.clk with domains := sset 1 s.clk.domains d.val (b2n q.on), domainReqs := [] } } t .done
      (toLe 1 (b2n q.on)) 0
    unfold State.KeepsAllButReplies at hkeeps
    refine ⟨_, domainSwitchComplete_answers hs hq hb ht, ?_, ?_, fun e he => ?_, ?_⟩
    · rw [hkeeps]
    · rw [hkeeps]
      simp [b2n]
    · rw [hkeeps]
      exact sget_sset_other _ _ _ _ _ he
    · have hans := State.answerLate_now
        { s with clk := { s.clk with domains := sset 1 s.clk.domains d.val (b2n q.on), domainReqs := [] } } t .done (toLe 1 (b2n q.on))
      have hbyte : toLe 1 (b2n q.on) = [if q.on then 1#8 else 0#8] := by cases q.on <;> rfl
      rw [← hbyte]
      exact hans.of_comm rfl rfl rfl
  case tests =>
    intro p s r m rest t hs ht
    obtain ⟨x, hexec, hplain, hgolden⟩ := selftestComplete_answers p hs ht
    obtain ⟨hrest, hpeg, hpair, hans⟩ := s.answerSelftest_spec t m p rest x
    refine ⟨_, hexec, hrest, hpeg, fun h => hpair.trans (hplain h), fun h1 h2 => ?_, hans⟩
    rw [hpair, hgolden h1 h2]
    exact s.goldenPair_of_tested p h2

end

section
/-! SUPPORT. What a reset that a lost supply begins leaves: the supplies, the keys and the written ledger (R42, R62, R99, R304). -/

namespace Sys2Proof.Machine

/-! ### The ledger across a cut (R304, R315) -/

theorem Recorder.note_ledger (r : Recorder) (k c : Nat) : (r.note k c).ledger = r.ledger := by
  unfold Recorder.note
  split <;> rfl

theorem Recorder.push_ledger (r : Recorder) (body : Option Rec) (free : Nat) : (r.push body free).ledger = r.ledger := by
  unfold Recorder.push Recorder.advance
  dsimp only
  split
  · rfl
  · split <;> rfl

theorem Recorder.commit_ledger (r : Recorder) (x : Rec) : (r.commit x).ledger = r.ledger := by
  unfold Recorder.commit
  extract_lets x' r1
  have hr1 : r1.ledger = r.ledger := r.push_ledger ..
  split
  · rfl
  · split
    · split
      · exact (r1.note_ledger ..).trans hr1
      · exact hr1
    · split
      · exact r.note_ledger ..
      · exact Recorder.push_ledger ..

theorem Recorder.tear_ledger (r : Recorder) (free : Nat) : (r.tear free).ledger = r.ledger := by
  unfold Recorder.tear
  dsimp only
  split
  · rfl
  · exact Recorder.push_ledger ..

/-- What a cut does to the writes in progress only adds to the written slots of the ledger. -/
theorem State.cutWrites_ledger (s : State) : s.recorder.ledger <+: s.cutWrites.recorder.ledger := by
  have commits (l : List (List Byte)) (r : Recorder) : r.ledger <+: (l.foldl Recorder.ledgerCommit r).ledger :=
    foldl_rel (fun a b : Recorder => a.ledger <+: b.ledger) (fun _ => List.prefix_refl _) List.IsPrefix.trans _
      (fun _ _ => List.prefix_append ..) l r
  have records (l : List Rec) (r : Recorder) : (l.foldl Recorder.commit r).ledger = r.ledger :=
    foldl_rel (fun a b : Recorder => b.ledger = a.ledger) (fun _ => rfl) (fun h k => k.trans h) _
      (fun a x => a.commit_ledger x) l r
  have gutter (u : State) (k a d : Nat) : (u.gutter k a d).recorder = u.recorder := by rw [u.gutter_only k a d]
  unfold State.cutWrites
  extract_lets r total
  split
  · exact List.prefix_refl _
  · split
    extract_lets whole nl committed rest nr recorded done
    split
    extract_lets torn ledgerTorn r1 recordTorn
    have hdone : s.recorder.ledger <+: done.ledger := by
      have h : recorded.ledger = committed.ledger := records ..
      exact h ▸ commits ..
    split
    · exact hdone
    · split
      · rw [gutter]
        exact hdone.trans (List.prefix_append ..)
      · rw [gutter]
        have h : r1.ledger = done.ledger := done.tear_ledger _
        exact h ▸ hdone

/-! ### A reset of power-on class (R62, R99) -/

@[simp] theorem State.startReset_sup (s : State) (i : Nat) (p : Bool) : (s.startReset i p).sup = s.sup := by
  show s.cutWrites.sup = _
  rw [s.cutWrites_only]
@[simp] theorem State.startReset_keys (s : State) (i : Nat) (p : Bool) : (s.startReset i p).keys = s.keys := by
  show s.cutWrites.keys = _
  rw [s.cutWrites_only]
theorem State.startReset_ledger (s : State) (i : Nat) (p : Bool) :
    s.recorder.ledger <+: (s.startReset i p).recorder.ledger := s.cutWrites_ledger

/-- A source of power-on class takes a node that runs or is held in a warm reset, and leaves another as it is (R99). -/
def State.takePowerOn (s : State) (idx : Nat) : State := if s.takesPowerOn then s.startReset idx true else s

theorem State.takePowerOn_resets {s : State} (h : s.alive = true ∨ s.rst.powerOn = false) (idx : Nat) :
    s.takePowerOn idx = s.startReset idx true := by
  refine if_pos ?_
  unfold State.takesPowerOn
  obtain h | h := h <;> simp [h]

/-- A node already in a reset of power-on class keeps its cause. -/
theorem State.takePowerOn_stays {s : State} (ha : s.alive = false) (hp : s.rst.powerOn = true) (idx : Nat) : s.takePowerOn idx = s := by
  refine if_neg ?_
  simp [State.takesPowerOn, ha, hp]

/-- Either way the supplies, the keys and the written ledger stay. -/
theorem State.takePowerOn_keeps (s : State) (idx : Nat) : (s.takePowerOn idx).sup = s.sup ∧ (s.takePowerOn idx).keys = s.keys
    ∧ s.recorder.ledger <+: (s.takePowerOn idx).recorder.ledger := by
  unfold State.takePowerOn
  split
  · exact ⟨s.startReset_sup .., s.startReset_keys .., s.startReset_ledger ..⟩
  · exact ⟨rfl, rfl, List.prefix_refl _⟩

theorem State.mem_hold (s : State) (idx : Nat) : idx ∈ (s.hold idx).rst.held := by
  unfold State.hold
  dsimp only
  split
  next h => exact List.contains_iff_mem.1 h
  · exact List.mem_append_right _ (List.mem_singleton.2 rfl)

/-! ### Logic supplies and the reference (R42, R43, R62) -/

@[simp] theorem Supplies.drop_get (p : Supplies) (k : LogicRail) : (p.drop k).get k = false := by cases k <;> rfl
@[simp] theorem Supplies.drop_eave (p : Supplies) (k : LogicRail) : (p.drop k).eave = p.eave := by cases k <;> rfl

theorem supplyBrownout_holds {k : LogicRail} {s : State} (h : s.sup.get k = true) :
    exec (.supplyBrownout k) s =
      .next (State.hold { s.takePowerOn (railCause k) with sup := (s.takePowerOn (railCause k)).sup.drop k } (railCause k)) := by
  show execSupplyBrownout k s = _
  rw [execSupplyBrownout, if_neg (by simp [h])]
  rfl

theorem supplyBrownout_repeated {k : LogicRail} {s : State} (h : s.sup.get k = false) : exec (.supplyBrownout k) s = .next s := by
  show execSupplyBrownout k s = _
  simp [execSupplyBrownout, h]

theorem referenceLoss_holds {s : State} (h : s.sup.reference = true) :
    exec .referenceLoss s = .next (State.hold { s.takePowerOn 4 with sup := { (s.takePowerOn 4).sup with reference := false } } 4) := by
  show execReferenceLoss s = _
  rw [execReferenceLoss, if_neg (by simp [h])]
  rfl

theorem referenceReturn_releases {s : State} (h : s.sup.vpll = true) :
    exec .referenceReturn s = .next (State.unhold { s with sup := { s.sup with reference := true } } 4) := by
  show execReferenceReturn s = _
  simp [execReferenceReturn, h]

/-- What still holds a node once all four logic supplies are up: sources beyond the supplies, and VPLL's reset while the reference
is away (R42, R62). -/
def heldAtPowerOn (s : State) : List Nat :=
  s.rst.held.filter (fun k => decide (4 < k)) ++ (if s.rst.held.contains 4 && !s.sup.reference then [4] else [])

theorem four_le_of_heldAtPowerOn {s : State} {k : Nat} (h : k ∈ heldAtPowerOn s) : 4 ≤ k := by
  obtain h | h := List.mem_append.1 h
  · exact Nat.le_of_lt (by simpa using (List.mem_filter.1 h).2)
  · split at h
    · exact Nat.le_of_eq (List.mem_singleton.1 h).symm
    · cases h

/-- After a dip of some of the logic supplies their rise ends the holds and nothing else (R42). -/
theorem powerOn_after_dip {s : State} (h : (s.sup.vcore || s.sup.vio || s.sup.vaux || s.sup.vpll) = true) :
    ∃ u : State, exec .powerOn s = .next u ∧ u.sup.logicUp = true ∧ (∀ k ∈ u.rst.held, 4 ≤ k)
      ∧ u = { s with sup := u.sup, rst := { s.rst with held := u.rst.held } } := by
  have hall : (!s.sup.vcore && !s.sup.vio && !s.sup.vaux && !s.sup.vpll) = false := by
    rw [← Bool.not_or, ← Bool.not_or, ← Bool.not_or, h]; rfl
  by_cases hup : s.sup.logicUp = true ∧ ¬ s.rst.held.any (fun k => k ≤ 3) = true
  · refine ⟨s, ?_, hup.1, fun k hk => ?_, rfl⟩
    · show execPowerOn s = _
      rw [execPowerOn, if_pos hup]
    · have hnone := hup.2
      simp only [List.any_eq_true, not_exists, not_and, decide_eq_true_eq] at hnone
      exact Nat.not_le.1 (hnone k hk)
  · refine ⟨{ s with
      sup := { s.sup with vcore := true, vio := true, vaux := true, vpll := true }, rst := { s.rst with held := heldAtPowerOn s } },
      ?_, rfl, fun k => four_le_of_heldAtPowerOn, rfl⟩
    show execPowerOn s = _
    rw [execPowerOn, if_neg hup]
    simp only [hall]
    rfl

/-- The rise of all four logic supplies is a POWER_ON reset (R42). -/
theorem powerOn_after_loss {s : State} (h : (s.sup.vcore || s.sup.vio || s.sup.vaux || s.sup.vpll) = false) :
    ∃ u : State, exec .powerOn s = .next u ∧ u.sup.logicUp = true ∧ (∀ k ∈ u.rst.held, 4 ≤ k)
      ∧ u = { s.startReset 0 true with sup := u.sup, rst := { (s.startReset 0 true).rst with held := u.rst.held }, eave := u.eave } := by
  have hall : (!s.sup.vcore && !s.sup.vio && !s.sup.vaux && !s.sup.vpll) = true := by
    rw [← Bool.not_or, ← Bool.not_or, ← Bool.not_or, h]; rfl
  have hup : ¬ (s.sup.logicUp = true ∧ ¬ s.rst.held.any (fun k => k ≤ 3) = true) := by
    rintro ⟨hup, -⟩
    simp only [Supplies.logicUp, Bool.and_eq_true] at hup
    obtain ⟨⟨⟨hcore, -⟩, -⟩, -⟩ := hup
    rw [hcore] at h
    exact absurd h (by simp)
  refine ⟨{ s.startReset 0 true with
    sup := { (s.startReset 0 true).sup with vcore := true, vio := true, vaux := true, vpll := true }
    rst := { (s.startReset 0 true).rst with held := heldAtPowerOn s }
    eave := if (s.startReset 0 true).sup.eave then (s.startReset 0 true).eave.rise else (s.startReset 0 true).eave },
    ?_, rfl, fun k => four_le_of_heldAtPowerOn, rfl⟩
  show execPowerOn s = _
  rw [execPowerOn, if_neg hup]
  simp only [hall]
  rfl

end Sys2Proof.Machine
end

section
/-! SUPPORT. The AFE die and the field die start over with their supplies (R57, R209, R226, R234). -/

namespace Sys2Proof.Machine

/-! ### The AFE die (R209) -/

/-- Nothing but the channels of the AFE die changes. -/
def State.OnlyChannels (s u : State) : Prop := u = { s with afe := { s.afe with ch := u.afe.ch } }
theorem State.OnlyChannels.refl (s : State) : s.OnlyChannels s := rfl
theorem State.OnlyChannels.trans {s u v : State} (h : s.OnlyChannels u) (k : u.OnlyChannels v) : s.OnlyChannels v := by
  unfold State.OnlyChannels at *; rw [k, h]

theorem State.modCh_other (s : State) {ch c : Nat} (f : AfeCh → AfeCh) (h : c ≠ ch) : (s.modCh ch f).ainSt c = s.ainSt c :=
  sget_smod_other _ _ _ _ _ h

/-- The channels of a list start over. -/
def State.restartChs (s : State) (l : List Nat) : State := l.foldl (fun a ch => a.modCh ch (AfeCh.restart a.clk.batten)) s

/-- A channel that starts over has no result until the first of its new grid (R209). -/
theorem State.restartChs_result (l : List Nat) {c : Nat} (s : State) (h : c ∈ l ∨ (s.ainSt c).result = none) :
    ((s.restartChs l).ainSt c).result = none := by
  induction l generalizing s with
  | nil => exact h.resolve_left (by simp)
  | cons ch l ih =>
    refine ih _ ?_
    by_cases hc : c = ch
    · subst hc
      exact .inr (by rw [State.modCh_same]; rfl)
    · rw [State.modCh_other _ _ hc]
      exact h.imp_left fun hm => (List.mem_cons.1 hm).resolve_left hc

/-- What a unit drives moves no result. -/
theorem State.driveAll_result (s : State) (c : Nat) : (s.driveAll.ainSt c).result = (s.ainSt c).result := by
  refine foldl_rel (fun a b : State => (b.ainSt c).result = (a.ainSt c).result) (fun _ => rfl) (fun h k => k.trans h) _
    (fun a ch => ?_) _ s
  unfold State.driveCh
  by_cases hc : c = ch
  · subst hc
    rw [State.modCh_same]
  · rw [State.modCh_other _ _ hc]

/-- The AFE die without settings, in listen mode. -/
def Afe.fresh (a : Afe) : Afe := { a with listen := true, linkUp := false, settingsLoaded := false }

theorem State.afeFresh_only (s : State) : State.OnlyChannels { s with afe := s.afe.fresh } s.afeFresh := by
  refine .trans (u := State.restartChs { s with afe := s.afe.fresh } (List.range 16)) ?_ ?_
  · refine foldl_rel State.OnlyChannels .refl .trans _ (fun _ _ => ?_) _ _
    rfl
  · refine foldl_rel State.OnlyChannels .refl .trans _ (fun _ _ => ?_) _ _
    rfl

theorem State.afeFresh_result (s : State) {c : Nat} (h : c < 16) : (s.afeFresh.ainSt c).result = none :=
  (State.driveAll_result ..).trans (State.restartChs_result _ _ (.inl (List.mem_range.2 h)))

/-! ### A forced yield (R346) -/

/-- A unit that is not active in a pair has nothing to yield. -/
theorem State.forcedYield_of_state {s : State} (h : s.pair.state ≠ 1) : s.forcedYield = s :=
  if_neg fun ⟨_, _, h1⟩ => h h1

/-- An active unit of a pair puts its yield into the batch. -/
theorem State.forcedYield_joins {s : State} (hr : s.isReady = true) (hw : s.isWorker = false) (hp : s.pair.state = 1) :
    ∃ i : BatchItem, i.body = .internal 1 0 0 0
      ∧ s.forcedYield = { s with admitted := s.admitted ++ [i], ridge := s.forcedYield.ridge } := by
  have h : s.forcedYield = s.submit (.internal 1 0 0 0) := if_pos ⟨hr, by simp [hw], hp⟩
  refine ⟨{ s.ownItem (.internal 1 0 0 0) with forwarded := s.forwards }, rfl, ?_⟩
  rw [h]
  exact State.submit_only ..

theorem vafeLost_restarts {s : State} (h : s.sup.vafe = true) :
    exec .vafeLost s = .next (State.afeFresh { s with sup := { s.sup with vafe := false } }).forcedYield := by
  show execVafeLost s = _
  simp [execVafeLost, h]

theorem vafeReturn_restarts {s : State} (h : s.sup.vafe = false) :
    exec .vafeReturn s = .next (State.afeFresh { s with sup := { s.sup with vafe := true } }) := by
  show execVafeReturn s = _
  simp [execVafeReturn, h]

/-! ### The field die (R226, R234) -/

/-- Without its supply no stage conducts. -/
theorem State.conducts_unpowered {s : State} (h : s.fld.powered = false) (o : Nat) : s.conducts o = false := by
  simp [State.conducts, h]

/-- Before the safe states are loaded no stage conducts. -/
theorem State.conducts_unloaded {s : State} (h : s.fld.loaded = false) (o : Nat) : s.conducts o = false := by
  simp [State.conducts, State.stageC, h]

theorem vfldLost_restarts {s : State} (h : s.sup.vfld = true) : exec .vfldLost s = .next (State.forcedYield
    { s with sup := { s.sup with vfld := false }, fld := { FieldDie.start with powered := false } }) := by
  show execVfldLost s = _
  simp [execVfldLost, h]

/-- The field die starts, and its link trains where the logic sends frames. -/
theorem vfldPowerUp_starts {s : State} (h : s.sup.vfld = false) : ∃ x : FieldIo, exec .vfldPowerUp s =
    .next { s with sup := { s.sup with vfld := true }, fld := FieldDie.start, fio := x } := by
  show ∃ x, execVfldPowerUp s = _
  rw [execVfldPowerUp, if_neg (by simp [h])]
  dsimp only
  split <;> exact ⟨_, rfl⟩

/-! ### EAVE (R43, R44) -/

theorem eaveSupplyChangeover_keeps {b : Bool} {s : State} (h : s.sup.eave = true) :
    exec (.eaveSupplyChangeover b) s = .next { s with sup := { s.sup with eaveFromBack := b } } := by
  show execEaveSupplyChangeover b s = _
  simp [execEaveSupplyChangeover, h]

theorem eaveSupplyLost_loses {s : State} (hv : s.sup.vio = false) (he : s.sup.eave = true) : exec .eaveSupplyLost s =
    .next { s with sup := { s.sup with eave := false, vback := false }, eave := s.eave.afterLoss s.time } := by
  show execEaveSupplyLost s = _
  simp [execEaveSupplyLost, hv, he]

end Sys2Proof.Machine
end

section
open Sys2Proof Sys2Proof.Machine

/-- Settles O54: the logic supplies and the reference through the reset that they begin, the two dies through their start. -/
theorem suppliesComplete : Obligations.SuppliesComplete := by
  refine ⟨?brownout, fun _ _ => supplyBrownout_repeated, ?dip, ?loss, fun _ _ => eaveSupplyChangeover_keeps, ?eave, ?vafe, ?yield,
    ?vafeBack, ?vfld, ?vfldBack, ?reference, ?referenceBack⟩
  case brownout =>
    intro k s h
    obtain ⟨hsup, hkeys, hledger⟩ := s.takePowerOn_keeps (railCause k)
    refine ⟨_, supplyBrownout_holds h, Supplies.drop_get .., State.mem_hold .., fun hr => ?_, fun ha hp => ?_, ?_, hkeys, hledger⟩
    · rw [State.takePowerOn_resets hr]
      exact ⟨rfl, rfl, rfl⟩
    · rw [State.takePowerOn_stays ha hp]
      exact ⟨rfl, rfl⟩
    · exact (Supplies.drop_eave ..).trans (congrArg Supplies.eave hsup)
  case dip =>
    intro s h
    obtain ⟨u, hexec, hup, hheld, hu⟩ := powerOn_after_dip h
    refine ⟨u, hexec, hup, hheld, ?_, ?_, ?_⟩ <;> rw [hu]
  case loss =>
    intro s h
    obtain ⟨u, hexec, hup, hheld, hu⟩ := powerOn_after_loss h
    refine ⟨u, hexec, hup, hheld, ?_, ?_, ?_, ?_⟩
    · rw [hu]; rfl
    · rw [hu]; rfl
    · rw [hu]; rfl
    · rw [hu]; exact s.startReset_keys 0 true
  case eave =>
    intro s hv he
    exact ⟨_, eaveSupplyLost_loses hv he, rfl, rfl, rfl⟩
  case vafe =>
    intro s h hp
    have honly := State.afeFresh_only { s with sup := { s.sup with vafe := false } }
    have hyield : (State.afeFresh { s with sup := { s.sup with vafe := false } }).forcedYield = _ :=
      State.forcedYield_of_state (by rw [honly]; exact hp)
    refine ⟨_, (vafeLost_restarts h).trans (congrArg _ hyield), ?_, ?_, ?_, ?_, fun c hc => State.afeFresh_result _ hc, ?_⟩
    all_goals rw [honly]
    all_goals rfl
  case yield =>
    intro s h hr hw hp _
    have honly := State.afeFresh_only { s with sup := { s.sup with vafe := false } }
    obtain ⟨i, hi, hjoins⟩ := State.forcedYield_joins (s := State.afeFresh { s with sup := { s.sup with vafe := false } })
      (by rw [honly]; exact hr) (by rw [honly]; exact hw) (by rw [honly]; exact hp)
    refine ⟨_, i, vafeLost_restarts h, ?_, ?_, hi⟩
    · rw [hjoins, honly]
    · rw [hjoins, honly]
  case vafeBack =>
    intro s h
    have honly := State.afeFresh_only { s with sup := { s.sup with vafe := true } }
    refine ⟨_, vafeReturn_restarts h, ?_, ?_, ?_, ?_⟩
    all_goals rw [honly]
    all_goals rfl
  case vfld =>
    intro s h hp
    have hyield := State.forcedYield_of_state
      (s := { s with sup := { s.sup with vfld := false }, fld := { FieldDie.start with powered := false } }) hp
    exact ⟨_, (vfldLost_restarts h).trans (congrArg _ hyield), rfl, rfl, State.conducts_unpowered rfl, rfl⟩
  case vfldBack =>
    intro s h
    obtain ⟨x, hexec⟩ := vfldPowerUp_starts h
    exact ⟨_, hexec, rfl, rfl, State.conducts_unloaded rfl, rfl⟩
  case reference =>
    intro s h
    refine ⟨_, referenceLoss_holds h, rfl, State.mem_hold .., fun hr => ?_, fun ha hp => ?_⟩
    · rw [State.takePowerOn_resets hr]
      exact ⟨rfl, rfl, rfl⟩
    · rw [State.takePowerOn_stays ha hp]
      rfl
  case referenceBack =>
    intro s h
    exact ⟨_, referenceReturn_releases h, rfl, by simp [State.unhold], rfl, rfl⟩

end

section
/-! SUPPORT. The RTC's seconds and its discipline (R249-R251, R254, R256-R258). -/

namespace Sys2Proof.Machine

/-! ### Seconds (R249, R251, R254) -/

/-- A second moves the fields, the weekday, DST and VALID alone. -/
theorem Eave.nextSecond_only (e : Eave) : e.nextSecond = { e with
    date := e.nextSecond.date, dst := e.nextSecond.dst, weekday := e.nextSecond.weekday, valid := e.nextSecond.valid } := by
  unfold Eave.nextSecond
  split <;> rfl

/-- On a node that does not follow a leader the second is the RTC's own; out of reset it is marked. -/
theorem rtcSecond_counts {s : State} (he : s.sup.eave = true) (hf : s.alive = false ∨ s.clk.refState ≠ 2) : exec .rtcSecond s =
    .next { s with
      eave := if s.alive then (s.eave.second s.time).markAt s.eave.seconds s.clk.batten s.time else s.eave.second s.time } := by
  have hown : ¬ (¬ s.sup.eave = true ∨ (s.alive = true ∧ s.clk.refState = 2)) := by
    rintro (h | ⟨ha, hr⟩)
    · exact h he
    · exact hf.elim (fun h => absurd ha (by simp [h])) (absurd hr)
  show execRtcSecond s = _
  rw [execRtcSecond, if_neg hown]
  dsimp only
  have halive : State.alive { s with eave := s.eave.second s.time } = s.alive := rfl
  rw [halive]
  split <;> rfl

/-! ### PPS edges (R258) -/

theorem ppsEdge_invalid {s : State} (hd : s.disciplines = true) (hv : s.ppsValid = false) :
    exec .ppsEdge s = .next { s with eave := { s.eave with ppsErrors := inc32 s.eave.ppsErrors } } := by
  show execPpsEdge s = _
  simp [execPpsEdge, hd, hv]

/-- A valid edge is noted, and begins or keeps its sequence. -/
def State.noteEdge (s : State) : State :=
  { s with eave := { s.eave with
      lastPps := some s.clk.batten, ppsLabelled := false, labelled := if s.eave.ppsLabelled then s.eave.labelled else 0,
      discState := if s.eave.discState = 3 then 3 else 2 } }

section
variable {s : State} (hd : s.disciplines = true) (hv : s.ppsValid = true)
include hd hv

theorem ppsEdge_notes (hs : s.eave.stepTo = none) : exec .ppsEdge s = .next s.noteEdge := by
  show execPpsEdge s = _
  simp [execPpsEdge, hd, hv, hs, State.noteEdge]

/-- A step that waits is made at the next valid edge, which marks its second. -/
theorem ppsEdge_steps {d : Date} (hs : s.eave.stepTo = some d) :
    exec .ppsEdge s = .next ((s.noteEdge.stepClock d).markSecond s.eave.seconds) := by
  show execPpsEdge s = _
  simp only [execPpsEdge, hd, hv, hs]
  rfl

end

/-! ### ZDA_ONLY and the trim (R258) -/

/-- A node that has lost its edges for 3 s goes on with time labels alone. -/
theorem zdaOnly_falls {s : State} {t : Batten} (hd : s.disciplines = true) (hl : s.eave.lastPps = some t)
    (ht : 3 * 12500000 ≤ since s.clk.batten t) : exec .zdaOnly s = .next { s with
      eave := { s.eave with discState := 4, lastPps := none, ppsLabelled := false, labelled := 0, lockedSince := none } } := by
  show execZdaOnly s = _
  simp [execZdaOnly, hl, hd, Config.ticksPerSecond, ht]

theorem zdaOnly_early {s : State} {t : Batten} (hl : s.eave.lastPps = some t) (ht : since s.clk.batten t < 3 * 12500000) :
    exec .zdaOnly s = .next s := by
  show execZdaOnly s = _
  simp [execZdaOnly, hl, Config.ticksPerSecond, ht]

theorem rtcTrimUpdate_trims (n : Int) {s : State} {t : Nat} (hl : s.eave.lockedSince = some t) (hd : s.disciplines = true)
    (h3 : s.eave.discState = 3) (ht : 3600 * 12500000 ≤ s.passed t) : exec (.rtcTrimUpdate n) s = .next { s with
      eave := { s.eave with trim := max (-127) (min 127 n), lockedSince := some s.time } } := by
  show execRtcTrimUpdate n s = _
  simp [execRtcTrimUpdate, hl, hd, h3, Config.ticksPerSecond, ht]

theorem rtcTrimUpdate_early (n : Int) {s : State} {t : Nat} (hl : s.eave.lockedSince = some t)
    (ht : s.passed t < 3600 * 12500000) : exec (.rtcTrimUpdate n) s = .next s := by
  show execRtcTrimUpdate n s = _
  simp only [execRtcTrimUpdate, hl]
  rw [if_neg fun ⟨_, _, hover⟩ => absurd ht (Nat.not_lt.2 hover)]

end Sys2Proof.Machine
end

section
/-! SUPPORT. The charger, the wake and PWRON, and EAVE's cold start (R43, R55, R56, R259, R263). -/

namespace Sys2Proof.Machine

/-! ### The charger (R259) -/

theorem chargerTermination_ends {s : State} (hc : s.chargerOn = true) (h : s.eave.chargerState = 1) :
    exec .chargerTermination s = .next (s.chargerTo 2) := by
  show execChargerTermination s = _
  simp [execChargerTermination, hc, h]

theorem chargerRestart_charges {s : State} (hc : s.chargerOn = true) (h : s.eave.chargerState = 2) :
    exec .chargerRestart s = .next (s.chargerTo 1) := by
  show execChargerRestart s = _
  simp [execChargerRestart, hc, h]

theorem noElement_found {s : State} (hc : s.chargerOn = true) (h : s.eave.chargerState = 1)
    (ht : 10 * 12500000 ≤ s.passed s.eave.chargerAt) : exec .noElement s = .next (s.chargerTo 3) := by
  show execNoElement s = _
  simp [execNoElement, hc, h, Config.ticksPerSecond, ht]

theorem noElement_early {s : State} (ht : s.passed s.eave.chargerAt < 10 * 12500000) : exec .noElement s = .next s := by
  show execNoElement s = _
  rw [execNoElement, if_neg fun ⟨_, _, hover⟩ => absurd ht (Nat.not_lt.2 hover)]

theorem chargerRetry_charges {s : State} (hc : s.chargerOn = true) (h : s.eave.chargerState = 3)
    (ht : 60 * 12500000 ≤ s.passed s.eave.chargerAt) : exec .chargerRetry s = .next (s.chargerTo 1) := by
  show execChargerRetry s = _
  simp [execChargerRetry, hc, h, Config.ticksPerSecond, ht]

theorem chargerRetry_early {s : State} (ht : s.passed s.eave.chargerAt < 60 * 12500000) : exec .chargerRetry s = .next s := by
  show execChargerRetry s = _
  rw [execChargerRetry, if_neg fun ⟨_, _, hover⟩ => absurd ht (Nat.not_lt.2 hover)]

/-! ### Wake and PWRON (R55, R56, R263) -/

/-- A wake touches its cause and PWRON alone. -/
theorem State.wake_only (s : State) (cause : Nat) : s.wake cause = { s with
    eave := { s.eave with wakePending := (s.wake cause).eave.wakePending, pwronLow := (s.wake cause).eave.pwronLow } } := by
  unfold State.wake
  split
  · rfl
  · split <;> rfl

/-- A laid-up node releases PWRON, once its 100 ms are over. -/
theorem State.wake_laidUp {s : State} (h : s.eave.laidUp = true) (cause : Nat) :
    (s.wake cause).eave.pwronLow = s.eave.pwronHeld
      ∧ (s.wake cause).eave.wakePending = some (s.eave.wakePending.getD cause) := by
  simp [State.wake, h]

theorem State.wake_pwronLow {s : State} (h : s.eave.laidUp = false) (cause : Nat) :
    (s.wake cause).eave.pwronLow = s.eave.pwronLow := by
  unfold State.wake
  rw [if_neg (by simp [h])]
  split <;> rfl

theorem State.wake_evt (s : State) (cause : Nat) (i : Fin 2) : (s.wake cause).eave.evt i = s.eave.evt i := by
  rw [s.wake_only cause]; rfl

/-- WAKE_NEXT moves on by the interval, or to 0 without one (R263). -/
def State.moveWake (s : State) : State :=
  { s with eave := { s.eave with
      wakeNext := if s.eave.wakeInterval = 0 then 0 else (s.eave.wakeNext + 60 * s.eave.wakeInterval) % 2 ^ 32 } }

theorem wakeDue_wakes {s : State} (he : s.sup.eave = true) (hw : s.eave.wakeReached = true) :
    exec .wakeDue s = .next (s.moveWake.wake 1) := by
  show execWakeDue s = _
  simp [execWakeDue, he, hw, State.moveWake]

theorem pwronHoldEnd_releases {s : State} (he : s.sup.eave = true) (hh : s.eave.pwronHeld = true)
    (ht : msTicks 100 ≤ s.passed s.eave.pwronAt) : exec .pwronHoldEnd s = .next { s with eave := { s.eave with
      pwronHeld := false, pwronLow := s.eave.pwronLow && s.eave.wakePending.isNone,
      wakePending := if s.eave.laidUp then s.eave.wakePending else none } } := by
  show execPwronHoldEnd s = _
  simp [execPwronHoldEnd, he, hh, ht]

theorem pwronHoldEnd_early {s : State} (ht : s.passed s.eave.pwronAt < msTicks 100) : exec .pwronHoldEnd s = .next s := by
  show execPwronHoldEnd s = _
  simp [execPwronHoldEnd, ht]

/-- The frame after the record's slot is over and nothing is left to write: the domains go off and PWRON low. -/
theorem laidUpShutdown_ends {s : State} {n : Frame} (hl : s.rst.layingUp = some n) (ha : s.alive = true)
    (hd : s.recorder.drained = true) (hq : s.rst.layupQueued = true) (hn : s.clk.frameNo ≠ n) (ho : 125000 ≤ s.offset) :
    exec .laidUpShutdown s = .next { s with
      eave := { s.eave with laidUp := true, pwronLow := true, pwronHeld := true, pwronAt := s.time, lastFrame := s.clk.frameNo }
      sup := { s.sup with vcore := false, vio := false, vaux := false, vpll := false }
      rst := { s.rst with
        inReset := true, powerOn := true, held := [0], layingUp := none, layupQueued := false, cold := false, began := s.time,
        portsUp := false } } := by
  show execLaidUpShutdown s = _
  simp [execLaidUpShutdown, hl, ha, hd, hq, hn, Config.frameTicks, ho]

theorem laidUpShutdown_waits {s : State} (h : s.recorder.drained = false ∨ s.rst.layupQueued = false ∨ s.offset < 125000) :
    exec .laidUpShutdown s = .next s := by
  show execLaidUpShutdown s = _
  unfold execLaidUpShutdown
  split
  · rfl
  · rw [if_pos]
    obtain h | h | h := h
    · simp [h]
    · simp [h]
    · simp [Config.frameTicks, h]

theorem eaveColdStart_starts {s : State} (h : s.sup.eave = false) : exec .eaveColdStart s = .next { s with
    eave := s.eave.afterLoss s.time, sup := { s.sup with eave := true }, rst := { s.rst with cold := true } } := by
  show execEaveColdStart s = _
  simp [execEaveColdStart, h]

end Sys2Proof.Machine
end

section
/-! SUPPORT. The backup event inputs: their samples, their filter and what it keeps (R261, R262). -/

namespace Sys2Proof.Machine

@[simp] theorem Eave.setEvt_same (e : Eave) (i : Fin 2) (x : EvtIn) : (e.setEvt i x).evt i = x := by
  unfold Eave.setEvt Eave.evt
  split <;> rfl

theorem evtEdge_samples {i : Fin 2} {l : Bool} {s : State} (he : s.sup.eave = true) : exec (.evtEdge i l) s =
    .next { s with eave := s.eave.setEvt i { s.eave.evt i with
      level := l
      pending := if l = (s.eave.evt i).accepted then none
        else if l = (s.eave.evt i).level then (s.eave.evt i).pending else some (s.secNow, s.subsec / 32)
      since := if l = (s.eave.evt i).level then (s.eave.evt i).since else s.time } } := by
  show execEvtEdge i l s = _
  rw [execEvtEdge, if_neg (by simp [he])]

/-- An input whose filter has ended with its level accepted. -/
def EvtIn.taken (x : EvtIn) : EvtIn := { x with accepted := x.level, pending := none }

/-- A kept edge touches the FIFO and its overflow bit. -/
theorem EvtIn.keep_only (x : EvtIn) (running : Bool) (e : EvtEntry) :
    x.keep running e = { x with fifo := (x.keep running e).fifo, overflow := (x.keep running e).overflow } := by
  unfold EvtIn.keep
  split
  · rfl
  · split <;> rfl

/-- A FIFO with room takes the edge (R262). -/
theorem EvtIn.keep_room {x : EvtIn} (h : x.fifo.length < 8) (running : Bool) (e : EvtEntry) :
    (x.keep running e).fifo = x.fifo ++ [e] := by
  simp [EvtIn.keep, h]

theorem evtFilterAccept_early {i : Fin 2} {s : State} (ht : s.passed (s.eave.evt i).since < msTicks (s.cfg cCLOCK 0 0x12)) :
    exec (.evtFilterAccept i) s = .next s := by
  show execEvtFilterAccept i s = _
  unfold execEvtFilterAccept
  split
  · rfl
  · rw [if_pos (.inr ht)]

/-- The accepted edge of an input, stamped at its first sample, is kept (R261, R262). -/
def State.keepEvt (s : State) (i : Fin 2) (sec frac : Nat) : State :=
  { s with eave := s.eave.setEvt i ((s.eave.evt i).taken.keep s.alive
      { sec := sec, frac := frac, rising := (s.eave.evt i).level, recorded := false }) }

/-- The edges that EVT_EDGES lets an input keep (R262). -/
def State.keepsEdge (s : State) (i : Fin 2) (rising : Bool) : Bool := edgeKept (bitsAt (s.cfg cCLOCK 0 0x11) (2 * i.val) 2) rising

section
variable {i : Fin 2} {s : State} {sec frac : Nat} (he : s.sup.eave = true) (hp : (s.eave.evt i).pending = some (sec, frac))
  (ht : msTicks (s.cfg cCLOCK 0 0x12) ≤ s.passed (s.eave.evt i).since)
include he hp ht

theorem evtFilterAccept_ignored (hk : s.keepsEdge i (s.eave.evt i).level = false) :
    exec (.evtFilterAccept i) s = .next { s with eave := s.eave.setEvt i (s.eave.evt i).taken } := by
  have hover : ¬ (¬ s.sup.eave = true ∨ s.passed (s.eave.evt i).since < msTicks (s.cfg cCLOCK 0 0x12)) := by simp [he, ht]
  unfold State.keepsEdge at hk
  show execEvtFilterAccept i s = _
  simp only [execEvtFilterAccept, hp]
  rw [if_neg hover, if_pos (by simp [hk])]
  rfl

/-- A kept edge enters the FIFO, and may wake the node. -/
theorem evtFilterAccept_keeps (hk : s.keepsEdge i (s.eave.evt i).level = true) :
    ∃ u : State, exec (.evtFilterAccept i) s = .next u ∧ u = { s with eave := u.eave }
      ∧ u.eave.evt i = (s.eave.evt i).taken.keep s.alive
          { sec := sec, frac := frac, rising := (s.eave.evt i).level, recorded := false } := by
  have hover : ¬ (¬ s.sup.eave = true ∨ s.passed (s.eave.evt i).since < msTicks (s.cfg cCLOCK 0 0x12)) := by simp [he, ht]
  unfold State.keepsEdge at hk
  have hexec : exec (.evtFilterAccept i) s = .next (if (s.keepEvt i sec frac).eave.wakeEvt.getLsbD i.val
      then (s.keepEvt i sec frac).wake (2 + i.val) else s.keepEvt i sec frac) := by
    show execEvtFilterAccept i s = _
    simp only [execEvtFilterAccept, hp]
    rw [if_neg hover, if_neg (by simp [hk])]
    rfl
  have hkept : (s.keepEvt i sec frac).eave.evt i = _ := Eave.setEvt_same s.eave i _
  rw [hexec]
  split
  · refine ⟨_, rfl, ?_, (State.wake_evt ..).trans hkept⟩
    rw [State.wake_only]
    rfl
  · exact ⟨_, rfl, rfl, hkept⟩

end

end Sys2Proof.Machine
end

section
open Sys2Proof Sys2Proof.Machine

/-- Settles O60: each event by what its row makes of EAVE's part that it speaks of, before its time and after it. -/
theorem clockEventsComplete : Obligations.ClockEventsComplete := by
  refine ⟨?second, fun _ => ppsEdge_invalid, ?edge, ?step, ?zda, ?trim, ?charger, ?wake, ?pwron, ?shutdown, ?sample, ?filter, ?cold⟩
  case second =>
    intro s he hf
    have hmark : (s.eave.second s.time).mark = s.eave.mark := by
      unfold Eave.second
      rw [Eave.nextSecond_only]
    refine ⟨_, rtcSecond_counts he hf, ?_, ?_, ?_, fun ha => ?_, fun ha => ?_, rfl⟩
    · split <;> rfl
    · split <;> rfl
    · split <;> rfl
    · rw [if_pos ha]
      exact ⟨rfl, rfl⟩
    · rw [if_neg (by simp [ha])]
      exact hmark
  case edge =>
    intro s hd hv hs
    exact ⟨_, ppsEdge_notes hd hv hs, rfl, rfl, rfl, rfl⟩
  case step =>
    intro s d hd hv hs
    exact ⟨_, ppsEdge_steps hd hv hs, rfl, rfl, rfl, rfl, rfl, rfl⟩
  case zda =>
    intro s t hd hl
    exact ⟨fun ht => ⟨_, zdaOnly_falls hd hl ht, rfl, rfl, rfl, rfl⟩, zdaOnly_early hl⟩
  case trim =>
    intro n t s hl hd h3
    exact ⟨fun ht => ⟨_, rtcTrimUpdate_trims n hl hd h3 ht, rfl, rfl, rfl⟩, rtcTrimUpdate_early n hl⟩
  case charger =>
    intro s hc
    refine ⟨fun h => ⟨chargerTermination_ends hc h, noElement_found hc h, noElement_early⟩, chargerRestart_charges hc,
      fun h => ⟨chargerRetry_charges hc h, chargerRetry_early⟩⟩
  case wake =>
    intro s he hw
    refine ⟨_, wakeDue_wakes he hw, ?_, fun hl => State.wake_laidUp (s := s.moveWake) hl 1,
      fun hl => State.wake_pwronLow (s := s.moveWake) hl 1, ?_⟩
    · rw [State.wake_only]; rfl
    · rw [State.wake_only]; rfl
  case pwron =>
    intro s he hh
    refine ⟨fun ht => ⟨_, pwronHoldEnd_releases he hh ht, rfl, fun hw => ?_, fun hw => ?_, rfl⟩, pwronHoldEnd_early⟩
    · simp [Option.isNone_eq_false_iff.2 hw]
    · simp [hw]
  case shutdown =>
    intro s n hl ha
    exact ⟨fun hd hq hn ho =>
      ⟨_, laidUpShutdown_ends hl ha hd hq hn ho, rfl, rfl, rfl, rfl, rfl, rfl, rfl, rfl, rfl⟩, laidUpShutdown_waits⟩
  case sample =>
    intro i l s he
    refine ⟨_, evtEdge_samples he, ?_, ?_, fun h => ?_, fun h1 h2 => ?_, fun h => ?_, rfl⟩
    · rw [Eave.setEvt_same]
    · rw [Eave.setEvt_same]
    · rw [Eave.setEvt_same]
      exact if_pos h
    · rw [Eave.setEvt_same]
      exact (if_neg h1).trans (if_neg h2)
    · rw [Eave.setEvt_same]
      exact if_neg h
  case filter =>
    intro i s sec frac he hp
    refine ⟨fun ht => ?_, evtFilterAccept_early⟩
    cases hk : s.keepsEdge i (s.eave.evt i).level with
    | false =>
      refine ⟨_, evtFilterAccept_ignored he hp ht hk, ?_, ?_, fun h => absurd (h.symm.trans hk) (by decide), fun _ => ?_, rfl⟩
      all_goals rw [Eave.setEvt_same]; rfl
    | true =>
      obtain ⟨u, hexec, honly, hevt⟩ := evtFilterAccept_keeps he hp ht hk
      rw [EvtIn.keep_only] at hevt
      refine ⟨u, hexec, ?_, ?_, fun _ hroom => ?_, fun h => absurd (h.symm.trans hk) (by decide), honly⟩
      · rw [hevt]; rfl
      · rw [hevt]; rfl
      · rw [hevt]
        exact EvtIn.keep_room (x := (s.eave.evt i).taken) hroom _ _
  case cold =>
    intro s h
    exact ⟨_, eaveColdStart_starts h, rfl, rfl, rfl, rfl, rfl⟩

end

section
/-! SUPPORT. Reads of a fixed count are answered and change nothing (R75, R183). -/

namespace Sys2Proof.Machine

/-- A class-F row that answers at its count is answered with those bytes and that count, and nothing else changes (R75). -/
theorem fixedRow_answers {i : Instr} {c : Cmd} {s : State} {t : Tag} {ps : List Byte} {n : Nat} (hi : requestOf i = some (c, t.req))
    (hc : c.run s t (s.who t.req) = s.answerF t .done ps n) (h : s.Runs c t.req t) :
    ∃ u : State, exec i s = .next u.flush ∧ s.Answered u t .done ps (s.execF t ps n) ∧ s.KeepsAllButReplies u :=
  ⟨s.answerF t .done ps n, by rw [exec_of_runs hi h, hc], s.answerF_spec t .done ps n⟩

/-! ### The count of ALARM_LIST (R183) -/

/-- Each listed point takes 8 bytes. -/
@[simp] theorem listEntry_length (s : State) (n : Nat) : (listEntry s n).length = 8 := by simp [listEntry]

theorem listEntries_length (s : State) (l : List Nat) : (l.flatMap (listEntry s)).length = 8 * l.length := by
  simp [List.length_flatMap, Nat.mul_comm]

/-- The bytes of an ALARM_LIST: how many points, and their entries. -/
def alarmListBytes (s : State) (r : Req) : List Byte := toLe 2 (listPoints s r).length ++ (listPoints s r).flatMap (listEntry s)

theorem alarmListBytes_count (s : State) (r : Req) :
    getCount (alarmListBytes s r).length = 18 + (2 + 8 * (listPoints s r).length - 32 + 31) / 32 := by
  rw [alarmListBytes, List.length_append, toLe_length, listEntries_length]
  rfl

theorem cmdAlarmList_answers (s : State) (t : Tag) (w : Who) : cmdAlarmList.run s t w =
    s.answerF t .done (alarmListBytes s t.req) (18 + (2 + 8 * (listPoints s t.req).length - 32 + 31) / 32) := by
  rw [← alarmListBytes_count]
  rfl

end Sys2Proof.Machine
end

section
open Sys2Proof Sys2Proof.Machine

/-- Settles O18: each of the ten entries runs as an answer at its count; ALARM_LIST's count comes from the length of its list. -/
theorem fixedReadsComplete : Obligations.FixedReadsComplete := by
  intro r s t i c ps n hi h
  obtain rfl := h.1.same
  simp only [List.mem_cons, List.not_mem_nil, or_false, Prod.mk.injEq] at hi
  rcases hi with hrow | hlist | hrow | hrow | hrow | hrow | hrow | hrow | hrow | hrow
  -- ALARM_LIST
  case inr.inl =>
    obtain ⟨rfl, rfl, rfl, rfl⟩ := hlist
    exact fixedRow_answers rfl (cmdAlarmList_answers s t _) h
  all_goals
    obtain ⟨rfl, rfl, rfl, rfl⟩ := hrow
    exact fixedRow_answers rfl rfl h

end

section
/-! SUPPORT. What every node-level reset leaves, and the sources that begin one (R81-R85, R99-R101, R166, Table RST-1). -/

namespace Sys2Proof.Machine

/-! ### What a reset keeps (R25, R99) -/

@[simp] theorem State.startReset_gen (s : State) (i : Nat) (p : Bool) : (s.startReset i p).peg.gen = s.peg.gen := by
  show s.cutWrites.peg.gen = _
  rw [s.cutWrites_only]
@[simp] theorem State.startReset_fld (s : State) (i : Nat) (p : Bool) : (s.startReset i p).fld = s.fld := by
  show s.cutWrites.fld = _
  rw [s.cutWrites_only]

/-- A node that runs goes into a reset of the class of its source (R81). -/
theorem State.startReset_powerOn_of_alive {s : State} (ha : s.alive = true) (i : Nat) (p : Bool) :
    (s.startReset i p).rst.powerOn = p := by
  have hr : s.rst.inReset = false := by simpa [State.alive] using ha
  show (p || (s.rst.inReset && s.rst.powerOn)) = p
  rw [hr, Bool.false_and, Bool.or_false]

/-- A warm reset of a node that runs: its cause and class, no session, no tag and no provisional result; the configuration, the keys,
the written ledger, what holds the node and the field die stay. -/
theorem State.startReset_warm {s : State} (ha : s.alive = true) (n : Nat) :
    (s.startReset n false).rst.inReset = true ∧ (s.startReset n false).rst.cause = n ∧ (s.startReset n false).rst.powerOn = false
      ∧ (s.startReset n false).comm.sessions = [] ∧ (s.startReset n false).comm.tags = [] ∧ (s.startReset n false).prov = none
      ∧ (s.startReset n false).peg.cfg = s.peg.cfg ∧ (s.startReset n false).peg.gen = s.peg.gen
      ∧ (s.startReset n false).keys = s.keys ∧ s.recorder.ledger <+: (s.startReset n false).recorder.ledger
      ∧ (s.startReset n false).rst.held = s.rst.held ∧ (s.startReset n false).fld = s.fld :=
  ⟨rfl, rfl, State.startReset_powerOn_of_alive ha n false, rfl, rfl, rfl, s.startReset_cfg .., s.startReset_gen ..,
    s.startReset_keys .., s.startReset_ledger .., rfl, s.startReset_fld ..⟩

/-! ### Watchdogs and memory errors (R68, R81) -/

theorem State.warm_resets {s : State} (ha : s.alive = true) (n : Nat) : s.warm n = s.startReset n false := if_pos ha

/-- A double-bit error stops the peg of the frame and resets the node. -/
theorem memEcc_doubleElsewhere_resets {s : State} (ha : s.alive = true) :
    exec (.memEcc .doubleElsewhere) s = .next ({ s with prov := none }.startReset 18 false) := by
  show execMemEcc .doubleElsewhere s = _
  simp [execMemEcc, ha]

theorem memEcc_single_noted (b : Fin 4) (w : BitVec 24) {s : State} (ha : s.alive = true) :
    exec (.memEcc (.single b w)) s = .next (s.gutter 0x06 b.val w.toNat) := by
  show execMemEcc (.single b w) s = _
  simp [execMemEcc, ha]

/-- The gutter entry at a place is discarded: it reads as erased (R68). -/
def State.eraseGutter (s : State) (k : Nat) : State :=
  { s with gut := { s.gut with entries := s.gut.entries.modify k (fun e => { e with erased := true }) } }

theorem memEcc_doubleGutter_erases (b : Fin 4) (k : Nat) {s : State} (ha : s.alive = true) :
    exec (.memEcc (.doubleGutter b k)) s = .next ((s.eraseGutter k).gutter 0x0E b.val (k % 65536)) := by
  show execMemEcc (.doubleGutter b k) s = _
  simp [execMemEcc, ha, State.eraseGutter]

@[simp] theorem State.gutter_saved (s : State) (k a d : Nat) : (s.gutter k a d).gut.saved = s.gut.saved := by
  unfold State.gutter
  dsimp only
  split
  · rw [apply_ite State.gut, apply_ite GutterLog.saved, ite_self]
  · rfl

/-- Below 4096 entries an erased one keeps its place: a new entry goes behind it, and no repeat is counted on it (R317). -/
theorem State.gutter_keepsErased {s : State} {i : Nat} {e : Gutter} (h : s.gut.entries[i]? = some e) (he : e.erased = true)
    (hroom : s.gut.entries.length < 4096) (k a d : Nat) : (s.gutter k a d).gut.entries[i]? = some e := by
  obtain ⟨hi, hget⟩ := List.getElem?_eq_some_iff.1 h
  unfold State.gutter
  dsimp only
  split
  next last hlast =>
    split
    next hrepeat =>
      have hne : i ≠ s.gut.entries.length - 1 := by
        rintro rfl
        rw [List.getLast?_eq_getElem?, h, Option.some.injEq] at hlast
        exact hrepeat.1 (hlast ▸ he)
      rw [List.getElem?_append_left (by rw [List.length_dropLast]; omega), List.getElem?_dropLast, if_pos (by omega), h]
    · rw [show s.gut.entries.length + 1 - 4096 = 0 by omega, List.drop_zero, List.getElem?_append_left hi, h]
  next hnone =>
    rw [List.getLast?_eq_none_iff.1 hnone] at hi
    exact absurd hi (Nat.not_lt_zero i)

theorem State.eraseGutter_erased {s : State} {k : Nat} {e : Gutter} (h : s.gut.entries[k]? = some e) :
    (s.eraseGutter k).gut.entries[k]? = some { e with erased := true } := by
  simp [State.eraseGutter, h]

@[simp] theorem State.eraseGutter_length (s : State) (k : Nat) : (s.eraseGutter k).gut.entries.length = s.gut.entries.length :=
  List.length_modify ..

/-! ### A commanded reset (R85) -/

theorem nodeResetStart_begins {s : State} {c : Commanded} (ha : s.alive = true) (hc : s.rst.commanded = some c)
    (hd : s.resetDue c = true) : exec .nodeResetStart s = .next (s.startReset 9 c.powerOn) := by
  show execNodeResetStart s = _
  simp [execNodeResetStart, hc, ha, hd]

theorem nodeResetStart_early {s : State} {c : Commanded} (hc : s.rst.commanded = some c) (hd : s.resetDue c = false) :
    exec .nodeResetStart s = .next s := by
  show execNodeResetStart s = _
  simp [execNodeResetStart, hc, hd]

theorem nodeResetStart_none {s : State} (hc : s.rst.commanded = none) : exec .nodeResetStart s = .next s := by
  show execNodeResetStart s = _
  simp [execNodeResetStart, hc]

/-! ### RESET_N (R100, R101) -/

theorem resetNAssert_resets {s : State} (hm : s.rst.resetNMasked = false) : exec .resetNAssert s =
    .next { s.startReset 5 false with rst := { (s.startReset 5 false).rst with resetNLow := true } } := by
  show execResetNAssert s = _
  simp [execResetNAssert, hm]

theorem resetNAssert_masked {s : State} (hm : s.rst.resetNMasked = true) : exec .resetNAssert s =
    .next { s with rst := { s.rst with resetNLow := true, resetNAt := s.time } } := by
  show execResetNAssert s = _
  simp [execResetNAssert, hm]

/-- A pin low for 10 s is masked and counted. -/
theorem stuckReset_masks {s : State} (hr : s.rst.inReset = true) (hl : s.rst.resetNLow = true) (hm : s.rst.resetNMasked = false)
    (ht : 125000000 ≤ s.passed s.rst.resetNAt) : exec .stuckReset s =
      .next { s with rst := { s.rst with resetNMasked := true, resetNAt := s.time }, eave := s.eave.count 14 } := by
  show execStuckReset s = _
  simp [execStuckReset, hr, hl, hm, ht]

theorem stuckReset_early {s : State} (ht : s.passed s.rst.resetNAt < 125000000) : exec .stuckReset s = .next s := by
  show execStuckReset s = _
  simp [execStuckReset, ht]

/-- A masked pin high for 100 ms holds the node again when it falls. -/
theorem resetNRearm_arms {s : State} (hm : s.rst.resetNMasked = true) (ht : 1250000 ≤ s.passed s.rst.resetNAt) :
    exec .resetNRearm s = .next { s with rst := { s.rst with resetNMasked := false, resetNLow := false } } := by
  show execResetNRearm s = _
  simp [execResetNRearm, hm, ht]

theorem resetNRearm_early {s : State} (ht : s.passed s.rst.resetNAt < 1250000) : exec .resetNRearm s = .next s := by
  show execResetNRearm s = _
  simp [execResetNRearm, ht]

/-! ### Tamper and temperature (R83, R166) -/

/-- The seconds of the last three tampers. -/
def lastTampers (l : List Nat) (sec : Nat) : List Nat := (l ++ [sec]).drop (l.length - 2)

theorem tamper_resets (d : TamperDetector) (s : State) : exec (.tamper d) s = .next { s.startReset 12 true with
    rst := { (s.startReset 12 true).rst with tamperAt := lastTampers s.rst.tamperAt s.secNow } } := rfl

theorem mem_lastTampers (l : List Nat) (sec : Nat) : sec ∈ lastTampers l sec := by
  rw [lastTampers, List.drop_append_of_le_length (Nat.sub_le ..)]
  exact List.mem_append_right _ (List.mem_singleton.2 rfl)

theorem lastTampers_length_le (l : List Nat) (sec : Nat) : (lastTampers l sec).length ≤ 3 := by
  rw [lastTampers, List.length_drop, List.length_append, List.length_singleton]
  omega

theorem overTemp_holds {s : State} (h : 13 ∉ s.rst.held) : exec .overTemp s = .next { (s.startReset 13 false).hold 13 with
    rst := { ((s.startReset 13 false).hold 13).rst with overTemp := true } } := by
  show execOverTemp s = _
  simp [execOverTemp, h]

theorem State.not_mem_unhold (s : State) (n : Nat) : n ∉ (s.unhold n).rst.held := by simp [State.unhold]

/-! ### The twin's request and the ring's order (R84, R85) -/

theorem twinRequest_resets {s : State} (ha : s.alive = true) (hq : s.pair.resetRequested = true) (hf : s.pair.refResult = 2) :
    exec .twinRequest s = .next (s.startReset 11 false) := by
  show execTwinRequest s = _
  simp [execTwinRequest, ha, hq, hf]

/-- Without a failed referee run the request is dropped and noted. -/
theorem twinRequest_noted {s : State} (ha : s.alive = true) (hq : s.pair.resetRequested = true) (hf : s.pair.refResult ≠ 2) :
    exec .twinRequest s = .next (State.gutter { s with pair := { s.pair with resetRequested := false } } 0x08 0 0) := by
  show execTwinRequest s = _
  simp [execTwinRequest, ha, hq, hf]

theorem ringOrder_resets {s : State} (ha : s.alive = true) (hw : s.isWorker = true) (ho : (sget 0 s.ring.orders 0).getLsbD 2 = true) :
    exec .ringOrder s = .next ((s.toOffset 112500).startReset 10 false) := by
  show execRingOrder s = _
  rw [execRingOrder, if_pos ⟨ha, hw, ho⟩]

theorem ringOrder_manager {s : State} (hw : s.isWorker = false) : exec .ringOrder s = .next s := by
  show execRingOrder s = _
  simp [execRingOrder, hw]

end Sys2Proof.Machine
end

section
open Sys2Proof Sys2Proof.Machine

/-- Settles O55: each source by the reset that its row begins, or by what it does where it begins none. -/
theorem resetSourcesComplete : Obligations.ResetSourcesComplete := by
  refine ⟨?faults, ?commanded, fun _ => nodeResetStart_none, ?pin, fun _ => resetNAssert_masked, ?stuck, ?rearm, ?tamper, ?hot,
    ?cool, ?twin, ?order, fun _ => ringOrder_manager, fun b w _ => memEcc_single_noted b w, ?gutter⟩
  case faults =>
    intro s ha i n p hi
    simp only [List.mem_cons, List.not_mem_nil, or_false, Prod.mk.injEq] at hi
    obtain ⟨rfl, rfl, rfl⟩ | ⟨rfl, rfl, rfl⟩ | ⟨rfl, rfl, rfl⟩ | ⟨rfl, rfl, rfl⟩ := hi
    · exact ⟨_, congrArg Host.Outcome.next (State.warm_resets ha 6), State.startReset_warm ha 6⟩
    · exact ⟨_, congrArg Host.Outcome.next (State.warm_resets ha 7), State.startReset_warm ha 7⟩
    · exact ⟨_, congrArg Host.Outcome.next (State.warm_resets ha 8), State.startReset_warm ha 8⟩
    · exact ⟨_, memEcc_doubleElsewhere_resets ha, State.startReset_warm (s := { s with prov := none }) ha 18⟩
  case commanded =>
    intro s c ha hc
    exact ⟨fun hd => ⟨_, nodeResetStart_begins ha hc hd, rfl, rfl, State.startReset_powerOn_of_alive ha 9 c.powerOn, rfl, rfl,
      s.startReset_cfg ..⟩, nodeResetStart_early hc⟩
  case pin =>
    intro s hm
    exact ⟨_, resetNAssert_resets hm, rfl, rfl, rfl, rfl, s.startReset_cfg 5 false⟩
  case stuck =>
    intro s hr hl hm
    exact ⟨stuckReset_masks hr hl hm, stuckReset_early⟩
  case rearm =>
    intro s hm
    exact ⟨resetNRearm_arms hm, resetNRearm_early⟩
  case tamper =>
    intro d s
    exact ⟨_, tamper_resets d s, rfl, rfl, rfl, s.startReset_keys 12 true, mem_lastTampers .., lastTampers_length_le ..⟩
  case hot =>
    intro s h
    exact ⟨_, overTemp_holds h, rfl, rfl, (s.startReset 13 false).mem_hold 13, rfl⟩
  case cool =>
    intro s
    exact ⟨s.unhold 13, rfl, s.not_mem_unhold 13, rfl⟩
  case twin =>
    intro s ha hq
    refine ⟨fun hf => ⟨_, twinRequest_resets ha hq hf, rfl, rfl⟩, fun hf => ⟨_, twinRequest_noted ha hq hf, ?_, ?_⟩⟩
    · rw [State.gutter_only]
    · rw [State.gutter_only]
  case order =>
    intro s ha hw ho
    exact ⟨_, ringOrder_resets ha hw ho, rfl, rfl, State.startReset_powerOn_of_alive ((s.toOffset_alive 112500).trans ha) 10 false⟩
  case gutter =>
    intro b k s ha
    refine ⟨_, memEcc_doubleGutter_erases b k ha, ?_, State.gutter_saved .., fun e he hroom => ?_⟩
    · rw [State.gutter_only]
      rfl
    · exact State.gutter_keepsErased (State.eraseGutter_erased he) rfl (by simpa using hroom) _ _ _

end

section
/-! SUPPORT. The state after reset: its keys and EAVE's counters (R99, R154). -/

namespace Sys2Proof.Machine

/-- As shipped no slot but the delivery key's and the identity's holds a key (R154). -/
theorem reset_keyAt_other {i : Nat} (h0 : i ≠ 0) (h27 : i ≠ 27) : State.reset.keyAt i = Key.empty := by
  show sget Key.empty [(0, _), (27, _)] i = _
  rw [sget, if_neg h0.symm, sget, if_neg h27.symm, sget_nil]

theorem reset_ledgerFits : State.reset.ledgerFits := by
  unfold State.ledgerFits
  exact ⟨Nat.zero_le 63, Nat.zero_le 0⟩

theorem reset_counters : State.reset.eave.counters = 1 :: List.replicate 18 0 := rfl

theorem reset_countersFit : State.reset.countersFit := by
  unfold State.countersFit
  rw [reset_counters]
  decide

end Sys2Proof.Machine
end

section
open Sys2Proof Sys2Proof.Machine

/-- Settles O7: the invariants from an empty ledger and EAVE's first count, the rest as the state after reset is written. -/
theorem resetLeavesAndMeetsInvariants : Obligations.ResetLeavesAndMeetsInvariants :=
  ⟨⟨reset_ledgerFits, reset_countersFit⟩, rfl, rfl, reset_counters, rfl, rfl, rfl, rfl, rfl, rfl,
    fun _ h0 h27 => congrArg Key.state (reset_keyAt_other h0 h27), rfl, rfl, rfl, rfl, rfl, rfl⟩

end

section
/-! SUPPORT. What almost no operation of the model touches: the queue of the commands that wait, EAVE's reset counters (R99), and the
seal ledger with its writes (R315). One lemma per operation says so; simp composes them through the operations that call it. -/

namespace Sys2Proof.Machine

/-- The queue of commands and EAVE's reset counters are as they were. -/
@[simp] abbrev State.KeepsCounts (s u : State) : Prop := u.pending = s.pending ∧ u.eave.counters = s.eave.counters

/-- The seal ledger, the entries that wait for it and how many of them are being written are as they were. -/
@[simp] abbrev Recorder.KeepsLedger (r q : Recorder) : Prop :=
  q.ledger = r.ledger ∧ q.ledgerQueue = r.ledgerQueue ∧ q.ledgerWriting = r.ledgerWriting

/-- The queue, the reset counters and the seal ledger are as they were. -/
@[simp] abbrev State.KeepsCore (s u : State) : Prop := s.KeepsCounts u ∧ s.recorder.KeepsLedger u.recorder

/-! ### Branches and folds -/

section Branches
variable {p : Prop} [Decidable p]

@[simp] theorem State.ite_pending (a b : State) : (if p then a else b).pending = if p then a.pending else b.pending := apply_ite ..
@[simp] theorem State.ite_eave (a b : State) : (if p then a else b).eave = if p then a.eave else b.eave := apply_ite ..
@[simp] theorem State.ite_recorder (a b : State) : (if p then a else b).recorder = if p then a.recorder else b.recorder := apply_ite ..
@[simp] theorem Eave.ite_counters (a b : Eave) : (if p then a else b).counters = if p then a.counters else b.counters := apply_ite ..
@[simp] theorem Recorder.ite_ledger (a b : Recorder) : (if p then a else b).ledger = if p then a.ledger else b.ledger := apply_ite ..
@[simp] theorem Recorder.ite_ledgerQueue (a b : Recorder) :
    (if p then a else b).ledgerQueue = if p then a.ledgerQueue else b.ledgerQueue := apply_ite ..
@[simp] theorem Recorder.ite_ledgerWriting (a b : Recorder) :
    (if p then a else b).ledgerWriting = if p then a.ledgerWriting else b.ledgerWriting := apply_ite ..

end Branches

section Folds
variable {β : Type} {f : State → β → State}

@[simp] theorem foldl_keepsCounts (h : ∀ (a : State) (x : β), a.KeepsCounts (f a x)) (l : List β) (s : State) :
    s.KeepsCounts (l.foldl f s) :=
  foldl_rel State.KeepsCounts (fun _ => ⟨rfl, rfl⟩) (fun ⟨h1, h2⟩ ⟨k1, k2⟩ => ⟨k1.trans h1, k2.trans h2⟩) f h l s

@[simp] theorem foldl_keepsCore (h : ∀ (a : State) (x : β), a.KeepsCore (f a x)) (l : List β) (s : State) :
    s.KeepsCore (l.foldl f s) :=
  foldl_rel State.KeepsCore (fun _ => ⟨⟨rfl, rfl⟩, rfl, rfl, rfl⟩)
    (fun ⟨⟨h1, h2⟩, h3, h4, h5⟩ ⟨⟨k1, k2⟩, k3, k4, k5⟩ =>
      ⟨⟨k1.trans h1, k2.trans h2⟩, k3.trans h3, k4.trans h4, k5.trans h5⟩) f h l s

end Folds

/-! ### EAVE and the recorder -/

@[simp] theorem Eave.markAt_counters (e : Eave) (n : Nat) (m : Batten) (t : Nat) : (e.markAt n m t).counters = e.counters := rfl
@[simp] theorem Eave.moveTo_counters (e : Eave) (d : Date) : (e.moveTo d).counters = e.counters := rfl
@[simp] theorem Eave.slewBy_counters (e : Eave) (err : Int) : (e.slewBy err).counters = e.counters := by
  unfold Eave.slewBy; split <;> rfl
@[simp] theorem Eave.nextSecond_counters (e : Eave) : e.nextSecond.counters = e.counters := by
  rw [e.nextSecond_only]
@[simp] theorem Eave.second_counters (e : Eave) (t : Nat) : (e.second t).counters = e.counters := by simp [Eave.second]
@[simp] theorem Eave.rise_counters (e : Eave) : e.rise.counters = e.counters := by
  unfold Eave.rise; split <;> rfl
@[simp] theorem Eave.setEvt_counters (e : Eave) (i : Fin 2) (x : EvtIn) : (e.setEvt i x).counters = e.counters := by
  unfold Eave.setEvt; split <;> rfl
@[simp] theorem Eave.timeEffect_counters (e : Eave) (t : Batten) (n : Nat) (x : Effect) : (e.timeEffect t n x).counters = e.counters := by
  unfold Eave.timeEffect; (repeat' split) <;> simp

@[simp] theorem Recorder.takeBudget_keepsLedger (r : Recorder) (f : Frame) : r.KeepsLedger (r.takeBudget f) := by
  simp [Recorder.takeBudget]
@[simp] theorem Recorder.note_keepsLedger (r : Recorder) (k c : Nat) : r.KeepsLedger (r.note k c) := by
  unfold Recorder.note; split <;> simp

/-! ### Time -/

@[simp] theorem State.markSecond_keepsCore (s : State) (old : Nat) : s.KeepsCore (s.markSecond old) := by simp [State.markSecond]
@[simp] theorem State.toOffset_keepsCore (s : State) (off : Nat) : s.KeepsCore (s.toOffset off) := by simp [State.toOffset]
@[simp] theorem State.reach_keepsCore (s : State) (b : Batten) : s.KeepsCore (s.reach b) := by simp [State.reach]

/-! ### The node -/

@[simp] theorem State.draw_keepsCore (s : State) : s.KeepsCore s.draw.2 := by simp [State.draw]
@[simp] theorem State.drawBytes_keepsCore (s : State) (n : Nat) : s.KeepsCore (s.drawBytes n).2 := by simp [State.drawBytes]

/-! ### The recorder and the gutter log -/

@[simp] theorem State.gutter_keepsCore (s : State) (kind source detail : Nat) : s.KeepsCore (s.gutter kind source detail) := by
  unfold State.gutter
  dsimp only
  (repeat' split) <;> simp
@[simp] theorem State.gainBucket_keepsCore (s : State) (code : Nat) : s.KeepsCore (s.gainBucket code) := by simp [State.gainBucket]
@[simp] theorem State.gainBudget_keepsCore (s : State) : s.KeepsCore s.gainBudget := by simp [State.gainBudget]
@[simp] theorem State.gainAll_keepsCore (s : State) : s.KeepsCore s.gainAll := by simp [State.gainAll]
@[simp] theorem State.suppress_keepsCore (s : State) (o : Occurrence) (cause : Nat) : s.KeepsCore (s.suppress o cause) := by
  unfold State.suppress; dsimp only; split <;> simp
@[simp] theorem State.occur_keepsCore (s : State) (o : Occurrence) : s.KeepsCore (s.occur o) := by simp [State.occur]
@[simp] theorem State.summarise_keepsCore (s : State) (code : Nat) : s.KeepsCore (s.summarise code) := by simp [State.summarise]
@[simp] theorem State.releaseRecords_keepsCore (s : State) (os : List Occurrence) : s.KeepsCore (s.releaseRecords os) := by
  simp [State.releaseRecords]
@[simp] theorem State.queueLayup_keepsCore (s : State) : s.KeepsCore s.queueLayup := by simp [State.queueLayup]
@[simp] theorem State.later_keepsCore (s : State) (o : Occurrence) : s.KeepsCore (s.later o) := by simp [State.later]
@[simp] theorem State.ledgerBreak_keepsCounts (s : State) (kind breaker entry : Nat) (x : Seal) :
    s.KeepsCounts (s.ledgerBreak kind breaker entry x).2 := by
  unfold State.ledgerBreak
  dsimp only
  (repeat' split) <;> simp
@[simp] theorem State.cutWrites_keepsCounts (s : State) : s.KeepsCounts s.cutWrites := by simp [State.cutWrites]

/-! ### Sessions, replies and events -/

@[simp] theorem State.countInexact_keepsCore (s : State) (i : Nat) : s.KeepsCore (s.countInexact i) := by simp [State.countInexact]
@[simp] theorem State.completeTag_keepsCore (s : State) (t : Tag) (st : Status) (ks : List Packet) (len : Nat) :
    s.KeepsCore (s.completeTag t st ks len) := by
  simp [State.completeTag]
@[simp] theorem State.place_keepsCore (s : State) (t : Tag) (wait : Bool) (ks : List Packet) : s.KeepsCore (s.place t wait ks) := by
  simp [State.place]
@[simp] theorem State.ready_keepsCore (s : State) (t : Tag) (st : Status) (params : List Byte) (exec : Nat) (canBeExact prov : Bool)
    (frame : Frame) :
    s.KeepsCore (s.ready t st params exec canBeExact prov frame) := by
  simp [State.ready]
@[simp] theorem State.answerF_keepsCore (s : State) (t : Tag) (st : Status) (params : List Byte) (count : Nat) :
    s.KeepsCore (s.answerF t st params count) := by
  simp [State.answerF]
@[simp] theorem State.answerAt_keepsCore (s : State) (t : Tag) (st : Status) (params : List Byte) (at_ : Batten) :
    s.KeepsCore (s.answerAt t st params at_) := by
  simp [State.answerAt]
@[simp] theorem State.answerLate_keepsCore (s : State) (t : Tag) (st : Status) (params : List Byte) (atLeast : Nat) :
    s.KeepsCore (s.answerLate t st params atLeast) := by
  simp [State.answerLate]
@[simp] theorem State.answerP_keepsCore (s : State) (t : Tag) (st : Status) (params : List Byte) : s.KeepsCore (s.answerP t st params) := by
  simp [State.answerP]
@[simp] theorem State.feAnswer_keepsCore (s : State) (p : Port) (num : Half) (seq : Word) (st : Status) (params : List Byte) :
    s.KeepsCore (s.feAnswer p num seq st params) := by
  simp [State.feAnswer]
@[simp] theorem State.closeSession_keepsCore (s : State) (p : Port) (num : Half) : s.KeepsCore (s.closeSession p num) := by
  simp [State.closeSession]
@[simp] theorem State.packetLeft_keepsCore (s : State) (p : Port) (k : Packet) : s.KeepsCore (s.packetLeft p k) := by
  simp [State.packetLeft]
@[simp] theorem State.sentHead_keepsCore (s : State) (p : Port) : s.KeepsCore (s.sentHead p) := by
  unfold State.sentHead
  split <;> simp
@[simp] theorem State.headToLink_keepsCore (s : State) (p : Port) (last : Option (List Byte)) : s.KeepsCore (s.headToLink p last) := by
  unfold State.headToLink
  split <;> simp
@[simp] theorem State.settleLinks_keepsCore (s : State) : s.KeepsCore s.settleLinks := by simp [State.settleLinks]
@[simp] theorem State.badFrame_keepsCore (s : State) : s.KeepsCore s.badFrame := by simp [State.badFrame]
@[simp] theorem State.sendEvent_keepsCore (s : State) (x : Sess) (e : Event) : s.KeepsCore (s.sendEvent x e) := by simp [State.sendEvent]
@[simp] theorem State.drainOne_keepsCore (s : State) (p : Port) (num : Half) : s.KeepsCore (s.drainOne p num) := by
  unfold State.drainOne
  dsimp only
  (repeat' split) <;> simp
@[simp] theorem State.drain_keepsCore (s : State) (p : Port) (num : Half) : s.KeepsCore (s.drain p num) := by simp [State.drain]
@[simp] theorem State.raiseFor_keepsCore (s : State) (e : Event) (x : Sess) : s.KeepsCore (s.raiseFor e x) := by simp [State.raiseFor]
@[simp] theorem State.raise_keepsCore (s : State) (kind : Nat) (object : Word) (data : List Byte) :
    s.KeepsCore (s.raise kind object data) := by
  simp [State.raise]

/-! ### The ridge link -/

@[simp] theorem State.sendRidge_keepsCore (s : State) (kind : Nat) (payload : List Byte) : s.KeepsCore (s.sendRidge kind payload) := by
  simp [State.sendRidge]
@[simp] theorem State.takeRidge_keepsCore (s : State) (kind : Nat) (b : List Byte) : s.KeepsCore (s.takeRidge kind b).2 := by
  unfold State.takeRidge
  dsimp only
  (repeat' split) <;> simp
@[simp] theorem State.sendForward_keepsCore (s : State) (i : BatchItem) : s.KeepsCore (s.sendForward i) := by simp [State.sendForward]
@[simp] theorem State.forwardWaiting_keepsCore (s : State) : s.KeepsCore s.forwardWaiting := by simp [State.forwardWaiting]
@[simp] theorem State.submit_keepsCore (s : State) (b : ItemBody) : s.KeepsCore (s.submit b) := by simp [State.submit]

/-! ### The ring's link -/

@[simp] theorem State.putCell_keepsCore (s : State) (side : RingSide) (b : List Byte) (again : Nat) :
    s.KeepsCore (s.putCell side b again) := by
  unfold State.putCell
  dsimp only
  (repeat' split) <;> simp
@[simp] theorem State.newCell_keepsCore (s : State) (kind : Nat) (frame : Frame) (body : List Byte) :
    s.KeepsCore (s.newCell kind frame body).2 := by
  simp [State.newCell]
@[simp] theorem State.sendCell_keepsCore (s : State) (side : RingSide) (kind : Nat) (frame : Frame) (body : List Byte) :
    s.KeepsCore (s.sendCell side kind frame body) := by
  simp [State.sendCell]
@[simp] theorem State.badCell_keepsCore (s : State) (side : RingSide) : s.KeepsCore (s.badCell side) := by simp [State.badCell]
@[simp] theorem State.failCell_keepsCore (s : State) : s.KeepsCore s.failCell := by simp [State.failCell]
@[simp] theorem State.forwardCell_keepsCore (s : State) (side : RingSide) (b : List Byte) : s.KeepsCore (s.forwardCell side b) := by
  simp [State.forwardCell]
@[simp] theorem State.sendTrain_keepsCore (s : State) (side : RingSide) (tagNo dest ringSeq : Nat) (bytes : List Byte) :
    s.KeepsCore (s.sendTrain side tagNo dest ringSeq bytes) := by
  simp [State.sendTrain]
@[simp] theorem State.carry_keepsCore (s : State) (worker ringSeq op : Nat) (r : Req) : s.KeepsCore (s.carry worker ringSeq op r) := by
  simp [State.carry]
@[simp] theorem State.carryCmd_keepsCore (s : State) (c : RingCmd) : s.KeepsCore (s.carryCmd c) := by simp [State.carryCmd]
@[simp] theorem State.startRingCmd_keepsCore (s : State) (t : Tag) (maxTicks : Nat) : s.KeepsCore (s.startRingCmd t maxTicks) := by
  simp [State.startRingCmd]
@[simp] theorem State.carryInner_keepsCore (s : State) (op : Half) (r : Req) (maxTicks : Nat) :
    s.KeepsCore (s.carryInner op r maxTicks) := by
  simp [State.carryInner]
@[simp] theorem State.denyL_keepsCore (s : State) (t : Tag) (st : Status) (maxTicks : Nat) : s.KeepsCore (s.denyL t st maxTicks) := by
  simp [State.denyL]
@[simp] theorem State.tellRing_keepsCore (s : State) (cause worker : Nat) : s.KeepsCore (s.tellRing cause worker) := by
  simp [State.tellRing]

/-! ### The front end and the order of checks -/

@[simp] theorem State.busy_keepsCore (s : State) (r : Req) : s.KeepsCore (s.busy r) := by simp [State.busy]
@[simp] theorem State.startAnswer_keepsCore (s : State) (op : Nat) (r : Req) : s.KeepsCore (s.startAnswer op r) := by
  simp [State.startAnswer]
@[simp] theorem State.allot_keepsCore (s : State) (op : Nat) (r : Req) (dup : Bool) : s.KeepsCore (s.allot op r dup) := by
  simp [State.allot]
@[simp] theorem State.noCredit_keepsCore (s : State) (r : Req) : s.KeepsCore (s.noCredit r) := by simp [State.noCredit]
@[simp] theorem State.repeated_keepsCore (s0 : State) (x : Sess) (op : Nat) (r : Req) : s0.KeepsCore (s0.repeated x op r) := by
  unfold State.repeated
  dsimp only
  (repeat' split) <;> simp
@[simp] theorem State.admitInSession_keepsCore (s : State) (x : Sess) (op : Nat) (r : Req) : s.KeepsCore (s.admitInSession x op r) := by
  simp [State.admitInSession]
@[simp] theorem State.frontReq_keepsCore (s0 : State) (op : Nat) (r : Req) (echo : Option Word) : s0.KeepsCore (s0.frontReq op r echo) := by
  unfold State.frontReq
  dsimp only
  (repeat' split) <;> simp
@[simp] theorem State.linkReq_keepsCore (s : State) (p : Port) (session : Half) (seq : Word) (bytes : List Byte) :
    s.KeepsCore (s.linkReq p session seq bytes) := by
  unfold State.linkReq
  split <;> simp
@[simp] theorem State.tagFailed_keepsCore (s : State) (x : Sess) (r : Req) : s.KeepsCore (s.tagFailed x r) := by simp [State.tagFailed]
@[simp] theorem State.lockout_keepsCore (s : State) (k : KeyLock) : s.KeepsCore (s.lockout k) := by simp [State.lockout]
@[simp] theorem State.setLock_keepsCore (s : State) (k : KeyLock) : s.KeepsCore (s.setLock k) := by simp [State.setLock]
@[simp] theorem State.proveFailed_keepsCore (s : State) (x : Sess) : s.KeepsCore (s.proveFailed x) := by simp [State.proveFailed]
@[simp] theorem State.frontBytes_keepsCore (s : State) (p : Port) (b : List Byte) : s.KeepsCore (s.frontBytes p b) := by
  unfold State.frontBytes
  dsimp only
  (repeat' split) <;> simp
@[simp] theorem State.startHead_keepsCore (s : State) : s.KeepsCore s.startHead := by
  unfold State.startHead
  split <;> simp
@[simp] theorem State.queueNv_keepsCore (s : State) (t : Tag) (w : NvWork) : s.KeepsCore (s.queueNv t w) := by simp [State.queueNv]
@[simp] theorem State.deny_keepsCore (s : State) (t : Tag) (st : Status) : s.KeepsCore (s.deny t st) := by
  unfold State.deny
  dsimp only
  (repeat' split) <;> simp
@[simp] theorem State.asAdmitted_keepsCore (s : State) (t : Tag) : s.KeepsCore (s.asAdmitted t) := by simp [State.asAdmitted]
@[simp] theorem State.admitP_keepsCore (s : State) (t : Tag) (w : Who) (body : ItemBody) : s.KeepsCore (s.admitP t w body) := by
  simp [State.admitP]
@[simp] theorem State.toWorker_keepsCore (s : State) (c : Cmd) (t : Tag) (w : Who) : s.KeepsCore (s.toWorker c t w) := by
  simp [State.toWorker]
theorem State.perform_keepsCounts {c : Cmd} (h : ∀ s t w, State.KeepsCounts s (c.run s t w)) (s : State) (t : Tag) :
    s.KeepsCounts (s.perform c t) := by
  unfold State.perform; dsimp only; split
  · simp
  · split
    · simp
    · exact h ..
@[simp] theorem State.flushRing_keepsCore (s : State) : s.KeepsCore s.flushRing := by simp [State.flushRing]
@[simp] theorem State.flushRidge_keepsCore (s : State) : s.KeepsCore s.flushRidge := by simp [State.flushRidge]
@[simp] theorem State.flush_keepsCore (s : State) : s.KeepsCore s.flush := by simp [State.flush]
theorem State.execute_keepsCounts {c : Cmd} (h : ∀ s t w, State.KeepsCounts s (c.run s t w)) (s : State) (r : Req) :
    s.KeepsCounts (s.execute c r) := by
  have hp (u : State) (t : Tag) : u.KeepsCounts (u.perform c t) := u.perform_keepsCounts h t
  simp only [State.KeepsCounts] at hp
  unfold State.execute; dsimp only
  (repeat' split) <;> simp [hp]
@[simp] theorem runP_keepsCore (s : State) (t : Tag) (w : Who) : s.KeepsCore (runP s t w) := by simp [runP]

/-! ### The provisional result -/

@[simp] theorem State.under_keepsCore (s : State) (p : Prov) : s.KeepsCore (s.under p) := by simp [State.under]
@[simp] theorem State.dropCommands_keepsCore (s : State) (p : Port) (n : Half) : s.KeepsCore (s.dropCommands p n) := by
  simp [State.dropCommands]
@[simp] theorem State.closeUnder_keepsCore (s : State) (idx : Nat) : s.KeepsCore (s.closeUnder idx) := by simp [State.closeUnder]
@[simp] theorem State.decrypt_keepsCore {s u : State} {t : Tag} {off n : Nat} {m : List Byte} (h : s.decrypt t off n = some (m, u)) :
    s.KeepsCore u := by
  unfold State.decrypt at h
  split at h
  · simp at h
  · dsimp only at h
    split at h
    · simp at h
    · split at h
      · simp at h
      · simp only [Option.some.injEq, Prod.mk.injEq] at h
        obtain ⟨-, rfl⟩ := h
        simp

/-! ### Attributes -/

@[simp] theorem State.markE_keepsCore (s old : State) : s.KeepsCore (s.markE old) := by simp [State.markE]

/-! ### Reconfiguration -/

@[simp] theorem State.driveCh_keepsCore (s : State) (ch : Nat) (on : Bool) (t : Batten) : s.KeepsCore (s.driveCh ch on t) := by
  simp [State.driveCh]
@[simp] theorem State.driveAll_keepsCore (s : State) : s.KeepsCore s.driveAll := by simp [State.driveAll]
@[simp] theorem State.afeReconfig_keepsCore (s : State) (old : Sparse Nat) : s.KeepsCore (s.afeReconfig old) := by simp [State.afeReconfig]
@[simp] theorem State.recordsDue_keepsCore (s : State) (old : Sparse Nat) : s.KeepsCore (s.recordsDue old) := by simp [State.recordsDue]
@[simp] theorem State.dinReconfig_keepsCore (s : State) (old : Sparse Nat) : s.KeepsCore (s.dinReconfig old) := by simp [State.dinReconfig]
@[simp] theorem State.modCan_keepsCore (s : State) (c : CanNo) (f : CanSt → CanSt) : s.KeepsCore (s.modCan c f) := by
  unfold State.modCan
  split <;> simp
@[simp] theorem State.canConfig_keepsCore (s : State) : s.KeepsCore s.canConfig := by simp [State.canConfig]
@[simp] theorem State.reconfigured_keepsCore (s : State) (old : Sparse Nat) : s.KeepsCore (s.reconfigured old) := by
  simp [State.reconfigured]

/-! ### Objects and the stage -/

@[simp] theorem State.answerPrivate_keepsCore (s : State) (t : Tag) (m : List Byte) (count : Nat) :
    s.KeepsCore (s.answerPrivate t m count) := by
  unfold State.answerPrivate
  split <;> simp
@[simp] theorem State.afterRead_keepsCore (s : State) (o : Word) : s.KeepsCore (s.afterRead o) := by simp [State.afterRead]
@[simp] theorem State.runGet_keepsCore (s : State) (t : Tag) : s.KeepsCore (s.runGet t) := by simp [State.runGet]
@[simp] theorem State.runGetRange_keepsCore (s : State) (t : Tag) : s.KeepsCore (s.runGetRange t) := by simp [State.runGetRange]
@[simp] theorem State.localEffect_keepsCore (s : State) (e : Effect) : s.KeepsCore (s.localEffect e) := by
  unfold State.localEffect
  split <;> simp
@[simp] theorem State.workerWrite_keepsCore (s : State) (t : Tag) : s.KeepsCore (s.workerWrite t) := by simp [State.workerWrite]
@[simp] theorem State.runSet_keepsCore (s : State) (t : Tag) (w : Who) : s.KeepsCore (s.runSet t w) := by
  unfold State.runSet
  split
  · simp
  · split
    · simp
    · next m u heq =>
      have hu : s.KeepsCore u := by
        split at heq
        · exact s.decrypt_keepsCore heq
        · cases heq; simp
      dsimp only
      split <;> simp [hu]
@[simp] theorem State.runCommit_keepsCore (s : State) (t : Tag) (w : Who) : s.KeepsCore (s.runCommit t w) := by
  unfold State.runCommit
  split <;> simp

/-! ### Blocks, islands and domains -/

@[simp] theorem State.answerAll_keepsCore (s : State) (ts : List Tag) (st : Status) : s.KeepsCore (s.answerAll ts st) := by
  simp [State.answerAll]
@[simp] theorem State.emptyOut_keepsCore (s : State) (p : Port) : s.KeepsCore (s.emptyOut p) := by simp [State.emptyOut]
@[simp] theorem State.blockLoses_keepsCounts (s : State) (block : Nat) : s.KeepsCounts (s.blockLoses block) := by
  unfold State.blockLoses
  split <;> simp
@[simp] theorem State.wrapper_keepsCounts (s : State) (block : Nat) (own : Req) : s.KeepsCounts (s.wrapper block own).2 := by
  simp [State.wrapper]
@[simp] theorem State.startBlock_keepsCounts (s : State) (b : BlockReset) (mode : Nat) : s.KeepsCounts (s.startBlock b mode) := by
  simp [State.startBlock]
@[simp] theorem State.askBlock_keepsCore (s : State) (t : Tag) (mode : Nat) : s.KeepsCore (s.askBlock t mode).1 := by simp [State.askBlock]
@[simp] theorem State.runBlockImmediate_keepsCounts (s : State) (t : Tag) : s.KeepsCounts (s.runBlockImmediate t) := by
  simp [State.runBlockImmediate]
@[simp] theorem State.startNext_keepsCounts (s : State) (block : Nat) : s.KeepsCounts (s.startNext block) := by
  unfold State.startNext
  split <;> simp
@[simp] theorem State.blockBack_keepsCore (s : State) (block : Nat) : s.KeepsCore (s.blockBack block) := by
  unfold State.blockBack
  split <;> simp
@[simp] theorem State.spoil_keepsCore (s : State) (i : Nat) : s.KeepsCore (s.spoil i) := by simp [State.spoil]
@[simp] theorem State.relockIsland_keepsCore (s : State) (i : Nat) : s.KeepsCore (s.relockIsland i) := by
  unfold State.relockIsland
  dsimp only
  (repeat' split) <;> simp
@[simp] theorem State.portsOff_keepsCore (s : State) : s.KeepsCore s.portsOff := by simp [State.portsOff]
@[simp] theorem State.beginDomain_keepsCounts (s : State) (q : DomainReq) : s.KeepsCounts (s.beginDomain q) := by
  unfold State.beginDomain
  extract_lets s1 s2
  have h1 : s.KeepsCounts s1 := by
    unfold s1
    split
    · simp
    · exact foldl_keepsCounts (fun u b => u.wrapper_keepsCounts b q.req) ..
  have h2 : s1.KeepsCounts s2 := by
    unfold s2
    split <;> simp
  exact ⟨h2.1.trans h1.1, h2.2.trans h1.2⟩
@[simp] theorem State.domainDone_keepsCore (s : State) (q : DomainReq) : s.KeepsCore (s.domainDone q) := by
  unfold State.domainDone
  dsimp only
  (repeat' split) <;> simp
@[simp] theorem State.serveDomain_keepsCounts (d n : Nat) (s : State) : s.KeepsCounts (State.serveDomain d n s) := by
  induction n generalizing s with
  | zero => simp [State.serveDomain]
  | succ n ih =>
    simp only [State.KeepsCounts] at ih
    unfold State.serveDomain
    (repeat' split) <;> simp [ih]
@[simp] theorem State.serveDomains_keepsCounts (s : State) (ds : List Nat) : s.KeepsCounts (s.serveDomains ds) := by
  simp [State.serveDomains]
@[simp] theorem State.switchDomains_keepsCounts (s : State) : s.KeepsCounts s.switchDomains := by simp [State.switchDomains]
@[simp] theorem State.afterLock_keepsCounts (s : State) (i : Nat) : s.KeepsCounts (s.afterLock i) := by simp [State.afterLock]
@[simp] theorem State.askDomain_keepsCore (s : State) (t : Tag) (on : Bool) : s.KeepsCore (s.askDomain t on) := by simp [State.askDomain]
@[simp] theorem State.runNodeReset_keepsCore (s : State) (t : Tag) (powerOn : Bool) : s.KeepsCore (s.runNodeReset t powerOn) := by
  simp [State.runNodeReset]

/-! ### The clock at a peg -/

@[simp] theorem State.setCharger_keepsCore (s : State) (v : Nat) : s.KeepsCore (s.setCharger v) := by simp [State.setCharger]

/-! ### The RTC and the charger -/

@[simp] theorem State.discUpdate_keepsCore (s : State) : s.KeepsCore s.discUpdate := by simp [State.discUpdate]
@[simp] theorem State.stepClock_keepsCore (s : State) (d : Date) : s.KeepsCore (s.stepClock d) := by simp [State.stepClock]
@[simp] theorem State.labelEdge_keepsCore (s : State) (utc : Date) (ship : Nat) (edge : Batten) :
    s.KeepsCore (s.labelEdge utc ship edge) := by
  simp [State.labelEdge]
@[simp] theorem State.timeLabel_keepsCore (s : State) (utc : Date) : s.KeepsCore (s.timeLabel utc) := by
  apply State.timeLabel.fun_cases_unfolding (motive := s.KeepsCore) <;> intros <;> simp
@[simp] theorem State.takeTime_keepsCore (s : State) (d : Date) (dst : Bool) (weekday : Nat) (valid : Bool) (mark : Option Batten)
    (first : Bool) :
    s.KeepsCore (s.takeTime d dst weekday valid mark first) := by
  unfold State.takeTime
  split <;> simp
@[simp] theorem State.chargerTo_keepsCore (s : State) (n : Nat) : s.KeepsCore (s.chargerTo n) := by simp [State.chargerTo]
@[simp] theorem State.wake_keepsCore (s : State) (cause : Nat) : s.KeepsCore (s.wake cause) := by simp [State.wake]

/-! ### The log -/

@[simp] theorem State.saveGutter_keepsCore (s : State) : s.KeepsCore s.saveGutter.2 := by simp [State.saveGutter]

/-! ### The sensor front end -/

@[simp] theorem State.arrive_keepsCore (s : State) (ch : Nat) : s.KeepsCore (s.arrive ch) := by
  unfold State.arrive
  split <;> simp
@[simp] theorem State.snapAin_keepsCore (s : State) (ch : Nat) : s.KeepsCore (s.snapAin ch) := by simp [State.snapAin]
@[simp] theorem State.snapAfe_keepsCore (s : State) : s.KeepsCore s.snapAfe := by simp [State.snapAfe]
@[simp] theorem State.loadAfe_keepsCore (s : State) : s.KeepsCore s.loadAfe := by simp [State.loadAfe]
@[simp] theorem State.turnCh_keepsCore (s : State) (ch : Nat) : s.KeepsCore (s.turnCh ch) := by
  unfold State.turnCh
  split <;> simp
@[simp] theorem State.turnAfe_keepsCore (s : State) : s.KeepsCore s.turnAfe := by simp [State.turnAfe]
@[simp] theorem State.turnLater_keepsCore (s : State) (ch : Nat) (t : Batten) : s.KeepsCore (s.turnLater ch t) := by simp [State.turnLater]
@[simp] theorem State.afeTakeover_keepsCore (s : State) (m : Frame) : s.KeepsCore (s.afeTakeover m) := by simp [State.afeTakeover]
@[simp] theorem State.afeHandover_keepsCore (s : State) (m : Frame) : s.KeepsCore (s.afeHandover m) := by simp [State.afeHandover]
@[simp] theorem State.calTake_keepsCore (s : State) (ch : Nat) (raw : Int) (bad : Bool) : s.KeepsCore (s.calTake ch raw bad) := by
  unfold State.calTake
  split <;> simp
@[simp] theorem State.windowEnd_keepsCore (s : State) (ch : Nat) : s.KeepsCore (s.windowEnd ch).2 := by
  unfold State.windowEnd
  dsimp only
  (repeat' split) <;> simp
@[simp] theorem State.carryResult_keepsCore (s0 : State) (ch : Nat) : s0.KeepsCore (s0.carryResult ch) := by
  unfold State.carryResult
  dsimp only
  (repeat' split) <;> simp
@[simp] theorem State.afeSlot_keepsCore (s : State) : s.KeepsCore s.afeSlot := by simp [State.afeSlot]
@[simp] theorem State.startCal_keepsCore (s : State) (t : Tag) (span : Option Int) : s.KeepsCore (s.startCal t span) := by
  simp [State.startCal]
@[simp] theorem State.storeCal_keepsCore (s : State) (ch mode : Nat) (offset gain : Int) :
    s.KeepsCore (s.storeCal ch mode offset gain) := by
  simp [State.storeCal]

/-! ### Field inputs and outputs -/

@[simp] theorem State.settleStage_keepsCore (s : State) (o : Nat) : s.KeepsCore (s.settleStage o) := by simp [State.settleStage]
@[simp] theorem State.settle_keepsCore (s : State) : s.KeepsCore s.settle := by simp [State.settle]
@[simp] theorem State.arbitrate_keepsCore (s : State) (edge : Bool) : s.KeepsCore (s.arbitrate edge) := by simp [State.arbitrate]
@[simp] theorem State.queueEdge_keepsCore (s : State) (i : Nat) (t : Batten) : s.KeepsCore (s.queueEdge i t) := by simp [State.queueEdge]
@[simp] theorem State.wholeFrame_keepsCore (s0 : State) (o : Nat) : s0.KeepsCore (s0.wholeFrame o) := by
  unfold State.wholeFrame
  dsimp only
  (repeat' split) <;> simp
@[simp] theorem State.uplinkSlot_keepsCore (s : State) : s.KeepsCore s.uplinkSlot := by simp [State.uplinkSlot]
@[simp] theorem State.dieTakes_keepsCore (s : State) (kind : Nat) (word : BitVec 12) (valid : Bool) (claim : Word) :
    s.KeepsCore (s.dieTakes kind word valid claim) := by
  unfold State.dieTakes
  split <;> simp
@[simp] theorem State.takeDiag_keepsCore (s : State) (b : List Byte) : s.KeepsCore (s.takeDiag b) := by simp [State.takeDiag]
@[simp] theorem State.forcedYield_keepsCore (s : State) : s.KeepsCore s.forcedYield := by simp [State.forcedYield]
@[simp] theorem State.snapDin_keepsCore (s : State) (i : Nat) : s.KeepsCore (s.snapDin i) := by simp [State.snapDin]
@[simp] theorem State.snapDout_keepsCore (s : State) (o : Nat) : s.KeepsCore (s.snapDout o) := by simp [State.snapDout]
@[simp] theorem State.snapField_keepsCore (s : State) : s.KeepsCore s.snapField := by simp [State.snapField]
@[simp] theorem State.edgeEvent_keepsCore (s : State) (e : DiEvent) : s.KeepsCore (s.edgeEvent e) := by simp [State.edgeEvent]
@[simp] theorem State.compareAin_keepsCore (s : State) (ch : Nat) : s.KeepsCore (s.compareAin ch) := by simp [State.compareAin]
@[simp] theorem State.compareDin_keepsCore (s : State) (i : Nat) : s.KeepsCore (s.compareDin i) := by simp [State.compareDin]
@[simp] theorem State.compareLines_keepsCore (s : State) : s.KeepsCore s.compareLines := by simp [State.compareLines]
@[simp] theorem State.disagreePegged_keepsCore (s : State) (line : Nat) (on : Bool) : s.KeepsCore (s.disagreePegged line on) := by
  simp [State.disagreePegged]

/-! ### The UARTs -/

@[simp] theorem State.modUart_keepsCore (s : State) (u : Uart) (f : UartSt → UartSt) : s.KeepsCore (s.modUart u f) := by
  unfold State.modUart
  split <;> simp
@[simp] theorem State.rtsUpdate_keepsCore (s : State) (u : Uart) : s.KeepsCore (s.rtsUpdate u) := by simp [State.rtsUpdate]
@[simp] theorem State.handOff_keepsCore (s : State) (u : Uart) : s.KeepsCore (s.handOff u) := by simp [State.handOff]
@[simp] theorem State.takeSpoiled_keepsCore (s : State) (u : Uart) : s.KeepsCore (s.takeSpoiled u).2 := by simp [State.takeSpoiled]
@[simp] theorem State.uartSent_keepsCore (s : State) (u : Uart) (p : Port) : s.KeepsCore (s.uartSent u p) := by
  unfold State.uartSent
  split <;> simp
@[simp] theorem State.releaseDriver_keepsCore (s : State) (line : DriverLine) : s.KeepsCore (s.releaseDriver line) := by
  unfold State.releaseDriver
  split <;> simp
@[simp] theorem State.stopDrivers_keepsCore (s : State) : s.KeepsCore s.stopDrivers := by simp [State.stopDrivers]
@[simp] theorem State.enableDriver_keepsCore (s : State) (line : DriverLine) : s.KeepsCore (s.enableDriver line) := by
  unfold State.enableDriver
  split <;> simp
@[simp] theorem State.driversAtFrame_keepsCore (s : State) : s.KeepsCore s.driversAtFrame := by simp [State.driversAtFrame]

/-! ### The bridge line -/

@[simp] theorem State.sentenceBad_keepsCore (s : State) : s.KeepsCore s.sentenceBad := by simp [State.sentenceBad]
@[simp] theorem State.takeSentence_keepsCore (s : State) (text : List Byte) : s.KeepsCore (s.takeSentence text).2 := by
  simp [State.takeSentence]
@[simp] theorem State.keepLabel_keepsCore (s : State) (utc : Date) : s.KeepsCore (s.keepLabel utc) := by simp [State.keepLabel]
@[simp] theorem State.queueSentence_keepsCore (s : State) (x : Sentence) : s.KeepsCore (s.queueSentence x) := by simp [State.queueSentence]
@[simp] theorem State.releaseSentence_keepsCore (s : State) (x : Sentence) : s.KeepsCore (s.releaseSentence x) := by
  unfold State.releaseSentence
  split <;> simp
@[simp] theorem State.releaseSentences_keepsCore (s : State) (l : List Sentence) : s.KeepsCore (s.releaseSentences l) := by
  simp [State.releaseSentences]
@[simp] theorem State.onProv_keepsCore (s : State) (f : Prov → Prov) : s.KeepsCore (s.onProv f) := by
  unfold State.onProv
  split <;> simp

/-! ### CAN -/

@[simp] theorem State.canRx_keepsCore (s : State) (c : CanNo) : s.KeepsCore (s.canRx c) := by simp [State.canRx]
@[simp] theorem State.dropTrain_keepsCore (s : State) (c : CanNo) (src : BitVec 7) (num : Byte) : s.KeepsCore (s.dropTrain c src num) := by
  simp [State.dropTrain]
@[simp] theorem State.canDiscard_keepsCore (s : State) (c : CanNo) : s.KeepsCore (s.canDiscard c) := by simp [State.canDiscard]
@[simp] theorem State.trainDone_keepsCore (s : State) (c : CanNo) (src : BitVec 7) (data : List Byte) :
    s.KeepsCore (s.trainDone c src data) := by
  simp [State.trainDone]
@[simp] theorem State.nextSegment_keepsCore (s : State) (c : CanNo) (t : Train) (idx : Nat) (last : Bool) (bytes : List Byte) :
    s.KeepsCore (s.nextSegment c t idx last bytes) := by
  simp [State.nextSegment]
@[simp] theorem State.queueCan_keepsCore (s : State) (c : CanNo) (f : CanFrame) : s.KeepsCore (s.queueCan c f) := by simp [State.queueCan]
@[simp] theorem State.queuePanel_keepsCore (s : State) (typ : Nat) (f : List Byte) : s.KeepsCore (s.queuePanel typ f) := by
  simp [State.queuePanel]
@[simp] theorem State.broadcast_keepsCore (s : State) (prio typ : Nat) (payload : List Byte) :
    s.KeepsCore (s.broadcast prio typ payload) := by
  unfold State.broadcast
  split <;> simp
@[simp] theorem State.sendSysState_keepsCore (s : State) : s.KeepsCore s.sendSysState := by simp [State.sendSysState]
@[simp] theorem State.sendPointChange_keepsCore (s : State) (ns : List Nat) : s.KeepsCore (s.sendPointChange ns) := by
  simp [State.sendPointChange]
@[simp] theorem State.sendStation_keepsCore (s : State) (n : Nat) : s.KeepsCore (s.sendStation n) := by
  unfold State.sendStation
  extract_lets b s1
  have h1 : s.KeepsCore s1 := by
    refine foldl_keepsCore (fun u c => ?_) ..
    split <;> simp
  simp only [State.KeepsCore, State.KeepsCounts] at h1
  split <;> simp [h1]
@[simp] theorem State.canSent_keepsCore (s : State) (c : CanNo) : s.KeepsCore (s.canSent c) := by
  unfold State.canSent
  dsimp only
  (repeat' split) <;> simp

/-! ### JTAG -/

@[simp] theorem State.captureBoundary_keepsCore (s : State) : s.KeepsCore s.captureBoundary.2 := by simp [State.captureBoundary]
@[simp] theorem State.captureDr_keepsCore (s : State) : s.KeepsCore s.captureDr := by
  unfold State.captureDr
  split <;> simp
@[simp] theorem State.tckRise_keepsCore (s : State) (tms tdi : Bool) : s.KeepsCore (s.tckRise tms tdi) := by
  unfold State.tckRise
  split <;> simp
@[simp] theorem State.tckFall_keepsCore (s : State) : s.KeepsCore s.tckFall := by
  unfold State.tckFall
  split <;> simp

/-! ### The pair -/

@[simp] theorem State.raiseEpoch_keepsCore (s : State) : s.KeepsCore s.raiseEpoch := by simp [State.raiseEpoch]
@[simp] theorem State.streakBy_keepsCore (s : State) (pass : Bool) : s.KeepsCore (s.streakBy pass) := by simp [State.streakBy]
@[simp] theorem State.tellPair_keepsCore (s : State) (cause old : Nat) : s.KeepsCore (s.tellPair cause old) := by simp [State.tellPair]
@[simp] theorem State.tellRole_keepsCore (s : State) (cause old : Nat) : s.KeepsCore (s.tellRole cause old) := by simp [State.tellRole]
@[simp] theorem State.startResync_keepsCore (s : State) : s.KeepsCore s.startResync := by simp [State.startResync]
@[simp] theorem State.twinResync_keepsCore (s : State) : s.KeepsCore s.twinResync := by simp [State.twinResync]
@[simp] theorem State.becomeSuspect_keepsCore (s : State) (hard : Bool) : s.KeepsCore (s.becomeSuspect hard) := by
  simp [State.becomeSuspect]
@[simp] theorem State.resyncFailed_keepsCore (s : State) : s.KeepsCore s.resyncFailed := by simp [State.resyncFailed]
@[simp] theorem State.freshPairNonce_keepsCore (s : State) : s.KeepsCore s.freshPairNonce := by simp [State.freshPairNonce]
@[simp] theorem State.runPairBind_keepsCore (s : State) (t : Tag) : s.KeepsCore (s.runPairBind t) := by
  unfold State.runPairBind
  split
  · simp
  · next k u heq => simp [s.decrypt_keepsCore heq]
@[simp] theorem State.bindDone_keepsCore (s : State) : s.KeepsCore s.bindDone := by
  unfold State.bindDone
  dsimp only
  (repeat' split) <;> simp
@[simp] theorem State.unbind_keepsCore (s : State) : s.KeepsCore s.unbind := by simp [State.unbind]
@[simp] theorem State.handover_keepsCore (s : State) (cause : Nat) : s.KeepsCore (s.handover cause) := by simp [State.handover]

/-! ### Keys, consent and debug -/

@[simp] theorem State.loadKey_keepsCore (s : State) (i st : Nat) (k : List Byte) : s.KeepsCore (s.loadKey i st k) := by
  simp [State.loadKey]
@[simp] theorem State.retireKey_keepsCore (s : State) (i : Nat) : s.KeepsCore (s.retireKey i) := by simp [State.retireKey]
@[simp] theorem State.enterMaint_keepsCore (s : State) (purpose : Nat) (session : Half) (slot expiry token : Nat) :
    s.KeepsCore (s.enterMaint purpose session slot expiry token) := by
  simp [State.enterMaint]
@[simp] theorem State.leaveMaint_keepsCore (s : State) : s.KeepsCore s.leaveMaint := by simp [State.leaveMaint]
@[simp] theorem State.debugBreak_keepsCounts (s : State) (e : Nat × Seal) : s.KeepsCounts (s.debugBreak e) := by simp [State.debugBreak]
@[simp] theorem State.debugUnlock_keepsCounts (s : State) (k : List Byte) : s.KeepsCounts (s.debugUnlock k) := by simp [State.debugUnlock]

/-! ### Resets and the start -/

@[simp] theorem State.clearVolatile_keepsCounts (s0 : State) (powerOn : Bool) : s0.KeepsCounts (s0.clearVolatile powerOn) := by
  simp [State.clearVolatile]
@[simp] theorem State.startReset_keepsCounts (s : State) (idx : Nat) (powerOn : Bool) : s.KeepsCounts (s.startReset idx powerOn) := by
  simp [State.startReset]
@[simp] theorem State.warm_keepsCounts (s : State) (idx : Nat) : s.KeepsCounts (s.warm idx) := by simp [State.warm]
@[simp] theorem State.hold_keepsCore (s : State) (idx : Nat) : s.KeepsCore (s.hold idx) := by simp [State.hold]
@[simp] theorem State.unhold_keepsCore (s : State) (idx : Nat) : s.KeepsCore (s.unhold idx) := by simp [State.unhold]
@[simp] theorem State.afeFresh_keepsCore (s : State) : s.KeepsCore s.afeFresh := by simp [State.afeFresh]
@[simp] theorem State.startRates_keepsCore (s : State) : s.KeepsCore s.startRates := by simp [State.startRates]
@[simp] theorem State.startDomains_keepsCore (s : State) : s.KeepsCore s.startDomains := by simp [State.startDomains]
@[simp] theorem State.loadConfig_keepsCore (s : State) : s.KeepsCore s.loadConfig := by simp [State.loadConfig]
@[simp] theorem State.trainDies_keepsCore (s : State) : s.KeepsCore s.trainDies := by simp [State.trainDies]
@[simp] theorem State.startTail_keepsCore (s : State) : s.KeepsCore s.startTail := by simp [State.startTail]
@[simp] theorem State.waitImage_keepsCore (s : State) (phase : Byte) (boot : Nat) : s.KeepsCore (s.waitImage phase boot) := by
  simp [State.waitImage]

/-! ### Images -/

@[simp] theorem State.setImage_keepsCore (s : State) (k : Nat) (i : Image) : s.KeepsCore (s.setImage k i) := by simp [State.setImage]
@[simp] theorem State.setTransferImage_keepsCore (s : State) (x : Transfer) (i : Image) : s.KeepsCore (s.setTransferImage x i) := by
  simp [State.setTransferImage]
@[simp] theorem State.activateImage_keepsCore (s : State) (t : Tag) : s.KeepsCore (s.activateImage t) := by simp [State.activateImage]

/-! ### Work in the NV array -/

@[simp] theorem State.issueConsent_keepsCore (s : State) (purpose slot minutes : Nat) :
    s.KeepsCore (s.issueConsent purpose slot minutes).2 := by
  simp [State.issueConsent]
@[simp] theorem State.nvWork_keepsCounts (s : State) (w : NvWork) : s.KeepsCounts (s.nvWork w).2.2 := by
  unfold State.nvWork
  dsimp only
  (repeat' split) <;> simp
@[simp] theorem State.commitWrites_keepsCounts (s : State) : s.KeepsCounts s.commitWrites := by simp [State.commitWrites]
@[simp] theorem State.startWrites_keepsCounts (s : State) : s.KeepsCounts s.startWrites := by simp [State.startWrites]
@[simp] theorem State.storeCopies_keepsCore (s : State) : s.KeepsCore s.storeCopies := by
  unfold State.storeCopies
  split <;> simp
@[simp] theorem State.laidUpSlot_keepsCore (s : State) : s.KeepsCore s.laidUpSlot := by
  unfold State.laidUpSlot
  split <;> simp
@[simp] theorem State.detach_keepsCore (s : State) : s.KeepsCore s.detach := by simp [State.detach]
@[simp] theorem State.sendOffer_keepsCore (s : State) : s.KeepsCore s.sendOffer := by simp [State.sendOffer]
@[simp] theorem State.offerPairing_keepsCore (s : State) : s.KeepsCore s.offerPairing := by simp [State.offerPairing]
@[simp] theorem State.scrubSector_keepsCore (s : State) (k : Nat) : s.KeepsCore (s.scrubSector k) := by simp [State.scrubSector]
@[simp] theorem State.refereeConcludes_keepsCore (s : State) (pass : Bool) : s.KeepsCore (s.refereeConcludes pass) := by
  simp [State.refereeConcludes]
@[simp] theorem State.setAging_keepsCore (s : State) (i : Nat) (a : Aging) : s.KeepsCore (s.setAging i a) := by simp [State.setAging]

/-! ### The batch -/

@[simp] theorem State.evaluateAnew_keepsCore (s old : State) : s.KeepsCore (s.evaluateAnew old) := by
  unfold State.evaluateAnew
  split <;> simp

/-! ### System facts -/

@[simp] theorem State.setFact_keepsCore (s : State) (pt bit : Nat) (on : Bool) : s.KeepsCore (s.setFact pt bit on) := by
  simp [State.setFact]
@[simp] theorem State.batchFact_keepsCore (s : State) (pt bit : Nat) (on : Bool) : s.KeepsCore (s.batchFact pt bit on) := by
  simp [State.batchFact]
@[simp] theorem State.submitFacts_keepsCore (s : State) : s.KeepsCore s.submitFacts := by simp [State.submitFacts]
@[simp] theorem State.pegFact_keepsCore (s : State) (pt bit : Nat) (on : Bool) : s.KeepsCore (s.pegFact pt bit on) := by
  unfold State.pegFact
  split <;> simp

/-! ### The mirror -/

@[simp] theorem State.putAin_keepsCore (s : State) (node ch : Nat) (v : AinIn) : s.KeepsCore (s.putAin node ch v) := by simp [State.putAin]
@[simp] theorem State.putDin_keepsCore (s : State) (node inp : Nat) (v : DinIn) : s.KeepsCore (s.putDin node inp v) := by
  simp [State.putDin]
@[simp] theorem State.mapLines_keepsCore (s : State) (node : Nat) (f : AinIn → AinIn) (g : DinIn → DinIn) :
    s.KeepsCore (s.mapLines node f g) := by
  simp [State.mapLines]
@[simp] theorem State.takeOwnAin_keepsCore (s : State) : s.KeepsCore s.takeOwnAin := by simp [State.takeOwnAin]
@[simp] theorem State.takeOwnDin_keepsCore (s : State) : s.KeepsCore s.takeOwnDin := by simp [State.takeOwnDin]
@[simp] theorem State.sendMirror_keepsCore (s : State) : s.KeepsCore s.sendMirror := by simp [State.sendMirror]
@[simp] theorem State.takeAinEntry_keepsCore (s : State) (b : List Byte) : s.KeepsCore (s.takeAinEntry b) := by simp [State.takeAinEntry]
@[simp] theorem State.takeDinEntry_keepsCore (s : State) (b : List Byte) : s.KeepsCore (s.takeDinEntry b) := by simp [State.takeDinEntry]
@[simp] theorem State.takeEdgeEntry_keepsCore (s : State) (b : List Byte) : s.KeepsCore (s.takeEdgeEntry b) := by
  simp [State.takeEdgeEntry]
@[simp] theorem State.mirrorDone_keepsCore (s : State) (buf : List Byte) (cnt : List Nat) : s.KeepsCore (s.mirrorDone buf cnt) := by
  simp [State.mirrorDone]
@[simp] theorem State.takeMirror_keepsCore (s : State) (p : List Byte) : s.KeepsCore (s.takeMirror p) := by simp [State.takeMirror]

/-! ### The frame on the ring -/

@[simp] theorem State.sendToken_keepsCore (s : State) : s.KeepsCore s.sendToken := by simp [State.sendToken]
@[simp] theorem State.sendClaimCell_keepsCore (s : State) : s.KeepsCore s.sendClaimCell := by simp [State.sendClaimCell]
@[simp] theorem State.setWorkerClaim_keepsCore (s : State) (orig : Nat) (w : Word) : s.KeepsCore (s.setWorkerClaim orig w) := by
  simp [State.setWorkerClaim]
@[simp] theorem State.leaderTime_keepsCore (s : State) (p : List Byte) (at_ : Nat) (first : Bool) :
    s.KeepsCore (s.leaderTime p at_ first) := by
  unfold State.leaderTime
  split <;> simp
@[simp] theorem State.follow_keepsCore (s : State) (f : Frame) (start : Batten) (delayNs : Nat) (p : List Byte) (timeAt : Nat) :
    s.KeepsCore (s.follow f start delayNs p timeAt) := by
  simp [State.follow]
@[simp] theorem State.evtRecorded_keepsCore (s : State) : s.KeepsCore s.evtRecorded := by simp [State.evtRecorded]
@[simp] theorem State.releaseEdges_keepsCore (s : State) (f : Frame) (edges : List DiEvent) (more : List Occurrence) :
    s.KeepsCore (s.releaseEdges f edges more) := by
  simp [State.releaseEdges]
@[simp] theorem State.openRecorder_keepsCore (s : State) : s.KeepsCore s.openRecorder := by simp [State.openRecorder]
@[simp] theorem State.workerPegged_keepsCore (s : State) (f : Frame) : s.KeepsCore (s.workerPegged f) := by simp [State.workerPegged]
@[simp] theorem State.obeyOrders_keepsCore (s : State) (o : Nat) (body : List Byte) : s.KeepsCore (s.obeyOrders o body) := by
  simp [State.obeyOrders]
@[simp] theorem State.executeWord_keepsCore (s : State) (claim : Word) (body : List Byte) : s.KeepsCore (s.executeWord claim body) := by
  simp [State.executeWord]
@[simp] theorem State.workerToken_keepsCore (s : State) (side : RingSide) (c : Cell) : s.KeepsCore (s.workerToken side c) := by
  simp [State.workerToken]
@[simp] theorem State.ringFormed_keepsCore (s : State) : s.KeepsCore s.ringFormed := by simp [State.ringFormed]
@[simp] theorem State.expelWorker_keepsCore (s : State) (n : Nat) : s.KeepsCore (s.expelWorker n) := by simp [State.expelWorker]
@[simp] theorem State.seeExpelled_keepsCore (s : State) (body : List Byte) : s.KeepsCore (s.seeExpelled body) := by
  simp [State.seeExpelled]
@[simp] theorem State.managerToken_keepsCore (s : State) (c : Cell) : s.KeepsCore (s.managerToken c) := by simp [State.managerToken]
theorem State.takeCell_keepsCore {f : State → Cell → State} (h : ∀ s c, State.KeepsCore s (f s c)) (s : State) (side : RingSide)
    (kind : Nat)
    (b : List Byte) : s.KeepsCore (s.takeCell side kind b f) := by
  simp only [State.KeepsCore, State.KeepsCounts] at h
  unfold State.takeCell; dsimp only
  (repeat' split) <;> simp [h]
@[simp] theorem State.countLostEdges_keepsCore (s : State) : s.KeepsCore s.countLostEdges := by simp [State.countLostEdges]
@[simp] theorem State.takeDataValues_keepsCore (s : State) (n : Nat) (body : List Byte) : s.KeepsCore (s.takeDataValues n body) := by
  simp [State.takeDataValues]
@[simp] theorem State.takeData_keepsCore (s : State) (c : Cell) (far : Bool) : s.KeepsCore (s.takeData c far) := by simp [State.takeData]
@[simp] theorem State.noteArrival_keepsCore (s : State) (side : RingSide) (c : Cell) : s.KeepsCore (s.noteArrival side c) := by
  simp [State.noteArrival]
@[simp] theorem State.judgeData_keepsCore (s : State) (n : Nat) : s.KeepsCore (s.judgeData n) := by simp [State.judgeData]
@[simp] theorem State.judgeWorkers_keepsCore (s : State) : s.KeepsCore s.judgeWorkers := by simp [State.judgeWorkers]
@[simp] theorem State.noteData_keepsCore (s : State) (n : Nat) : s.KeepsCore (s.noteData n) := by simp [State.noteData]
@[simp] theorem State.setRingState_keepsCore (s : State) (n : Nat) : s.KeepsCore (s.setRingState n) := by simp [State.setRingState]
@[simp] theorem State.finishCmd_keepsCore (s : State) (c : RingCmd) (st : Status) (params : List Byte) (dup : Bool) :
    s.KeepsCore (s.finishCmd c st params dup) := by
  unfold State.finishCmd
  dsimp only
  (repeat' split) <;> simp
@[simp] theorem State.loseWorker_keepsCore (s : State) (n : Nat) : s.KeepsCore (s.loseWorker n) := by simp [State.loseWorker]
@[simp] theorem State.returnWorker_keepsCore (s : State) (n : Nat) : s.KeepsCore (s.returnWorker n) := by simp [State.returnWorker]
@[simp] theorem State.pegWorker_keepsCore (s : State) (n : Nat) : s.KeepsCore (s.pegWorker n) := by simp [State.pegWorker]
@[simp] theorem State.pegWorkerSeen_keepsCore (s : State) (n : Nat) : s.KeepsCore (s.pegWorkerSeen n) := by simp [State.pegWorkerSeen]
@[simp] theorem State.orderWorker_keepsCore (s : State) (n : Nat) (out : Bool) : s.KeepsCore (s.orderWorker n out) := by
  simp [State.orderWorker]
@[simp] theorem State.orderWorkers_keepsCore (s : State) : s.KeepsCore s.orderWorkers := by simp [State.orderWorkers]
@[simp] theorem State.innerRound_keepsCore (s : State) : s.KeepsCore s.innerRound := by simp [State.innerRound]
@[simp] theorem State.pegRing_keepsCore (s0 : State) : s0.KeepsCore s0.pegRing := by simp [State.pegRing]
@[simp] theorem State.ringFrame_keepsCore (s : State) : s.KeepsCore s.ringFrame := by simp [State.ringFrame]

/-! ### Ring commands -/

@[simp] theorem State.notePosition_keepsCore (s : State) (e : (Word × Nat × Nat) × Nat) : s.KeepsCore (s.notePosition e) := by
  simp [State.notePosition]
@[simp] theorem State.scanDone_keepsCore (s : State) (l : List (Word × Nat × Nat)) : s.KeepsCore (s.scanDone l) := by
  unfold State.scanDone
  dsimp only
  (repeat' split) <;> simp
@[simp] theorem State.runScan_keepsCore (s : State) (t : Tag) : s.KeepsCore (s.runScan t) := by
  unfold State.runScan
  dsimp only
  (repeat' split) <;> simp
@[simp] theorem State.scanAtWorker_keepsCore (s : State) (side : RingSide) (b : List Byte) (c : Cell) :
    s.KeepsCore (s.scanAtWorker side b c) := by
  simp [State.scanAtWorker]
@[simp] theorem State.offerAdmission_keepsCore (s : State) (e : Word × Nat) : s.KeepsCore (s.offerAdmission e) := by
  simp [State.offerAdmission]
@[simp] theorem State.runAdmit_keepsCore (s : State) (t : Tag) : s.KeepsCore (s.runAdmit t) := by
  unfold State.runAdmit
  split
  · simp
  · next k u heq => simp [s.decrypt_keepsCore heq]
@[simp] theorem State.answerOffer_keepsCore (s : State) (side : RingSide) (c : Cell) : s.KeepsCore (s.answerOffer side c) := by
  unfold State.answerOffer
  dsimp only
  (repeat' split) <;> simp
@[simp] theorem State.takeRingKey_keepsCore (s : State) (side : RingSide) (c : Cell) : s.KeepsCore (s.takeRingKey side c) := by
  unfold State.takeRingKey
  dsimp only
  (repeat' split) <;> simp
@[simp] theorem State.takeAnswer_keepsCore (s : State) (c : Cell) : s.KeepsCore (s.takeAnswer c) := by
  unfold State.takeAnswer
  dsimp only
  (repeat' split) <;> simp
@[simp] theorem State.mirrorRingKey_keepsCore (s : State) (k : List Byte) (l : List (Word × Nat)) : s.KeepsCore (s.mirrorRingKey k l) := by
  simp [State.mirrorRingKey]
@[simp] theorem State.admitMember_keepsCore (s : State) (e : Word × Nat) : s.KeepsCore (s.admitMember e) := by simp [State.admitMember]
@[simp] theorem State.admitDone_keepsCore (s : State) (atLeast : Nat) : s.KeepsCore (s.admitDone atLeast) := by
  unfold State.admitDone
  dsimp only
  (repeat' split) <;> simp
@[simp] theorem State.takeProof_keepsCore (s : State) (c : Cell) (b : List Byte) : s.KeepsCore (s.takeProof c b) := by
  unfold State.takeProof
  dsimp only
  (repeat' split) <;> simp
@[simp] theorem State.runExpel_keepsCore (s : State) (t : Tag) : s.KeepsCore (s.runExpel t) := by simp [State.runExpel]
@[simp] theorem State.pegExpel_keepsCore (s : State) : s.KeepsCore s.pegExpel := by
  unfold State.pegExpel
  dsimp only
  (repeat' split) <;> simp
@[simp] theorem State.dropOldTrains_keepsCore (s : State) : s.KeepsCore s.dropOldTrains := by simp [State.dropOldTrains]
@[simp] theorem State.joinTrain_keepsCore (s0 : State) (c : Cell) : s0.KeepsCore (s0.joinTrain c).2 := by
  unfold State.joinTrain
  dsimp only
  (repeat' split) <;> simp
@[simp] theorem State.workerTrain_keepsCore (s : State) (side : RingSide) (c : Cell) (bytes : List Byte) :
    s.KeepsCore (s.workerTrain side c bytes) := by
  unfold State.workerTrain
  dsimp only
  (repeat' split) <;> simp
@[simp] theorem State.replyFor_keepsCore (s : State) (c : RingCmd) (b : List Byte) : s.KeepsCore (s.replyFor c b) := by
  simp [State.replyFor]
@[simp] theorem State.managerTrain_keepsCore (s : State) (c : Cell) (bytes : List Byte) : s.KeepsCore (s.managerTrain c bytes) := by
  unfold State.managerTrain
  dsimp only
  (repeat' split) <;> simp
@[simp] theorem State.dropL_keepsCore (s : State) (r : Req) : s.KeepsCore (s.dropL r) := by simp [State.dropL]
@[simp] theorem State.timeoutTag_keepsCore (s : State) (t : Tag) : s.KeepsCore (s.timeoutTag t) := by
  unfold State.timeoutTag
  split <;> simp

/-! ### The twin -/

@[simp] theorem State.stepDown_keepsCore (s : State) : s.KeepsCore s.stepDown := by simp [State.stepDown]
@[simp] theorem State.takeMarker_keepsCore (s : State) (p : List Byte) : s.KeepsCore (s.takeMarker p) := by simp [State.takeMarker]
@[simp] theorem State.keepOffer_keepsCore (s : State) (p : List Byte) : s.KeepsCore (s.keepOffer p) := by simp [State.keepOffer]
@[simp] theorem State.refuseBind_keepsCore (s : State) : s.KeepsCore s.refuseBind := by
  unfold State.refuseBind
  dsimp only
  (repeat' split) <;> simp
@[simp] theorem State.pairingAtLeader_keepsCore (s : State) (p : List Byte) : s.KeepsCore (s.pairingAtLeader p) := by
  unfold State.pairingAtLeader
  split <;> simp
@[simp] theorem State.joined_keepsCore (s : State) : s.KeepsCore s.joined := by simp [State.joined]
@[simp] theorem State.sendControl_keepsCore (s : State) (code detail : Nat) : s.KeepsCore (s.sendControl code detail) := by
  simp [State.sendControl]
@[simp] theorem State.pairingAtFollower_keepsCore (s : State) (p : List Byte) : s.KeepsCore (s.pairingAtFollower p) := by
  unfold State.pairingAtFollower
  split <;> simp
@[simp] theorem State.turwaRequest_keepsCore (s : State) (tag : Nat) (bytes : List Byte) : s.KeepsCore (s.turwaRequest tag bytes) := by
  unfold State.turwaRequest
  dsimp only
  (repeat' split) <;> simp
@[simp] theorem State.turwaReply_keepsCore (s : State) (tag : Nat) (bytes : List Byte) : s.KeepsCore (s.turwaReply tag bytes) := by
  unfold State.turwaReply
  dsimp only
  (repeat' split) <;> simp

/-! ### Resynchronisation -/

@[simp] theorem State.settleAlert_keepsCore (f : Frame) (s : State) (n : Nat) : s.KeepsCore (State.settleAlert f s n) := by
  simp [State.settleAlert]
@[simp] theorem State.takeEngine_keepsCore (s : State) (base : Pegged) (f : Frame) (content : List Byte) :
    s.KeepsCore (s.takeEngine base f content) := by
  simp [State.takeEngine]
@[simp] theorem State.sendState_keepsCore (s : State) (f : Frame) (kind k : Nat) (entries : List (List Byte)) :
    s.KeepsCore (s.sendState f kind k entries) := by
  simp [State.sendState]
@[simp] theorem State.sendCounters_keepsCore (s : State) : s.KeepsCore s.sendCounters := by simp [State.sendCounters]
@[simp] theorem State.sendResync_keepsCore (s : State) (old : Pegged) : s.KeepsCore (s.sendResync old) := by simp [State.sendResync]
@[simp] theorem State.sendConfig_keepsCore (s : State) : s.KeepsCore s.sendConfig := by simp [State.sendConfig]
@[simp] theorem State.takeConfig_keepsCounts (s : State) (b : List Byte) : s.KeepsCounts (s.takeConfig b) := by simp [State.takeConfig]
@[simp] theorem State.takeCounters_keepsCore (s : State) (m : List Byte) : s.KeepsCore (s.takeCounters m) := by simp [State.takeCounters]
@[simp] theorem State.takeRingMembers_keepsCore (s : State) (m : List Byte) : s.KeepsCore (s.takeRingMembers m) := by
  simp [State.takeRingMembers]
@[simp] theorem State.takeStateContent_keepsCounts (s : State) (f : Frame) (kind : Nat) (k : Frame) (b : List Byte) :
    s.KeepsCounts (s.takeStateContent f kind k b) := by
  unfold State.takeStateContent
  split <;> simp
@[simp] theorem State.takeState_keepsCounts (s : State) (b : List Byte) : s.KeepsCounts (s.takeState b) := by
  unfold State.takeState
  dsimp only
  (repeat' split) <;> simp
@[simp] theorem State.takeControl_keepsCore (s : State) (b : List Byte) : s.KeepsCore (s.takeControl b) := by
  unfold State.takeControl
  split <;> simp

/-! ### The frame -/

@[simp] theorem State.answerWithdrawn_keepsCore (s : State) (i : BatchItem) : s.KeepsCore (s.answerWithdrawn i) := by
  unfold State.answerWithdrawn
  dsimp only
  (repeat' split) <;> simp
@[simp] theorem State.pegReply_keepsCore (s : State) (a : PegReply) : s.KeepsCore (s.pegReply a) := by
  unfold State.pegReply
  split <;> simp
@[simp] theorem State.withdraw_keepsCore (s : State) : s.KeepsCore s.withdraw := by simp [State.withdraw]
@[simp] theorem State.openBatch_keepsCore (s : State) : s.KeepsCore s.openBatch := by simp [State.openBatch]
@[simp] theorem State.nextFrame_keepsCore (s : State) : s.KeepsCore s.nextFrame := by simp [State.nextFrame]
@[simp] theorem State.measure_keepsCore (s : State) : s.KeepsCore s.measure := by simp [State.measure]
@[simp] theorem State.refAtFrame_keepsCore (s : State) : s.KeepsCore s.refAtFrame := by simp [State.refAtFrame]
@[simp] theorem State.reachReady_keepsCore (s : State) : s.KeepsCore s.reachReady := by simp [State.reachReady]
@[simp] theorem State.startAtFrame_keepsCore (s : State) : s.KeepsCore s.startAtFrame := by simp [State.startAtFrame]
@[simp] theorem State.resyncAtFrame_keepsCore (s : State) : s.KeepsCore s.resyncAtFrame := by simp [State.resyncAtFrame]
@[simp] theorem State.sendFrameStart_keepsCore (s : State) : s.KeepsCore s.sendFrameStart := by simp [State.sendFrameStart]
@[simp] theorem State.openFrame_keepsCounts (s : State) : s.KeepsCounts s.openFrame := by simp [State.openFrame]
@[simp] theorem State.refereeResult_keepsCore (s : State) : s.KeepsCore s.refereeResult := by simp [State.refereeResult]

/-! ### The host port -/

@[simp] theorem State.hostTxn_keepsCore (s : State) : s.KeepsCore s.hostTxn := by simp [State.hostTxn]
@[simp] theorem State.setSticky_keepsCore (s : State) (bits : BitVec 6) : s.KeepsCore (s.setSticky bits) := by simp [State.setSticky]
@[simp] theorem State.hostWrite_keepsCore (s : State) (bytes : List Byte) : s.KeepsCore (s.hostWrite bytes) := by simp [State.hostWrite]
@[simp] theorem State.hostOut_keepsCore (s : State) (bytes : List Byte) : s.KeepsCore (s.hostOut bytes) := by simp [State.hostOut]
@[simp] theorem State.hostRead_keepsCore (s : State) (clocked : Nat) : s.KeepsCore (s.hostRead clocked) := by
  unfold State.hostRead
  split <;> simp
@[simp] theorem State.writePortReg_keepsCore (s : State) (addr : Nat) (v : Word) : s.KeepsCore (s.writePortReg addr v) := by
  unfold State.writePortReg
  split <;> simp

/-! ### The peg -/

@[simp] theorem State.loadClaim_keepsCore (s : State) (pegged : Bool) : s.KeepsCore (s.loadClaim pegged) := by simp [State.loadClaim]
@[simp] theorem State.claimOnly_keepsCore (s : State) : s.KeepsCore s.claimOnly := by simp [State.claimOnly]
@[simp] theorem State.unpeg_keepsCore (s : State) : s.KeepsCore s.unpeg := by simp [State.unpeg]
@[simp] theorem State.orderAll_keepsCore (s : State) (bits : BitVec 5) : s.KeepsCore (s.orderAll bits) := by simp [State.orderAll]
@[simp] theorem State.orderLayup_keepsCore (s : State) : s.KeepsCore s.orderLayup := by simp [State.orderLayup]
@[simp] theorem State.carryPegged_keepsCore (s : State) (op : Half) (r : Req) : s.KeepsCore (s.carryPegged op r) := by
  simp only [State.carryPegged]
  (repeat' split) <;> simp
@[simp] theorem State.pegEffect_keepsCore (s0 : State) (e : Effect) : s0.KeepsCore (s0.pegEffect e) := by
  unfold State.pegEffect
  split <;> simp
@[simp] theorem State.pegLedger_keepsCounts (s : State) (l : List Effect) : s.KeepsCounts (s.pegLedger l).2 := by
  unfold State.pegLedger
  refine foldl_rel (fun a b : List (Nat × Nat) × State => a.2.KeepsCounts b.2) (fun _ => ⟨rfl, rfl⟩)
    (fun ⟨h1, h2⟩ ⟨k1, k2⟩ => ⟨k1.trans h1, k2.trans h2⟩) _ (fun a e => ?_) l ([], s)
  split <;> simp
@[simp] theorem State.passItems_keepsCore (s : State) : s.KeepsCore s.passItems := by simp [State.passItems]
@[simp] theorem State.releaseEvent_keepsCore (ledger : List (Nat × Nat)) (s : State) (e : Event) :
    s.KeepsCore (State.releaseEvent ledger s e) := by
  simp [State.releaseEvent]
@[simp] theorem State.workerEdgeEvent_keepsCore (s : State) (x : Nat × List Byte) : s.KeepsCore (s.workerEdgeEvent x) := by
  simp [State.workerEdgeEvent]
@[simp] theorem State.raiseLog_keepsCore (s : State) (causes : List (Nat × Nat)) : s.KeepsCore (s.raiseLog causes) := by
  simp [State.raiseLog]
@[simp] theorem State.answerRefused_keepsCore (s : State) : s.KeepsCore s.answerRefused := by simp [State.answerRefused]
@[simp] theorem State.releaseCalls_keepsCore (s : State) (old : Engine) (p : Prov) : s.KeepsCore (s.releaseCalls old p) := by
  simp [State.releaseCalls]
@[simp] theorem State.releaseCan_keepsCore (s : State) (old : Engine) (pairWas : Nat) (p : Prov) :
    s.KeepsCore (s.releaseCan old pairWas p) := by
  simp [State.releaseCan]
@[simp] theorem State.releaseFrame_keepsCore (s : State) (p : Prov) : s.KeepsCore (s.releaseFrame p) := by simp [State.releaseFrame]
@[simp] theorem State.releaseEvents_keepsCore (s : State) (ledger causes : List (Nat × Nat)) (p : Prov) :
    s.KeepsCore (s.releaseEvents ledger causes p) := by
  simp [State.releaseEvents]
@[simp] theorem State.endRound_keepsCore (s : State) : s.KeepsCore s.endRound := by simp [State.endRound]
@[simp] theorem State.takePegged_keepsCore (s : State) (p : Prov) : s.KeepsCore (s.takePegged p) := by simp [State.takePegged]
@[simp] theorem State.closeBatch_keepsCore (s : State) : s.KeepsCore s.closeBatch := by simp [State.closeBatch]
@[simp] theorem State.commit_keepsCounts (s0 : State) (p : Prov) : s0.KeepsCounts (s0.commit p) := by simp [State.commit]
@[simp] theorem State.maybeReferee_keepsCore (s : State) : s.KeepsCore s.maybeReferee := by simp [State.maybeReferee]
@[simp] theorem State.maybeLost_keepsCore (s : State) : s.KeepsCore s.maybeLost := by simp [State.maybeLost]
@[simp] theorem State.pegRedundancy_keepsCore (s : State) : s.KeepsCore s.pegRedundancy := by simp [State.pegRedundancy]
@[simp] theorem State.pegNow_keepsCounts (s : State) : s.KeepsCounts s.pegNow := by
  unfold State.pegNow
  dsimp only
  (repeat' split) <;> simp
@[simp] theorem State.pegOwnLanes_keepsCounts (s : State) (p : Prov) : s.KeepsCounts (s.pegOwnLanes p) := by simp [State.pegOwnLanes]
@[simp] theorem State.lead_keepsCore (s : State) (cause : Nat) (takeover : Bool) (twin : Nat) :
    s.KeepsCore (s.lead cause takeover twin) := by
  simp [State.lead]
@[simp] theorem State.endForces_keepsCore (s : State) : s.KeepsCore s.endForces := by simp [State.endForces]
@[simp] theorem State.takeOver_keepsCounts (s : State) : s.KeepsCounts s.takeOver := by
  unfold State.takeOver
  dsimp only
  (repeat' split) <;> simp
@[simp] theorem State.requestReset_keepsCore (s : State) : s.KeepsCore s.requestReset := by simp [State.requestReset]
@[simp] theorem State.endReferee_keepsCore (s : State) : s.KeepsCore s.endReferee := by simp [State.endReferee]
@[simp] theorem State.refereeAtActive_keepsCounts (s : State) (p : Prov) (own twin : Bool) :
    s.KeepsCounts (s.refereeAtActive p own twin) := by
  simp [State.refereeAtActive]
@[simp] theorem State.refereeAtStandby_keepsCounts (s : State) (p : Prov) (own twin : Bool) :
    s.KeepsCounts (s.refereeAtStandby p own twin) := by
  simp [State.refereeAtStandby]
@[simp] theorem State.pegSynced_keepsCounts (s : State) (p : Prov) (d : Option DigestMsg) : s.KeepsCounts (s.pegSynced p d) := by
  unfold State.pegSynced
  split <;> simp
@[simp] theorem State.watchResync_keepsCore (s : State) (p : Prov) (d : Option DigestMsg) : s.KeepsCore (s.watchResync p d) := by
  simp only [State.watchResync]
  (repeat' split) <;> simp
@[simp] theorem State.decideActive_keepsCounts (s : State) (p : Prov) (d : Option DigestMsg) : s.KeepsCounts (s.decideActive p d) := by
  simp only [State.decideActive]
  (repeat' split) <;> simp
@[simp] theorem State.decideStandby_keepsCounts (s : State) (p : Prov) (d : Option DigestMsg) : s.KeepsCounts (s.decideStandby p d) := by
  unfold State.decideStandby
  dsimp only
  (repeat' split) <;> simp
@[simp] theorem State.decideResync_keepsCounts (s : State) (d : Option DigestMsg) : s.KeepsCounts (s.decideResync d) := by
  unfold State.decideResync
  dsimp only
  (repeat' split) <;> simp
@[simp] theorem State.decideSuspect_keepsCore (s : State) (d : Option DigestMsg) : s.KeepsCore (s.decideSuspect d) := by
  unfold State.decideSuspect
  split <;> simp
@[simp] theorem State.decideRole_keepsCounts (s : State) (d : Option DigestMsg) : s.KeepsCounts (s.decideRole d) := by
  simp only [State.decideRole]
  (repeat' split) <;> simp
@[simp] theorem State.decideFrame_keepsCounts (s : State) : s.KeepsCounts s.decideFrame := by
  unfold State.decideFrame
  dsimp only
  (repeat' split) <;> simp
@[simp] theorem State.firstClaim_keepsCore (s : State) : s.KeepsCore s.firstClaim := by simp [State.firstClaim]

/-! ### Sessions -/

@[simp] theorem State.openNew_keepsCore (s : State) (r : Req) (role : Role) (slot : Fin 4) : s.KeepsCore (s.openNew r role slot).1 := by
  unfold State.openNew
  dsimp only
  (repeat' split) <;> simp
@[simp] theorem State.negotiate_keepsCore (s : State) (t : Tag) : s.KeepsCore (s.negotiate t) := by simp [State.negotiate]
@[simp] theorem State.runOpen_keepsCore (s : State) (t : Tag) : s.KeepsCore (s.runOpen t) := by
  unfold State.runOpen
  dsimp only
  (repeat' split) <;> simp
@[simp] theorem State.provePass_keepsCore (s : State) (t : Tag) (x : Sess) : s.KeepsCore (s.provePass t x) := by simp [State.provePass]
@[simp] theorem State.proveFail_keepsCore (s : State) (t : Tag) (x : Sess) : s.KeepsCore (s.proveFail t x) := by simp [State.proveFail]
@[simp] theorem State.runProve_keepsCore (s : State) (t : Tag) : s.KeepsCore (s.runProve t) := by
  unfold State.runProve
  split <;> simp
@[simp] theorem State.keepAsSent_keepsCore (s : State) (p : Port) (k : Packet) : s.KeepsCore (s.keepAsSent p k) := by
  simp [State.keepAsSent]
@[simp] theorem State.releaseOne_keepsCore (s : State) (port : Port) (session : Half) : s.KeepsCore (s.releaseOne port session) := by
  unfold State.releaseOne
  dsimp only
  (repeat' split) <;> simp

end Sys2Proof.Machine
end

section
/-! SUPPORT. What a command keeps: every row answers a next state with the queue as it was and the reset counters in their range (R96,
R99, R106). The rows that count a reset or lose EAVE's content are the only ones whose reset counters move. -/

namespace Sys2Proof.Machine

/-! ### The reset counters -/

/-- The 19 reset counters hold 16 bits each. -/
def Eave.countersFit (e : Eave) : Prop := e.counters.length = 19 ∧ ∀ n ∈ e.counters, n ≤ 0xFFFF

/-- A reset that is counted leaves the range: a counter stops at 0xFFFF. -/
theorem Eave.countersFit.count {e : Eave} (h : e.countersFit) (i : Nat) : (e.count i).countersFit := by
  obtain ⟨hl, hn⟩ := h
  refine ⟨by simp [Eave.count, lset, hl], fun n hm => ?_⟩
  rcases List.mem_or_eq_of_mem_set hm with hm | rfl
  · exact hn n hm
  · exact min_le_left _ _

theorem Eave.countersFit_of_replicate {e : Eave} {a : Nat} (h : e.counters = a :: List.replicate 18 0) (ha : a ≤ 0xFFFF) :
    e.countersFit := by
  simp [Eave.countersFit, h, ha]

theorem Eave.afterLoss_countersFit (e : Eave) (t : Nat) : (e.afterLoss t).countersFit :=
  Eave.countersFit_of_replicate (a := 0) rfl (by omega)

/-! ### What a row keeps -/

/-- The queue of commands is as it was, and the reset counters stay in their range. -/
def State.KeepsRange (s u : State) : Prop := u.pending = s.pending ∧ (s.eave.countersFit → u.eave.countersFit)

theorem State.KeepsRange.trans {s u v : State} (h : s.KeepsRange u) (k : u.KeepsRange v) : s.KeepsRange v := by
  obtain ⟨hp, hc⟩ := h
  obtain ⟨kp, kc⟩ := k
  exact ⟨kp.trans hp, kc ∘ hc⟩

theorem State.KeepsRange.of_counts {s u : State} (h : s.KeepsCounts u) : s.KeepsRange u := by
  obtain ⟨hp, hc⟩ := h
  exact ⟨hp, fun hs => by unfold Eave.countersFit at *; rwa [hc]⟩

/-- A row answers a next state that keeps the queue and the counters' range. -/
def State.StepsTo (s : State) (o : Host.Outcome State Fault Refusal) : Prop := ∃ t, o = .next t ∧ s.KeepsRange t

theorem State.StepsTo.keeps {s t : State} (h : s.KeepsCounts t) : s.StepsTo (.next t) := ⟨t, rfl, .of_counts h⟩

/-- A start counts its cause, and an over-temperature trip beside it; a cold EAVE begins at one power-on (R83, R99). -/
theorem State.startEave_keepsRange (s : State) : s.KeepsRange s.startEave := by
  refine ⟨rfl, fun h => ?_⟩
  have hc : (if s.rst.cold then { s.eave with counters := 1 :: List.replicate 18 0 } else s.eave.count s.rst.cause).countersFit := by
    split
    · exact Eave.countersFit_of_replicate rfl (by omega)
    · exact h.count _
  unfold State.startEave
  dsimp only
  split
  · exact hc.count 13
  · exact hc

/-- A packet from the twin: what it yields, and the state that has taken it. -/
theorem State.takeRidge_result (s : State) (k : Nat) (b : List Byte) : ∃ p u, s.takeRidge k b = (p, u) ∧ s.KeepsCounts u :=
  ⟨_, _, rfl, (s.takeRidge_keepsCore k b).1⟩

/-! ### Blocks, islands and domains -/

@[simp] theorem execBlockIdle_stepsTo (block : Fin 17) (s : State) : s.StepsTo (execBlockIdle block s) := by
  refine .keeps ?_
  split <;> simp
@[simp] theorem execFallback_stepsTo (block : Fin 17) (s : State) : s.StepsTo (execFallback block s) := by
  refine .keeps ?_
  split <;> simp
@[simp] theorem execBlockResetComplete_stepsTo (block : Fin 17) (s : State) : s.StepsTo (execBlockResetComplete block s) := by
  unfold execBlockResetComplete
  split
  · exact .keeps (by simp)
  · next b hb =>
    extract_lets s1 s2 s3 s4
    have h2 : s.KeepsRange s2 := ⟨rfl, fun h => h.count 15⟩
    have h4 : s2.KeepsCounts s4 := by
      unfold s4
      split <;> simp [s3]
    exact ⟨_, rfl, h2.trans (.of_counts (by simp [h4]))⟩
@[simp] theorem execSelftestComplete_stepsTo (passed : Half) (s : State) : s.StepsTo (execSelftestComplete passed s) := by
  refine .keeps ?_
  dsimp only
  (repeat' split) <;> simp
@[simp] theorem execRelockPoint_stepsTo (s : State) : s.StepsTo (execRelockPoint s) := .keeps (by simp)
@[simp] theorem execDomainSwitchComplete_stepsTo (domain : Fin 12) (s : State) : s.StepsTo (execDomainSwitchComplete domain s) := by
  refine .keeps ?_
  split <;> simp
@[simp] theorem execLockConfirmed_stepsTo (island : Fin 7) (lockTicks : Nat) (s : State) :
    s.StepsTo (execLockConfirmed island lockTicks s) := by
  refine .keeps ?_
  dsimp only
  (repeat' split) <;> simp
@[simp] theorem execPllLockLoss_stepsTo (island : Fin 7) (s : State) : s.StepsTo (execPllLockLoss island s) := .keeps (by simp)

/-! ### The RTC and the charger -/

@[simp] theorem execRtcSecond_stepsTo (s : State) : s.StepsTo (execRtcSecond s) := by
  refine .keeps ?_
  split <;> simp
@[simp] theorem execPpsEdge_stepsTo (s : State) : s.StepsTo (execPpsEdge s) := by
  refine .keeps ?_
  split
  · simp
  · split
    · simp
    · extract_lets n e s1
      split <;> simp [s1, e]
@[simp] theorem execZdaOnly_stepsTo (s : State) : s.StepsTo (execZdaOnly s) := .keeps (by simp)
@[simp] theorem execRtcTrimUpdate_stepsTo (ppm : Int) (s : State) : s.StepsTo (execRtcTrimUpdate ppm s) := by
  refine .keeps ?_
  split <;> simp
@[simp] theorem execChargerTermination_stepsTo (s : State) : s.StepsTo (execChargerTermination s) := .keeps (by simp)
@[simp] theorem execChargerRestart_stepsTo (s : State) : s.StepsTo (execChargerRestart s) := .keeps (by simp)
@[simp] theorem execNoElement_stepsTo (s : State) : s.StepsTo (execNoElement s) := .keeps (by simp)
@[simp] theorem execChargerRetry_stepsTo (s : State) : s.StepsTo (execChargerRetry s) := .keeps (by simp)
@[simp] theorem execWakeDue_stepsTo (s : State) : s.StepsTo (execWakeDue s) := .keeps (by simp)
@[simp] theorem execPwronHoldEnd_stepsTo (s : State) : s.StepsTo (execPwronHoldEnd s) := .keeps (by simp)
@[simp] theorem execLaidUpShutdown_stepsTo (s : State) : s.StepsTo (execLaidUpShutdown s) := by
  refine .keeps ?_
  split <;> simp
@[simp] theorem execEvtEdge_stepsTo (input : Fin 2) (level : Bool) (s : State) : s.StepsTo (execEvtEdge input level s) := .keeps (by simp)
@[simp] theorem execEvtFilterAccept_stepsTo (input : Fin 2) (s : State) : s.StepsTo (execEvtFilterAccept input s) := by
  refine .keeps ?_
  split <;> simp
@[simp] theorem execEaveColdStart_stepsTo (s : State) : s.StepsTo (execEaveColdStart s) := by
  unfold execEaveColdStart
  split
  · exact .keeps (by simp)
  · exact ⟨_, rfl, rfl, fun _ => s.eave.afterLoss_countersFit s.time⟩

/-! ### The log -/

@[simp] theorem execSaveAllowanceGain_stepsTo (s : State) : s.StepsTo (execSaveAllowanceGain s) := .keeps (by simp)
@[simp] theorem execBucketTokenGain_stepsTo (code : Fin 1024) (s : State) : s.StepsTo (execBucketTokenGain code s) := .keeps (by simp)
@[simp] theorem execBudgetTokenGain_stepsTo (s : State) : s.StepsTo (execBudgetTokenGain s) := .keeps (by simp)
@[simp] theorem execRecorderLossClear_stepsTo (s : State) : s.StepsTo (execRecorderLossClear s) := .keeps (by simp)
@[simp] theorem execLedgerCounterWord_stepsTo (s : State) : s.StepsTo (execLedgerCounterWord s) := .keeps (by simp)
@[simp] theorem execSectorEraseComplete_stepsTo (s : State) : s.StepsTo (execSectorEraseComplete s) := by
  refine .keeps ?_
  split <;> simp

/-! ### The sensor front end -/

@[simp] theorem execAfeResultLatch_stepsTo (channel : Fin 16) (m : AfeMeasure) (s : State) : s.StepsTo
    (execAfeResultLatch channel m s) := by
  obtain ⟨w, u, hx, hu⟩ : ∃ w u, s.windowEnd channel = (w, u) ∧ s.KeepsCounts u := ⟨_, _, rfl, (s.windowEnd_keepsCore channel).1⟩
  unfold execAfeResultLatch
  extract_lets ch
  rw [show s.windowEnd ch = (w, u) from hx]
  refine .keeps ?_
  split
  · simp
  · split
    · simp
    · dsimp only
      split <;> simp [hu]
@[simp] theorem execShuntOpen_stepsTo (channel : Fin 16) (s0 : State) : s0.StepsTo (execShuntOpen channel s0) := .keeps (by simp)
@[simp] theorem execShuntClose_stepsTo (channel : Fin 16) (s0 : State) : s0.StepsTo (execShuntClose channel s0) := by
  refine .keeps ?_
  split <;> simp
@[simp] theorem execClampConduction_stepsTo (channel : Fin 16) (s : State) : s.StepsTo (execClampConduction channel s) := .keeps (by simp)
@[simp] theorem execAfeListenTimeout_stepsTo (s : State) : s.StepsTo (execAfeListenTimeout s) := .keeps (by simp)

/-! ### Field inputs and outputs -/

@[simp] theorem execClaimSlotEdge_stepsTo (s : State) : s.StepsTo (execClaimSlotEdge s) := .keeps (by simp)
@[simp] theorem execClaimFrameReceived_stepsTo (word : Word) (flags : Byte) (crc : Half) (s : State) :
    s.StepsTo (execClaimFrameReceived word flags crc s) :=
  .keeps (by simp)
@[simp] theorem execOwnClaimStale_stepsTo (s : State) : s.StepsTo (execOwnClaimStale s) := .keeps (by simp)
@[simp] theorem execTwinClaimStale_stepsTo (s : State) : s.StepsTo (execTwinClaimStale s) := .keeps (by simp)
@[simp] theorem execDiLevelChange_stepsTo (input : Fin 24) (level : Bool) (s : State) :
    s.StepsTo (execDiLevelChange input level s) :=
  .keeps (by simp)
@[simp] theorem execDiDebounceAccept_stepsTo (input : Fin 24) (s : State) : s.StepsTo (execDiDebounceAccept input s) := by
  refine .keeps ?_
  split <;> simp
@[simp] theorem execOverload_stepsTo (output : Fin 12) (s : State) : s.StepsTo (execOverload output s) := .keeps (by simp)
@[simp] theorem execThermalShutdown_stepsTo (output : Fin 12) (s : State) : s.StepsTo (execThermalShutdown output s) := .keeps (by simp)
@[simp] theorem execThermalRestart_stepsTo (output : Fin 12) (s : State) : s.StepsTo (execThermalRestart output s) := .keeps (by simp)
@[simp] theorem execOpenWire_stepsTo (output : Fin 12) (s : State) : s.StepsTo (execOpenWire output s) := .keeps (by simp)
@[simp] theorem execOpenWireClear_stepsTo (output : Fin 12) (s : State) : s.StepsTo (execOpenWireClear output s) := .keeps (by simp)
@[simp] theorem execFlashingSlot_stepsTo (s : State) : s.StepsTo (execFlashingSlot s) := .keeps (by simp)
@[simp] theorem execClaimFrameSend_stepsTo (s : State) : s.StepsTo (execClaimFrameSend s) := by
  refine .keeps ?_
  split <;> simp
@[simp] theorem execDownlinkFrameReceived_stepsTo (frame : List Byte) (s : State) :
    s.StepsTo (execDownlinkFrameReceived frame s) :=
  .keeps (by simp)
@[simp] theorem execSafeStateTimeout_stepsTo (group : Fin 3) (s : State) : s.StepsTo (execSafeStateTimeout group s) := .keeps (by simp)
@[simp] theorem execUplinkFrameReceived_stepsTo (frame : List Byte) (s : State) :
    s.StepsTo (execUplinkFrameReceived frame s) :=
  .keeps (by simp)
@[simp] theorem execInputsStale_stepsTo (s : State) : s.StepsTo (execInputsStale s) := .keeps (by simp)
@[simp] theorem execFieldLinkYield_stepsTo (s : State) : s.StepsTo (execFieldLinkYield s) := by
  refine .keeps ?_
  split <;> simp
@[simp] theorem execReadbackFault_stepsTo (output : Fin 12) (s : State) : s.StepsTo (execReadbackFault output s) := .keeps (by simp)
@[simp] theorem execDisagree_stepsTo (line : FieldLine) (s : State) : s.StepsTo (execDisagree line s) := by
  refine .keeps ?_
  split <;> simp

/-! ### The UARTs -/

@[simp] theorem execUartCharReceived_stepsTo (u : Uart) (c : Byte) (lineError : Bool) (s : State) :
    s.StepsTo (execUartCharReceived u c lineError s) :=
  .keeps (by simp)
@[simp] theorem execUartIdleHandoff_stepsTo (u : Uart) (s : State) : s.StepsTo (execUartIdleHandoff u s) := .keeps (by simp)
@[simp] theorem execUartFrameReceived_stepsTo (u : TurwaUart) (frame : List Byte) (s : State) :
    s.StepsTo (execUartFrameReceived u frame s) := by
  refine .keeps ?_
  dsimp only
  (repeat' split) <;> simp
@[simp] theorem execCtsChange_stepsTo (u : Uart) (high : Bool) (s : State) : s.StepsTo (execCtsChange u high s) := .keeps (by simp)
@[simp] theorem execDriverEnableFallback_stepsTo (line : DriverLine) (s : State) : s.StepsTo (execDriverEnableFallback line s) := by
  refine .keeps ?_
  split <;> simp

/-! ### The bridge line -/

@[simp] theorem execAcnReceived_stepsTo (text : List Byte) (s : State) : s.StepsTo (execAcnReceived text s) := by
  refine .keeps ?_
  dsimp only
  (repeat' split) <;> simp
@[simp] theorem execZdaReceived_stepsTo (text : List Byte) (s : State) : s.StepsTo (execZdaReceived text s) := by
  refine .keeps ?_
  dsimp only
  (repeat' split) <;> simp
@[simp] theorem execOtherSentenceReceived_stepsTo (text : List Byte) (s : State) : s.StepsTo (execOtherSentenceReceived text s) := by
  refine .keeps ?_
  dsimp only
  (repeat' split) <;> simp
@[simp] theorem execBridgeSilenceExpiry_stepsTo (point : Fin 2080) (s : State) :
    s.StepsTo (execBridgeSilenceExpiry point s) :=
  .keeps (by simp)
@[simp] theorem execAlfRepeat_stepsTo (point : Fin 2080) (s : State) : s.StepsTo (execAlfRepeat point s) := .keeps (by simp)
@[simp] theorem execAlcList_stepsTo (s : State) : s.StepsTo (execAlcList s) := .keeps (by simp)

/-! ### CAN -/

@[simp] theorem execCanBusError_stepsTo (c : CanNo) (err : CanError) (s : State) : s.StepsTo (execCanBusError c err s) := by
  refine .keeps ?_
  dsimp only
  (repeat' split) <;> simp
@[simp] theorem execLone_stepsTo (c : CanNo) (s : State) : s.StepsTo (execLone c s) := .keeps (by simp)
@[simp] theorem execLoneRetry_stepsTo (c : CanNo) (s : State) : s.StepsTo (execLoneRetry c s) := .keeps (by simp)
@[simp] theorem execBusOffRecovery_stepsTo (c : CanNo) (s : State) : s.StepsTo (execBusOffRecovery c s) := .keeps (by simp)
@[simp] theorem execProtocolException_stepsTo (c : CanNo) (s : State) : s.StepsTo (execProtocolException c s) := .keeps (by simp)
@[simp] theorem execCanFrameReceived_stepsTo (c : CanNo) (ident : BitVec 29) (s : State) :
    s.StepsTo (execCanFrameReceived c ident s) :=
  .keeps (by simp)
@[simp] theorem execTurwaSegmentReceived_stepsTo (c : CanNo) (ident : BitVec 29) (payload : List Byte) (s : State) :
    s.StepsTo (execTurwaSegmentReceived c ident payload s) := by
  refine .keeps ?_
  dsimp only
  (repeat' split) <;> simp
@[simp] theorem execCanTrainTimeout_stepsTo (c : CanNo) (src : BitVec 7) (train : Byte) (s : State) :
    s.StepsTo (execCanTrainTimeout c src train s) := by
  refine .keeps ?_
  split <;> simp
@[simp] theorem execTimeLabelReceived_stepsTo (c : CanNo) (payload : List Byte) (s : State) :
    s.StepsTo (execTimeLabelReceived c payload s) :=
  .keeps (by simp)
@[simp] theorem execSysState_stepsTo (s : State) : s.StepsTo (execSysState s) := .keeps (by simp)
@[simp] theorem execStationMessage_stepsTo (station : Fin 16) (s : State) : s.StepsTo (execStationMessage station s) := .keeps (by simp)
@[simp] theorem execTransmissionComplete_stepsTo (port : OutLine) (s : State) : s.StepsTo (execTransmissionComplete port s) := by
  refine .keeps ?_
  dsimp only
  (repeat' split) <;> simp

/-! ### JTAG -/

@[simp] theorem execJtagTrst_stepsTo (high : Bool) (s : State) : s.StepsTo (execJtagTrst high s) := .keeps (by simp)
@[simp] theorem execJtagInstructionUpdate_stepsTo (code : BitVec 5) (s : State) :
    s.StepsTo (execJtagInstructionUpdate code s) :=
  .keeps (by simp)
@[simp] theorem execJtagTckEdge_stepsTo (rising tms tdi : Bool) (s : State) :
    s.StepsTo (execJtagTckEdge rising tms tdi s) :=
  .keeps (by simp)

/-! ### The pair -/

@[simp] theorem execPeriodicSwapDue_stepsTo (s : State) : s.StepsTo (execPeriodicSwapDue s) := .keeps (by simp)

/-! ### The engine's steps -/

@[simp] theorem execSensorFaultOverride_stepsTo (point : Fin 2080) (s : State) :
    s.StepsTo (execSensorFaultOverride point s) :=
  .keeps (by simp)
@[simp] theorem execOnDelayExpiry_stepsTo (point : Fin 2080) (s : State) : s.StepsTo (execOnDelayExpiry point s) := .keeps (by simp)
@[simp] theorem execOffDelayExpiry_stepsTo (point : Fin 2080) (s : State) : s.StepsTo (execOffDelayExpiry point s) := .keeps (by simp)
@[simp] theorem execShelveExpiry_stepsTo (point : Fin 2080) (s : State) : s.StepsTo (execShelveExpiry point s) := .keeps (by simp)
@[simp] theorem execRearmExpiry_stepsTo (rule : Fin 256) (s : State) : s.StepsTo (execRearmExpiry rule s) := .keeps (by simp)
@[simp] theorem execRateSample_stepsTo (s : State) : s.StepsTo (execRateSample s) := .keeps (by simp)
@[simp] theorem execRosterSchedule_stepsTo (s : State) : s.StepsTo (execRosterSchedule s) := .keeps (by simp)
@[simp] theorem execCallDelayExpiry_stepsTo (s : State) : s.StepsTo (execCallDelayExpiry s) := .keeps (by simp)
@[simp] theorem execEscalationExpiry_stepsTo (s : State) : s.StepsTo (execEscalationExpiry s) := .keeps (by simp)
@[simp] theorem execAttendanceExpiry_stepsTo (s : State) : s.StepsTo (execAttendanceExpiry s) := .keeps (by simp)
@[simp] theorem execDeadmanWarning_stepsTo (station : Fin 16) (s : State) : s.StepsTo (execDeadmanWarning station s) := .keeps (by simp)
@[simp] theorem execDeadmanExpiry_stepsTo (station : Fin 16) (s : State) : s.StepsTo (execDeadmanExpiry station s) := .keeps (by simp)
@[simp] theorem execForceLimitExpiry_stepsTo (node : Fin 16) (output : Fin 12) (s : State) :
    s.StepsTo (execForceLimitExpiry node output s) :=
  .keeps (by simp)

/-! ### Keys, consent and debug -/

@[simp] theorem execTokenExpiry_stepsTo (s : State) : s.StepsTo (execTokenExpiry s) := .keeps (by simp)

/-! ### Resets and the start -/

@[simp] theorem execPowerOn_stepsTo (s : State) : s.StepsTo (execPowerOn s) := .keeps (by simp)
@[simp] theorem execSupplyBrownout_stepsTo (rail : LogicRail) (s : State) : s.StepsTo (execSupplyBrownout rail s) := .keeps (by simp)
@[simp] theorem execEaveSupplyChangeover_stepsTo (toVback : Bool) (s : State) :
    s.StepsTo (execEaveSupplyChangeover toVback s) :=
  .keeps (by simp)
@[simp] theorem execEaveSupplyLost_stepsTo (s : State) : s.StepsTo (execEaveSupplyLost s) := by
  unfold execEaveSupplyLost
  split
  · exact .keeps (by simp)
  · exact ⟨_, rfl, rfl, fun _ => s.eave.afterLoss_countersFit s.time⟩
@[simp] theorem execVafeLost_stepsTo (s : State) : s.StepsTo (execVafeLost s) := .keeps (by simp)
@[simp] theorem execVafeReturn_stepsTo (s : State) : s.StepsTo (execVafeReturn s) := .keeps (by simp)
@[simp] theorem execVfldLost_stepsTo (s : State) : s.StepsTo (execVfldLost s) := .keeps (by simp)
@[simp] theorem execVfldPowerUp_stepsTo (s : State) : s.StepsTo (execVfldPowerUp s) := .keeps (by simp)
@[simp] theorem execReferenceLoss_stepsTo (s : State) : s.StepsTo (execReferenceLoss s) := .keeps (by simp)
@[simp] theorem execReferenceReturn_stepsTo (s : State) : s.StepsTo (execReferenceReturn s) := .keeps (by simp)
@[simp] theorem execResetNAssert_stepsTo (s : State) : s.StepsTo (execResetNAssert s) := .keeps (by simp)
@[simp] theorem execStuckReset_stepsTo (s : State) : s.StepsTo (execStuckReset s) := by
  unfold execStuckReset
  split
  · exact ⟨_, rfl, rfl, fun h => h.count 14⟩
  · exact .keeps (by simp)
@[simp] theorem execResetNRearm_stepsTo (s : State) : s.StepsTo (execResetNRearm s) := .keeps (by simp)
@[simp] theorem execWdogCmd_stepsTo (s : State) : s.StepsTo (execWdogCmd s) := .keeps (by simp)
@[simp] theorem execWdogScan_stepsTo (s : State) : s.StepsTo (execWdogScan s) := .keeps (by simp)
@[simp] theorem execWdogHouse_stepsTo (s : State) : s.StepsTo (execWdogHouse s) := .keeps (by simp)
@[simp] theorem execTamper_stepsTo (x0 : TamperDetector) (s : State) : s.StepsTo (execTamper x0 s) := .keeps (by simp)
@[simp] theorem execOverTemp_stepsTo (s : State) : s.StepsTo (execOverTemp s) := .keeps (by simp)
@[simp] theorem execOverTempRelease_stepsTo (s : State) : s.StepsTo (execOverTempRelease s) := .keeps (by simp)
@[simp] theorem execTwinRequest_stepsTo (s : State) : s.StepsTo (execTwinRequest s) := .keeps (by simp)
@[simp] theorem execRingOrder_stepsTo (s : State) : s.StepsTo (execRingOrder s) := .keeps (by simp)
@[simp] theorem execMemEcc_stepsTo (site : EccSite) (s : State) : s.StepsTo (execMemEcc site s) := by
  refine .keeps ?_
  dsimp only
  (repeat' split) <;> simp
@[simp] theorem execNodeResetStart_stepsTo (s : State) : s.StepsTo (execNodeResetStart s) := by
  refine .keeps ?_
  split <;> simp
@[simp] theorem execResetRelease_stepsTo (env : StartEnv) (s : State) : s.StepsTo (execResetRelease env s) := by
  unfold execResetRelease
  split
  · exact .keeps (by simp)
  · extract_lets m rst clk s1 s2 forced chosen rst2 eave2 s3
    have h2 : s.KeepsRange s2 := State.KeepsRange.trans (u := s1) (.of_counts (by simp [s1])) s1.startEave_keepsRange
    have h3 : s2.KeepsCounts s3 := ⟨rfl, rfl⟩
    clear_value s3 chosen
    refine ⟨_, rfl, h2.trans (.of_counts ?_)⟩
    split
    · simp [h3]
    · split
      · simp [h3]
      · split <;> simp [h3]
@[simp] theorem execStartTimeout_stepsTo (s : State) : s.StepsTo (execStartTimeout s) := .keeps (by simp)
@[simp] theorem execDownloadTimeout_stepsTo (s : State) : s.StepsTo (execDownloadTimeout s) := .keeps (by simp)
@[simp] theorem execStartingTimeout_stepsTo (worker : Fin 16) (s : State) : s.StepsTo (execStartingTimeout worker s) := .keeps (by simp)
@[simp] theorem execIslandClockFault_stepsTo (island : Fin 7) (s : State) : s.StepsTo (execIslandClockFault island s) := .keeps (by simp)

/-! ### Work in the NV array -/

@[simp] theorem execNvScrub_stepsTo (weakSectors : List Nat) (s : State) : s.StepsTo (execNvScrub weakSectors s) := .keeps (by simp)
@[simp] theorem execHousekeepingSlot_stepsTo (s : State) : s.StepsTo (execHousekeepingSlot s) := .keeps (by simp)
@[simp] theorem execBackgroundReferee_stepsTo (pass : Bool) (s : State) : s.StepsTo (execBackgroundReferee pass s) := .keeps (by simp)
@[simp] theorem execAgingReading_stepsTo (island : Fin 7) (osc leak : Nat) (s : State) :
    s.StepsTo (execAgingReading island osc leak s) :=
  .keeps (by simp)
@[simp] theorem execAgingDailyMean_stepsTo (island : Fin 7) (s : State) : s.StepsTo (execAgingDailyMean island s) := .keeps (by simp)

/-! ### The batch -/

@[simp] theorem execNvProgramComplete_stepsTo (s : State) : s.StepsTo (execNvProgramComplete s) := by
  refine .keeps ?_
  dsimp only
  (repeat' split) <;> simp

/-! ### The mirror -/

@[simp] theorem execMirrorReceived_stepsTo (packet : List Byte) (s : State) : s.StepsTo (execMirrorReceived packet s) := by
  obtain ⟨p, u, hx, hu⟩ := s.takeRidge_result kMIRROR packet
  unfold execMirrorReceived
  rw [hx]
  refine .keeps ?_
  split <;> simp [hu]
@[simp] theorem execMirrorDeadline_stepsTo (s : State) : s.StepsTo (execMirrorDeadline s) := .keeps (by simp)

/-! ### The frame on the ring -/

@[simp] theorem execRelayCopy_stepsTo (packet : List Byte) (s : State) : s.StepsTo (execRelayCopy packet s) := by
  obtain ⟨p, u, hx, hu⟩ := s.takeRidge_result kRELAY packet
  unfold execRelayCopy
  rw [hx]
  refine .keeps ?_
  split <;> simp [hu]
@[simp] theorem execTokenReceived_stepsTo (side : RingSide) (b : List Byte) (s : State) : s.StepsTo (execTokenReceived side b s) :=
  .keeps (State.takeCell_keepsCore (fun u c => by split <;> simp) ..).1
@[simp] theorem execRelayReceived_stepsTo (side : RingSide) (b : List Byte) (s : State) : s.StepsTo (execRelayReceived side b s) :=
  .keeps (State.takeCell_keepsCore (fun u c => by split <;> simp) ..).1
@[simp] theorem execClaimCellReceived_stepsTo (side : RingSide) (b : List Byte) (s : State) : s.StepsTo (execClaimCellReceived side b s) :=
  .keeps (State.takeCell_keepsCore (fun u c => by split <;> simp) ..).1
@[simp] theorem execIsolated_stepsTo (s : State) : s.StepsTo (execIsolated s) := .keeps (by simp)
@[simp] theorem execDataCellSend_stepsTo (s : State) : s.StepsTo (execDataCellSend s) := .keeps (by simp)
@[simp] theorem execDataCellReceived_stepsTo (side : RingSide) (b : List Byte) (s : State) : s.StepsTo (execDataCellReceived side b s) :=
  .keeps (State.takeCell_keepsCore (fun u c => by split <;> simp) ..).1
@[simp] theorem execRingData_stepsTo (packet : List Byte) (s : State) : s.StepsTo (execRingData packet s) := by
  obtain ⟨p, u, hx, hu⟩ := s.takeRidge_result kRINGDATA packet
  unfold execRingData
  rw [hx]
  refine .keeps ?_
  split
  · simp [hu]
  · split <;> simp [hu]
@[simp] theorem execWorkerDataDeadline_stepsTo (s : State) : s.StepsTo (execWorkerDataDeadline s) := .keeps (by simp)
@[simp] theorem execWorkerRoundTimeout_stepsTo (s : State) : s.StepsTo (execWorkerRoundTimeout s) := .keeps (by simp)

/-! ### Ring commands -/

@[simp] theorem execScanCellReceived_stepsTo (side : RingSide) (cell : List Byte) (s : State) :
    s.StepsTo (execScanCellReceived side cell s) := by
  refine .keeps ?_
  dsimp only
  (repeat' split) <;> simp
@[simp] theorem execAdmitCellReceived_stepsTo (side : RingSide) (cell : List Byte) (s : State) :
    s.StepsTo (execAdmitCellReceived side cell s) := by
  refine .keeps ?_
  dsimp only
  (repeat' split) <;> simp
@[simp] theorem execTrainSegmentReceived_stepsTo (side : RingSide) (b : List Byte) (s : State) : s.StepsTo
    (execTrainSegmentReceived side b s) := by
  refine .keeps (State.takeCell_keepsCore (fun u c => ?_) ..).1
  have hu : u.KeepsCore (u.joinTrain c).2 := u.joinTrain_keepsCore c
  split
  · simp
  · split <;> next heq => simp [heq] at hu; simp [hu]
@[simp] theorem execResendReceived_stepsTo (side : RingSide) (cell : List Byte) (s : State) :
    s.StepsTo (execResendReceived side cell s) := by
  refine .keeps ?_
  dsimp only
  (repeat' split) <;> simp
@[simp] theorem execRingSegmentTrain_stepsTo (side : RingSide) (delayNs : Nat) (s : State) :
    s.StepsTo (execRingSegmentTrain side delayNs s) :=
  .keeps (by simp)
@[simp] theorem execCommandTimeout_stepsTo (session : Half) (seq : Word) (s : State) :
    s.StepsTo (execCommandTimeout session seq s) :=
  .keeps (by simp)

/-! ### The twin -/

@[simp] theorem execRidgeLinkTrain_stepsTo (laneSwap : Bool) (ownNonce twinNonce : List Byte) (delayNs : Nat) (s : State) :
    s.StepsTo (execRidgeLinkTrain laneSwap ownNonce twinNonce delayNs s) :=
  .keeps (by simp)
@[simp] theorem execRidgeResendTimeout_stepsTo (s : State) : s.StepsTo (execRidgeResendTimeout s) := by
  refine .keeps ?_
  split <;> simp
@[simp] theorem execAckPacket_stepsTo (packet : List Byte) (s : State) : s.StepsTo (execAckPacket packet s) := .keeps (by simp)
@[simp] theorem execAckPacketDue_stepsTo (s : State) : s.StepsTo (execAckPacketDue s) := by
  refine .keeps ?_
  split <;> simp
@[simp] theorem execMarker_stepsTo (packet : List Byte) (s : State) : s.StepsTo (execMarker packet s) := by
  obtain ⟨p, u, hx, hu⟩ := s.takeRidge_result kMARKER packet
  unfold execMarker
  rw [hx]
  refine .keeps ?_
  split <;> simp [hu]
@[simp] theorem execForward_stepsTo (packet : List Byte) (s : State) : s.StepsTo (execForward packet s) := by
  obtain ⟨p, u, hx, hu⟩ := s.takeRidge_result kFORWARD packet
  unfold execForward
  rw [hx]
  refine .keeps ?_
  split
  · simp [hu]
  · split
    · simp [hu]
    · split <;> simp [hu]
@[simp] theorem execPairing_stepsTo (packet : List Byte) (s : State) : s.StepsTo (execPairing packet s) := by
  obtain ⟨p, u, hx, hu⟩ := s.takeRidge_result kPAIRING packet
  unfold execPairing
  rw [hx]
  refine .keeps ?_
  split <;> simp [hu]
@[simp] theorem execTurwa_stepsTo (packet : List Byte) (s : State) : s.StepsTo (execTurwa packet s) := by
  obtain ⟨p, u, hx, hu⟩ := s.takeRidge_result kTURWA packet
  unfold execTurwa
  rw [hx]
  refine .keeps ?_
  split
  · simp
  · split <;> simp [hu]

/-! ### Resynchronisation -/

@[simp] theorem execStatePacket_stepsTo (packet : List Byte) (s : State) : s.StepsTo (execStatePacket packet s) := by
  obtain ⟨p, u, hx, hu⟩ := s.takeRidge_result kSTATE packet
  unfold execStatePacket
  rw [hx]
  refine .keeps ?_
  split <;> simp [hu]
@[simp] theorem execControl_stepsTo (packet : List Byte) (s : State) : s.StepsTo (execControl packet s) := by
  obtain ⟨p, u, hx, hu⟩ := s.takeRidge_result kCONTROL packet
  unfold execControl
  rw [hx]
  refine .keeps ?_
  split <;> simp [hu]
@[simp] theorem execCounterSave_stepsTo (s : State) : s.StepsTo (execCounterSave s) := .keeps (by simp)

/-! ### The frame -/

@[simp] theorem execUnpegged_stepsTo (s : State) : s.StepsTo (execUnpegged s) := .keeps (by simp)
@[simp] theorem execFrameStart_stepsTo (s : State) : s.StepsTo (execFrameStart s) := .keeps (by simp)
@[simp] theorem execListenWindowEnd_stepsTo (s : State) : s.StepsTo (execListenWindowEnd s) := .keeps (by simp)
@[simp] theorem execFrameEvaluation_stepsTo (lanesAgree : Bool) (s : State) :
    s.StepsTo (execFrameEvaluation lanesAgree s) :=
  .keeps (by simp)
@[simp] theorem execDigestExchange_stepsTo (s : State) : s.StepsTo (execDigestExchange s) := by
  refine .keeps ?_
  split <;> simp
@[simp] theorem execDigestReceived_stepsTo (packet : List Byte) (s : State) : s.StepsTo (execDigestReceived packet s) := by
  obtain ⟨p, u, hx, hu⟩ := s.takeRidge_result kDIGEST packet
  unfold execDigestReceived
  rw [hx]
  refine .keeps ?_
  split <;> simp [hu]

/-! ### The host port -/

@[simp] theorem execWritePacket_stepsTo (bytes : List Byte) (s : State) : s.StepsTo (execWritePacket bytes s) := .keeps (by simp)
@[simp] theorem execReadPacket_stepsTo (clocked : Nat) (s : State) : s.StepsTo (execReadPacket clocked s) := .keeps (by simp)
@[simp] theorem execReadReg_stepsTo (addr : Byte) (words : Nat) (s : State) : s.StepsTo (execReadReg addr words s) := .keeps (by simp)
@[simp] theorem execWriteReg_stepsTo (addr : Byte) (words : List Word) (s : State) :
    s.StepsTo (execWriteReg addr words s) :=
  .keeps (by simp)
@[simp] theorem execPortIrqClear_stepsTo (value : Word) (s : State) : s.StepsTo (execPortIrqClear value s) := .keeps (by simp)
@[simp] theorem execPortIrqMaskWrite_stepsTo (value : Word) (s : State) : s.StepsTo (execPortIrqMaskWrite value s) := .keeps (by simp)
@[simp] theorem execPortCfgWrite_stepsTo (value : Word) (s : State) : s.StepsTo (execPortCfgWrite value s) := .keeps (by simp)
@[simp] theorem execHostBadCommand_stepsTo (cmd : Byte) (s : State) : s.StepsTo (execHostBadCommand cmd s) := .keeps (by simp)

/-! ### The peg -/

@[simp] theorem execPegDecision_stepsTo (s : State) : s.StepsTo (execPegDecision s) := .keeps (by simp)

/-! ### Sessions -/

@[simp] theorem execSessionIdleTimeout_stepsTo (session : Half) (s : State) : s.StepsTo (execSessionIdleTimeout session s) := by
  refine .keeps ?_
  split <;> simp
@[simp] theorem execProveTimeout_stepsTo (session : Half) (s : State) : s.StepsTo (execProveTimeout session s) := by
  refine .keeps ?_
  split <;> simp
@[simp] theorem execKeyLockExpiry_stepsTo (port : Port) (key : Fin 24) (s : State) :
    s.StepsTo (execKeyLockExpiry port key s) :=
  .keeps (by simp)
@[simp] theorem execEventCreditRelease_stepsTo (session : Half) (echo : Word) (s : State) :
    s.StepsTo (execEventCreditRelease session echo s) := by
  refine .keeps ?_
  split <;> simp
@[simp] theorem execReplyRelease_stepsTo (session : Half) (s : State) : s.StepsTo (execReplyRelease session s) := .keeps (by simp)

/-! ### Every command -/

@[simp] theorem cmdKeyLoad_run_keepsCounts (s : State) (t : Tag) (w : Who) : s.KeepsCounts (cmdKeyLoad.run s t w) := by
  dsimp only [cmdKeyLoad]
  split
  · simp
  · next k u heq => simp [s.decrypt_keepsCore heq]

theorem requestOf_run_keepsCounts {i : Instr} {c : Cmd} {r : Req} (h : requestOf i = some (c, r)) (s : State) (t : Tag) (w : Who) :
    s.KeepsCounts (c.run s t w) := by
  cases i <;> cases h <;> simp [
    cmdGetAttr, cmdGetRange, cmdSetAttr, cmdStageBegin, cmdStageCommit, cmdStageDrop, cmdBlockResetGraceful,
    cmdBlockResetImmediate, cmdSelftest, cmdIslandRate, cmdDomainSetOff, cmdDomainSetOn, cmdDomainSetLaidUp,
    cmdAgingRead, cmdResetCountersRead, cmdNodeResetWarm, cmdNodeResetPowerOn, cmdAck, cmdSilence, cmdShelve,
    cmdUnshelve, cmdDutySelect, cmdCallAccept, cmdDeadmanResetRestart, cmdDeadmanResetStart,
    cmdDeadmanResetStop, cmdAlarmList, cmdOutputForce, cmdOutputRelease, cmdTimeSet, cmdTimeShift, cmdHourAdd,
    cmdHourSub, cmdWeekdaySet, cmdChargerSet, cmdWakeSet, cmdBackupEventsRead, cmdLogRead, cmdGutterRead,
    cmdLogMark, cmdLogPolicy, cmdGutterSave, cmdCalZero, cmdCalSpan, cmdCalRead, cmdPairBind, cmdPairUnbind,
    cmdSwapNow, cmdSwapPolicy, cmdYieldRole, cmdPairStatus, cmdMatrixRead, cmdMatrixWrite, cmdSeal,
    cmdUnsealRelease, cmdUnsealBreak, cmdKeyRetire, cmdAttest, cmdConsentIssue, cmdConsentEnter,
    cmdConsentLeave, cmdDebugUnlock, cmdImageBegin, cmdImageBlock, cmdImageVerify, cmdImageActivate,
    cmdRingStatus, cmdRingScan, cmdRingAdmit, cmdRingExpel, cmdHello, cmdFeatures, cmdOpen, cmdProve,
    cmdClose, cmdPing]

theorem exec_stepsTo (i : Instr) (s : State) : s.StepsTo (exec i s) := by
  cases hr : requestOf i with
  | some cr =>
    rw [exec_of_requestOf hr]
    exact .keeps (State.execute_keepsCounts (requestOf_run_keepsCounts hr) ..)
  | none => cases i <;> simp [requestOf] at hr <;> simp [exec]

end Sys2Proof.Machine
end

section
open Sys2Proof Sys2Proof.Machine

/-- Settles O3: each row's answer, as exec_stepsTo gives it. -/
theorem everyCommandAnswersAndKeepsTheQueue : Obligations.EveryCommandAnswersAndKeepsTheQueue := by
  intro c s
  obtain ⟨t, ht, hq, -⟩ := exec_stepsTo c s
  exact ⟨t, ht, hq⟩

/-- Settles O6: a tick leaves EAVE alone, and a command keeps the counters' range, whatever waits behind it. -/
theorem resetCountersKeepTheirRange : Obligations.ResetCountersKeepTheirRange := by
  intro s t hs ht
  unfold step at ht
  split at ht
  · cases ht
    unfold State.tick
    split <;> exact hs
  · next c cs _ =>
    obtain ⟨u, hu, -, hc⟩ := exec_stepsTo c { s with pending := cs }
    cases hu.symm.trans ht
    exact hc hs

end

section
/-! SUPPORT. Sessions: what a reply leaves of them, the commands that open, prove and settle one (R112, R115, R155, R157), and the
resets that a command orders (R85, R189). -/

namespace Sys2Proof.Machine

/-! ### What a reply leaves -/

/-- A reply of a fixed count: the queue of its port, and the sessions as they were. -/
theorem State.answerF_stay (s : State) (t : Tag) (st : Status) (ps : List Byte) (n : Nat) : s.SessionsStay (s.answerF t st ps n) :=
  s.ready_stay ..

theorem Who.partSize_ge (w : Who) : 256 ≤ partSize w := by
  unfold partSize; split <;> omega

/-- A reply of one part takes the same ticks in every state. -/
theorem State.execF_short {ps : List Byte} (h : ps.length ≤ 256) (s u : State) (t : Tag) (n : Nat) : u.execF t ps n = s.execF t ps n := by
  unfold State.execF
  rw [Nat.min_eq_left (h.trans (Who.partSize_ge _)), Nat.min_eq_left (h.trans (Who.partSize_ge _))]

/-- A short reply made ready after a change that leaves the ports, the tags and the held replies alone. -/
theorem State.answerF_answers {s s1 : State} (hp : s1.comm.ports = s.comm.ports) (hh : s1.comm.held = s.comm.held)
    (ht : s1.comm.tags = s.comm.tags) (t : Tag) (st : Status) {ps : List Byte} (hl : ps.length ≤ 256) (n : Nat) :
    s.Answered (s1.answerF t st ps n) t st ps (s.execF t ps n) := by
  rw [← State.execF_short hl s s1]
  exact (s1.answerF_spec t st ps n).1.of_comm hp hh ht

/-- A session that stays is found as it was, but for its window and its sent count. -/
theorem State.SessionsStay.sess? {s u : State} (h : s.SessionsStay u) (p : Port) (n : Half) :
    (u.sess? p n).map Sess.own = (s.sess? p n).map Sess.own := by
  have find (l : List Sess) : (l.find? (fun x => x.port == p && x.num == n)).map Sess.own
      = (l.map Sess.own).find? (fun x => x.port == p && x.num == n) := by
    rw [List.find?_map]; rfl
  obtain ⟨hs, -⟩ := h
  unfold State.sess?
  rw [find, find, hs]

theorem State.SessionsStay.sess?_some {s u : State} (h : s.SessionsStay u) {p : Port} {n : Half} {x : Sess}
    (hx : s.sess? p n = some x) : ∃ y, u.sess? p n = some y ∧ y.own = x.own := by
  have hy := h.sess? p n
  rw [hx] at hy
  exact Option.map_eq_some_iff.1 hy

theorem State.SessionsStay.lockOf {s u : State} (h : s.SessionsStay u) (p : Port) (k : Nat) : u.lockOf p k = s.lockOf p k := by
  obtain ⟨-, hc⟩ := h
  unfold State.lockOf
  rw [hc]

theorem State.KeepsAllButReplies.fields {s u : State} (h : s.KeepsAllButReplies u) :
    u.rst = s.rst ∧ u.peg = s.peg ∧ u.keys = s.keys ∧ u.images = s.images := by
  unfold State.KeepsAllButReplies at h
  rw [h]
  exact ⟨rfl, rfl, rfl, rfl⟩

/-! ### Finding and changing a session -/

theorem State.sess?_names {s : State} {p : Port} {n : Half} {x : Sess} (h : s.sess? p n = some x) : x.port = p ∧ x.num = n := by
  simpa using List.find?_some h

/-- A change that keeps a session's port and number is found where the session was. -/
theorem State.sess?_modSess {f : Sess → Sess} (hp : ∀ x, (f x).port = x.port) (hn : ∀ x, (f x).num = x.num) (s : State) (p : Port)
    (n : Half) : (s.modSess p n f).sess? p n = (s.sess? p n).map f := by
  have hf : ((fun x : Sess => x.port == p && x.num == n) ∘ fun x => if x.port = p ∧ x.num = n then f x else x)
      = fun x => x.port == p && x.num == n := by
    funext x
    simp only [Function.comp]
    split <;> simp [hp, hn]
  unfold State.sess? State.modSess
  rw [List.find?_map, hf]
  cases hx : s.comm.sessions.find? (fun x => x.port == p && x.num == n) with
  | none => rfl
  | some x =>
    have := State.sess?_names (s := s) hx
    simp [this]

theorem State.sess?_closeSession (s : State) (p : Port) (n : Half) : (s.closeSession p n).sess? p n = none := by
  unfold State.sess? State.closeSession
  rw [List.find?_eq_none]
  intro x hx
  simpa [← not_and_or] using (List.mem_filter.1 hx).2

/-- The lock that is stored is the one that is found. -/
theorem State.lockOf_setLock (s : State) (k : KeyLock) : (s.setLock k).lockOf k.port k.key = k := by
  have h : (s.comm.locks.filter (fun x => !(x.port == k.port && x.key == k.key))).find? (fun x => x.port == k.port && x.key == k.key)
      = none := by
    rw [List.find?_eq_none]
    intro x hx
    simpa [← not_and_or] using (List.mem_filter.1 hx).2
  have hk : (s.setLock k).comm.locks.find? (fun x => x.port == k.port && x.key == k.key) = some k := by
    unfold State.setLock
    rw [List.find?_append, h]
    simp
  unfold State.lockOf
  rw [hk]

theorem State.lockOf_names (s : State) (p : Port) (i : Nat) : (s.lockOf p i).port = p ∧ (s.lockOf p i).key = i := by
  unfold State.lockOf
  split
  · next k hk => simpa using List.find?_some hk
  · exact ⟨rfl, rfl⟩

/-! ### What step 4 of R143 lets pass -/

theorem State.Runs.check_none {s : State} {c : Cmd} {r : Req} {t : Tag} (h : s.Runs c r t) : c.check s (s.who r) r = none := by
  obtain ⟨ht, hv, hh⟩ := h
  obtain rfl := ht.same
  have hw : ¬ (s.forWorker c.op t.req = true ∧ ¬ s.staging c.op t.req = true) := by rcases hh with h | h <;> simp [h]
  unfold State.Passes State.verdict at hv
  simp only [hw, if_false] at hv
  split at hv
  · cases hv
  · split at hv
    · cases hv
    · split at hv
      · cases hv
      · split at hv
        · cases hv
        · exact hv

/-! ### FEATURES (R115) -/

/-- A session with its features settled. -/
def Sess.settle (x : Sess) (a : BitVec 128) (m : Word) (q : Word) : Sess := { x with features := a, eventMask := m, settledAt := some q }

theorem features_settles {s : State} {t : Tag} {x : Sess} (h : s.Runs cmdFeatures t.req t)
    (hx : s.sess? t.req.port t.req.session = some x) :
    ∃ (u : State) (y : Sess), exec (.features t.req) s = .next u.flush ∧ s.KeepsAllButReplies u
      ∧ u.sess? t.req.port t.req.session = some y
      ∧ y.own = { x.own with features := y.features, eventMask := y.eventMask, settledAt := some t.req.seq }
      ∧ y.features = acceptedWord t.req.port (BitVec.ofNat 128 (leAt t.req.params 0 16))
      ∧ y.eventMask = (if y.features.getLsbD fEVENT then BitVec.ofNat 32 (leAt t.req.params 16 4) else 0)
      ∧ s.Answered u t .done (toLe 16 y.features.toNat ++ toLe 4 y.eventMask.toNat)
        (s.execF t (toLe 16 y.features.toNat ++ toLe 4 y.eventMask.toNat) 16) := by
  generalize ha : acceptedWord t.req.port (BitVec.ofNat 128 (leAt t.req.params 0 16)) = a
  generalize hm : (if a.getLsbD fEVENT then BitVec.ofNat 32 (leAt t.req.params 16 4) else (0 : Word)) = m
  let s1 := s.modSess t.req.port t.req.session (fun x => x.settle a m t.req.seq)
  have hrun : cmdFeatures.run s t (s.who t.req) = s1.answerF t .done (toLe 16 a.toNat ++ toLe 4 m.toNat) 16 := by
    subst ha hm; rfl
  have hs1 : s1.sess? t.req.port t.req.session = some (x.settle a m t.req.seq) := by
    rw [State.sess?_modSess (f := fun x => x.settle a m t.req.seq) (fun _ => rfl) (fun _ => rfl), hx]; rfl
  obtain ⟨y, hy, hown⟩ := (s1.answerF_stay t .done (toLe 16 a.toNat ++ toLe 4 m.toNat) 16).sess?_some hs1
  have hf : y.features = a := congrArg Sess.features hown
  have he : y.eventMask = m := congrArg Sess.eventMask hown
  refine ⟨_, y, by rw [exec_of_runs rfl h, hrun], ?_, hy, ?_, hf, ?_, ?_⟩
  · exact (s.modSess_keeps ..).trans (s1.answerF_spec ..).2
  · rw [hown, hf, he]; rfl
  · rw [he, hf, hm]
  · rw [he, hf]
    have hl : (toLe 16 a.toNat ++ toLe 4 m.toNat).length ≤ 256 := by simp
    exact State.answerF_answers (s := s) (s1 := s1) rfl rfl rfl t .done hl 16

/-! ### OPEN (R112, R155) -/

theorem roleOf_of_le {n : Nat} (h : n ≤ 5) : ∃ role, roleOf n = some role ∧ roleNo role = n := by
  interval_cases n <;> exact ⟨_, rfl, rfl⟩

/-- The session that OPEN makes, as it stands in the state that OPEN leaves: the last one. -/
theorem State.openNew_spec (s : State) (r : Req) (role : Role) (slot : Fin 4) :
    ∃ x : Sess, (s.openNew r role slot).2 = x.nn ∧ x.own = x ∧ x.nn.length = 16 ∧ x.num = s.nextNum ∧ x.port = r.port
      ∧ x.isOpen = false ∧ x.role = role ∧ x.slot = slot ∧ x.nc = slice r.params 2 16 ∧ x.high = 0 ∧ x.features = 1 ∧ x.eventMask = 0
      ∧ (s.openNew r role slot).1 = { s with
          free := (s.openNew r role slot).1.free
          comm := { s.comm with sessions := s.comm.sessions ++ [x], lastNum := s.nextNum } } := by
  unfold State.openNew
  dsimp only
  split <;> exact ⟨_, rfl, rfl, by simp [State.drawBytes], rfl, rfl, rfl, rfl, rfl, rfl, rfl, rfl, rfl, rfl⟩

theorem open_makesSession {s : State} {t : Tag} (h : s.Runs cmdOpen t.req t) (hn : s.sessionsOpen < 32) :
    ∃ (u : State) (x : Sess), exec (.openSession t.req) s = .next u.flush
      ∧ u.comm.sessions.map Sess.own = s.comm.sessions.map Sess.own ++ [x] ∧ u.comm.lastNum = s.nextNum
      ∧ x.num = s.nextNum ∧ x.port = t.req.port ∧ x.isOpen = false ∧ roleNo x.role = byteAt t.req.params 0
      ∧ x.slot.val = byteAt t.req.params 1
      ∧ x.nc = slice t.req.params 2 16 ∧ x.nn.length = 16 ∧ x.high = 0 ∧ x.features = 1 ∧ x.eventMask = 0
      ∧ { s with free := u.free }.KeepsAllButReplies u ∧ s.Answered u t .done x.nn (s.execF t x.nn 48) := by
  obtain ⟨hrole, hslot⟩ : byteAt t.req.params 0 ≤ 5 ∧ byteAt t.req.params 1 ≤ 3 := by
    have hc := h.check_none
    simp only [cmdOpen, need] at hc
    split at hc
    · cases hc
    · split at hc
      · next hok =>
        simp only [Bool.and_eq_true, decide_eq_true_eq] at hok
        exact hok.2
      · cases hc
  obtain ⟨role, hro, hno⟩ := roleOf_of_le hrole
  obtain ⟨x, hnn, hown, hlen, hnum, hport, hopen, hxr, hxs, hnc, hhigh, hfeat, hmask, hs1⟩ :=
    s.openNew_spec t.req role (Fin.ofNat 4 (byteAt t.req.params 1))
  generalize hs1' : (s.openNew t.req role (Fin.ofNat 4 (byteAt t.req.params 1))).1 = s1 at hs1
  have hrun : cmdOpen.run s t (s.who t.req) = s1.answerF t .done x.nn 48 := by
    show s.runOpen t = _
    unfold State.runOpen
    rw [if_neg (by omega), hro, ← hs1', ← hnn]
  obtain ⟨hsess, hcomm⟩ := s1.answerF_stay t .done x.nn 48
  have hkeeps : s1.KeepsAllButReplies (s1.answerF t .done x.nn 48) := (s1.answerF_spec ..).2
  refine ⟨_, x, by rw [exec_of_runs rfl h, hrun], ?_, ?_, hnum, hport, hopen, by rw [hxr, hno], ?_, hnc, hlen, hhigh, hfeat, hmask,
    ?_, ?_⟩
  · rw [hsess, hs1]; simp [hown]
  · rw [hcomm, hs1]
  · rw [hxs]; simp; omega
  · unfold State.KeepsAllButReplies at hkeeps ⊢
    rw [hkeeps, hs1]
  · exact State.answerF_answers (by rw [hs1]) (by rw [hs1]) (by rw [hs1]) t .done (by omega) 48

theorem open_full {s : State} {t : Tag} (h : s.Runs cmdOpen t.req t) (hn : 32 ≤ s.sessionsOpen) :
    exec (.openSession t.req) s = .next (s.answerF t .busyRetry (toLe 2 1000) 48).flush := by
  have hrun : cmdOpen.run s t (s.who t.req) = s.answerF t .busyRetry (toLe 2 1000) 48 := if_pos hn
  rw [exec_of_runs rfl h, hrun]

/-! ### PROVE (R155, R157) -/

/-- The proof is right, its slot is loaded and not locked. -/
def State.proves (s : State) (r : Req) (x : Sess) : Prop :=
  (s.lockOf x.port (keyIndex x.role x.slot)).locked = false ∧ r.params = proofOf x ∧ (s.keyAt (keyIndex x.role x.slot)).state ≠ 0

theorem State.runProve_passes {s : State} {t : Tag} {x : Sess} (hx : s.sess? t.req.port t.req.session = some x) (h : s.proves t.req x) :
    s.runProve t = s.provePass t x := by
  obtain ⟨hl, hp, hk⟩ := h
  unfold State.runProve
  rw [hx]
  exact if_pos ⟨by simp [hl], hp, hk⟩

theorem State.runProve_fails {s : State} {t : Tag} {x : Sess} (hx : s.sess? t.req.port t.req.session = some x) (h : ¬ s.proves t.req x) :
    s.runProve t = s.proveFail t x := by
  unfold State.runProve
  rw [hx]
  refine if_neg fun ⟨hl, hp, hk⟩ => h ⟨by simpa using hl, hp, hk⟩

theorem prove_passes {s : State} {t : Tag} {x : Sess} (h : s.Runs cmdProve t.req t) (hx : s.sess? t.req.port t.req.session = some x)
    (hpass : s.proves t.req x) :
    ∃ (u : State) (y : Sess) (ps : List Byte), exec (.prove t.req) s = .next u.flush ∧ s.KeepsAllButReplies u
      ∧ u.sess? t.req.port t.req.session = some y ∧ y.own = { x.own with isOpen := true }
      ∧ (u.lockOf x.port (keyIndex x.role x.slot)).fails = 0 ∧ u.comm.authFails = s.comm.authFails
      ∧ ps = nodeProofOf x ++ toLe 4 s.peg.gen.toNat ++ toLe 1 (s.keyAt (keyIndex x.role x.slot)).state
      ∧ s.Answered u t .done ps (s.execF t ps 180) := by
  obtain ⟨hport, hnum⟩ := State.sess?_names hx
  obtain ⟨hkp, hkk⟩ := s.lockOf_names x.port (keyIndex x.role x.slot)
  generalize hps : nodeProofOf x ++ toLe 4 s.peg.gen.toNat ++ toLe 1 (s.keyAt (keyIndex x.role x.slot)).state = ps
  let k : KeyLock := { s.lockOf x.port (keyIndex x.role x.slot) with fails := 0, lockS := 60 }
  let s1 := (s.setLock k).modSess x.port x.num (fun y => { y with isOpen := true })
  have hrun : cmdProve.run s t (s.who t.req) = s1.answerF t .done ps 180 := by
    show s.runProve t = _
    rw [State.runProve_passes hx hpass, ← hps]
    rfl
  have hs1 : s1.sess? t.req.port t.req.session = some { x with isOpen := true } := by
    rw [← hport, ← hnum] at hx ⊢
    rw [State.sess?_modSess (f := fun y => { y with isOpen := true }) (fun _ => rfl) (fun _ => rfl)]
    exact congrArg (Option.map _) hx
  have hstay := s1.answerF_stay t .done ps 180
  obtain ⟨y, hy, hown⟩ := hstay.sess?_some hs1
  refine ⟨_, y, ps, by rw [exec_of_runs rfl h, hrun], ?_, hy, hown, ?_, ?_, rfl, ?_⟩
  · exact State.KeepsAllButReplies.trans (u := s1) rfl (s1.answerF_spec ..).2
  · have hlock : s1.lockOf x.port (keyIndex x.role x.slot) = k := by
      have := s.lockOf_setLock k
      rwa [show k.port = x.port from hkp, show k.key = keyIndex x.role x.slot from hkk] at this
    rw [hstay.lockOf, hlock]
  · rw [hstay.2]
    rfl
  · have hl : ps.length ≤ 256 := by simp [← hps, nodeProofOf]
    exact State.answerF_answers (s := s) (s1 := s1) rfl rfl rfl t .done hl 180

/-- A failed PROVE moves the lock of its slot, and a lockout is recorded. -/
theorem State.proveFailed_only (s : State) (x : Sess) : s.proveFailed x = { s with
    recorder := (s.proveFailed x).recorder
    comm := { s.comm with locks := (s.proveFailed x).comm.locks } } := by
  unfold State.proveFailed
  dsimp only
  split
  · rfl
  · split <;> rfl

/-- What is in the ports and the held replies makes an answer; nothing else of the later state does. -/
theorem State.Answered.of_replies {s u v : State} {t : Tag} {st : Status} {ps : List Byte} {n : Nat} (h : s.Answered u t st ps n)
    (hp : v.comm.ports = u.comm.ports) (hh : v.comm.held = u.comm.held) : s.Answered v t st ps n := by
  unfold State.Answered State.AnsweredAs State.outQ at *
  rw [hp, hh]
  exact h

theorem prove_fails {s : State} {t : Tag} {x : Sess} (h : s.Runs cmdProve t.req t) (hx : s.sess? t.req.port t.req.session = some x)
    (hfail : ¬ s.proves t.req x) :
    ∃ u : State, exec (.prove t.req) s = .next u.flush ∧ u.sess? t.req.port t.req.session = none
      ∧ u.comm.authFails = inc32 s.comm.authFails ∧ u.peg = s.peg ∧ u.keys = s.keys
      ∧ s.Answered u t .authFail [] (s.execF t [] 180) := by
  obtain ⟨hport, hnum⟩ := State.sess?_names hx
  let s0 : State := { s with comm := { s.comm with authFails := inc32 s.comm.authFails } }
  let s1 : State := s0.answerF t .authFail [] 180
  have hans : s.Answered s1 t .authFail [] (s.execF t [] 180) :=
    State.answerF_answers (s := s) (s1 := s0) (ps := []) rfl rfl rfl t .authFail (Nat.zero_le _) 180
  obtain ⟨-, hpeg, hkeys, -⟩ := State.KeepsAllButReplies.fields (s := s0) (u := s1) (s0.answerF_spec ..).2
  obtain ⟨-, hc⟩ := s0.answerF_stay t .authFail [] 180
  have hl := s1.proveFailed_only x
  refine ⟨(s1.proveFailed x).closeSession x.port x.num, ?_, ?_, ?_, ?_, ?_, ?_⟩
  · rw [exec_of_runs rfl h]
    exact congrArg (fun u => Host.Outcome.next u.flush) (State.runProve_fails hx hfail)
  · rw [← hport, ← hnum]
    exact State.sess?_closeSession ..
  · rw [hl]
    exact congrArg Comm.authFails hc
  · rw [hl]
    exact hpeg
  · rw [hl]
    exact hkeys
  · rw [hl]
    exact hans.of_replies rfl rfl

/-! ### The reply of CLOSE leaves its port (R112) -/

theorem State.packetLeft_closes {s : State} {p : Port} {k : Packet} (hk : k.holdsTag = true) (hd : k.status = .done)
    (h : ∃ t ∈ s.comm.tags, t.no = k.tagNo ∧ t.req.port = p ∧ t.req.session = k.session ∧ t.req.seq = k.seq ∧ t.answered = true
      ∧ t.opcode = 0x0104#16) : (s.packetLeft p k).sess? p k.session = none := by
  obtain ⟨t, hmem, hno, hport, hsess, hseq, hans, hop⟩ := h
  have hclose : (s.comm.tags.any (fun t => (t.no == k.tagNo && t.req.port == p && t.req.session == k.session && t.req.seq == k.seq
      && t.answered) && t.opcode == 0x0104#16) && decide (k.status = .done)) = true := by
    rw [Bool.and_eq_true, List.any_eq_true]
    exact ⟨⟨t, hmem, by simp [hno, hport, hsess, hseq, hans, hop]⟩, by simp [hd]⟩
  unfold State.packetLeft
  simp only [hk, not_true_eq_false, if_false, hclose, if_true]
  exact State.sess?_closeSession ..

/-! ### Resets that a command orders (R85, R189) -/

/-- The later start of an image in NV: answered, recorded, and the reset waits. -/
theorem State.activateImage_orders {s : State} (t : Tag) (hb : s.nvBoot = true) :
    s.Answered (s.activateImage t) t .done [] (s.execF t [] 20) ∧ (s.activateImage t).eave.bootOnce = some (byteAt t.req.params 0)
      ∧ (s.activateImage t).rst = { s.rst with commanded := some (s.commandedBy t false) }
      ∧ (s.activateImage t).images = s.images ∧ (s.activateImage t).peg = s.peg := by
  obtain ⟨ha, hk⟩ := s.answerF_spec t .done [] 20
  obtain ⟨hrst, hpeg, -, himages⟩ := hk.fields
  unfold State.activateImage
  rw [if_pos hb]
  exact ⟨ha.of_replies rfl rfl, rfl, congrArg (fun r : ResetCtl => { r with commanded := some (s.commandedBy t false) }) hrst, himages,
    hpeg⟩

theorem imageActivate_orders {s : State} {t : Tag} (h : s.Runs cmdImageActivate t.req t) (hb : s.nvBoot = true) :
    ∃ u : State, exec (.imageActivate t.req) s = .next u.flush
      ∧ s.Answered u t .done [] (s.execF t [] 20) ∧ u.eave.bootOnce = some (byteAt t.req.params 0)
      ∧ u.rst = { s.rst with commanded := some (s.commandedBy t false) } ∧ u.images = s.images ∧ u.peg = s.peg :=
  ⟨_, exec_of_runs rfl h, State.activateImage_orders t hb⟩

/-- NODE_RESET of either class: answered, and the reset that waits is all that changes beside the reply. -/
theorem State.runNodeReset_orders (s : State) (t : Tag) (p : Bool) :
    s.Answered (s.runNodeReset t p) t .done [] (s.execF t [] 14)
      ∧ (s.runNodeReset t p).rst = { s.rst with commanded := some (s.commandedBy t p) }
      ∧ { s with rst := (s.runNodeReset t p).rst }.KeepsAllButReplies (s.runNodeReset t p) := by
  obtain ⟨ha, hk⟩ := s.answerF_spec t .done [] 14
  obtain ⟨hrst, -⟩ := hk.fields
  unfold State.runNodeReset
  refine ⟨ha.of_replies rfl rfl, congrArg (fun r : ResetCtl => { r with commanded := some (s.commandedBy t p) }) hrst, ?_⟩
  unfold State.KeepsAllButReplies at hk ⊢
  rw [hk]

end Sys2Proof.Machine
end

section
open Sys2Proof Sys2Proof.Machine

/-- Settles O13: each command of the family by the lemma of what it makes ready. -/
theorem sessionCommandsComplete : Obligations.SessionCommandsComplete := by
  refine ⟨fun r s t h => ?_, fun r s t x h hx => ?_, fun r s t h hn => ?_, fun r s t h hn => ?_, fun r s t x h hx hl hp hk => ?_,
    fun r s t x h hx hf => ?_, fun r s t h => ?_, fun s p k hk hd h => State.packetLeft_closes hk hd h, fun r s t h hp => ?_⟩
    <;> obtain rfl := h.1.same
  · obtain ⟨ha, hk⟩ := s.answerF_spec t .done (s.helloParams t.req.port) 13
    exact ⟨_, exec_of_runs rfl h, hk, s.answerF_stay .., ha⟩
  · exact features_settles h hx
  · exact open_makesSession h hn
  · obtain ⟨ha, hk⟩ := s.answerF_spec t .busyRetry (toLe 2 1000) 48
    exact ⟨_, open_full h hn, hk, s.answerF_stay .., ha⟩
  · exact prove_passes h hx ⟨hl, hp, hk⟩
  · refine prove_fails h hx fun ⟨hl, hp, hk⟩ => ?_
    rcases hf with hf | hf | hf
    · simp [hl] at hf
    · exact hf hp
    · exact hk hf
  · obtain ⟨ha, hk⟩ := s.answerF_spec t .done [] 13
    exact ⟨_, exec_of_runs rfl h, hk, s.answerF_stay .., ha⟩
  · obtain ⟨ha, hk⟩ := s.answerF_spec t .done [0x0B, 0, 0, 0] 13
    have hrun : cmdPing.run s t (s.who t.req) = s.answerF t .done [0x0B, 0, 0, 0] 13 :=
      congrArg (fun ps => s.answerF t .done ps 13) (if_pos hp)
    exact ⟨_, by rw [exec_of_runs rfl h, hrun], hk, s.answerF_stay .., ha⟩

/-- Settles O22: IMAGE_ACTIVATE after an NV boot, and NODE_RESET of both classes. -/
theorem resetCommandsComplete : Obligations.ResetCommandsComplete := by
  refine ⟨fun r s t h hb => ?_, fun r s t h => ?_, fun r s t h => ?_⟩ <;> obtain rfl := h.1.same
  · exact imageActivate_orders h hb
  · exact ⟨_, exec_of_runs rfl h, s.runNodeReset_orders t false⟩
  · exact ⟨_, exec_of_runs rfl h, s.runNodeReset_orders t true⟩

end

section
/-! SUPPORT. The purlin ring: what a cell that leaves or arrives changes, and what each kind of cell, each deadline and each limit of
the ring makes of the state (R90, R121, R159, R265, R358-R376). -/

namespace Sys2Proof.Machine

/-! ### A cell as its row reads it (R358) -/

/-- What every row of a cell does with the cell itself: a port that is down hears nothing, a bad CRC is asked for again, and a cell
of another kind is another row's. -/
def State.readCell (s : State) (d : RingSide) (kind : Nat) (b : List Byte) (use_ : Cell → State) : State :=
  if ¬ s.ringUp d then s
  else
    match parseCell b with
    | none => s.badCell d
    | some c => if c.kind ≠ kind then s else use_ c

/-- An accepted cell goes on to its row's use; without the ring key it is only forwarded, and one that fails is counted (R359). -/
def State.useCell (s : State) (d : RingSide) (b : List Byte) (use_ : State → Cell → State) (c : Cell) : State :=
  if (s.forwardCell d b).ringKey.isEmpty then s.forwardCell d b
  else if ¬ (s.forwardCell d b).acceptable c b then (s.forwardCell d b).failCell
  else use_ ((s.forwardCell d b).noteCell c) c

section Reading
variable {s : State} {d : RingSide} {b : List Byte} {n : Nat} {use_ : Cell → State} {f : State → Cell → State} {c : Cell}

theorem State.readCell_down (h : s.ringUp d = false) : s.readCell d n b use_ = s := by
  simp [State.readCell, h]

theorem State.readCell_bad (h : s.ringUp d = true) (hp : parseCell b = none) : s.readCell d n b use_ = s.badCell d := by
  simp [State.readCell, h, hp]

theorem State.readCell_other (h : s.ringUp d = true) (hp : parseCell b = some c) (hk : c.kind ≠ n) : s.readCell d n b use_ = s := by
  simp [State.readCell, h, hp, hk]

theorem State.readCell_use (h : s.ringUp d = true) (hp : parseCell b = some c) (hk : c.kind = n) :
    s.readCell d n b use_ = use_ c := by
  simp [State.readCell, h, hp, hk]

theorem State.takeCell_reads : s.takeCell d n b f = s.readCell d n b (s.useCell d b f) := rfl

theorem State.acceptable_key (h : s.acceptable c b = true) : s.ringKey.isEmpty = false := by
  unfold State.acceptable at h
  simp only [Bool.and_eq_true, Bool.not_eq_true'] at h
  obtain ⟨⟨⟨hkey, -⟩, -⟩, -⟩ := h
  exact hkey

theorem State.takeCell_noKey (h : s.ringUp d = true) (hp : parseCell b = some c) (hk : c.kind = n)
    (he : (s.forwardCell d b).ringKey = []) : s.takeCell d n b f = s.forwardCell d b := by
  rw [State.takeCell_reads, State.readCell_use h hp hk]
  simp [State.useCell, he]

theorem State.takeCell_fails (h : s.ringUp d = true) (hp : parseCell b = some c) (hk : c.kind = n)
    (he : (s.forwardCell d b).ringKey ≠ []) (ha : (s.forwardCell d b).acceptable c b = false) :
    s.takeCell d n b f = (s.forwardCell d b).failCell := by
  rw [State.takeCell_reads, State.readCell_use h hp hk]
  simp [State.useCell, he, ha]

theorem State.takeCell_accepts (h : s.ringUp d = true) (hp : parseCell b = some c) (hk : c.kind = n)
    (ha : (s.forwardCell d b).acceptable c b = true) : s.takeCell d n b f = f ((s.forwardCell d b).noteCell c) c := by
  rw [State.takeCell_reads, State.readCell_use h hp hk]
  simp [State.useCell, State.acceptable_key ha, ha]

/-- A manager's end takes the cell off the ring. -/
theorem State.forwardCell_manager (h : s.isWorker = false) : s.forwardCell d b = s := by
  simp [State.forwardCell, h]

theorem State.takeCell_atManager (h : s.ringUp d = true) (hp : parseCell b = some c) (hk : c.kind = n) (hw : s.isWorker = false)
    (ha : s.acceptable c b = true) : s.takeCell d n b f = f (s.noteCell c) c := by
  have hf := s.forwardCell_manager (d := d) (b := b) hw
  rw [State.takeCell_accepts h hp hk (by rw [hf]; exact ha), hf]

theorem takeRow_takes {i : Instr} (h : (i, n) ∈ [(Instr.tokenReceived d b, cTOKEN), (.relayReceived d b, cRELAY),
    (.claimCellReceived d b, cCLAIM), (.dataCellReceived d b, cDATA), (.trainSegmentReceived d b, cTRAIN)]) :
    ∃ f, exec i s = .next (s.takeCell d n b f) := by
  simp only [List.mem_cons, List.not_mem_nil, or_false, Prod.mk.injEq] at h
  rcases h with ⟨rfl, rfl⟩ | ⟨rfl, rfl⟩ | ⟨rfl, rfl⟩ | ⟨rfl, rfl⟩ | ⟨rfl, rfl⟩ <;> exact ⟨_, rfl⟩

/-- SCAN at a worker, at the closing end and at the active. -/
def State.useScan (s : State) (d : RingSide) (b : List Byte) (c : Cell) : State :=
  if s.isWorker then s.scanAtWorker d b c
  else if c.orig ≠ s.ringOrig then s.putCell d b 0
  else (s.scanDone (if s.unitB && s.pair.bound then (scanEntries c.body).reverse else scanEntries c.body)).flush

/-- ADMIT by its step, at the worker it names and at the manager. -/
def State.useAdmit (s : State) (d : RingSide) (b : List Byte) (c : Cell) : State :=
  if (s.forwardCell d b).isWorker then
    (if leAt c.body 4 4 ≠ Config.serial.toNat then s.forwardCell d b
     else if byteAt c.body 0 = 1 ∧ (s.forwardCell d b).takesOffer c b then (s.forwardCell d b).answerOffer d c
     else if byteAt c.body 0 = 4 then (s.forwardCell d b).takeRingKey d c else s.forwardCell d b)
  else if byteAt c.body 0 = 2 then (s.forwardCell d b).takeAnswer c
  else if byteAt c.body 0 = 5 then ((s.forwardCell d b).takeProof c b).flush else s.forwardCell d b

/-- The newest cell sent of the kind asked for, or of any kind. -/
def State.askedFor (s : State) (d : RingSide) (c : Cell) : Option (List Byte × Nat) :=
  let sent := match d with | .a => s.ring.sentA | .b => s.ring.sentB
  if byteAt c.body 0 = 0 then sent.head? else sent.find? (fun e => byteAt e.1 0 == byteAt c.body 0)

/-- RESEND: the cell that was asked for leaves again, while it may. -/
def State.useResend (s : State) (d : RingSide) (c : Cell) : State :=
  match s.askedFor d c with
  | none => s
  | some (x, k) =>
    if cellPrio (byteAt x 0) ≠ 0 ∨ 2 ≤ k then s
    else State.putCell { s with ring := { s.ring with resends := inc32 s.ring.resends } } d x (k + 1)

theorem exec_scanCellReceived : exec (.scanCellReceived d b) s = .next (s.readCell d cSCAN b (s.useScan d b)) := rfl
theorem exec_admitCellReceived : exec (.admitCellReceived d b) s = .next (s.readCell d cADMIT b (s.useAdmit d b)) := rfl
theorem exec_resendReceived : exec (.resendReceived d b) s = .next (s.readCell d cRESEND b (s.useResend d)) := rfl

theorem ringRow_reads {i : Instr} (h : (i, n) ∈ [(Instr.tokenReceived d b, cTOKEN), (.relayReceived d b, cRELAY),
    (.claimCellReceived d b, cCLAIM), (.dataCellReceived d b, cDATA), (.trainSegmentReceived d b, cTRAIN), (.scanCellReceived d b, cSCAN),
    (.admitCellReceived d b, cADMIT), (.resendReceived d b, cRESEND)]) : ∃ use_, exec i s = .next (s.readCell d n b use_) := by
  rw [show ∀ a b c d e f g h : Instr × Nat, [a, b, c, d, e, f, g, h] = [a, b, c, d, e] ++ [f, g, h] from fun _ _ _ _ _ _ _ _ => rfl,
    List.mem_append] at h
  rcases h with h | h
  · obtain ⟨f, hf⟩ := takeRow_takes (s := s) h
    exact ⟨_, hf⟩
  · simp only [List.mem_cons, List.not_mem_nil, or_false, Prod.mk.injEq] at h
    rcases h with ⟨rfl, rfl⟩ | ⟨rfl, rfl⟩ | ⟨rfl, rfl⟩
    · exact ⟨_, exec_scanCellReceived⟩
    · exact ⟨_, exec_admitCellReceived⟩
    · exact ⟨_, exec_resendReceived⟩

end Reading

/-! ### What stays when a cell leaves -/

/-- Nothing but the ring's queues and their notes of what was sent changes. -/
def State.OnlyQueues (s u : State) : Prop :=
  u = { s with ring := { s.ring with txA := u.ring.txA, txB := u.ring.txB, sentA := u.ring.sentA, sentB := u.ring.sentB } }

theorem State.putCell_queues (s : State) (d : RingSide) (b : List Byte) (n : Nat) : s.OnlyQueues (s.putCell d b n) := by
  unfold State.putCell
  split
  · rfl
  · cases d <;> rfl

theorem State.forwardCell_queues (s : State) (d : RingSide) (b : List Byte) : s.OnlyQueues (s.forwardCell d b) := by
  unfold State.forwardCell
  split
  · exact s.putCell_queues ..
  · rfl

/-- A cell that this node originates leaves the keys and, of the ring, all but its queues and counters. -/
theorem State.sendCell_sent (s : State) (d : RingSide) (k : Nat) (f : Frame) (body : List Byte) :
    ∃ q : Ring, s.sendCell d k f body = { s with ring := q } ∧ q = { s.ring with
      txA := q.txA, txB := q.txB, sentA := q.sentA, sentB := q.sentB, counterOut := q.counterOut, counterStored := q.counterStored } := by
  unfold State.sendCell
  split
  · exact ⟨_, rfl, rfl⟩
  · have h := (s.newCell k f body).2.putCell_queues d (cellBytes s.cellTagKey (s.newCell k f body).1) 0
    exact ⟨_, h, rfl⟩

/-! ### A worker takes a TOKEN or a RELAY (R60, R365, R371) -/

/-- The leader's time changes EAVE and the gutter log alone. -/
theorem State.takeTime_only (s : State) (d : Date) (x : Bool) (w : Nat) (v : Bool) (m : Option Batten) (f : Bool) :
    ∃ (e : Eave) (g : GutterLog), s.takeTime d x w v m f = { s with eave := e, gut := g } := by
  have entered (e : Eave) (p : Prop) [Decidable p] (n : Nat) :
      ∃ (e' : Eave) (g : GutterLog), (if p then State.gutter { s with eave := { e with steps := inc32 e.steps } } 0x09 0 n
        else { s with eave := e }) = { s with eave := e', gut := g } := by
    split
    · exact ⟨_, _, State.gutter_only ..⟩
    · exact ⟨_, _, rfl⟩
  exact entered ..

theorem State.leaderTime_only (s : State) (p : List Byte) (k : Nat) (f : Bool) :
    ∃ (e : Eave) (g : GutterLog), s.leaderTime p k f = { s with eave := e, gut := g } := by
  unfold State.leaderTime
  split
  · exact ⟨_, _, rfl⟩
  · exact s.takeTime_only ..

/-- A frame start heard changes the clock, EAVE and the gutter log, and the frames run. -/
theorem State.follow_only (s : State) (f : Frame) (start : Batten) (n : Nat) (p : List Byte) (k : Nat) :
    ∃ (c : Clock) (e : Eave) (g : GutterLog), s.follow f start n p k = { s with clk := c, eave := e, gut := g }
      ∧ c.running = true := by
  unfold State.follow
  dsimp only
  split
  · exact ⟨_, _, _, rfl, rfl⟩
  · next hfits =>
    have hrun : s.clk.running = true := by
      by_contra hr
      simp [hr] at hfits
    split
    · obtain ⟨e, g, h⟩ := State.leaderTime_only { s with clk := { s.clk with refState := 2, lastRef := some f } } p k
        (s.clk.refState != 2)
      exact ⟨_, e, g, h, hrun⟩
    · exact ⟨_, _, _, rfl, hrun⟩

theorem State.discUpdate_only (s : State) : ∃ e : Eave, s.discUpdate = { s with eave := e } := by
  have moved (now : Nat) (e : Eave) :
      ∃ e' : Eave, (if now = s.eave.discState then s else { s with eave := { e with discState := now } }) = { s with eave := e' } := by
    split
    · exact ⟨_, rfl⟩
    · exact ⟨_, rfl⟩
  exact moved _ { s.eave with discAt := s.time, labelled := 0, lastPps := none, ppsLabelled := false, lockedSince := none }

theorem State.liveClaim_fresh (s : State) (w : Word) : s.liveClaim (some (w, s.clk.batten)) = some w := by
  have h : since s.clk.batten s.clk.batten = 0 := by simp [since]
  show (if since s.clk.batten s.clk.batten < Config.claimFreshTicks then some w else none) = some w
  rw [h]
  exact if_pos (by decide)

/-- The claim of a token is the one that is live where none was kept before. -/
theorem State.setWorkerClaim_live {s : State} (hA : s.ring.claimA = none) (hB : s.ring.claimB = none) (o : Nat) (w : Word) :
    ∃ a b : Option (Word × Batten), s.setWorkerClaim o w = { s with ring := { s.ring with claimA := a, claimB := b } }
      ∧ [s.liveClaim a, s.liveClaim b].filterMap id = [w] := by
  unfold State.setWorkerClaim
  split
  · exact ⟨_, _, rfl, by rw [hA, s.liveClaim_fresh]; rfl⟩
  · exact ⟨_, _, rfl, by rw [hB, s.liveClaim_fresh]; rfl⟩

/-- The claim that a token carries. -/
def tokenClaim (c : Cell) : Word := BitVec.ofNat 32 (leAt c.body 28 4)

/-- A worker that has heard a token and not used it yet. -/
def State.heardToken (s : State) (d : RingSide) (c : Cell) : State :=
  let s1 := s.follow c.frame (BitVec.ofNat 40 (leAt c.body 0 5)) (match d with | .a => s.ring.delayA | .b => s.ring.delayB) c.body 12
  let s2 := (s1.setWorkerClaim c.orig (tokenClaim c)).discUpdate
  { s2 with ring := { s2.ring with tokenSeenNow := if c.kind = cTOKEN ∨ s2.ring.tokenSeenNow = 1 then 1 else 2 } }

theorem State.workerToken_uses {s : State} {d : RingSide} {c : Cell} (hi : (s.heardToken d c).ring.index ≠ 0)
    (hl : (s.heardToken d c).liveClaims = [tokenClaim c]) (hp : (byteAt c.body 5).testBit 0 = false) :
    s.workerToken d c = (s.heardToken d c).executeWord (tokenClaim c) c.body := by
  have hlow : ¬ ((s.heardToken d c).ring.index = 0
      ∨ (s.heardToken d c).liveClaims.any (fun w => decide ((tokenClaim c).toNat < w.toNat)) = true) := by
    simp [hi, hl]
  exact (if_neg hlow).trans (if_neg (by simp [hp]))

theorem State.heardToken_only {s : State} (hA : s.ring.claimA = none) (hB : s.ring.claimB = none) (d : RingSide) (c : Cell) :
    ∃ (k : Clock) (e : Eave) (g : GutterLog) (q : Ring), s.heardToken d c = { s with clk := k, eave := e, gut := g, ring := q }
      ∧ k.running = true ∧ q = { s.ring with
          claimA := q.claimA, claimB := q.claimB, tokenSeenNow := if c.kind = cTOKEN ∨ s.ring.tokenSeenNow = 1 then 1 else 2 }
      ∧ (s.heardToken d c).liveClaims = [tokenClaim c] := by
  unfold State.heardToken
  dsimp only
  obtain ⟨k, e, g, hfol, hrun⟩ := s.follow_only c.frame (BitVec.ofNat 40 (leAt c.body 0 5))
    (match d with | .a => s.ring.delayA | .b => s.ring.delayB) c.body 12
  rw [hfol]
  obtain ⟨x, y, hclaim, hlive⟩ :=
    State.setWorkerClaim_live (s := { s with clk := k, eave := e, gut := g }) hA hB c.orig (tokenClaim c)
  rw [hclaim]
  obtain ⟨e', hdisc⟩ := State.discUpdate_only
    { s with clk := k, eave := e, gut := g, ring := { s.ring with claimA := x, claimB := y } }
  rw [hdisc]
  exact ⟨k, e', g, _, rfl, hrun, rfl, hlive⟩

/-- Where the expected level of an output changes, the output alone changes (R230). -/
theorem State.markE_only (s old : State) : s.markE old = { s with fio := { s.fio with dout := (s.markE old).fio.dout } } := by
  refine foldl_rel (fun a b : State => b = { a with fio := { a.fio with dout := b.fio.dout } }) (fun _ => rfl)
    (fun {a b c} h k => by rw [k, h]) _ (fun a o => ?_) _ s
  dsimp only
  split
  · rfl
  · rfl

theorem State.obeyOrders_none (s : State) (body : List Byte) :
    s.obeyOrders 0 body = { s with maint := (s.obeyOrders 0 body).maint } := by
  simp [State.obeyOrders]

/-- The output word of a token without orders is executed: it goes to the die, unless the configuration is invalid (R93, R365). -/
theorem State.executeWord_plain {s : State} {body : List Byte} (w : Word) (ho : byteAt body (62 + (s.ring.index - 1)) = 0) :
    ∃ (f : FieldIo) (m : Maint), s.executeWord w body = { s with
        maint := m, fio := f
        ring := { s.ring with
          execWord := BitVec.ofNat 12 (leAt body (32 + 2 * (s.ring.index - 1)) 2), execEver := true, lastExec := s.clk.batten,
          isolated := false } }
      ∧ f.claimDue = if s.rst.cfgInvalid then none
          else some (w, BitVec.ofNat 12 (leAt body (32 + 2 * (s.ring.index - 1)) 2), true) := by
  unfold State.executeWord
  dsimp only
  rw [ho, State.obeyOrders_none, State.markE_only]
  exact ⟨_, _, rfl, rfl⟩

theorem State.workerToken_executes {s : State} {d : RingSide} {c : Cell} (hi : 1 ≤ s.ring.index) (hA : s.ring.claimA = none)
    (hB : s.ring.claimB = none) (ho : byteAt c.body (62 + (s.ring.index - 1)) = 0) (hp : (byteAt c.body 5).testBit 0 = false) :
    ∃ u : State, s.workerToken d c = u ∧ u.ring.execWord = BitVec.ofNat 12 (leAt c.body (32 + 2 * (s.ring.index - 1)) 2)
      ∧ u.ring.isolated = false
      ∧ u.fio.claimDue = (if s.rst.cfgInvalid then none else some (BitVec.ofNat 32 (leAt c.body 28 4), u.ring.execWord, true))
      ∧ u.ring.tokenSeenNow = (if c.kind = cTOKEN ∨ s.ring.tokenSeenNow = 1 then 1 else 2) ∧ u.clk.running = true
      ∧ u.peg = s.peg := by
  obtain ⟨k, e, g, q, hs, hrun, hq, hlive⟩ := State.heardToken_only hA hB d c
  have hindex : (s.heardToken d c).ring.index = s.ring.index := by rw [hs, hq]
  have huse := State.workerToken_uses (d := d) (c := c) (by omega) hlive hp
  obtain ⟨f, m, hx, hdue⟩ := State.executeWord_plain (s := s.heardToken d c) (tokenClaim c) (by rw [hindex]; exact ho)
  rw [hindex] at hx hdue
  refine ⟨_, huse.trans hx, rfl, rfl, ?_, ?_, ?_, ?_⟩
  · rw [hs] at hdue
    exact hdue
  · rw [hs, hq]
  · rw [hs]
    exact hrun
  · rw [hs]

/-! ### The cells of a frame at a worker (R358, R365, R370) -/

section AtWorker
variable {s : State} {d : RingSide} {b : List Byte} {c : Cell}

/-- A TOKEN or a RELAY that a worker accepts: it is forwarded, noted and heard. -/
theorem tokenRow_atWorker {i : Instr} {n : Nat} (h : (i, n) ∈ [(Instr.tokenReceived d b, cTOKEN), (.relayReceived d b, cRELAY)])
    (hup : s.ringUp d = true) (hp : parseCell b = some c) (hk : c.kind = n) (hw : s.isWorker = true)
    (ha : (s.forwardCell d b).acceptable c b = true) : exec i s = .next (((s.forwardCell d b).noteCell c).workerToken d c) := by
  have hw' : ((s.forwardCell d b).noteCell c).isWorker = true := by
    rw [s.forwardCell_queues d b]; exact hw
  simp only [List.mem_cons, List.not_mem_nil, or_false, Prod.mk.injEq] at h
  rcases h with ⟨rfl, rfl⟩ | ⟨rfl, rfl⟩
  · exact congrArg Host.Outcome.next ((State.takeCell_accepts hup hp hk ha).trans (if_pos hw'))
  · exact congrArg Host.Outcome.next ((State.takeCell_accepts hup hp hk ha).trans (if_pos hw'))

theorem tokenRow_executes {i : Instr} {n : Nat} (h : (i, n) ∈ [(Instr.tokenReceived d b, cTOKEN), (.relayReceived d b, cRELAY)])
    (hup : s.ringUp d = true) (hp : parseCell b = some c) (hk : c.kind = n) (hw : s.isWorker = true)
    (ha : (s.forwardCell d b).acceptable c b = true) (hi : 1 ≤ s.ring.index) (hA : s.ring.claimA = none) (hB : s.ring.claimB = none)
    (ho : byteAt c.body (62 + (s.ring.index - 1)) = 0) (hpeg : (byteAt c.body 5).testBit 0 = false) :
    ∃ u : State, exec i s = .next u ∧ u.ring.execWord = BitVec.ofNat 12 (leAt c.body (32 + 2 * (s.ring.index - 1)) 2)
      ∧ u.ring.isolated = false
      ∧ u.fio.claimDue = (if s.rst.cfgInvalid then none else some (BitVec.ofNat 32 (leAt c.body 28 4), u.ring.execWord, true))
      ∧ u.ring.tokenSeenNow = (if n = cTOKEN ∨ s.ring.tokenSeenNow = 1 then 1 else 2) ∧ u.clk.running = true ∧ u.peg = s.peg := by
  rw [tokenRow_atWorker h hup hp hk hw ha]
  subst hk
  have hq := s.forwardCell_queues d b
  generalize s.forwardCell d b = v at hq
  rw [hq]
  obtain ⟨u, hu, hx⟩ := State.workerToken_executes (d := d)
    (s := State.noteCell { s with ring := { s.ring with
      txA := v.ring.txA, txB := v.ring.txB, sentA := v.ring.sentA, sentB := v.ring.sentB } } c)
    hi hA hB ho hpeg
  exact ⟨u, congrArg _ hu, hx⟩

theorem claimCell_atWorker (hup : s.ringUp d = true) (hp : parseCell b = some c) (hk : c.kind = cCLAIM) (hw : s.isWorker = true)
    (ha : (s.forwardCell d b).acceptable c b = true) (ho : c.orig = 0x80) :
    ∃ u : State, exec (.claimCellReceived d b) s = .next u
      ∧ u.ring.claimA = some (BitVec.ofNat 32 (leAt c.body 0 4), s.clk.batten) ∧ u.ring.claimB = s.ring.claimB ∧ u.fio = s.fio := by
  have hq := s.forwardCell_queues d b
  have hw' : ((s.forwardCell d b).noteCell c).isWorker = true := by rw [hq]; exact hw
  have hx : exec (.claimCellReceived d b) s
      = .next (((s.forwardCell d b).noteCell c).setWorkerClaim c.orig (BitVec.ofNat 32 (leAt c.body 0 4))) :=
    congrArg Host.Outcome.next ((State.takeCell_accepts hup hp hk ha).trans (if_pos hw'))
  refine ⟨_, hx, ?_⟩
  rw [ho, hq]
  exact ⟨rfl, rfl, rfl⟩

/-- Nothing but the ring and the ports changes. -/
def State.OnlyTrains (s u : State) : Prop := u = { s with ring := u.ring, comm := u.comm }

theorem State.OnlyTrains.trans {s u v : State} (h : s.OnlyTrains u) (k : u.OnlyTrains v) : s.OnlyTrains v := by
  unfold State.OnlyTrains at *
  rw [k, h]

theorem State.OnlyTrains.isWorker {s u : State} (h : s.OnlyTrains u) : u.isWorker = s.isWorker := by
  unfold State.OnlyTrains at h
  rw [h]
  rfl

theorem State.dropOldTrains_only (s : State) : s.OnlyTrains s.dropOldTrains := by
  have h := foldl_rel State.OnlyComm .refl .trans (fun (s : State) (_ : TrainIn) => s.badFrame) (fun _ _ => rfl)
    (s.ring.trainBuf.filter (fun e => !s.trainAlive e)) s
  unfold State.OnlyComm at h
  unfold State.OnlyTrains State.dropOldTrains
  dsimp only
  rw [h]

/-- A train's bookkeeping leaves all but the ring and the ports' counts. -/
theorem State.joinTrain_only (s : State) (c : Cell) : s.OnlyTrains (s.joinTrain c).2 := by
  refine s.dropOldTrains_only.trans ?_
  unfold State.joinTrain
  generalize s.dropOldTrains = u
  dsimp only
  repeat' split
  all_goals rfl

theorem trainSegment_atWorker {data : List Byte} {s1 : State} (hup : s.ringUp d = true) (hp : parseCell b = some c)
    (hk : c.kind = cTRAIN) (hw : s.isWorker = true) (ha : (s.forwardCell d b).acceptable c b = true)
    (hdest : byteAt c.body 2 = s.ringOrig) (hfe : s.feUsed .ring < 4)
    (hj : ((s.forwardCell d b).noteCell c).joinTrain c = (some data, s1)) :
    exec (.trainSegmentReceived d b) s = .next (s1.workerTrain d c data).flush := by
  have hq := s.forwardCell_queues d b
  have hmine : ¬ (byteAt c.body 2 ≠ ((s.forwardCell d b).noteCell c).ringOrig
      ∨ 4 ≤ ((s.forwardCell d b).noteCell c).feUsed .ring) := by
    rw [hq]
    exact not_or.2 ⟨not_not.2 hdest, by exact Nat.not_le.2 hfe⟩
  have hw1 : s1.isWorker = true := by
    have h := (((s.forwardCell d b).noteCell c).joinTrain_only c).isWorker
    rw [hj, hq] at h
    exact h.trans hw
  refine congrArg Host.Outcome.next ((State.takeCell_accepts hup hp hk ha).trans ((if_neg hmine).trans ?_))
  rw [hj]
  exact congrArg State.flush (if_pos hw1)

end AtWorker

/-! ### The cells of a frame at a manager (R90, R362, R376) -/

section AtManager
variable {s : State} {d : RingSide} {b : List Byte} {c : Cell}

@[simp] theorem State.noteCell_isWorker (s : State) (c : Cell) : (s.noteCell c).isWorker = s.isWorker := rfl

theorem State.ringFormed_ring (s : State) : s.ringFormed.ring = s.ring ∧ s.ringFormed.rst.tokensBack = s.rst.tokensBack := by
  unfold State.ringFormed
  split <;> exact ⟨rfl, rfl⟩

/-- One more sign that the ring is whole: the second ends step 9 of a manager that leads (R90). -/
def State.cellBack (s : State) : State :=
  let s1 : State := { s with ring := { s.ring with tokenSeenNow := 1 }, rst := { s.rst with tokensBack := s.rst.tokensBack + 1 } }
  if 2 ≤ s.rst.tokensBack + 1 ∧ s1.pair.leads then s1.ringFormed else s1

theorem State.cellBack_counts (s : State) : s.cellBack.ring.tokenSeenNow = 1 ∧ s.cellBack.rst.tokensBack = s.rst.tokensBack + 1 := by
  unfold State.cellBack
  dsimp only
  split
  · obtain ⟨hring, hback⟩ := State.ringFormed_ring
      { s with ring := { s.ring with tokenSeenNow := 1 }, rst := { s.rst with tokensBack := s.rst.tokensBack + 1 } }
    rw [hring, hback]
    exact ⟨rfl, rfl⟩
  · exact ⟨rfl, rfl⟩

theorem State.cellBack_forms (h9 : s.rst.phase = 9) (hl : s.pair.leads = true) (hb : 1 ≤ s.rst.tokensBack) :
    s.cellBack.rst.phase = 0x0A := by
  unfold State.cellBack
  rw [if_pos ⟨by omega, hl⟩]
  unfold State.ringFormed
  rw [if_pos (by exact h9)]

section
variable (hup : s.ringUp d = true) (hp : parseCell b = some c) (ha : s.acceptable c b = true) (hw : s.isWorker = false)
include hup hp ha hw

theorem token_atManager (hk : c.kind = cTOKEN) (ho : c.orig = s.ringOrig) :
    exec (.tokenReceived d b) s = .next (s.noteCell c).cellBack := by
  refine congrArg Host.Outcome.next ((State.takeCell_atManager hup hp hk hw ha).trans ((if_neg (by simp [hw])).trans ?_))
  unfold State.managerToken
  exact if_neg (not_not.2 ho)

theorem relay_atManager (hk : c.kind = cRELAY) : exec (.relayReceived d b) s = .next (s.noteCell c) :=
  congrArg Host.Outcome.next ((State.takeCell_atManager hup hp hk hw ha).trans (if_neg (by simp [hw])))

theorem claimCell_atManager (hk : c.kind = cCLAIM) : exec (.claimCellReceived d b) s = .next (s.noteCell c).cellBack :=
  congrArg Host.Outcome.next ((State.takeCell_atManager hup hp hk hw ha).trans (if_neg (by simp [hw])))

theorem trainSegment_notTaken (hk : c.kind = cTRAIN) (hn : byteAt c.body 2 ≠ s.ringOrig ∨ 4 ≤ s.feUsed .ring) :
    exec (.trainSegmentReceived d b) s = .next (s.noteCell c) :=
  congrArg Host.Outcome.next ((State.takeCell_atManager hup hp hk hw ha).trans (if_pos hn))

end

end AtManager

/-! ### A worker's data at a manager (Tables RNG-3, AFE-9, R362, R363) -/

/-- Nothing but the workers' lines changes. -/
def State.OnlyLines (s u : State) : Prop := u = { s with ain := u.ain, din := u.din }

theorem State.OnlyLines.refl (s : State) : s.OnlyLines s := rfl
theorem State.OnlyLines.trans {s u v : State} (h : s.OnlyLines u) (k : u.OnlyLines v) : s.OnlyLines v := by
  unfold State.OnlyLines at *
  rw [k, h]

/-- Nothing but the workers' contact inputs changes. -/
def State.OnlyDin (s u : State) : Prop := u = { s with din := u.din }

theorem State.OnlyDin.refl (s : State) : s.OnlyDin s := rfl
theorem State.OnlyDin.trans {s u v : State} (h : s.OnlyDin u) (k : u.OnlyDin v) : s.OnlyDin v := by
  unfold State.OnlyDin at *
  rw [k, h]
theorem State.OnlyDin.onlyLines {s u : State} (h : s.OnlyDin u) : s.OnlyLines u := by
  unfold State.OnlyDin at h
  unfold State.OnlyLines
  rw [h]

theorem State.OnlyDin.ainIn {s u : State} (h : s.OnlyDin u) (n k : Nat) : u.ainIn n k = s.ainIn n k := by
  unfold State.OnlyDin at h
  rw [h]
  rfl

section Folds
variable {β : Type} {f : State → β → State}

theorem State.foldl_onlyLines (h : ∀ (a : State) (x : β), a.OnlyLines (f a x)) (l : List β) (s : State) : s.OnlyLines (l.foldl f s) :=
  foldl_rel State.OnlyLines .refl .trans f h l s

theorem State.foldl_onlyDin (h : ∀ (a : State) (x : β), a.OnlyDin (f a x)) (l : List β) (s : State) : s.OnlyDin (l.foldl f s) :=
  foldl_rel State.OnlyDin .refl .trans f h l s

end Folds

theorem State.mapLines_only (s : State) (n : Nat) (f : AinIn → AinIn) (g : DinIn → DinIn) : s.OnlyLines (s.mapLines n f g) :=
  (State.foldl_onlyLines (by intros; rfl) _ s).trans (State.foldl_onlyLines (by intros; rfl) _ _)

/-- The values of the channels that are written one after the other: each stands as it was written. -/
theorem State.foldl_putAin (s : State) (n k : Nat) (g : State → Nat → AinIn) {h : Nat} (hh : h < k) :
    ∃ u : State, ((List.range k).foldl (fun s ch => s.putAin n ch (g s ch)) s).ainIn n h = g u h := by
  induction k with
  | zero => omega
  | succ k ih =>
    rw [List.range_succ, List.foldl_append]
    simp only [List.foldl_cons, List.foldl_nil]
    generalize (List.range k).foldl (fun s ch => s.putAin n ch (g s ch)) s = v at ih ⊢
    by_cases hk : h = k
    · exact ⟨v, by rw [hk]; exact sget_sset_same ..⟩
    · obtain ⟨u, hu⟩ := ih (by omega)
      refine ⟨u, (sget_sset_other _ _ _ _ _ ?_).trans hu⟩
      unfold ainKey
      omega

/-- A channel as a worker's data carries it. -/
def State.channelOf (s : State) (n : Nat) (body : List Byte) (ch : Nat) : AinIn :=
  { value := signedOf 4 (leAt body (4 + 8 * ch) 4), eng := s.engFor n ch (signedOf 4 (leAt body (4 + 8 * ch) 4)),
    quality := byteAt body (8 + 8 * ch), flags := BitVec.ofNat 16 (leAt body (10 + 8 * ch) 2), frame := s.clk.frameNo }

/-- The channels' part of a worker's data. -/
def State.takeChannels (s : State) (n : Nat) (body : List Byte) : State :=
  (List.range 16).foldl (fun (s : State) ch => s.putAin n ch (s.channelOf n body ch)) s

/-- After the channels only the contact inputs change. -/
theorem State.takeDataValues_din (s : State) (n : Nat) (body : List Byte) : (s.takeChannels n body).OnlyDin (s.takeDataValues n body) :=
  (State.foldl_onlyDin (by intros; rfl) _ _).trans (State.foldl_onlyDin (by intros; rfl) _ _)

theorem State.takeDataValues_only (s : State) (n : Nat) (body : List Byte) : s.OnlyLines (s.takeDataValues n body) :=
  (State.foldl_onlyLines (by intros; rfl) _ s).trans (s.takeDataValues_din n body).onlyLines

theorem State.takeDataValues_ainIn (s : State) (n : Nat) (body : List Byte) {h : Nat} (hh : h < 16) :
    ((s.takeDataValues n body).ainIn n h).value = signedOf 4 (leAt body (4 + 8 * h) 4)
      ∧ ((s.takeDataValues n body).ainIn n h).quality = byteAt body (8 + 8 * h) := by
  obtain ⟨u, hu⟩ := s.foldl_putAin n 16 (fun s ch => s.channelOf n body ch) hh
  have hc : (s.takeChannels n body).ainIn n h = u.channelOf n body h := hu
  rw [(s.takeDataValues_din n body).ainIn, hc]
  exact ⟨rfl, rfl⟩

theorem State.isStandby_of_isActive {s : State} (h : s.isActive = true) : s.isStandby = false := by
  unfold State.isActive at h
  unfold State.isStandby
  simp only [Bool.and_eq_true, Bool.not_eq_true'] at h
  obtain ⟨⟨hw, hp⟩, -⟩ := h
  simp [hp]

theorem State.isWorker_of_isActive {s : State} (h : s.isActive = true) : s.isWorker = false := by
  unfold State.isActive at h
  simp only [Bool.and_eq_true, Bool.not_eq_true'] at h
  obtain ⟨⟨hw, -⟩, -⟩ := h
  exact hw

/-- The active takes a worker's data of the present frame: the worker is heard, and its values stand as they came. -/
theorem State.takeData_active {s : State} {c : Cell} (far : Bool) (ha : s.isActive = true) (hk : s.workerKnown c.orig = true)
    (hl : c.body.length = 208) (hf : c.frame = s.clk.frameNo) (ho : s.offset ≤ 25000) :
    ∃ u : State, s.takeData c far = u.takeDataValues c.orig c.body ∧ u.isActive = true ∧ (u.worker c.orig).gotData = true
      ∧ u.peg = s.peg := by
  unfold State.takeData
  dsimp only
  rw [if_neg (by simp [hk, hl, hf, ho])]
  have hactive (w : Worker) (e : List (Nat × List Byte)) : State.isStandby { s.setWorker c.orig w with
      ring := { (s.setWorker c.orig w).ring with edges := e } } = false := State.isStandby_of_isActive (s := s) ha
  split
  · rw [if_neg (by rw [show State.isStandby (s.setWorker c.orig _) = false from State.isStandby_of_isActive (s := s) ha]; simp)]
    exact ⟨_, rfl, ha, by rw [State.setWorker_same], rfl⟩
  · rw [if_neg (by rw [hactive]; simp)]
    refine ⟨_, rfl, ha, ?_, rfl⟩
    exact congrArg Worker.gotData (State.setWorker_same ..)

theorem State.noteArrival_only (s : State) (d : RingSide) (c : Cell) :
    ∃ l : List Nat, s.noteArrival d c = { s with ring := { s.ring with heard := l } } := by
  unfold State.noteArrival
  split
  · exact ⟨_, rfl⟩
  · exact ⟨_, rfl⟩

theorem dataCell_atActive {s : State} {d : RingSide} {b : List Byte} {c : Cell} (hup : s.ringUp d = true)
    (hp : parseCell b = some c) (hacc : s.acceptable c b = true) (hk : c.kind = cDATA) (ha : s.isActive = true)
    (hw : s.workerKnown c.orig = true) (hl : c.body.length = 208) (hf : c.frame = s.clk.frameNo) (ho : s.offset ≤ 25000) :
    ∃ u : State, exec (.dataCellReceived d b) s = .next u ∧ (u.worker c.orig).gotData = true
      ∧ (∀ h, h < 16 → (u.ainIn c.orig h).value = signedOf 4 (leAt c.body (4 + 8 * h) 4)
        ∧ (u.ainIn c.orig h).quality = byteAt c.body (8 + 8 * h)) ∧ u.peg = s.peg := by
  have hmgr : s.isWorker = false := State.isWorker_of_isActive ha
  obtain ⟨v, hv, hva, hgot, hpeg⟩ := State.takeData_active (s := s.noteCell c) ((s.noteCell c).farSide d) ha hw hl hf ho
  have hlines := v.takeDataValues_only c.orig c.body
  have hvals (h : Nat) (hh : h < 16) := v.takeDataValues_ainIn c.orig c.body hh
  generalize v.takeDataValues c.orig c.body = w at hv hlines hvals
  unfold State.OnlyLines at hlines
  obtain ⟨l, hn⟩ := w.noteArrival_only d c
  have hstand : (w.noteArrival d c).isStandby = false := by
    rw [hn, hlines]
    exact State.isStandby_of_isActive (s := v) hva
  have hx : exec (.dataCellReceived d b) s = .next (w.noteArrival d c) := by
    refine congrArg Host.Outcome.next ((State.takeCell_atManager hup hp hk hmgr hacc).trans ((if_neg (by simp [hmgr])).trans ?_))
    rw [hv]
    exact if_neg (by rw [hstand]; simp)
  refine ⟨_, hx, ?_, ?_, ?_⟩ <;> rw [hn]
  · rw [hlines]
    exact hgot
  · exact hvals
  · rw [hlines]
    exact hpeg

/-! ### The frame's other events at a worker (R90, R265, R362, R366) -/

theorem State.countLostEdges_only (s : State) :
    s.countLostEdges = { s with fio := { s.fio with din := s.countLostEdges.fio.din } } :=
  foldl_rel (fun a b : State => b = { a with fio := { a.fio with din := b.fio.din } }) (fun _ => rfl)
    (fun {a b c} h k => by rw [k, h]) _ (by intros; rfl) _ s

/-- A worker's DATA leaves under the next counter; with it the first token is answered. -/
theorem dataCellSend_counts {s : State} (ha : s.alive = true) (hw : s.isWorker = true) (hr : s.clk.running = true)
    (hi : s.ring.index ≠ 0) (hk : s.ringKey ≠ []) : ∃ u : State, exec .dataCellSend s = .next u
      ∧ u.ring.counterOut = s.ring.counterOut + 1 ∧ u.ring.tokenSeenNow = 0
      ∧ (s.rst.phase = 0x0E → s.ring.tokenSeenNow ≠ 0 → u.rst.phase = 0x0A) ∧ u.peg = s.peg := by
  have hsend : ¬ (¬ s.alive = true ∨ ¬ s.isWorker = true ∨ ¬ s.clk.running = true ∨ s.ring.index = 0
      ∨ s.ringKey.isEmpty = true) := by
    simp [ha, hw, hr, hi, hk]
  refine ⟨_, congrArg Host.Outcome.next (if_neg hsend), ?_⟩
  dsimp only
  have h0 := s.toOffset_only 1250
  generalize s.toOffset 1250 = s0 at h0
  have hA := (s0.newCell cDATA s0.clk.frameNo s0.dataBody).2.putCell_queues .a
    (cellBytes s0.cellTagKey (s0.newCell cDATA s0.clk.frameNo s0.dataBody).1) 0
  generalize State.putCell _ RingSide.a _ 0 = sA at hA
  have hB := sA.putCell_queues .b (cellBytes s0.cellTagKey (s0.newCell cDATA s0.clk.frameNo s0.dataBody).1) 0
  generalize State.putCell sA RingSide.b _ 0 = sB at hB
  rw [sB.countLostEdges_only, hB, hA, h0]
  exact ⟨rfl, rfl, fun h9 ht => if_pos ⟨h9, ht⟩, rfl⟩

theorem isolated_noClaim {s : State} (ha : s.alive = true) (hw : s.isWorker = true) (hl : s.liveClaims = []) :
    exec .isolated s = .next { s with ring := { s.ring with isolated := true } } :=
  congrArg Host.Outcome.next (if_pos ⟨ha, hw, by rw [hl]; rfl⟩)

theorem workerRoundTimeout_laysUp {s : State} (ha : s.alive = true) (hw : s.isWorker = true) (hin : s.inRound = true)
    (hr : s.clk.running = false) (ht : 2 * s.cfg cCLOCK 0 0x34 * 12500000 ≤ s.sinceRelease) :
    exec .workerRoundTimeout s
      = .next (State.queueLayup { s with rst := { s.rst with layingUp := some (s.clk.frameNo - 1) } }) :=
  congrArg Host.Outcome.next (if_pos ⟨ha, hw, hin, by simp [hr], ht⟩)

/-! ### The judgement of the workers' data (R363) -/

/-- A worker judged: heard or missed once more. -/
def Worker.Judged (w v : Worker) : Prop :=
  v.missRun = (if w.gotData then 0 else w.missRun + 1) ∧ v.okRun = (if w.gotData then w.okRun + 1 else 0)

/-- The ring and the pegged data are as they were. -/
def State.SameRing (s u : State) : Prop := u.ring = s.ring ∧ u.peg = s.peg

theorem State.SameRing.refl (s : State) : s.SameRing s := ⟨rfl, rfl⟩
theorem State.SameRing.trans {s u v : State} (h : s.SameRing u) (k : u.SameRing v) : s.SameRing v :=
  ⟨k.1.trans h.1, k.2.trans h.2⟩

theorem State.batchFact_sameRing (s : State) (p k : Nat) (on : Bool) : s.SameRing (s.batchFact p k on) := by
  unfold State.batchFact
  split
  · exact .refl s
  · exact ⟨rfl, rfl⟩

theorem State.OnlyLines.sameRing {s u : State} (h : s.OnlyLines u) : s.SameRing u := by
  unfold State.OnlyLines at h
  rw [h]
  exact ⟨rfl, rfl⟩

/-- A worker's entry after the judgement of its data. -/
def State.judged (s : State) (n : Nat) : Worker :=
  let w := s.worker n
  { w with
    missedBits := ((!w.gotData) :: w.missedBits).take 100, missRun := if w.gotData then 0 else w.missRun + 1
    okRun := if w.gotData then w.okRun + 1 else 0
    unseenRun := if ¬ w.gotData ∨ s.tokenExcused then w.unseenRun
      else if w.tokenSeen = 0 ∧ w.reach.getLsbD 1 then w.unseenRun + 1 else 0 }

theorem State.foldl_batchFact_sameRing (k : Nat) (on : Nat → Bool) (l : List Nat) (s : State) :
    s.SameRing (l.foldl (fun s p => s.batchFact p k (on p)) s) :=
  foldl_rel State.SameRing .refl .trans _ (fun _ _ => State.batchFact_sameRing ..) l s

/-- What the judgement of a worker brings beside its entry: its facts, or its lines held or lost. -/
def State.followJudgement (s : State) (n : Nat) (w : Worker) : State :=
  if w.gotData then workerPoints.foldl (fun s p => s.batchFact p (n + 1) (w.facts.getLsbD (p - 0x800))) s
  else if w.missRun + 1 = 1 then s.mapLines n AinIn.hold DinIn.hold else s.mapLines n AinIn.lose DinIn.lose

theorem State.followJudgement_sameRing (s : State) (n : Nat) (w : Worker) : s.SameRing (s.followJudgement n w) := by
  unfold State.followJudgement
  split
  · exact State.foldl_batchFact_sameRing ..
  · split <;> exact (State.mapLines_only ..).sameRing

theorem State.judgeData_writes (s : State) (n : Nat) : ∃ on : Bool,
    s.judgeData n = ((s.setWorker n (s.judged n)).followJudgement n (s.worker n)).batchFact 0x801 (n + 1) on := by
  unfold State.judgeData State.followJudgement State.judged
  dsimp only
  cases hg : (s.worker n).gotData
  · exact ⟨_, rfl⟩
  · exact ⟨_, rfl⟩

/-- A judgement writes the one worker, and nothing else of the ring. -/
theorem State.judgeData_sameRing (s : State) (n : Nat) : (s.setWorker n (s.judged n)).SameRing (s.judgeData n) := by
  obtain ⟨on, h⟩ := s.judgeData_writes n
  rw [h]
  exact (State.followJudgement_sameRing ..).trans (State.batchFact_sameRing ..)

theorem State.SameRing.worker {s u : State} (h : s.SameRing u) (n : Nat) : u.worker n = s.worker n := by
  unfold State.worker
  rw [h.1]

theorem State.judgeData_same (s : State) (n : Nat) : (s.worker n).Judged ((s.judgeData n).worker n) := by
  rw [(s.judgeData_sameRing n).worker, State.setWorker_same]
  exact ⟨rfl, rfl⟩

theorem State.judgeData_other (s : State) {n k : Nat} (h : k ≠ n) : (s.judgeData n).worker k = s.worker k := by
  rw [(s.judgeData_sameRing n).worker, State.setWorker_other _ _ _ _ h]

theorem State.judgeData_peg (s : State) (n : Nat) : (s.judgeData n).peg = s.peg :=
  (s.judgeData_sameRing n).2

/-- Each worker of a list without repeats is judged once. -/
theorem State.foldl_judgeData (l : List Nat) (s : State) {n : Nat} (hl : l.Nodup) :
    (n ∉ l → (l.foldl State.judgeData s).worker n = s.worker n)
      ∧ (n ∈ l → (s.worker n).Judged ((l.foldl State.judgeData s).worker n)) := by
  induction l generalizing s with
  | nil => exact ⟨fun _ => rfl, fun h => by simp at h⟩
  | cons k l ih =>
    obtain ⟨hk, hl⟩ := List.nodup_cons.1 hl
    obtain ⟨hout, hin⟩ := ih (s.judgeData k) hl
    rw [List.foldl_cons]
    constructor
    · intro h
      obtain ⟨hne, hn⟩ := not_or.1 (mt List.mem_cons.2 h)
      rw [hout hn, s.judgeData_other hne]
    · intro h
      by_cases hne : n = k
      · subst hne
        rw [hout hk]
        exact s.judgeData_same n
      · have := hin ((List.mem_cons.1 h).resolve_left hne)
        rwa [s.judgeData_other hne] at this

theorem State.sendMirror_sameRing (s : State) : s.SameRing s.sendMirror := by
  refine foldl_rel State.SameRing .refl .trans _ (fun a x => ?_) _ s
  have h := a.sendRidge_only kMIRROR (mirrorPart a.clk.frameNo
    (decide (x.2 + 1 < (packParts [] (s.mirrorEntries.flatMap (fun e => cutEntry 8 e))).length)) x.2 x.1)
  unfold State.OnlyRidge at h
  rw [h]
  exact ⟨rfl, rfl⟩

theorem State.judgeWorkers_judges (s : State) :
    (∀ n, s.workerKnown n = true → n < 16 → (s.worker n).Judged (s.judgeWorkers.worker n)) ∧ s.judgeWorkers.peg = s.peg := by
  have hb (u : State) : u.SameRing (u.batchFact 0x801 (b2n u.unitB) (u.ring.workers.any (fun e => e.2.relayNext))) :=
    u.batchFact_sameRing ..
  have hpeg := foldl_rel (fun a b : State => b.peg = a.peg) (fun _ => rfl) (fun h k => k.trans h) State.judgeData
    State.judgeData_peg ((List.range 16).filter s.workerKnown) s
  refine ⟨fun n hn h16 => ?_, (hb _).2.trans hpeg⟩
  have hl := (State.foldl_judgeData ((List.range 16).filter s.workerKnown) s (n := n) (List.nodup_range.filter _)).2
    (List.mem_filter.2 ⟨List.mem_range.2 h16, hn⟩)
  unfold State.judgeWorkers
  dsimp only
  rw [(hb _).worker]
  exact hl

theorem workerDataDeadline_judges {s : State} (hr : s.isReady = true) (ha : s.isActive = true) (hc : s.clk.running = true) :
    ∃ u : State, exec .workerDataDeadline s = .next u
      ∧ (∀ n, s.workerKnown n = true → n < 16 → (s.worker n).Judged (u.worker n)) ∧ u.peg = s.peg := by
  have hmgr : s.isWorker = false := State.isWorker_of_isActive ha
  have h0 := s.toOffset_only 25000
  have hact : (s.toOffset 25000).isActive = true := by rw [h0]; exact ha
  have hsame : s.SameRing (s.toOffset 25000) := by rw [h0]; exact ⟨rfl, rfl⟩
  obtain ⟨hj, hpeg⟩ := (s.toOffset 25000).judgeWorkers_judges
  have hsent : (s.toOffset 25000).judgeWorkers.SameRing (if (s.toOffset 25000).judgeWorkers.pair.state = 1 then
      (s.toOffset 25000).judgeWorkers.sendMirror else (s.toOffset 25000).judgeWorkers) := by
    split
    · exact State.sendMirror_sameRing _
    · exact .refl _
  refine ⟨_, congrArg Host.Outcome.next ((if_neg (by simp [hr, hmgr, hc])).trans (if_pos hact)), fun n hn h16 => ?_, ?_⟩
  · rw [hsent.worker, ← hsame.worker]
    exact hj n (by rw [State.workerKnown, hsame.worker]; exact hn) h16
  · exact hsent.2.trans (hpeg.trans hsame.2)

/-! ### The maximum of a class-L command (R159, R370) -/

/-- What waited for a command lets go of it: the ring and the pair change, the ports and the clock do not. -/
theorem State.dropL_only (s : State) (r : Req) : ∃ (q : Ring) (p : PairSt),
    s.dropL r = { s with ring := q, pair := p } ∧ q.cmds = s.ring.cmds.filter (fun c => c.req != r) :=
  ⟨_, _, rfl, rfl⟩

theorem commandTimeout_due {s : State} {t : Tag} (hs : s.comm.tags = [t]) (hb : t.begun = true) (ha : t.answered = false)
    (hl : s.latOf t.opcode.toNat t.req = .l) :
    exec (.commandTimeout t.req.session t.req.seq) s = .next (s.timeoutTag t).flush := by
  have hdue : s.comm.tags.filter (fun u => u.req.session == t.req.session && u.req.seq == t.req.seq && u.begun && !u.answered
      && s.latOf u.opcode.toNat u.req == .l) = [t] := by
    rw [hs, List.filter_cons_of_pos (by simp [hb, ha, hl])]
    rfl
  show Host.Outcome.next (State.flush (List.foldl State.timeoutTag s (s.comm.tags.filter _))) = _
  rw [hdue]
  rfl

theorem State.timeoutTag_early {s : State} {t : Tag} (h : since s.clk.batten t.admitAt < s.linkTicks t.opcode.toNat t.req) :
    s.timeoutTag t = s := if_pos h

theorem State.timeoutTag_ends {s : State} {t : Tag} (hr : s.ring.admitReq = none)
    (h : s.linkTicks t.opcode.toNat t.req ≤ since s.clk.batten t.admitAt) :
    ∃ n : Nat, s.Answered (s.timeoutTag t) t (s.endsWith t) [] n
      ∧ (s.timeoutTag t).ring.cmds = s.ring.cmds.filter (fun c => c.req != t.req) := by
  have hx : s.timeoutTag t = (s.dropL t.req).answerLate t (s.endsWith t) [] (s.linkTicks t.opcode.toNat t.req) := by
    refine (if_neg (Nat.not_lt.2 h)).trans ?_
    rw [hr]
  obtain ⟨q, p, hd, hc⟩ := s.dropL_only t.req
  obtain ⟨hans, hk⟩ := (s.dropL t.req).answerLate_spec t (s.endsWith t) [] (s.linkTicks t.opcode.toNat t.req)
  rw [hx]
  refine ⟨_, hans.of_comm (by rw [hd]) (by rw [hd]) (by rw [hd]), ?_⟩
  unfold State.KeepsAllButReplies at hk
  rw [hk, hd]
  exact hc

/-! ### The end of a scan (R367) -/

/-- Nothing changes but what is told of, the sessions' events and the entries of the workers. -/
def State.OnlyTold (s u : State) : Prop :=
  u = { s with comm := u.comm, recorder := u.recorder, ring := { s.ring with workers := u.ring.workers } }

theorem State.OnlyTold.refl (s : State) : s.OnlyTold s := rfl
theorem State.OnlyTold.trans {s u v : State} (h : s.OnlyTold u) (k : u.OnlyTold v) : s.OnlyTold v := by
  unfold State.OnlyTold at *
  rw [k, h]

theorem State.tellRing_told (s : State) (c w : Nat) : s.OnlyTold (s.tellRing c w) := by
  unfold State.OnlyTold
  rw [s.tellRing_only]

theorem State.notePosition_told (s : State) (e : (Word × Nat × Nat) × Nat) : s.OnlyTold (s.notePosition e) := by
  unfold State.notePosition
  dsimp only
  split
  · exact s.tellRing_told ..
  · rfl

theorem State.scanDone_shows {s : State} {r : Req} (h : s.ring.scanReq = some r) (l : List (Word × Nat × Nat)) :
    (s.scanDone l).ring.scanned = true ∧ (s.scanDone l).ring.scanReq = none ∧ (s.scanDone l).ring.scan = l
      ∧ (s.scanDone l).peg = s.peg := by
  unfold State.scanDone
  rw [h]
  dsimp only
  have ht := (foldl_rel State.OnlyTold .refl .trans State.notePosition State.notePosition_told l.zipIdx
    { s with ring := { s.ring with scan := l, scanned := true, scanReq := none } }).trans (State.tellRing_told _ 6 0)
  generalize State.tellRing _ 6 0 = u at ht
  unfold State.OnlyTold at ht
  split
  · next t _ =>
    obtain ⟨-, hk⟩ := u.answerLate_spec t .done (scanReply l) 0
    unfold State.KeepsAllButReplies at hk
    rw [hk, ht]
    exact ⟨rfl, rfl, rfl, rfl⟩
  · rw [ht]
    exact ⟨rfl, rfl, rfl, rfl⟩

section Cells
variable {s : State} {d : RingSide} {b : List Byte} {c : Cell}

theorem scanCell_atManager {r : Req} (hup : s.ringUp d = true) (hp : parseCell b = some c) (hk : c.kind = cSCAN)
    (hw : s.isWorker = false) (ho : c.orig = s.ringOrig) (hr : s.ring.scanReq = some r) :
    ∃ u : State, exec (.scanCellReceived d b) s = .next u.flush ∧ u.ring.scanned = true ∧ u.ring.scanReq = none
      ∧ u.ring.scan = (if s.unitB && s.pair.bound then (scanEntries c.body).reverse else scanEntries c.body) ∧ u.peg = s.peg := by
  refine ⟨s.scanDone (if s.unitB && s.pair.bound then (scanEntries c.body).reverse else scanEntries c.body), ?_,
    State.scanDone_shows hr _⟩
  rw [exec_scanCellReceived, State.readCell_use hup hp hk]
  unfold State.useScan
  rw [if_neg (by simp [hw]), if_neg (not_not.2 ho)]

/-! ### Step 4 of an admission at a worker (R368) -/

/-- The ring key that opens is stored with the index and the managers' serials, and the exchange is over. -/
theorem State.takeRingKey_stores {a : Admission} {m : List Byte} (ha : s.ring.admits.head? = some a)
    (hm : gcmOpen a.kek (slice c.body 8 12) [] (slice c.body 20 41) (slice c.body 61 16) = some m) :
    ((s.takeRingKey d c).keyAt 25).value = m.take 32 ∧ (s.takeRingKey d c).ring.index = byteAt m 32
      ∧ (s.takeRingKey d c).ring.mgrA = BitVec.ofNat 32 (leAt m 33 4) ∧ (s.takeRingKey d c).ring.admits = []
      ∧ ∀ k, k ≠ 25 → (s.takeRingKey d c).keyAt k = s.keyAt k := by
  unfold State.takeRingKey
  rw [ha]
  dsimp only
  rw [hm]
  dsimp only
  obtain ⟨q, hs, hq⟩ := State.sendCell_sent
    { s with
      keys := sset Key.empty s.keys 25 { state := 1, loadedAt := s.secNow, value := m.take 32 },
      ring := { s.ring with
        index := byteAt m 32, mgrA := BitVec.ofNat 32 (leAt m 33 4), mgrB := BitVec.ofNat 32 (leAt m 37 4), admits := [],
        lastIn := [] } } d cADMIT s.clk.frameNo
    (admitHead 5 (byteAt m 32) Config.serial ++ hmac (m.take 32) (a.nm ++ a.nw ++ toLe 1 (byteAt m 32)))
  rw [hs, hq]
  refine ⟨?_, rfl, rfl, rfl, fun k hk => ?_⟩
  · unfold State.keyAt
    dsimp only
    rw [sget_sset_same]
  · unfold State.keyAt
    dsimp only
    exact sget_sset_other Key.empty _ _ _ _ hk

theorem admitCell_step4 {a : Admission} {m : List Byte} (hup : s.ringUp d = true) (hp : parseCell b = some c)
    (hk : c.kind = cADMIT) (hw : s.isWorker = true) (hs : leAt c.body 4 4 = Config.serial.toNat) (h4 : byteAt c.body 0 = 4)
    (ha : s.ring.admits.head? = some a)
    (hm : gcmOpen a.kek (slice c.body 8 12) [] (slice c.body 20 41) (slice c.body 61 16) = some m) :
    ∃ u : State, exec (.admitCellReceived d b) s = .next u ∧ (u.keyAt 25).value = m.take 32 ∧ u.ring.index = byteAt m 32
      ∧ u.ring.mgrA = BitVec.ofNat 32 (leAt m 33 4) ∧ u.ring.admits = [] ∧ ∀ k, k ≠ 25 → u.keyAt k = s.keyAt k := by
  have hq := s.forwardCell_queues d b
  have hw' : (s.forwardCell d b).isWorker = true := by rw [hq]; exact hw
  have ha' : (s.forwardCell d b).ring.admits.head? = some a := by rw [hq]; exact ha
  have hx : exec (.admitCellReceived d b) s = .next ((s.forwardCell d b).takeRingKey d c) := by
    rw [exec_admitCellReceived, State.readCell_use hup hp hk]
    unfold State.useAdmit
    rw [if_pos hw', if_neg (not_not.2 hs), if_neg (by omega), if_pos h4]
  obtain ⟨hkey, hindex, hmgr, hadmits, hother⟩ := State.takeRingKey_stores (d := d) ha' hm
  refine ⟨_, hx, hkey, hindex, hmgr, hadmits, fun k h => (hother k h).trans ?_⟩
  rw [hq]
  rfl

/-! ### A cell asked for again, and a segment trained (R358) -/

theorem State.askedFor_newest (h0 : byteAt c.body 0 = 0) : s.askedFor .a c = s.ring.sentA.head? := if_pos h0

section Resend
variable {x : List Byte} {n : Nat} (hup : s.ringUp .a = true) (hp : parseCell b = some c) (hk : c.kind = cRESEND)
  (h0 : byteAt c.body 0 = 0) (hs : s.ring.sentA.head? = some (x, n))
include hup hp hk h0 hs

theorem resend_leaves (hx : cellPrio (byteAt x 0) = 0) (hn : n < 2) : ∃ u : State, exec (.resendReceived .a b) s = .next u
    ∧ u.ring.resends = inc32 s.ring.resends ∧ u.ring.txA = queueCell s.ring.txA x ∧ u.ring.txB = s.ring.txB := by
  have hput : State.putCell { s with ring := { s.ring with resends := inc32 s.ring.resends } } .a x (n + 1)
      = { s with ring := { s.ring with
          resends := inc32 s.ring.resends, txA := queueCell s.ring.txA x, sentA := noteSent s.ring.sentA x (n + 1) } } :=
    if_neg (not_not.2 hup)
  refine ⟨State.putCell { s with ring := { s.ring with resends := inc32 s.ring.resends } } .a x (n + 1), ?_, ?_⟩
  · rw [exec_resendReceived, State.readCell_use hup hp hk]
    unfold State.useResend
    rw [State.askedFor_newest h0, hs]
    exact congrArg Host.Outcome.next (if_neg (not_or.2 ⟨not_not.2 hx, Nat.not_le.2 hn⟩))
  · rw [hput]
    exact ⟨rfl, rfl, rfl⟩

theorem resend_refused (hn : 2 ≤ n) : exec (.resendReceived .a b) s = .next s := by
  rw [exec_resendReceived, State.readCell_use hup hp hk]
  unfold State.useResend
  rw [State.askedFor_newest h0, hs]
  exact congrArg Host.Outcome.next (if_pos (Or.inr hn))

end Resend

end Cells

/-- A training told of: by the gutter log of every node, and by a manager in an event and a record. -/
theorem State.trainingTold_sameRing (s : State) (k : Nat) :
    s.SameRing (if ¬ s.isReady then s
      else if (s.gutter 0x03 k 1).isWorker then s.gutter 0x03 k 1 else (s.gutter 0x03 k 1).tellRing 9 0) := by
  have hg := s.gutter_only 0x03 k 1
  unfold State.OnlyGut at hg
  have hs : s.SameRing (s.gutter 0x03 k 1) := by rw [hg]; exact ⟨rfl, rfl⟩
  split
  · exact .refl s
  · split
    · exact hs
    · exact hs.trans ⟨State.tellRing_ring .., State.tellRing_peg ..⟩

theorem ringSegmentTrain_trains {s : State} {n : Nat} (ha : s.alive = true) (hb : s.blockInReset 7 = false)
    (hd : sget 1 s.clk.domains 8 = 1) : ∃ u : State, exec (.ringSegmentTrain .a n) s = .next u ∧ u.ring.trainedA = true
      ∧ u.ring.delayA = min 65535 n ∧ u.ring.trainedB = s.ring.trainedB ∧ u.ring.downSince = none ∧ u.peg = s.peg := by
  have hup : ¬ (¬ s.alive = true ∨ s.blockInReset 7 = true ∨ sget 1 s.clk.domains 8 ≠ 1) := by simp [ha, hb, hd]
  refine ⟨_, congrArg Host.Outcome.next (if_neg hup), ?_⟩
  obtain ⟨hring, hpeg⟩ := State.trainingTold_sameRing { s with
    ring := if ¬ s.isWorker ∧ s.farSide .a then
        { s.ring with trainedA := true, delayA := min 65535 n, downSince := none, closingNs := min 65535 n }
      else { s.ring with trainedA := true, delayA := min 65535 n, downSince := none }
    clk := { s.clk with refState := if s.isWorker ∧ s.clk.refState = 0 then 1 else s.clk.refState } } 0
  refine ⟨(congrArg Ring.trainedA hring).trans ?_, (congrArg Ring.delayA hring).trans ?_, (congrArg Ring.trainedB hring).trans ?_,
    (congrArg Ring.downSince hring).trans ?_, hpeg⟩ <;> dsimp only <;> split <;> rfl

end Sys2Proof.Machine
end

section
open Sys2Proof Sys2Proof.Machine

/-- Settles O59: the cells through what their row does with each, then each kind, each deadline and each limit by its own lemma. -/
theorem ringEventsComplete : Obligations.RingEventsComplete := by
  refine ⟨fun d b s i n h => ?_, fun d b s c i n h hup hp hk => ?_,
    fun d b s c i n h hup hp hk hw ha hi hA hB ho hpeg => tokenRow_executes h hup hp hk hw ha hi hA hB ho hpeg,
    fun d b s c hup hp ha hw => ?_, fun d b s c hup hp hk hw ha ho => claimCell_atWorker hup hp hk hw ha ho,
    fun d b data s s1 c hup hp hk hw ha hdest hfe hj => trainSegment_atWorker hup hp hk hw ha hdest hfe hj,
    fun s ha hw hr hi hk => dataCellSend_counts ha hw hr hi hk, fun s hr ha hc => workerDataDeadline_judges hr ha hc,
    fun s t hs hb ha hl hr => ?_, fun d b s c r hup hp hk hw ho hr => scanCell_atManager hup hp hk hw ho hr,
    fun d b m s c a hup hp hk hw hs h4 ha hm => admitCell_step4 hup hp hk hw hs h4 ha hm,
    fun b x n s c hup hp hk h0 hs hx => ⟨resend_leaves hup hp hk h0 hs hx, resend_refused hup hp hk h0 hs⟩,
    fun n s ha hb hd => ringSegmentTrain_trains ha hb hd, fun s ha hw hl => isolated_noClaim ha hw hl,
    fun s ha hw hin hr ht => workerRoundTimeout_laysUp ha hw hin hr ht⟩
  · obtain ⟨f, hf⟩ := ringRow_reads (s := s) h
    rw [hf]
    exact ⟨fun hup => congrArg _ (State.readCell_down hup), fun hup hp => congrArg _ (State.readCell_bad hup hp),
      fun c hup hp hk => congrArg _ (State.readCell_other hup hp hk)⟩
  · obtain ⟨f, hf⟩ := takeRow_takes (s := s) h
    rw [hf]
    exact ⟨fun he => congrArg _ (State.takeCell_noKey hup hp hk he), fun he ha => congrArg _ (State.takeCell_fails hup hp hk he ha)⟩
  · obtain ⟨hseen, hback⟩ := (s.noteCell c).cellBack_counts
    exact ⟨fun hk ho => ⟨_, token_atManager hup hp ha hw hk ho, hseen, hback, State.cellBack_forms (s := s.noteCell c)⟩,
      relay_atManager hup hp ha hw, fun hk => ⟨_, claimCell_atManager hup hp ha hw hk, hseen, hback⟩,
      fun hk hact hkn hl hf ho => dataCell_atActive hup hp ha hk hact hkn hl hf ho, trainSegment_notTaken hup hp ha hw⟩
  · have hx := commandTimeout_due hs hb ha hl
    constructor
    · intro ht
      obtain ⟨n, hans, hcmds⟩ := State.timeoutTag_ends hr ht
      exact ⟨_, n, hx, hans, hcmds⟩
    · intro ht
      rw [hx, State.timeoutTag_early ht]

end

section
/-! A request's bytes read back (Table PKT-1). -/

namespace Sys2Proof.Machine

theorem reqFlags_lt (r : Req) : reqFlags r < 8 := by
  unfold reqFlags b2n
  split <;> split <;> split <;> omega

/-- Bit 0 of the flag byte is WANT_PROVISIONAL. -/
theorem reqFlags_wantProv (r : Req) : (reqFlags r).testBit 0 = r.wantProv := by
  have h : reqFlags r = b2n r.wantProv + 2 * (b2n (r.session != 0) + 2 * b2n (segmented r.port)) := by unfold reqFlags; omega
  rw [h, Nat.testBit_zero, Nat.add_mul_mod_self_left]
  cases r.wantProv <;> rfl

/-- The fields of a request's bytes, at the places of Table PKT-1. -/
theorem reqBytes_fields {op : Nat} {r : Req} (echo : Word) (ho : op < 65536) (hl : r.params.length ≤ 4096) :
    (reqBytes op r echo).length = 20 + r.params.length
    ∧ byteAt (reqBytes op r echo) 0 = 1 ∧ byteAt (reqBytes op r echo) 1 = reqFlags r ∧ leAt (reqBytes op r echo) 2 2 = op
    ∧ leAt (reqBytes op r echo) 4 4 = r.seq.toNat ∧ leAt (reqBytes op r echo) 8 2 = r.session.toNat
    ∧ leAt (reqBytes op r echo) 10 2 = r.params.length ∧ leAt (reqBytes op r echo) 12 4 = r.target.toNat
    ∧ leAt (reqBytes op r echo) 16 4 = echo.toNat ∧ slice (reqBytes op r echo) 20 r.params.length = r.params := by
  have hf := reqFlags_lt r
  have hq := r.seq.isLt
  have hs := r.session.isLt
  have ht := r.target.isLt
  have he := echo.isLt
  simp only [reqBytes, List.append_assoc]
  refine ⟨by simp; omega, ?_, ?_, ?_, ?_, ?_, ?_, ?_, ?_, ?_⟩
  · rw [byteAt_eq, leAt_of_slice (v := 1) (by simp)]; rfl
  · rw [byteAt_eq, leAt_of_slice (v := reqFlags r) (by simp [slice_toLe_skip])]; omega
  · rw [leAt_of_slice (v := op) (by simp [slice_toLe_skip])]; omega
  · rw [leAt_of_slice (v := r.seq.toNat) (by simp [slice_toLe_skip])]; omega
  · rw [leAt_of_slice (v := r.session.toNat) (by simp [slice_toLe_skip])]; omega
  · rw [leAt_of_slice (v := r.params.length) (by simp [slice_toLe_skip])]; omega
  · rw [leAt_of_slice (v := r.target.toNat) (by simp [slice_toLe_skip])]; omega
  · rw [leAt_of_slice (v := echo.toNat) (by simp [slice_toLe_skip])]; omega
  · simp [slice_toLe_skip]; simp [slice]

/-- The header of a request. -/
def headerOf (op : Nat) (r : Req) (echo : Word) : RawReq :=
  { ver := 1, flags := reqFlags r, opcode := op, seq := r.seq, session := r.session, len := r.params.length, target := r.target,
    echo := echo }

theorem parseHeader_reqBytes {op : Nat} {r : Req} (echo : Word) (ho : op < 65536) (hl : r.params.length ≤ 4096) :
    parseHeader (reqBytes op r echo) = some (headerOf op r echo) := by
  obtain ⟨hn, hver, hflags, hop, hseq, hsess, hlen, htarget, hecho, -⟩ := reqBytes_fields echo ho hl
  unfold parseHeader
  rw [if_neg (by omega)]
  simp [headerOf, hver, hflags, hop, hseq, hsess, hlen, htarget, hecho]

/-- A request is what its header and its parameters spell on its port. -/
theorem reqOf_headerOf (op : Nat) (r : Req) (echo : Word) : reqOf r.port (headerOf op r echo) r.params = r := by
  simp only [reqOf, headerOf, reqFlags_wantProv]

end Sys2Proof.Machine
end

section
open Sys2Proof Sys2Proof.Machine

/-- Settles O8: the header reads back field by field, and the parameters stand behind it. -/
theorem requestBytesReadBack : Obligations.RequestBytesReadBack := by
  intro op r echo ho hl
  obtain ⟨-, -, -, -, -, -, -, -, -, hparams⟩ := reqBytes_fields echo ho hl
  refine ⟨headerOf op r echo, parseHeader_reqBytes echo ho hl, rfl, rfl, rfl, rfl, rfl, ?_⟩
  exact (congrArg (reqOf r.port (headerOf op r echo)) hparams).trans (reqOf_headerOf op r echo)

end

section
/-! COBS (R108): the block at the front of some bytes, one step of the encoder and of the decoder, and the round trip. -/

namespace Sys2Proof.Machine

/-- The block at the front: at most 254 bytes, none of them zero. -/
def cobsBlock (b : List Byte) : List Byte := (b.takeWhile (fun x => x != 0)).take 254

theorem cobsBlock_length_le (b : List Byte) : (cobsBlock b).length ≤ 254 := by
  unfold cobsBlock
  exact List.length_take_le ..

theorem cobsBlock_no_zero (b : List Byte) : 0#8 ∉ cobsBlock b := fun h => by
  simpa using List.mem_takeWhile_imp (List.mem_of_mem_take h)

theorem cobsBlock_append_drop (b : List Byte) : cobsBlock b ++ b.drop (cobsBlock b).length = b :=
  List.prefix_iff_eq_append.1 ((List.take_prefix ..).trans (List.takeWhile_prefix _))

/-- A block that is not full ends before a zero byte. -/
theorem cobsBlock_before_zero {b rest : List Byte} {x : Byte} (hd : b.drop (cobsBlock b).length = x :: rest)
    (hn : (cobsBlock b).length ≠ 254) : x = 0#8 := by
  have hfull : cobsBlock b = b.takeWhile (fun x => x != 0) := List.take_of_length_le (by
    have h := List.length_take (i := 254) (l := b.takeWhile (fun x => x != 0))
    unfold cobsBlock at hn
    omega)
  have hdrop : b.dropWhile (fun x => x != 0) = x :: rest := by
    rw [← hd, hfull]
    exact (List.append_cancel_left ((List.takeWhile_append_dropWhile ..).trans
      ((congrArg (fun l => l ++ b.drop l.length) hfull).symm.trans (cobsBlock_append_drop b)).symm))
  have h := List.head_dropWhile_not (fun x : Byte => x != 0) (by rw [hdrop]; simp)
  simp only [hdrop, List.head_cons, bne_eq_false_iff_eq] at h
  exact h

/-- The code byte of a block. -/
def cobsCode (blk : List Byte) : Byte := BitVec.ofNat 8 (blk.length + 1)

theorem cobsCode_toNat {blk : List Byte} (h : blk.length ≤ 254) : (cobsCode blk).toNat = blk.length + 1 := by
  simp [cobsCode]; omega

theorem cobsEncode_last {b : List Byte} (k : Nat) (hd : b.drop (cobsBlock b).length = []) :
    cobsEncode (k + 1) b = cobsCode (cobsBlock b) :: cobsBlock b := by
  unfold cobsEncode
  simp only [cobsBlock] at hd ⊢
  rw [hd]
  rfl

/-- Behind a full block the encoder goes on at once; behind a shorter one it leaves the zero byte out. -/
theorem cobsEncode_more {b rest : List Byte} {x : Byte} (k : Nat) (hd : b.drop (cobsBlock b).length = x :: rest) :
    cobsEncode (k + 1) b
      = cobsCode (cobsBlock b) :: (cobsBlock b ++ cobsEncode k (if (cobsBlock b).length = 254 then x :: rest else rest)) := by
  have hd' : b.drop ((b.takeWhile (fun x => x != 0)).take 254).length = x :: rest := hd
  conv_lhs => unfold cobsEncode
  dsimp only
  rw [hd']
  by_cases h : (cobsBlock b).length = 254
  · rw [if_pos h, cobsCode, h]
    exact if_pos h
  · rw [if_neg h]
    exact if_neg h

theorem cobsEncode_ne_nil (k : Nat) (b : List Byte) : cobsEncode (k + 1) b ≠ [] := by
  cases hd : b.drop (cobsBlock b).length with
  | nil => simp [cobsEncode_last k hd]
  | cons x rest => simp [cobsEncode_more k hd]

theorem cobsCode_ne_zero {blk : List Byte} (hn : blk.length ≤ 254) : cobsCode blk ≠ 0#8 := fun h => by
  have hc := cobsCode_toNat hn
  rw [h] at hc
  simp at hc

theorem cobsCode_eq_full {blk : List Byte} (hn : blk.length ≤ 254) : cobsCode blk = 0xFF#8 ↔ blk.length = 254 := by
  rw [← BitVec.toNat_inj, cobsCode_toNat hn]
  simp

/-- The decoder takes a last block as it stands behind its code. -/
theorem cobsDecode_last {blk : List Byte} (hn : blk.length ≤ 254) (hz : 0#8 ∉ blk) (k : Nat) :
    cobsDecode (k + 1) (cobsCode blk :: blk) = some blk := by
  simp [cobsDecode, cobsCode_toNat hn, cobsCode_ne_zero hn, hz]

/-- Behind a full block the decoder goes on at once; behind a shorter one it puts a zero byte. -/
theorem cobsDecode_more {blk more : List Byte} (hn : blk.length ≤ 254) (hz : 0#8 ∉ blk) (hm : more ≠ []) (k : Nat) :
    cobsDecode (k + 1) (cobsCode blk :: (blk ++ more))
      = (cobsDecode k more).map (fun t => blk ++ (if blk.length = 254 then [] else [0#8]) ++ t) := by
  obtain ⟨c, cs, rfl⟩ := List.exists_cons_of_ne_nil hm
  simp [cobsDecode, cobsCode_toNat hn, cobsCode_ne_zero hn, cobsCode_eq_full hn, hz]

/-- What the encoder makes holds no zero and decodes to what was encoded, for any fuel that reaches its end. -/
theorem cobsEncode_readsBack (k : Nat) (b : List Byte) (hk : b.length < k) : 0#8 ∉ cobsEncode k b
    ∧ ∀ j, (cobsEncode k b).length < j → cobsDecode j (cobsEncode k b) = some b := by
  induction k generalizing b with
  | zero => omega
  | succ k ih =>
    have hn := cobsBlock_length_le b
    have hz := cobsBlock_no_zero b
    have hc := cobsCode_ne_zero hn
    have hb := cobsBlock_append_drop b
    cases hd : b.drop (cobsBlock b).length with
    | nil =>
      rw [cobsEncode_last k hd]
      refine ⟨by simp [hz, hc.symm], fun j hj => ?_⟩
      obtain ⟨j, rfl⟩ : ∃ i, j = i + 1 := ⟨j - 1, by omega⟩
      rw [hd, List.append_nil] at hb
      rw [cobsDecode_last hn hz, hb]
    | cons x rest =>
      have hlen : (x :: rest).length = b.length - (cobsBlock b).length := by rw [← hd, List.length_drop]
      rw [cobsEncode_more k hd]
      have hshort : (if (cobsBlock b).length = 254 then x :: rest else rest).length < k := by
        split <;> simp only [List.length_cons] at hlen ⊢ <;> omega
      obtain ⟨hzero, hread⟩ := ih _ hshort
      obtain ⟨i, rfl⟩ : ∃ i, k = i + 1 := ⟨k - 1, by omega⟩
      refine ⟨by simp [hz, hc.symm, hzero], fun j hj => ?_⟩
      obtain ⟨j, rfl⟩ : ∃ i, j = i + 1 := ⟨j - 1, by omega⟩
      rw [cobsDecode_more hn hz (cobsEncode_ne_nil i _), hread j (by simp at hj; omega), Option.map_some]
      conv_rhs => rw [← hb, hd]
      split
      · simp
      · next hnot => simp [cobsBlock_before_zero hd hnot]

end Sys2Proof.Machine
end

section
open Sys2Proof Sys2Proof.Machine

/-- Settles O37: the fuel that each side is given reaches the end of its bytes. -/
theorem cobsReadsBack : Obligations.CobsReadsBack := by
  intro b
  obtain ⟨hzero, hread⟩ := cobsEncode_readsBack (b.length + 1) b (by omega)
  exact ⟨hzero, hread _ (by omega)⟩

end

section
/-! SUPPORT. The SEQ rules of an open session: the branches of admitInSession by the place of SEQ against the highest (R122). -/

namespace Sys2Proof.Machine

variable {s : State} {x : Sess} {op : Nat} {r : Req}

/-- The next SEQ is a new request: it takes a tag, and becomes the highest (R119, R122). -/
theorem State.admitInSession_next (hh : x.high.toNat < 0xFFFFFFFF) (hn : r.seq.toNat = x.high.toNat + 1) (hs : s.hasSlot op r = true) :
    s.admitInSession x op r = (s.allot op r false).modSess r.port r.session (fun y => y.admitted op r) := by
  unfold State.admitInSession
  dsimp only
  rw [if_neg (by omega), if_neg (by omega), if_neg (by omega), if_pos hn, if_neg (by simp [hs])]

theorem State.admitInSession_noSlot (hh : x.high.toNat < 0xFFFFFFFF) (hn : r.seq.toNat = x.high.toNat + 1) (hs : s.hasSlot op r = false) :
    s.admitInSession x op r = s.noCredit r := by
  unfold State.admitInSession
  dsimp only
  rw [if_neg (by omega), if_neg (by omega), if_neg (by omega), if_pos hn, if_pos (by simp [hs])]

theorem State.admitInSession_ahead (hn : x.high.toNat + 1 < r.seq.toNat) :
    s.admitInSession x op r = s.feAnswer r.port r.session r.seq .badParam [] := by
  unfold State.admitInSession
  dsimp only
  rw [if_neg (by omega), if_neg (by omega), if_pos hn]

theorem State.admitInSession_zero (hh : x.high.toNat < 0xFFFFFFFF) (hn : r.seq = 0) :
    s.admitInSession x op r = s.feAnswer r.port r.session r.seq .badParam [] := by
  have h0 : r.seq.toNat = 0 := by rw [hn]; rfl
  unfold State.admitInSession
  dsimp only
  rw [if_neg (by omega), if_pos h0]

theorem State.admitInSession_old (h0 : 0 < r.seq.toNat) (hn : r.seq.toNat + 64 ≤ x.high.toNat) :
    s.admitInSession x op r = s.feAnswer r.port r.session r.seq .seqOld [] := by
  unfold State.admitInSession
  dsimp only
  rw [if_neg (by omega), if_neg (by omega), if_neg (by omega), if_neg (by omega), if_neg (by omega)]

/-- The session of an admitted request has its SEQ as the highest. -/
theorem State.allot_sess? (hx : s.sess? r.port r.session = some x) :
    ((s.allot op r false).modSess r.port r.session (fun y => y.admitted op r)).sess? r.port r.session = some (x.admitted op r) := by
  rw [State.sess?_modSess (f := fun y => y.admitted op r) (fun _ => rfl) (fun _ => rfl)]
  exact congrArg (Option.map _) hx

end Sys2Proof.Machine
end

section
open Sys2Proof Sys2Proof.Machine

/-- Settles O12: each clause is one branch of the decision on SEQ. -/
theorem seqRulesOfASession : Obligations.SeqRulesOfASession := by
  intro s x op r hx hh
  refine ⟨fun hn hs => ?_, fun hn hs => ⟨State.admitInSession_noSlot hh hn hs, rfl⟩, State.admitInSession_ahead,
    State.admitInSession_zero hh, State.admitInSession_old⟩
  exact ⟨_, x.admitted op r, State.admitInSession_next hh hn hs, State.allot_sess? hx, rfl, _, rfl, rfl, rfl, rfl⟩

end

section
/-! SUPPORT. GET and GET_RANGE: what a read answers, plain and owner-only, and what it leaves (R127-R129, R156, R161). -/

namespace Sys2Proof.Machine

/-! ### What an answer looks at -/

/-- AnsweredAs looks at the ports, the tags and the held replies of both states alone. -/
theorem State.AnsweredAs.of_comm {s s' u u' : State} {t : Tag} {st : Status} {ps : List Byte} {n : Nat} {pr : Bool} {f : Frame}
    {key : List Byte} (h : s'.AnsweredAs u' t st ps n pr f key) (hp : s'.comm.ports = s.comm.ports)
    (hh : s'.comm.held = s.comm.held) (ht : s'.comm.tags = s.comm.tags) (hu : u.comm = u'.comm) :
    s.AnsweredAs u t st ps n pr f key := by
  have hw : s'.mustWait t = s.mustWait t := by simp only [State.mustWait, hh, ht]
  unfold State.AnsweredAs State.outQ at *
  rwa [hw, hp, hh, ← hu] at h

/-- A session that a change of its own alone leaves with its role, its slot and its features sends as the same. -/
theorem State.who_modSess {f : Sess → Sess} (hf : ∀ x, (f x).port = x.port ∧ (f x).num = x.num ∧ (f x).role = x.role
    ∧ (f x).slot = x.slot ∧ (f x).features = x.features) (s : State) (r : Req) :
    (s.modSess r.port r.session f).who r = s.who r := by
  unfold State.who
  rw [State.sess?_modSess (fun x => (hf x).1) (fun x => (hf x).2.1)]
  cases s.sess? r.port r.session with
  | none => rfl
  | some x =>
    obtain ⟨-, -, hrole, hslot, hfeats⟩ := hf x
    simp [hrole, hslot, hfeats]

/-- Only a read of owner-only data leaves encrypted (R161). -/
theorem State.encKey_plain {s : State} {t : Tag} (h : ownerPrivate (oidClass t.req.target) (oidAttr t.req.target) = false)
    (st : Status) : s.encKey t st = [] :=
  if_neg (by simp [h])

theorem State.encKey_private {s : State} {t : Tag} {x : Sess} (ho : t.opcode = 0x0200 ∨ t.opcode = 0x0202)
    (h : ownerPrivate (oidClass t.req.target) (oidAttr t.req.target) = true)
    (hx : s.sess? t.req.port t.req.session = some x) : s.encKey t .done = x.kEnc := by
  unfold State.encKey
  rw [if_pos ⟨rfl, ho, h⟩, hx]

/-- The opcode of the tag that a row carries out is its own. -/
theorem State.Runs.opcode {s : State} {c : Cmd} {r : Req} {t : Tag} (h : s.Runs c r t) : t.opcode.toNat = c.op := by
  obtain ⟨⟨-, -, hwaits, -, -⟩, -⟩ := h
  exact (State.waiting_spec hwaits).2.2

/-! ### The edges-lost bits that a read clears (Table FIO-10) -/

/-- Nothing but the inputs' own marks changes. -/
def State.OnlyInputMarks (s u : State) : Prop := u = { s with fio := { s.fio with din := u.fio.din } }

theorem State.OnlyInputMarks.refl (s : State) : s.OnlyInputMarks s := rfl
theorem State.OnlyInputMarks.trans {s u v : State} (h : s.OnlyInputMarks u) (k : u.OnlyInputMarks v) : s.OnlyInputMarks v := by
  unfold State.OnlyInputMarks at *; rw [k, h]

theorem State.afterRead_only (s : State) (o : Word) : s.OnlyInputMarks (s.afterRead o) := by
  unfold State.afterRead
  split <;> rfl

theorem State.afterRead_clears {o : Word} (hc : oidClass o = cDIN) (ha : oidAttr o = 3) (s : State) :
    ((s.afterRead o).dinSt (oidIndex o)).lostSinceRead = false := by
  simp [State.afterRead, hc, ha, State.dinSt]

theorem State.afterRead_other {o : Word} {i : Nat} (hi : i ≠ oidIndex o) (s : State) : (s.afterRead o).dinSt i = s.dinSt i := by
  unfold State.afterRead
  split
  · simp only [State.dinSt, sget_smod_other _ _ _ _ _ hi]
  · rfl

/-- A bit that is clear stays clear. -/
theorem State.afterRead_keeps {s : State} {i : Nat} (h : (s.dinSt i).lostSinceRead = false) (o : Word) :
    ((s.afterRead o).dinSt i).lostSinceRead = false := by
  unfold State.afterRead
  split
  · simp only [State.dinSt, sget_smod] at h ⊢
    split
    · rfl
    · exact h
  · exact h

theorem State.foldl_afterRead_only (l : List Word) (s : State) : s.OnlyInputMarks (l.foldl State.afterRead s) :=
  foldl_rel State.OnlyInputMarks .refl .trans _ State.afterRead_only l s

/-- Reading a range clears the bit of every input that the range names. -/
theorem State.foldl_afterRead_clears {l : List Word} {o : Word} (ho : o ∈ l) (hc : oidClass o = cDIN) (ha : oidAttr o = 3) (s : State) :
    ((l.foldl State.afterRead s).dinSt (oidIndex o)).lostSinceRead = false := by
  have stays (l : List Word) (s : State) (h : (s.dinSt (oidIndex o)).lostSinceRead = false) :
      ((l.foldl State.afterRead s).dinSt (oidIndex o)).lostSinceRead = false := by
    induction l generalizing s with
    | nil => exact h
    | cons a l ih => exact ih _ (State.afterRead_keeps h a)
  induction l generalizing s with
  | nil => simp at ho
  | cons a l ih =>
    rcases List.mem_cons.1 ho with rfl | ho
    · exact stays l _ (State.afterRead_clears hc ha s)
    · exact ih ho _

/-- Marks cleared after a reply leave what the reply keeps. -/
theorem State.KeepsAllButReplies.marked {s u v : State} (h : s.KeepsAllButReplies u) (k : u.OnlyInputMarks v) :
    { s with fio := { s.fio with din := v.fio.din } }.KeepsAllButReplies v := by
  unfold State.KeepsAllButReplies at *
  unfold State.OnlyInputMarks at k
  rw [k, h]

theorem State.OnlyInputMarks.comm {s u : State} (h : s.OnlyInputMarks u) : u.comm = s.comm := by
  unfold State.OnlyInputMarks at h; rw [h]

/-! ### Plain reads -/

/-- GET's value, its PROVISIONAL flag and its frame leave in the reply. -/
theorem getAttr_plain {s : State} {t : Tag} (h : s.Runs cmdGetAttr t.req t)
    (hp : ownerPrivate (oidClass t.req.target) (oidAttr t.req.target) = false) {v : List Byte} {p : Bool} {f : Frame}
    (hv : s.getValue t.req = (v, p, f)) :
    exec (.getAttr t.req) s
      = .next ((s.ready t .done v (s.execF t v (readCount t.req v.length)) true p f).afterRead t.req.target).flush := by
  have hrun : cmdGetAttr.run s t (s.who t.req)
      = (s.ready t .done v (s.execF t v (readCount t.req v.length)) true p f).afterRead t.req.target := by
    show s.runGet t = _
    unfold State.runGet
    rw [hv]
    exact if_neg (by simp [hp])
  rw [exec_of_runs rfl h, hrun]

/-- The bytes of a GET_RANGE. -/
def State.rangeValue (s : State) (r : Req) : List Byte :=
  (rangeOids r).flatMap (fun o => s.readAttr r.port (oidClass o) (oidIndex o) (oidAttr o))

theorem getRange_plain {s : State} {t : Tag} (h : s.Runs cmdGetRange t.req t)
    (hp : ownerPrivate (oidClass t.req.target) (oidAttr t.req.target) = false) :
    exec (.getRange t.req) s = .next ((rangeOids t.req).foldl State.afterRead
      (s.answerF t .done (s.rangeValue t.req) (getCount (s.rangeValue t.req).length))).flush := by
  have hrun : cmdGetRange.run s t (s.who t.req) = (rangeOids t.req).foldl State.afterRead
      (s.answerF t .done (s.rangeValue t.req) (getCount (s.rangeValue t.req).length)) := if_neg (by simp [hp])
  rw [exec_of_runs rfl h, hrun]

/-! ### Owner-only reads (R156, R161) -/

/-- The messages of an owner-only value. -/
def State.privateMessages (s : State) (t : Tag) (v : List Byte) : List (List Byte) := parts (partSize (s.who t.req) - 24) v.length v

/-- An owner-only value leaves sealed under the session's key, numbered as its next messages. -/
theorem State.answerPrivate_spec {s : State} {t : Tag} {x : Sess} (ho : t.opcode = 0x0200 ∨ t.opcode = 0x0202)
    (hp : ownerPrivate (oidClass t.req.target) (oidAttr t.req.target) = true) (hx : s.sess? t.req.port t.req.session = some x)
    (v : List Byte) (n : Nat) : ∃ (u : State) (y : Sess), s.answerPrivate t v n = u
      ∧ s.AnsweredAs u t .done (privateParts (x.msgOut + 1) (s.privateMessages t v))
        (s.execF t (privateParts (x.msgOut + 1) (s.privateMessages t v)) n) false s.clk.frameNo x.kEnc
      ∧ u.sess? t.req.port t.req.session = some y
      ∧ y.own = { x.own with msgOut := x.msgOut + (s.privateMessages t v).length } ∧ s.KeepsAllButReplies u := by
  obtain ⟨hport, hnum⟩ := State.sess?_names hx
  let f : Sess → Sess := fun y => { y with msgOut := y.msgOut + (s.privateMessages t v).length }
  let s1 := s.modSess t.req.port t.req.session f
  have hrun : s.answerPrivate t v n = s1.answerF t .done (privateParts (x.msgOut + 1) (s.privateMessages t v)) n := by
    unfold State.answerPrivate
    rw [hx]
    show (s.modSess x.port x.num f).answerF t .done _ n = _
    rw [hport, hnum]
    rfl
  have hx1 : s1.sess? t.req.port t.req.session = some (f x) := by
    rw [State.sess?_modSess (f := f) (fun _ => rfl) (fun _ => rfl), hx]
    rfl
  have hwho : s1.who t.req = s.who t.req := State.who_modSess (f := f) (fun _ => ⟨rfl, rfl, rfl, rfl, rfl⟩) s t.req
  obtain ⟨y, hy, hown⟩ := (s1.answerF_stay t .done (privateParts (x.msgOut + 1) (s.privateMessages t v)) n).sess?_some hx1
  refine ⟨_, y, hrun, ?_, hy, hown, (s.modSess_keeps ..).trans (s1.answerF_spec ..).2⟩
  have hans := s1.ready_answeredAs t .done (privateParts (x.msgOut + 1) (s.privateMessages t v))
    (s1.execF t (privateParts (x.msgOut + 1) (s.privateMessages t v)) n) true false s1.clk.frameNo
  rw [State.encKey_private ho hp hx1] at hans
  have hexec : s1.execF t (privateParts (x.msgOut + 1) (s.privateMessages t v)) n
      = s.execF t (privateParts (x.msgOut + 1) (s.privateMessages t v)) n := by unfold State.execF; rw [hwho]
  rw [← hexec]
  exact hans.of_comm rfl rfl rfl rfl

end Sys2Proof.Machine
end

section
open Sys2Proof Sys2Proof.Machine

/-- Settles O14: a plain read is one reply and the marks that it clears, an owner-only one is a reply of its session's next
messages; the three doors of R129 are the branches of getValue. -/
theorem readsComplete : Obligations.ReadsComplete := by
  refine ⟨⟨?get, ?range, ?privGet, ?privRange⟩, ?door⟩
  case get =>
    intro r s t h hp
    obtain rfl := h.1.same
    generalize hv : s.getValue t.req = x
    obtain ⟨v, p, f⟩ := x
    have hans := s.ready_answeredAs t .done v (s.execF t v (readCount t.req v.length)) true p f
    rw [State.encKey_plain hp] at hans
    have hmarks := (s.ready t .done v (s.execF t v (readCount t.req v.length)) true p f).afterRead_only t.req.target
    have hkeeps := s.ready_keeps t .done v (s.execF t v (readCount t.req v.length)) true p f
    have hstay := s.ready_stay t .done v (s.execF t v (readCount t.req v.length)) true p f
    refine ⟨_, v, p, f, getAttr_plain h hp hv, rfl, hans.of_comm rfl rfl rfl hmarks.comm, ?_, fun hn => ?_, fun hc ha => ?_⟩
    · unfold State.SessionsStay
      rw [hmarks.comm]
      exact hstay
    · unfold State.afterRead
      rw [if_neg hn]
      exact hkeeps
    · refine ⟨State.afterRead_clears hc ha _, hkeeps.marked hmarks, fun i hi => ?_⟩
      rw [State.afterRead_other hi]
      unfold State.dinSt
      rw [hkeeps]
  case range =>
    intro r s t h hp
    obtain rfl := h.1.same
    have hans := s.ready_answeredAs t .done (s.rangeValue t.req)
      (s.execF t (s.rangeValue t.req) (getCount (s.rangeValue t.req).length)) true false s.clk.frameNo
    rw [State.encKey_plain hp] at hans
    have hmarks := State.foldl_afterRead_only (rangeOids t.req)
      (s.answerF t .done (s.rangeValue t.req) (getCount (s.rangeValue t.req).length))
    refine ⟨_, _, getRange_plain h hp, rfl, hans.of_comm rfl rfl rfl hmarks.comm, ?_, (s.answerF_spec ..).2.marked hmarks,
      fun o ho hc ha => State.foldl_afterRead_clears ho hc ha _⟩
    unfold State.SessionsStay
    rw [hmarks.comm]
    exact s.answerF_stay ..
  case privGet =>
    intro r s t x v h hp hx hv
    obtain rfl := h.1.same
    have ho : t.opcode = 0x0200#16 := BitVec.eq_of_toNat_eq h.opcode
    obtain ⟨u, y, hu, hans, hy, hown, hkeeps⟩ := State.answerPrivate_spec (.inl ho) hp hx v (readCount t.req v.length + gcmTicks v.length)
    refine ⟨u, s.privateMessages t v, y, ?_, rfl, hans, hy, hown, hkeeps⟩
    have hrun : cmdGetAttr.run s t (s.who t.req) = s.answerPrivate t v (readCount t.req v.length + gcmTicks v.length) := by
      subst hv
      exact if_pos hp
    rw [exec_of_runs rfl h, hrun, hu]
  case privRange =>
    intro r s t x v h hp hx hv
    obtain rfl := h.1.same
    have ho : t.opcode = 0x0202#16 := BitVec.eq_of_toNat_eq h.opcode
    obtain ⟨u, y, hu, hans, hy, hown, hkeeps⟩ := State.answerPrivate_spec (.inr ho) hp hx v (getCount v.length + gcmTicks v.length)
    refine ⟨u, s.privateMessages t v, y, ?_, rfl, hans, hy, hown, hkeeps⟩
    have hrun : cmdGetRange.run s t (s.who t.req) = s.answerPrivate t v (getCount v.length + gcmTicks v.length) := by
      subst hv
      exact if_pos hp
    rw [exec_of_runs rfl h, hrun, hu]
  case door =>
    intro r s
    refine ⟨fun hw hb => ⟨fun p hp ho => ?_, fun hn => ?_⟩, fun hw => if_neg (by simp [hw])⟩
    all_goals
      unfold State.getValue
      dsimp only
      rw [if_pos ⟨hw, hb⟩]
    · rw [hp]
      exact if_pos ho
    · rcases hn with hn | hn
      · rw [hn]
      · cases s.prov with
        | none => rfl
        | some p => exact if_neg (by omega)

end

section
/-! SUPPORT. A command for a worker: how it is placed on the ring, how one that is denied waits (R131, R145, R159, R370). -/

namespace Sys2Proof.Machine

/-! ### What carrying leaves of the commands under way -/

theorem State.sendTrain_cmds (s : State) (d : RingSide) (t w n : Nat) (b : List Byte) :
    (s.sendTrain d t w n b).ring.cmds = s.ring.cmds :=
  foldl_rel (fun a u : State => u.ring.cmds = a.ring.cmds) (fun _ => rfl) (fun h k => k.trans h) _
    (fun a _ => by obtain ⟨q, hq, hring⟩ := a.sendCell_sent ..; rw [hq, hring]) _ s

/-- A command that leaves for its worker stays among those that wait for their answer. -/
theorem State.carry_cmds (s : State) (w n op : Nat) (r : Req) : (s.carry w n op r).ring.cmds = s.ring.cmds := by
  unfold State.carry
  dsimp only
  split
  · exact s.sendTrain_cmds ..
  · split
    · exact s.sendTrain_cmds ..
    · rw [s.sendRidge_only]

/-- A carried command is in the list, the pegged data and the ports stay. -/
theorem State.carryCmd_spec (s : State) (x : RingCmd) :
    x ∈ (s.carryCmd x).ring.cmds ∧ (s.carryCmd x).peg = s.peg ∧ (s.carryCmd x).comm = s.comm := by
  unfold State.carryCmd
  dsimp only
  refine ⟨?_, ?_, ?_⟩
  · rw [State.carry_cmds]
    simp
  all_goals rw [State.carry_only]

/-! ### What a request for a worker becomes -/

/-- The command of the ring that a request becomes: under the number of the carriage that ended TIMEOUT, else under the next (R370). -/
def State.ringCmdOf (s : State) (t : Tag) (maxTicks : Nat) : RingCmd :=
  { worker := oidNode t.req.target, inner := false, got := [], denied := none, ringSeq := ((s.carried? t.req).map (·.ringSeq)).getD
      (s.ring.ringSeq + 1), opcode := t.opcode, req := t.req, admitAt := t.admitAt, maxTicks := maxTicks }

theorem State.startRingCmd_eq (s : State) (t : Tag) (n : Nat) :
    s.startRingCmd t n = (s.modTag t (fun u => { u with begun := true })).carryCmd (s.ringCmdOf t n) := by
  unfold State.startRingCmd State.ringCmdOf
  cases s.carried? t.req <;> rfl

theorem State.startRingCmd_begun (s : State) (t : Tag) (n : Nat) : (s.startRingCmd t n).Begun t := by
  rw [State.startRingCmd_eq]
  unfold State.Begun
  rw [(State.carryCmd_spec ..).2.2]
  exact s.modTag_begun t

/-- A request for a worker that passes its checks here is handed to its worker. -/
theorem exec_toWorker {i : Instr} {c : Cmd} {s : State} {t : Tag} (hi : requestOf i = some (c, t.req)) (h : s.Takes c t.req t)
    (hp : s.Passes c t) (hw : s.forWorker c.op t.req = true) (hs : s.staging c.op t.req = false) :
    exec i s = .next (s.toWorker c t (s.who t.req)).flush := by
  have hperform : s.perform c t = s.toWorker c t (s.who t.req) := by
    unfold State.Passes at hp
    unfold State.perform
    simp only [hp]
    exact if_pos ⟨hw, by simp [hs]⟩
  rw [exec_of_requestOf hi, State.execute_takes h, hperform]

section Placing
variable {s : State} {c : Cmd} {t : Tag} {w : Who}

theorem State.toWorker_joins (hl : rowLat c.op t.req = .p) : s.toWorker c t w = s.admitP t w (.command t.opcode t.req) := if_pos hl

theorem State.toWorker_denied (hl : rowLat c.op t.req ≠ .p) (ha : s.accessOk c w t.req = false) :
    s.toWorker c t w = s.denyL t .revoked (s.linkTicks c.op t.req) := by
  unfold State.toWorker
  rw [if_neg hl, if_pos (by simp [ha])]

theorem State.toWorker_carried (hl : rowLat c.op t.req ≠ .p) (ha : s.accessOk c w t.req = true) (hs : s.isStandby = false) :
    s.toWorker c t w = s.startRingCmd t (s.linkTicks c.op t.req) := by
  unfold State.toWorker
  rw [if_neg hl, if_neg (by simp [ha]), if_neg (by simp [hs])]

end Placing

end Sys2Proof.Machine
end

section
open Sys2Proof Sys2Proof.Machine

/-- Settles O25: a request that passes comes to toWorker, and each clause is one of its branches. -/
theorem workerCommandsAreCarried : Obligations.WorkerCommandsAreCarried := by
  intro i c r s t hi h hp hnode hop hst hw
  obtain rfl := h.same
  have hfor : s.forWorker c.op t.req = true := by simp [State.forWorker, hnode, hop, hw]
  have hx := exec_toWorker hi h hp hfor hst
  refine ⟨fun hl ha hs => ?carried, fun hl ha => ?denied, fun hl => ?joins⟩
  case carried =>
    rw [State.toWorker_carried hl ha hs] at hx
    obtain ⟨hmem, hpeg, -⟩ := (s.modTag t (fun u => { u with begun := true })).carryCmd_spec
      (s.ringCmdOf t (s.linkTicks c.op t.req))
    rw [← State.startRingCmd_eq] at hmem hpeg
    exact ⟨_, _, hx, hmem, rfl, rfl, rfl, rfl, rfl, rfl, fun hn => by simp [State.ringCmdOf, hn],
      fun y hy => by simp [State.ringCmdOf, hy], hpeg, s.startRingCmd_begun t _⟩
  case denied =>
    rw [State.toWorker_denied hl ha] at hx
    exact ⟨_, _, hx, rfl, rfl, rfl, rfl, rfl, s.modTag_begun t⟩
  case joins =>
    rw [State.toWorker_joins hl] at hx
    exact ⟨_, hx, s.admitP_joins t _⟩

end

section
/-! SUPPORT. The end of a transmission on each line, and the broadcasts of a pegged frame (R120, R386, R392, R399, R400). -/

namespace Sys2Proof.Machine

/-! ### The packet ports -/

/-- A packet that has left frees what it held; no queue changes with that (R112, R120). -/
theorem State.packetLeft_ports (s : State) (p : Port) (k : Packet) : (s.packetLeft p k).comm.ports = s.comm.ports := by
  unfold State.packetLeft
  dsimp only
  split
  · rfl
  · split <;> rfl

/-- The head of a port's queue leaves it. -/
theorem State.sentHead_outQ {s : State} {p : Port} {k : Packet} {ks : List Packet} (h : s.outQ p = k :: ks) :
    (s.sentHead p).outQ p = ks := by
  unfold State.sentHead
  rw [h]
  simp only [State.outQ, State.packetLeft_ports, Ports.get_set_same]

/-- A change of the request-to-send line leaves what the UART sends, the ports and the pegged data. -/
theorem State.rtsUpdate_line (s : State) (u : Uart) :
    (s.rtsUpdate u).comm = s.comm ∧ (s.rtsUpdate u).peg = s.peg ∧ ((s.rtsUpdate u).uart u).tx = (s.uart u).tx := by
  cases u <;> exact ⟨rfl, rfl, rfl⟩

theorem State.modUart_line (s : State) (u : Uart) (f : UartSt → UartSt) :
    (s.modUart u f).comm = s.comm ∧ (s.modUart u f).peg = s.peg := by
  cases u <;> exact ⟨rfl, rfl⟩

/-- The head packet of a UART's port leaves as a COBS frame (R108, R120). -/
theorem State.uartSent_spec {s : State} {p : Port} {k : Packet} {ks : List Packet} (u : Uart) (h : s.outQ p = k :: ks) :
    (s.uartSent u p).outQ p = ks ∧ ((s.uartSent u p).uart u).tx = cobsFrame k.wire ∧ (s.uartSent u p).peg = s.peg := by
  generalize hs1 : s.modUart u (fun x => { x with tx := cobsFrame k.wire }) = s1
  have hsent : s.uartSent u p = (s1.sentHead p).rtsUpdate u := by
    unfold State.uartSent
    rw [h, ← hs1]
  obtain ⟨hcomm, hpeg⟩ := s.modUart_line u (fun x => { x with tx := cobsFrame k.wire })
  obtain ⟨hcomm', hpeg', htx'⟩ := (s1.sentHead p).rtsUpdate_line u
  have hlinks := s1.sentHead_onlyLinks p
  have hq : s1.outQ p = k :: ks := by
    unfold State.outQ
    rw [← hs1, hcomm]
    exact h
  have huart : (s1.sentHead p).uart u = s1.uart u := by rw [hlinks]; cases u <;> rfl
  rw [hsent]
  refine ⟨?_, ?_, ?_⟩
  · unfold State.outQ
    rw [hcomm']
    exact State.sentHead_outQ hq
  · rw [htx', huart, ← hs1, State.modUart_same]
  · rw [hpeg', hlinks, ← hpeg, hs1]

theorem transmissionComplete_u0 {s : State} (hu : s.uartOn .u0 = true) (hc : s.ctsStops .u0 = false) :
    exec (.transmissionComplete .u0) s = .next (s.uartSent .u0 .u0) :=
  congrArg Host.Outcome.next (if_neg (by simp [hu, hc]))

/-- Flow control stops the line (R386). -/
theorem transmissionComplete_stopped {s : State} (hc : s.ctsStops .u0 = true) : exec (.transmissionComplete .u0) s = .next s :=
  congrArg Host.Outcome.next (if_pos (.inr hc))

/-! ### The bridge line (R392) -/

/-- The head sentence has left; the driver stays on while no release is asked for. -/
theorem transmissionComplete_u1 {s : State} {x : Sentence} {xs : List Sentence} (hu : s.uartOn .u1 = true)
    (hd : s.hw.drive1 = true) (hr : s.hw.released1 = false) (hx : s.hw.sentences = x :: xs) :
    exec (.transmissionComplete .u1) s
      = .next ({ s with hw := { s.hw with sentences := xs } }.modUart .u1 (fun y => { y with tx := x.text })) := by
  show execTransmissionComplete .u1 s = _
  unfold execTransmissionComplete
  dsimp only
  rw [hx]
  dsimp only
  rw [if_neg (by simp [hu, hd])]
  exact congrArg Host.Outcome.next (if_neg (by simp [State.modUart, hr]))

/-! ### The CAN controllers (R399) -/

theorem CanSt.judge_sent (x : CanSt) : x.judge.txq = x.txq ∧ x.judge.sent = x.sent := by
  unfold CanSt.judge
  split <;> exact ⟨rfl, rfl⟩

theorem CanSt.txOk_sent (x : CanSt) (fs : List CanFrame) : (x.txOk fs).txq = x.txq ∧ (x.txOk fs).sent = fs :=
  CanSt.judge_sent _

/-- The line of a controller. -/
def canLine : CanNo → OutLine
  | .can0 => .can0 | .can1 => .can1

/-- The frame that wins arbitration has left its controller's queue. -/
theorem transmissionComplete_can {s : State} {c : CanNo} {f : CanFrame} (hl : s.canLive c = true)
    (hf : nextFrame (s.can c).txq = some f) :
    exec (.transmissionComplete (canLine c)) s
      = .next (s.modCan c (fun x => ({ x with txq := x.txq.erase f } : CanSt).txOk [f])) := by
  have hsent : s.canSent c = s.modCan c (fun x => ({ x with txq := x.txq.erase f } : CanSt).txOk [f]) := by
    unfold State.canSent
    rw [hf]
  rw [← hsent]
  cases c <;> exact congrArg Host.Outcome.next (if_pos hl)

theorem State.modCan_spec (s : State) (c : CanNo) (f : CanSt → CanSt) :
    (s.modCan c f).can c = f (s.can c) ∧ s.modCan c f = s.modCan c (fun _ => (s.modCan c f).can c) := by
  cases c <;> exact ⟨rfl, rfl⟩

/-! ### Broadcasts (R399, R400) -/

theorem State.sendSysState_peg (s : State) : s.sendSysState.peg = s.peg := congrArg FrameCore.peg s.sendSysState_frameCore
theorem State.sendStation_peg (s : State) (n : Nat) : (s.sendStation n).peg = s.peg := congrArg FrameCore.peg (s.sendStation_frameCore n)

/-- A unit that is not active sends none. -/
theorem State.sends_none {s : State} (h : s.isActive = false) (n : Nat) : s.sendSysState = s ∧ s.sendStation n = s :=
  ⟨if_pos (.inl (by simp [h])), if_pos (.inl (by simp [h]))⟩

end Sys2Proof.Machine
end

section
open Sys2Proof Sys2Proof.Machine

/-- Settles O43: each line by what its row does with the head, the broadcasts by the frame's number and the unit's role. -/
theorem transmissionsComplete : Obligations.TransmissionsComplete := by
  refine ⟨⟨fun s k ks hu hc hq => ⟨_, transmissionComplete_u0 hu hc, State.uartSent_spec .u0 hq⟩,
    fun s _ hc => transmissionComplete_stopped hc,
    fun s x xs hu hd hr hx => ⟨_, transmissionComplete_u1 hu hd hr hx, rfl, rfl, rfl⟩, fun s c f hl hf => ?can⟩,
    fun s n hready => ⟨fun hh => ?sys, fun hh => ?none, fun hh hb => ?station, s.sendSysState_peg, s.sendStation_peg n.val,
      fun ha => State.sends_none ha n.val⟩⟩
  case can =>
    obtain ⟨hcan, hmod⟩ := s.modCan_spec c (fun x => ({ x with txq := x.txq.erase f } : CanSt).txOk [f])
    obtain ⟨htxq, hsent⟩ := ({ s.can c with txq := (s.can c).txq.erase f } : CanSt).txOk_sent [f]
    exact ⟨_, by cases c <;> exact transmissionComplete_can hl hf, by rw [hcan]; exact htxq, by rw [hcan]; exact hsent, hmod⟩
  case sys => exact congrArg Host.Outcome.next (if_pos ⟨hready, hh⟩)
  case none =>
    exact ⟨congrArg Host.Outcome.next (if_neg (by simp [hh])), congrArg Host.Outcome.next (if_neg (by simp [hh]))⟩
  case station => exact congrArg Host.Outcome.next (if_pos ⟨hready, hh, hb⟩)

end

section
/-! SUPPORT. Sessions in time: what closes one, what a credit echo and the release of a held reply let leave, the end of a key lock and
of the maintenance state (R112, R113, R125, R126, R133, R157, R167). -/

namespace Sys2Proof.Machine

/-! ### Closing (R112, R113) -/

/-- Closing a session leaves every other. -/
theorem State.sess?_closeSession_other {p q : Port} {m n : Half} (h : ¬ (p = q ∧ m = n)) (s : State) :
    (s.closeSession q n).sess? p m = s.sess? p m := by
  unfold State.sess? State.closeSession
  rw [List.find?_filter]
  congr 1
  funext x
  by_cases hx : x.port = p ∧ x.num = m
  · obtain ⟨rfl, rfl⟩ := hx
    have hno : (x.port == q && x.num == n) = false := by simpa using h
    simp [hno]
  · have hno : (x.port == p && x.num == m) = false := by simpa using hx
    simp [hno]

/-- What the two limits of a session have in common: it is closed, nothing leaves, and every other session stays. -/
theorem State.closeSession_alone (s : State) (x : Sess) : (s.closeSession x.port x.num).sess? x.port x.num = none
    ∧ (s.closeSession x.port x.num).comm.ports = s.comm.ports ∧ (s.closeSession x.port x.num).peg = s.peg
    ∧ ∀ p m, ¬ (p = x.port ∧ m = x.num) → (s.closeSession x.port x.num).sess? p m = s.sess? p m :=
  ⟨s.sess?_closeSession .., rfl, rfl, fun _ _ h => State.sess?_closeSession_other h s⟩

theorem sessionIdleTimeout_closes {n : Half} {s : State} {x : Sess} (hx : s.sessNum n = some x) (ho : x.isOpen = true) (hn : x.num ≠ 0)
    (hf : s.inFlight x.port x.num = 0) (ht : s.dev 0x50 * Config.ticksPerSecond ≤ since s.clk.batten x.lastSeen) :
    exec (.sessionIdleTimeout n) s = .next (s.closeSession x.port x.num) := by
  show execSessionIdleTimeout n s = _
  unfold execSessionIdleTimeout
  rw [hx]
  exact congrArg Host.Outcome.next (if_pos ⟨ho, hn, hf, ht⟩)

theorem proveTimeout_closes {n : Half} {s : State} {x : Sess} (hx : s.sessNum n = some x) (ho : x.isOpen = false) (hn : x.num ≠ 0)
    (ht : s.clockReached (x.openedAt + BitVec.ofNat 40 Config.ticksPerSecond) = true) :
    exec (.proveTimeout n) s = .next (s.closeSession x.port x.num) := by
  show execProveTimeout n s = _
  unfold execProveTimeout
  rw [hx]
  exact congrArg Host.Outcome.next (if_pos ⟨by simp [ho], hn, ht⟩)

/-! ### The end of a lock (R157) -/

/-- A lock that has ended: its failures count anew, and its next lasts twice as long. -/
def KeyLock.ended (k : KeyLock) : KeyLock := { k with locked := false, fails := 0, lockS := min 3600 (2 * k.lockS) }

theorem keyLockExpiry_ends {p : Port} {k : Fin 24} {s : State} (hl : (s.lockOf p k.val).locked = true)
    (ht : since s.clk.batten (s.lockOf p k.val).endsAt < 2 ^ 39) :
    exec (.keyLockExpiry p k) s = .next (s.setLock (s.lockOf p k.val).ended) :=
  congrArg Host.Outcome.next (if_pos ⟨hl, ht⟩)

theorem State.lockOf_ended (s : State) (p : Port) (i : Nat) : (s.setLock (s.lockOf p i).ended).lockOf p i = (s.lockOf p i).ended := by
  obtain ⟨hp, hk⟩ := s.lockOf_names p i
  have h := s.lockOf_setLock (s.lockOf p i).ended
  rwa [show (s.lockOf p i).ended.port = p from hp, show (s.lockOf p i).ended.key = i from hk] at h

/-! ### Events that wait for credit (R132, R133) -/

/-- A session in which no event waits sends none. -/
theorem State.drainOne_empty {s : State} {p : Port} {n : Half} {x : Sess} (hx : s.sess? p n = some x) (he : x.evtQueue = []) :
    s.drainOne p n = s := by
  unfold State.drainOne
  rw [hx]
  dsimp only
  rw [he]

/-- After a first event that leaves none behind, the others of a drain do nothing. -/
theorem State.drain_once {s u : State} {p : Port} {n : Half} {y : Sess} (hu : s.drainOne p n = u) (hy : u.sess? p n = some y)
    (he : y.evtQueue = []) : s.drain p n = u := by
  unfold State.drain
  rw [show List.range 64 = 0 :: (List.range 63).map Nat.succ from List.range_succ_eq_map, List.foldl_cons, hu,
    List.foldl_map]
  exact List.foldl_fixed' (fun _ => State.drainOne_empty hy he) _

/-- The session as an event's packet leaves it. -/
def Sess.sentEvent (x : Sess) : Sess := { x with evtNo := x.evtNo + 1, sent := x.sent + 1 }

/-- An event sent in a session raises its event number and its count of packets sent. -/
theorem State.sendEvent_sess? {s : State} {x : Sess} (hx : s.sess? x.port x.num = some x) (e : Event) :
    (s.sendEvent x e).sess? x.port x.num = some x.sentEvent := by
  let s1 := s.modSess x.port x.num (fun y => { y with evtNo := x.evtNo + 1 })
  have h1 : s1.sess? x.port x.num = some { x with evtNo := x.evtNo + 1 } := by
    rw [State.sess?_modSess (f := fun y => { y with evtNo := x.evtNo + 1 }) (fun _ => rfl) (fun _ => rfl), hx]
    rfl
  unfold State.sendEvent State.enqueue
  dsimp only
  rw [State.sess?_modSess (f := fun y => { y with sent := y.sent + 1 }) (fun _ => rfl) (fun _ => rfl)]
  exact congrArg (Option.map _) h1

/-- The packet of an event goes behind its port's queue. -/
theorem State.sendEvent_outQ (s : State) (x : Sess) (e : Event) :
    ∃ k : Packet, (s.sendEvent x e).outQ x.port = s.outQ x.port ++ [k] ∧ k.event = true ∧ k.session = x.num
      ∧ k.params = toLe 2 e.kind ++ toLe 2 (x.evtNo + 1).toNat ++ toLe 4 e.object.toNat ++ e.data :=
  ⟨_, State.enqueue_outQ .., rfl, rfl, rfl⟩

section Waiting
variable {s : State} {x : Sess} {v : Event} (hx : s.sess? x.port x.num = some x) (hq : x.evtQueue = [v]) (hc : x.coalesced = [])
  (hcr : x.credit = true)
include hx hq hc hcr

/-- The one event that waits leaves, or is dropped where its class may no longer be read (R132). -/
theorem State.drainOne_last (hk : v.kind ≠ 10) : s.drainOne x.port x.num =
    (if s.eventFor x v.kind v.object then s.sendEvent x v else s).modSess x.port x.num
      (fun y => { y with evtQueue := [], coalesced := [] }) := by
  unfold State.drainOne
  rw [hx]
  dsimp only
  rw [hq]
  dsimp only
  rw [if_neg (by simp [hcr]), hc]
  simp [hk]

theorem State.drain_last (hk : v.kind ≠ 10) : s.drain x.port x.num =
    (if s.eventFor x v.kind v.object then s.sendEvent x v else s).modSess x.port x.num
      (fun y => { y with evtQueue := [], coalesced := [] }) := by
  obtain ⟨y, hy⟩ : ∃ y, (if s.eventFor x v.kind v.object then s.sendEvent x v else s).sess? x.port x.num = some y := by
    split
    · exact ⟨_, State.sendEvent_sess? hx v⟩
    · exact ⟨_, hx⟩
  refine State.drain_once (y := { y with evtQueue := [], coalesced := [] }) (State.drainOne_last hx hq hc hcr hk) ?_ rfl
  rw [State.sess?_modSess (f := fun y => { y with evtQueue := [], coalesced := [] }) (fun _ => rfl) (fun _ => rfl), hy]
  rfl

end Waiting

/-- The credit echo of a session, noted. -/
def State.echoed (s : State) (x : Sess) (e : Word) : State := s.modSess x.port x.num (fun y => { y with echo := e })

theorem State.echoed_sess? {s : State} {x : Sess} (hx : s.sess? x.port x.num = some x) (e : Word) :
    (s.echoed x e).sess? x.port x.num = some { x with echo := e } := by
  unfold State.echoed
  rw [State.sess?_modSess (f := fun y => { y with echo := e }) (fun _ => rfl) (fun _ => rfl), hx]
  rfl

theorem eventCreditRelease_drains {n : Half} {s : State} {x : Sess} (hn : s.sessNum n = some x) (e : Word) :
    exec (.eventCreditRelease n e) s = .next ((s.echoed x e).drain x.port x.num) := by
  show execEventCreditRelease n e s = _
  unfold execEventCreditRelease
  rw [hn]
  rfl

/-! ### Held replies (R74, R125, R126) -/

/-- A held reply as it leaves: EXEC counts the wait, EXACT is 0. -/
def State.heldPacket (s : State) (h : Held) : Packet :=
  { h.packet with exec := max h.packet.exec (satExec (since s.clk.batten h.admitAt)), exact := false }

/-- The one held reply leaves: nothing is held any more, and the kept reply of its SEQ is the one sent. -/
def State.releaseHeld (s : State) (h : Held) : State :=
  ({ s with comm := { s.comm with held := [] } }.keepAsSent h.port (s.heldPacket h)).enqueue h.port (s.heldPacket h)

/-- Where no reply of the port's session is held, none leaves. -/
theorem State.releaseOne_none {s : State} {p : Port} {n : Half}
    (hh : ∀ h ∈ s.comm.held, ¬ (h.port = p ∧ h.packet.session = n)) : s.releaseOne p n = s := by
  have hmine : s.comm.held.filter (fun h => h.port == p && h.packet.session == n) = [] := by
    rw [List.filter_eq_nil_iff]
    intro h hm
    simpa using hh h hm
  unfold State.releaseOne
  rw [hmine]
  rfl

/-- No command of the held reply's session that came before it is still to be answered. -/
def State.noneEarlier (s : State) (h : Held) : Prop :=
  ∀ v ∈ s.comm.tags, ¬ (v.req.port = h.port ∧ v.req.session = h.packet.session ∧ v.dup = false ∧ v.answered = false
    ∧ v.req.seq.toNat < h.packet.seq.toNat)

/-- A lone held reply leaves where no earlier one is to come. -/
theorem State.releaseOne_lone {s : State} {h : Held} (hh : s.comm.held = [h]) (he : s.noneEarlier h) :
    s.releaseOne h.port h.packet.session = s.releaseHeld h := by
  have hlow : min 0xFFFFFFFF h.packet.seq.toNat = h.packet.seq.toNat := by have := h.packet.seq.isLt; omega
  have hany : s.comm.tags.any (fun u => u.req.port == h.port && u.req.session == h.packet.session && !u.dup && !u.answered
      && decide (u.req.seq.toNat < h.packet.seq.toNat)) = false := by
    rw [List.any_eq_false]
    intro v hv
    have := he v hv
    simpa [and_assoc] using this
  unfold State.releaseOne
  simp [hh, hlow, hany]
  rfl

/-- What one port does in a release: its session's held replies leave, one by one. -/
def State.releasePort (n : Half) (s : State) (p : Port) : State := (List.range 64).foldl (fun s _ => s.releaseOne p n) s

theorem State.releasePort_none {s : State} {p : Port} {n : Half}
    (hh : ∀ h ∈ s.comm.held, ¬ (h.port = p ∧ h.packet.session = n)) : s.releasePort n p = s :=
  List.foldl_fixed' (fun _ => State.releaseOne_none hh) _

theorem State.releasePort_lone {s : State} {h : Held} (hh : s.comm.held = [h]) (he : s.noneEarlier h) :
    s.releasePort h.packet.session h.port = s.releaseHeld h := by
  unfold State.releasePort
  rw [show List.range 64 = 0 :: (List.range 63).map Nat.succ from List.range_succ_eq_map, List.foldl_cons,
    State.releaseOne_lone hh he, List.foldl_map]
  exact List.foldl_fixed' (fun _ => State.releaseOne_none (by simp [State.releaseHeld, State.keepAsSent, State.modSess])) _

/-- Over the ports, a lone held reply leaves at its own. -/
theorem State.releasePorts_lone {s : State} {h : Held} (hh : s.comm.held = [h]) (he : s.noneEarlier h) {l : List Port}
    (hl : h.port ∈ l) : l.foldl (State.releasePort h.packet.session) s = s.releaseHeld h := by
  induction l with
  | nil => simp at hl
  | cons p l ih =>
    rw [List.foldl_cons]
    by_cases hp : h.port = p
    · rw [← hp, State.releasePort_lone hh he]
      exact List.foldl_fixed' (fun _ => State.releasePort_none (by simp [State.releaseHeld, State.keepAsSent, State.modSess])) _
    · rw [State.releasePort_none (by simp [hh, hp])]
      exact ih ((List.mem_cons.1 hl).resolve_left hp)

theorem State.releaseHeld_outQ (s : State) (h : Held) : (s.releaseHeld h).outQ h.port = s.outQ h.port ++ [s.heldPacket h] :=
  State.enqueue_outQ ..

theorem replyRelease_lone {s : State} {h : Held} (hh : s.comm.held = [h]) (he : s.noneEarlier h) (hp : h.port ∈ partnerPorts) :
    exec (.replyRelease h.packet.session) s = .next (s.releaseHeld h) :=
  congrArg Host.Outcome.next (State.releasePorts_lone hh he hp)

/-! ### The token's expiry (R167, R405) -/

/-- The state as the expiry of the token leaves it: out of the maintenance state, with its record. -/
def State.tokenExpired (s : State) : State := (s.leaveMaint.markE s).later (s.maintRecord 0 s.maint.slot)

theorem tokenExpiry_leaves {s : State} (hm : s.inMaint = true) (ht : secBefore s.secNow s.maint.expiry = false) :
    exec .tokenExpiry s = .next s.tokenExpired :=
  congrArg Host.Outcome.next (if_pos ⟨hm, by simp [ht]⟩)

theorem State.tokenExpired_spec (s : State) : s.tokenExpired.inMaint = false ∧ s.tokenExpired.maint.tokens = s.maint.tokens
    ∧ s.tokenExpired.hw.jtag = s.hw.jtag.toReset
    ∧ s.tokenExpired.recorder.waiting.length = s.recorder.waiting.length + 1 ∧ s.tokenExpired.peg = s.peg := by
  unfold State.tokenExpired
  rw [State.markE_only]
  exact ⟨rfl, rfl, rfl, by simp [State.leaveMaint], rfl⟩

end Sys2Proof.Machine
end

section
open Sys2Proof Sys2Proof.Machine

/-- Settles O45: the limits by the session that they close, the credit by what one drain sends, the held reply by the port it waits
at, the token by what leaving the maintenance state changes. -/
theorem sessionEventsComplete : Obligations.SessionEventsComplete := by
  refine ⟨fun n s x hx ho hn hf ht => ⟨_, sessionIdleTimeout_closes hx ho hn hf ht, s.closeSession_alone x⟩,
    fun n s x hx ho hn ht => ⟨_, proveTimeout_closes hx ho hn ht, s.closeSession_alone x⟩, fun p k s hl ht => ?lock,
    fun n e s x hn hx hq => ?echo, fun n e s x v hn hx hq hc hcr hk => ?credit, fun n s h hh hsess hp he => ?held,
    fun s hm ht => ⟨_, tokenExpiry_leaves hm ht, s.tokenExpired_spec⟩⟩
  case lock =>
    refine ⟨_, keyLockExpiry_ends hl ht, ?_, ?_, ?_, rfl⟩ <;> rw [State.lockOf_ended] <;> rfl
  case echo =>
    rw [eventCreditRelease_drains hn]
    exact congrArg Host.Outcome.next
      (List.foldl_fixed' (fun _ => State.drainOne_empty (State.echoed_sess? hx e) hq) _)
  case credit =>
    have hdrain : (s.echoed x e).drain x.port x.num = _ :=
      State.drain_last (x := { x with echo := e }) (State.echoed_sess? hx e) hq hc (decide_eq_true hcr) hk
    have hexec := (eventCreditRelease_drains hn e).trans (congrArg Host.Outcome.next hdrain)
    refine ⟨fun hf => ?_, fun hf => ?_⟩
    · rw [if_pos (show (s.echoed x e).eventFor { x with echo := e } v.kind v.object = true from hf)] at hexec
      obtain ⟨k, hout, hev, hnum, hps⟩ := (s.echoed x e).sendEvent_outQ { x with echo := e } v
      exact ⟨_, k, hexec, hout, hev, hnum, hps, rfl⟩
    · rw [if_neg (show ¬ (s.echoed x e).eventFor { x with echo := e } v.kind v.object = true by
        rw [show (s.echoed x e).eventFor { x with echo := e } v.kind v.object = false from hf]; decide)] at hexec
      exact ⟨_, hexec, rfl, rfl⟩
  case held =>
    subst hsess
    exact ⟨_, replyRelease_lone hh he hp, rfl, rfl, rfl, s.releaseHeld_outQ h⟩

end

section
/-! SUPPORT. The ridge link: what taking a packet changes, what each row makes of one that was taken, and the link's own limits (R36,
R322, R323, R325). -/

namespace Sys2Proof.Machine

/-! ### Taking a packet (R323, R325) -/

/-- What taking a packet comes to: one that is not taken changes the link, the count of its bad tags and the gutter log alone; one
that is taken is acknowledged, and acknowledges what it names. -/
theorem State.takeRidge_cases (s : State) (n : Nat) (k : List Byte) :
    (∃ (r : Ridge) (g : GutterLog) (p : PairSt), s.takeRidge n k = (none, { s with ridge := r, gut := g, pair := p }))
    ∨ ∃ (b : List Byte) (lsn ack : Nat),
      s.takeRidge n k = (some b, { s with ridge := { s.ridge.received lsn ack s.time (n == kACK) with lsnIn := lsn } }) := by
  unfold State.takeRidge
  extract_lets len m lsn tagLen payload failed r
  split
  · exact .inl ⟨_, _, _, rfl⟩
  · split
    · exact .inl ⟨_, _, _, congrArg _ (s.gutter_only ..)⟩
    · split
      · exact .inl ⟨_, _, _, rfl⟩
      · split
        · exact .inl ⟨_, _, _, rfl⟩
        · split
          · exact .inl ⟨_, _, _, rfl⟩
          · exact .inr ⟨_, _, _, rfl⟩

theorem State.takeRidge_keeps {s s1 : State} {n : Nat} {k : List Byte} (h : s.takeRidge n k = (none, s1)) :
    s1.peg = s.peg ∧ s1.batch = s.batch ∧ s1.comm = s.comm := by
  rcases s.takeRidge_cases n k with ⟨r, g, p, hn⟩ | ⟨b, lsn, ack, hb⟩
  · cases h.symm.trans hn
    exact ⟨rfl, rfl, rfl⟩
  · cases h.symm.trans hb

theorem State.takeRidge_taken {s s1 : State} {n : Nat} {k b : List Byte} (h : s.takeRidge n k = (some b, s1)) :
    ∃ lsn ack, s1.ridge = { s.ridge.received lsn ack s.time (n == kACK) with lsnIn := lsn } := by
  rcases s.takeRidge_cases n k with ⟨r, g, p, hn⟩ | ⟨b, lsn, ack, hb⟩
  · cases h.symm.trans hn
  · cases h.symm.trans hb
    exact ⟨_, _, rfl⟩

/-! ### A packet as its row reads it -/

/-- What every row of a packet does with the link: a packet that is not taken leaves what the link's checks leave. -/
def State.onRidge (s : State) (n : Nat) (k : List Byte) (use_ : State → List Byte → State) : State :=
  match (s.takeRidge n k).1 with
  | none => (s.takeRidge n k).2
  | some b => use_ (s.takeRidge n k).2 b

section Reading
variable {s s1 : State} {n : Nat} {k b : List Byte} {use_ : State → List Byte → State}

theorem State.onRidge_none (h : s.takeRidge n k = (none, s1)) : s.onRidge n k use_ = s1 := by
  unfold State.onRidge
  rw [h]

theorem State.onRidge_some (h : s.takeRidge n k = (some b, s1)) : s.onRidge n k use_ = use_ s1 b := by
  unfold State.onRidge
  rw [h]

end Reading

/-- An item of the standby at the active (R130). -/
def State.useForward (s : State) (b : List Byte) : State :=
  if ¬ s.isActive ∨ ¬ s.isReady then s
  else
    match parseItem (b.drop 4) with
    | some (i, _) => s.admitItem { i with own := false, forwarded := true }
    | none => s

/-- A step of the handshake, at the slot of the pairing (R90). -/
def State.usePairing (s : State) (b : List Byte) : State :=
  if s.isWorker ∨ ¬ s.clk.running then s
  else (if (s.toOffset 118750).pair.leads then (s.toOffset 118750).pairingAtLeader b else (s.toOffset 118750).pairingAtFollower b).flush

/-- What only a standby takes. -/
def State.useState (s : State) (b : List Byte) : State := if s.isStandby then s.takeState b else s
def State.useMirror (s : State) (b : List Byte) : State := if s.isStandby ∧ s.clk.running then s.takeMirror b else s
def State.useRelay (s : State) (b : List Byte) : State :=
  if s.isStandby ∧ byteAt b 0 = cTOKEN then s.putCell s.ringPort (asRelay b) 0 else s

/-- A DATA cell that reached the standby alone (R362). -/
def State.useRingData (s : State) (b : List Byte) : State :=
  match parseCell b with
  | none => s
  | some c =>
    if ¬ s.isActive ∨ s.ringKey.isEmpty ∨ c.kind ≠ cDATA then s
    else if ¬ s.acceptable c b then s.failCell
    else (s.noteCell c).takeData c true

/-- The twin's digest of the frame (R336). -/
def State.useDigest (s : State) (b : List Byte) : State :=
  if s.isWorker ∨ ¬ s.clk.running ∨ (digestOf b).frame ≠ s.clk.frameNo ∨ 112000 < s.offset ∨ s.pair.decided then s
  else { s with pair := { s.pair with twinDigest := some (digestOf b) } }

/-- A request of the twin, or its reply (R370). -/
def State.useTurwa (s : State) (b : List Byte) : State :=
  if ¬ s.isReady ∨ s.isWorker then s
  else if byteAt b 2 = 0 then (s.turwaRequest (leAt b 0 2) (b.drop 4)).flush
  else (s.turwaReply (leAt b 0 2) (b.drop 4)).flush

section Rows
variable (k : List Byte) (s : State)

theorem exec_marker : exec (.marker k) s = .next (s.onRidge kMARKER k State.takeMarker) := rfl
theorem exec_forward : exec (.forward k) s = .next (s.onRidge kFORWARD k State.useForward) := rfl
theorem exec_pairing : exec (.pairing k) s = .next (s.onRidge kPAIRING k State.usePairing) := rfl
theorem exec_statePacket : exec (.statePacket k) s = .next (s.onRidge kSTATE k State.useState) := rfl
theorem exec_control : exec (.control k) s = .next (s.onRidge kCONTROL k State.takeControl) := rfl
theorem exec_ringData : exec (.ringData k) s = .next (s.onRidge kRINGDATA k State.useRingData) := rfl
theorem exec_relayCopy : exec (.relayCopy k) s = .next (s.onRidge kRELAY k State.useRelay) := rfl
theorem exec_mirrorReceived : exec (.mirrorReceived k) s = .next (s.onRidge kMIRROR k State.useMirror) := rfl
theorem exec_digestReceived : exec (.digestReceived k) s = .next (s.onRidge kDIGEST k State.useDigest) := rfl
theorem exec_turwa : exec (.turwa k) s = .next (if 4 ≤ s.feUsed .ridge then s else s.onRidge kTURWA k State.useTurwa) := rfl

/-- An acknowledgement has no effect beside the link's own. -/
theorem exec_ackPacket : exec (.ackPacket k) s = .next (s.onRidge kACK k (fun s1 _ => s1)) := by
  refine congrArg Host.Outcome.next ?_
  unfold State.onRidge
  split <;> rfl

/-- Each row reads its packet so. -/
theorem ridgeRow_reads {i : Instr} {n : Nat} (h : (i, n) ∈ [(Instr.marker k, kMARKER), (.forward k, kFORWARD), (.pairing k, kPAIRING),
    (.statePacket k, kSTATE), (.control k, kCONTROL), (.ringData k, kRINGDATA), (.relayCopy k, kRELAY),
    (.mirrorReceived k, kMIRROR), (.digestReceived k, kDIGEST), (.ackPacket k, kACK)]) :
    ∃ use_, exec i s = .next (s.onRidge n k use_) := by
  simp only [List.mem_cons, List.not_mem_nil, or_false, Prod.mk.injEq] at h
  rcases h with ⟨rfl, rfl⟩ | ⟨rfl, rfl⟩ | ⟨rfl, rfl⟩ | ⟨rfl, rfl⟩ | ⟨rfl, rfl⟩ | ⟨rfl, rfl⟩ | ⟨rfl, rfl⟩ | ⟨rfl, rfl⟩ | ⟨rfl, rfl⟩ | ⟨rfl, rfl⟩
  · exact ⟨_, exec_marker k s⟩
  · exact ⟨_, exec_forward k s⟩
  · exact ⟨_, exec_pairing k s⟩
  · exact ⟨_, exec_statePacket k s⟩
  · exact ⟨_, exec_control k s⟩
  · exact ⟨_, exec_ringData k s⟩
  · exact ⟨_, exec_relayCopy k s⟩
  · exact ⟨_, exec_mirrorReceived k s⟩
  · exact ⟨_, exec_digestReceived k s⟩
  · exact ⟨_, exec_ackPacket k s⟩

end Rows

theorem ridgeRow_refused {i : Instr} {n : Nat} {k : List Byte} {s s1 : State} (h : (i, n) ∈ [(Instr.marker k, kMARKER),
    (.forward k, kFORWARD), (.pairing k, kPAIRING), (.statePacket k, kSTATE), (.control k, kCONTROL), (.ringData k, kRINGDATA),
    (.relayCopy k, kRELAY), (.mirrorReceived k, kMIRROR), (.digestReceived k, kDIGEST), (.ackPacket k, kACK)])
    (hn : s.takeRidge n k = (none, s1)) : exec i s = .next s1 := by
  obtain ⟨use_, hx⟩ := ridgeRow_reads k s h
  rw [hx, State.onRidge_none hn]

/-! ### The link's own limits (R36, R322, R325) -/

theorem ackPacket_taken {k b : List Byte} {s s1 : State} (h : s.takeRidge kACK k = (some b, s1)) : exec (.ackPacket k) s = .next s1
    ∧ s1.ridge.tx = s.ridge.tx ∧ s1.ridge.ackDue = s.ridge.ackDue ∧ s1.ridge.unacked.length ≤ s.ridge.unacked.length := by
  obtain ⟨lsn, ack, hr⟩ := State.takeRidge_taken h
  rw [exec_ackPacket, State.onRidge_some h, hr]
  exact ⟨rfl, rfl, rfl, List.length_filter_le ..⟩

section Training
variable {s : State} (ha : s.alive = true) (hw : s.isWorker = false) (hb : s.blockInReset 6 = false) (hd : sget 1 s.clk.domains 8 = 1)
  (a b : List Byte) (n : Nat)
include ha hw hb hd

/-- A swapped pair of lanes does not train (R36). -/
theorem ridgeLinkTrain_swapped : exec (.ridgeLinkTrain true a b n) s = .next { s with ridge := Ridge.down } := by
  show execRidgeLinkTrain true a b n s = _
  simp [execRidgeLinkTrain, ha, hw, hb, hd]

/-- A training starts the link's numbers, and the handshake anew. -/
theorem ridgeLinkTrain_trains : ∃ u : State, exec (.ridgeLinkTrain false a b n) s = .next u ∧ u.ridge.trained = true
    ∧ u.ridge.lsnOut = 0 ∧ u.ridge.lsnIn = 0 ∧ u.ridge.unacked = [] ∧ u.ridge.delayNs = n
    ∧ u.pair = { s.pair with pairOffers := 0, pairStep := 0, offer := none }
    ∧ u.rst = { s.rst with listenFrom := if s.rst.listening then s.time else s.rst.listenFrom }
    ∧ u.clk = { s.clk with refState := if s.rst.listening then 1 else s.clk.refState }
    ∧ u = { s with ridge := u.ridge, pair := u.pair, rst := u.rst, clk := u.clk } := by
  have hup : ¬ (¬ s.alive = true ∨ s.isWorker = true ∨ s.blockInReset 6 = true ∨ sget 1 s.clk.domains 8 ≠ 1) := by simp [ha, hw, hb, hd]
  exact ⟨_, congrArg Host.Outcome.next ((if_neg hup).trans (if_neg Bool.false_ne_true)), rfl, rfl, rfl, rfl, rfl, rfl, rfl, rfl, rfl⟩

end Training

section Resending
variable {s : State} {x : Unacked} {rest : List Unacked} (hx : s.ridge.unacked = x :: rest)
include hx

theorem ridgeResendTimeout_early (ht : s.passed x.sentAt < 250) : exec .ridgeResendTimeout s = .next s := by
  show execRidgeResendTimeout s = _
  simp [execRidgeResendTimeout, hx, ht]

variable (ha : s.alive = true) (htr : s.ridge.trained = true) (ht : 250 ≤ s.passed x.sentAt)
include ha htr ht

theorem ridgeResendTimeout_sends (hn : x.sends < 4) : ∃ u : State, exec .ridgeResendTimeout s = .next u
    ∧ u.ridge.tx = s.ridge.tx ++ [x.bytes] ∧ u.ridge.unacked = { x with sends := x.sends + 1, sentAt := s.time } :: rest
    ∧ u = { s with ridge := u.ridge, gut := u.gut } := by
  have hexec : exec .ridgeResendTimeout s = .next (State.gutter { s with ridge := { s.ridge with
      unacked := { x with sends := x.sends + 1, sentAt := s.time } :: rest, tx := s.ridge.tx ++ [x.bytes] } } 0x02 0 1) := by
    show execRidgeResendTimeout s = _
    simp [execRidgeResendTimeout, hx, ha, htr, Nat.not_lt.2 ht, Nat.not_le.2 hn]
  refine ⟨_, hexec, ?_⟩
  rw [State.gutter_only]
  exact ⟨rfl, rfl, rfl⟩

/-- After four sends the link is down (R322). -/
theorem ridgeResendTimeout_retrains (hn : 4 ≤ x.sends) : ∃ u : State, exec .ridgeResendTimeout s = .next u ∧ u.ridge.trained = false
    ∧ u.ridge.unacked = [] ∧ u = { s with ridge := u.ridge, gut := u.gut } := by
  have hexec : exec .ridgeResendTimeout s = .next (State.gutter { s with
      ridge := { s.ridge with trained := false, unacked := [], tx := [], ackDue := none } } 0x02 0 2) := by
    show execRidgeResendTimeout s = _
    simp [execRidgeResendTimeout, hx, ha, htr, Nat.not_lt.2 ht, hn]
  refine ⟨_, hexec, ?_⟩
  rw [State.gutter_only]
  exact ⟨rfl, rfl, rfl⟩

end Resending

theorem ackPacketDue_none {s : State} (h : s.ridge.ackDue = none) : exec .ackPacketDue s = .next s := by
  show execAckPacketDue s = _
  simp [execAckPacketDue, h]

theorem ackPacketDue_early {s : State} {t : Nat} (h : s.ridge.ackDue = some t) (ht : s.passed t < 125) :
    exec .ackPacketDue s = .next s := by
  show execAckPacketDue s = _
  simp [execAckPacketDue, h, ht]

/-- An acknowledgement by itself is not sent again (R325). -/
theorem State.sendRidge_ack {s : State} (ha : s.alive = true) (htr : s.ridge.trained = true) (hb : s.pair.bound = true)
    (p : List Byte) : (s.sendRidge kACK p).ridge.ackDue = none ∧ (s.sendRidge kACK p).ridge.unacked = s.ridge.unacked := by
  simp [State.sendRidge, ha, htr, hb]

theorem ackPacketDue_sends {s : State} {t : Nat} (h : s.ridge.ackDue = some t) (ht : 125 ≤ s.passed t) :
    exec .ackPacketDue s = .next (s.sendRidge kACK []) := by
  show execAckPacketDue s = _
  simp [execAckPacketDue, h, Nat.not_lt.2 ht]

end Sys2Proof.Machine
end

section
/-! SUPPORT. What each kind of ridge packet that is taken does (R60, R130, R160, R327, R333, R334, R362, R370, R371, R387). -/

namespace Sys2Proof.Machine

/-! ### The marker (R60, R90) -/

/-- A unit whose frames do not run begins them as the marker says, later by the cable's delay in whole ticks. -/
theorem State.follow_begins {s : State} (h : s.clk.running = false) (f : Frame) (start : Batten) (n : Nat) (p : List Byte) (k : Nat) :
    s.follow f start n p k = { s with clk := { s.clk with
      running := true, frameNo := f, frameStart := start, batten := start + BitVec.ofNat 40 (n / 80), starts := [(f, start)],
      refState := 1, lastRef := some f } } := by
  simp [State.follow, h]

theorem State.takeMarker_begins {s : State} (hw : s.isWorker = false) (hl : s.pair.leads = false) (hr : s.clk.running = false)
    (b : List Byte) : ∃ u : State, s.takeMarker b = u ∧ u.clk.frameNo = BitVec.ofNat 32 (leAt b 0 4)
      ∧ u.clk.frameStart = BitVec.ofNat 40 (leAt b 4 5)
      ∧ u.clk.batten = BitVec.ofNat 40 (leAt b 4 5) + BitVec.ofNat 40 (s.ridge.delayNs / 80) ∧ u.clk.running = true
      ∧ u.clk.refState = 1 ∧ u.rst.listening = false ∧ u.peg = s.peg := by
  have hlater (w : Word) : s.laterActive w = false := by simp [State.laterActive, hl]
  refine ⟨_, rfl, ?_⟩
  unfold State.takeMarker
  dsimp only
  rw [hlater, if_neg (by simp [hw, hl]), if_neg Bool.false_ne_true, State.follow_begins (by exact hr)]
  obtain ⟨e, he⟩ := State.discUpdate_only { s with
    rst := { s.rst with listening := false }, pair := { s.pair with twinLevel := BitVec.ofNat 16 (leAt b 28 2) },
    clk := { s.clk with
      running := true, frameNo := BitVec.ofNat 32 (leAt b 0 4), frameStart := BitVec.ofNat 40 (leAt b 4 5),
      batten := BitVec.ofNat 40 (leAt b 4 5) + BitVec.ofNat 40 (s.ridge.delayNs / 80),
      starts := [(BitVec.ofNat 32 (leAt b 0 4), BitVec.ofNat 40 (leAt b 4 5))], refState := 1,
      lastRef := some (BitVec.ofNat 32 (leAt b 0 4)) } }
  rw [he]
  exact ⟨rfl, rfl, rfl, rfl, rfl, rfl, rfl⟩

/-! ### Forwarded items (R130) -/

theorem State.useForward_admits {s : State} {b r : List Byte} {i : BatchItem} (ha : s.isActive = true) (hr : s.isReady = true)
    (hi : parseItem (b.drop 4) = some (i, r)) :
    s.useForward b = { s with admitted := s.admitted ++ [{ i with own := false, forwarded := true }] } := by
  unfold State.useForward
  rw [if_neg (by simp [ha, hr]), hi]
  rfl

/-! ### The mirror (R333, R334) -/

/-- The counts of a mirror's parts so far and of one more. -/
def State.mirrorCounts (s : State) (b : List Byte) : List Nat :=
  [6, 8, 10, 12].zipWith (fun at_ n => leAt b at_ 2 + n) (if s.pair.mirrorCnt.isEmpty then [0, 0, 0, 0] else s.pair.mirrorCnt)

/-- What has come of a mirror, one part more. -/
def State.mirrorPartTaken (s : State) (b : List Byte) : State :=
  { s with pair := { s.pair with
      mirrorParts := s.pair.mirrorParts + 1, mirrorBuf := s.pair.mirrorBuf ++ b.drop 16, mirrorCnt := s.mirrorCounts b } }

/-- The state in which the last part of a mirror is taken. -/
def State.mirrorWhole (s : State) (b : List Byte) : State :=
  { s.mirrorPartTaken b with pair := { (s.mirrorPartTaken b).pair with mirrorBuf := [], mirrorCnt := [] } }

theorem State.takeDinEntry_only (s : State) (b : List Byte) : s.OnlyLines (s.takeDinEntry b) :=
  State.foldl_onlyLines (by intros; rfl) _ s

/-- A whole mirror changes the lines, the pair's notes of it and the batch, which is the active's (R210, R333). -/
theorem State.mirrorDone_only (s : State) (buf : List Byte) (cnt : List Nat) : ∃ (items : List BatchItem) (u : State),
    { s with pair := { s.pair with mirrored := true, mirrorItems := items } }.OnlyLines u
      ∧ s.mirrorDone buf cnt = { u with batch := u.pair.mirrorItems } := by
  unfold State.mirrorDone
  generalize parseItems (cnt.getD 0 0) buf = parsed
  obtain ⟨items, rest⟩ := parsed
  refine ⟨items.map s.mirroredItem, _, ?_, rfl⟩
  exact (((State.foldl_onlyLines (fun a n => a.mapLines_only n ..) _ _).trans
    (State.foldl_onlyLines (by intros; rfl) _ _)).trans
    (State.foldl_onlyLines State.takeDinEntry_only _ _)).trans (State.foldl_onlyLines (by intros; rfl) _ _)

theorem State.mirrorDone_spec (s : State) (buf : List Byte) (cnt : List Nat) :
    (s.mirrorDone buf cnt).pair.mirrored = true ∧ (s.mirrorDone buf cnt).batch = (s.mirrorDone buf cnt).pair.mirrorItems
    ∧ (s.mirrorDone buf cnt).peg = s.peg ∧ (s.mirrorDone buf cnt).admitted = s.admitted := by
  obtain ⟨items, u, hu, hdone⟩ := s.mirrorDone_only buf cnt
  unfold State.OnlyLines at hu
  rw [hdone, hu]
  exact ⟨rfl, rfl, rfl, rfl⟩

section Mirror
variable {s : State} {b : List Byte} (hs : s.isStandby = true) (hr : s.clk.running = true)
  (hf : BitVec.ofNat 32 (leAt b 0 4) = s.clk.frameNo) (hn : byteAt b 5 = s.pair.mirrorParts) (hm : s.pair.mirrored = false)
  (hu : s.pair.unmirrored = false)
include hs hr hf hn hm hu

theorem State.useMirror_more (h : (byteAt b 4).testBit 0 = true) : s.useMirror b = s.mirrorPartTaken b := by
  unfold State.useMirror
  rw [if_pos ⟨hs, hr⟩]
  unfold State.takeMirror
  rw [if_neg (by simp [hf, hn, hm, hu])]
  exact if_pos h

theorem State.useMirror_last (h : (byteAt b 4).testBit 0 = false) : s.useMirror b =
    (s.mirrorWhole b).mirrorDone (s.pair.mirrorBuf ++ b.drop 16) (s.mirrorCounts b) := by
  unfold State.useMirror
  rw [if_pos ⟨hs, hr⟩]
  unfold State.takeMirror
  rw [if_neg (by simp [hf, hn, hm, hu])]
  exact if_neg (by simp [h])

end Mirror

/-! ### A missing mirror (R334) -/

theorem ainKey_inj {m n c h : Nat} (hc : c < 16) (hh : h < 16) : ainKey n h = ainKey m c ↔ m = n ∧ c = h := by
  unfold ainKey
  omega

theorem State.ainIn_putAin (s : State) (n h m c : Nat) (v : AinIn) :
    (s.putAin n h v).ainIn m c = if ainKey n h = ainKey m c then v else s.ainIn m c := sget_sset ..

/-- Changing a node's channels one after the other changes each of them once, and no other node's. -/
theorem State.ainIn_foldl_putAin (s : State) (n m : Nat) (f : AinIn → AinIn) {c : Nat} (hc : c < 16) {k : Nat} (hk : k ≤ 16) :
    ((List.range k).foldl (fun s ch => s.putAin n ch (f (s.ainIn n ch))) s).ainIn m c
      = if m = n ∧ c < k then f (s.ainIn m c) else s.ainIn m c := by
  induction k with
  | zero => simp
  | succ k ih =>
    rw [List.range_succ, List.foldl_append, List.foldl_cons, List.foldl_nil, State.ainIn_putAin]
    have ih := ih (by omega)
    by_cases hkey : ainKey n k = ainKey m c
    · obtain ⟨rfl, rfl⟩ := (ainKey_inj hc (by omega)).1 hkey
      rw [if_pos rfl, ih, if_neg (by omega), if_pos (by omega)]
    · have hne := mt (ainKey_inj hc (by omega)).2 hkey
      rw [if_neg hkey, ih]
      congr 1
      rw [eq_iff_iff]
      omega

theorem State.ainIn_mapLines (s : State) (n m : Nat) (f : AinIn → AinIn) (g : DinIn → DinIn) {c : Nat} (hc : c < 16) :
    (s.mapLines n f g).ainIn m c = if m = n then f (s.ainIn m c) else s.ainIn m c := by
  have hdin := State.foldl_onlyDin (f := fun (s : State) i => s.putDin n i (g (s.dinIn n i))) (by intros; rfl) (List.range 24)
    ((List.range 16).foldl (fun (s : State) ch => s.putAin n ch (f (s.ainIn n ch))) s)
  refine (hdin.ainIn m c).trans ((s.ainIn_foldl_putAin n m f hc (le_refl 16)).trans ?_)
  simp [hc]

/-- A mirror speaks of the unit itself once, and of workers. -/
theorem State.foldl_mapLines_own (s : State) (f : AinIn → AinIn) (g : DinIn → DinIn) {c : Nat} (hc : c < 16) :
    (s.mirrorNodes.foldl (fun (s : State) n => s.mapLines n f g) s).ainIn 0 c = f (s.ainIn 0 c) := by
  have workers {l : List Nat} (hl : 0 ∉ l) (u : State) :
      (l.foldl (fun (s : State) n => s.mapLines n f g) u).ainIn 0 c = u.ainIn 0 c := by
    induction l generalizing u with
    | nil => rfl
    | cons n l ih =>
      simp only [List.mem_cons, not_or] at hl
      rw [List.foldl_cons, ih hl.2, State.ainIn_mapLines _ _ _ _ _ hc, if_neg hl.1]
  unfold State.mirrorNodes
  rw [List.foldl_cons, workers (by simp [State.workerKnown]), State.ainIn_mapLines _ _ _ _ _ hc, if_pos rfl]

theorem AinIn.hold_spec (v : AinIn) : v.hold.value = v.value ∧ v.hold.quality = if v.quality = 3 then 3 else 2 := by
  unfold AinIn.hold
  split
  · next h => exact ⟨rfl, h⟩
  · exact ⟨rfl, rfl⟩

/-- The frame of a standby without its mirror, before the values are held. -/
def State.withoutMirror (s : State) : State :=
  { s.toOffset 37500 with
    pair := { (s.toOffset 37500).pair with
      unmirrored := true, unmirroredSince := true, mirrorBuf := [], mirrorCnt := [], mirrorItems := [] }
    batch := [] }

/-- The values that such a frame goes on with. -/
def State.heldValues (s : State) : State :=
  (s.mirrorNodes.foldl (fun (s : State) n => s.mapLines n AinIn.hold DinIn.hold) s).takeOwnDin

theorem State.heldValues_only (s : State) : s.OnlyLines s.heldValues :=
  (State.foldl_onlyLines (fun a n => a.mapLines_only n ..) _ s).trans (State.foldl_onlyLines (by intros; rfl) _ _)

theorem State.heldValues_ainIn (s : State) {c : Nat} (hc : c < 16) : s.heldValues.ainIn 0 c = (s.ainIn 0 c).hold := by
  have hdin := State.foldl_onlyDin (f := fun (s : State) i => s.putDin 0 i (s.ownDin i)) (by intros; rfl) (List.range 24)
    (s.mirrorNodes.foldl (fun (s : State) n => s.mapLines n AinIn.hold DinIn.hold) s)
  exact (hdin.ainIn 0 c).trans (s.foldl_mapLines_own AinIn.hold DinIn.hold hc)

theorem State.withoutMirror_ainIn (s : State) (m c : Nat) : s.withoutMirror.ainIn m c = s.ainIn m c := by
  unfold State.withoutMirror
  rw [State.toOffset_only]
  rfl

theorem mirrorDeadline_holds {s : State} (hr : s.isReady = true) (hs : s.isStandby = true) (hm : s.pair.mirrored = false)
    (hu : s.pair.unmirrored = false) : exec .mirrorDeadline s = .next s.withoutMirror.heldValues :=
  congrArg Host.Outcome.next (if_neg (by simp [hr, hs, hm, hu]))

/-! ### The owner counters (R160) -/

/-- Values written one after the other, each at its own index, stand. -/
theorem sget_foldl_value (g : Nat → Nat) (m : Sparse Counter) {i k : Nat} (hi : i < k) :
    (sget Counter.zero ((List.range k).foldl (fun t j => smod Counter.zero t j (fun x => { x with value := g j })) m) i).value
      = g i := by
  induction k with
  | zero => omega
  | succ k ih =>
    rw [List.range_succ, List.foldl_append, List.foldl_cons, List.foldl_nil]
    by_cases hk : i = k
    · rw [hk, sget_smod_same]
    · rw [sget_smod_other _ _ _ _ _ hk]
      exact ih (by omega)

theorem State.takeCounters_spec (s : State) (m : List Byte) : (s.takeCounters m).savedCounters = (s.takeCounters m).peg.counters
    ∧ (∀ i, i < 64 → (sget Counter.zero (s.takeCounters m).peg.counters i).value = leAt m (8 * i) 8)
    ∧ (s.takeCounters m).peg.cfg = s.peg.cfg :=
  ⟨rfl, fun _ hi => sget_foldl_value (fun i => leAt m (8 * i) 8) s.peg.counters hi, rfl⟩

theorem State.useState_counters {s : State} {b m : List Byte} (hs : s.isStandby = true) (hk : byteAt b 4 = 2) (hn : leAt b 6 2 = 0)
    (hm : s.openState (b.drop 12) = some m) : s.useState b = s.takeCounters m := by
  unfold State.useState State.takeState
  rw [if_pos hs]
  dsimp only
  rw [if_pos hk, hm]
  exact if_pos hn

/-! ### CONTROL (R84, R387) -/

theorem State.takeControl_spec (s : State) (b : List Byte) :
    (byteAt b 0 = 1 → s.takeControl b = { s with pair := { s.pair with resetRequested := true } })
    ∧ (byteAt b 0 = 3 → byteAt b 2 = 1 → s.takeControl b = { s with hw := { s.hw with released1 := true } })
    ∧ (byteAt b 0 = 3 → byteAt b 2 = 2 → s.takeControl b = { s with hw := { s.hw with released2 := true } }) := by
  unfold State.takeControl
  refine ⟨fun h => ?_, fun h h2 => ?_, fun h h2 => ?_⟩ <;> rw [h]
  · rfl
  · exact if_pos h2
  · exact (if_neg (by omega)).trans (if_pos h2)

/-! ### The pairing handshake (R327) -/

theorem State.refuseBind_none {s : State} (h : s.pair.bindReq = none) : s.refuseBind = s := by
  unfold State.refuseBind
  rw [h]

/-- A packet that is kept until it is acknowledged takes the next number. -/
theorem State.sendRidge_lsn {s : State} (ha : s.alive = true) (htr : s.ridge.trained = true) (hb : s.pair.bound = true) (k : Nat)
    (p : List Byte) : (s.sendRidge k p).ridge.lsnOut = s.ridge.lsnOut + 1 := by
  simp [State.sendRidge, ha, htr, hb]

section Pairing
variable {s : State} {b : List Byte} (hbind : s.pair.bindReq = none) (hbound : s.pair.bound = true)
include hbind hbound

/-- The leader keeps an offer, and answers it with a nonce. -/
theorem State.pairingAtLeader_offer (h1 : byteAt b 0 = 1) : s.pairingAtLeader b = (s.keepOffer b).freshPairNonce.sendRidge kPAIRING
    ((s.keepOffer b).freshPairNonce.pairingPayload 2 []) := by
  unfold State.pairingAtLeader
  rw [h1]
  dsimp only
  rw [State.refuseBind_none (by exact hbind)]
  exact if_pos (.inl hbound)

/-- A follower whose twin does not fit it is detached (Table TWN-11). -/
theorem State.pairingAtFollower_unfit (h2 : byteAt b 0 = 2) (hfit : s.fitsTwin b = false) :
    s.pairingAtFollower b = (s.keepOffer b).detach := by
  have hlate : (s.keepOffer b).bindLate = false := by
    unfold State.bindLate
    rw [show (s.keepOffer b).pair.bindReq = none from hbind]
  unfold State.pairingAtFollower
  rw [h2]
  dsimp only
  rw [State.refuseBind_none (by exact hbind), if_neg (by simp [hlate, show (s.keepOffer b).pair.bound = true from hbound])]
  exact if_pos (by simp [show (s.keepOffer b).fitsTwin b = false from hfit])

end Pairing

theorem State.usePairing_slot {s : State} (hw : s.isWorker = false) (hr : s.clk.running = true) (b : List Byte) : s.usePairing b =
    (if s.pair.leads then (s.toOffset 118750).pairingAtLeader b else (s.toOffset 118750).pairingAtFollower b).flush := by
  unfold State.usePairing
  rw [if_neg (by simp [hw, hr]), State.toOffset_pair]

theorem State.freshOffer_spec (s : State) (b : List Byte) : ((s.keepOffer b).freshPairNonce).ridge = s.ridge
    ∧ ((s.keepOffer b).freshPairNonce).alive = s.alive ∧ ((s.keepOffer b).freshPairNonce).peg = s.peg
    ∧ ((s.keepOffer b).freshPairNonce).pair.bound = s.pair.bound
    ∧ ((s.keepOffer b).freshPairNonce).pair.offer = some (offerOf b)
    ∧ ((s.keepOffer b).freshPairNonce).pair.pairStep = byteAt b 0 := ⟨rfl, rfl, rfl, rfl, rfl, rfl⟩

theorem State.sendRidge_pair_peg (s : State) (k : Nat) (p : List Byte) : (s.sendRidge k p).pair = s.pair
    ∧ (s.sendRidge k p).peg = s.peg := by
  rw [State.sendRidge_only]
  exact ⟨rfl, rfl⟩

/-- The leader's answer to an offer leaves under the link's next number, and the offer is kept. -/
theorem State.pairingAtLeader_offer_spec {s : State} {b : List Byte} (hbind : s.pair.bindReq = none) (hbound : s.pair.bound = true)
    (h1 : byteAt b 0 = 1) (ha : s.alive = true) (htr : s.ridge.trained = true) :
    (s.pairingAtLeader b).pair.offer = some (offerOf b) ∧ (s.pairingAtLeader b).pair.pairStep = 1
      ∧ (s.pairingAtLeader b).ridge.lsnOut = s.ridge.lsnOut + 1 ∧ (s.pairingAtLeader b).peg = s.peg := by
  obtain ⟨hridge, halive, hpeg, hb, hoffer, hstep⟩ := s.freshOffer_spec b
  rw [State.pairingAtLeader_offer hbind hbound h1]
  generalize (s.keepOffer b).freshPairNonce = v at *
  obtain ⟨hsp, hsg⟩ := v.sendRidge_pair_peg kPAIRING (v.pairingPayload 2 [])
  rw [hsp, hsg, State.sendRidge_lsn (halive.trans ha) (by rw [hridge]; exact htr) (hb.trans hbound), hridge]
  exact ⟨hoffer, hstep.trans h1, rfl, hpeg⟩

theorem pairing_offer {k b : List Byte} {s s1 : State} (h : s.takeRidge kPAIRING k = (some b, s1)) (hw : s1.isWorker = false)
    (hr : s1.clk.running = true) (hbind : s1.pair.bindReq = none) (hbound : s1.pair.bound = true) (hl : s1.pair.leads = true)
    (h1 : byteAt b 0 = 1) (ha : s1.alive = true) (htr : s1.ridge.trained = true) :
    ∃ u : State, exec (.pairing k) s = .next u.flush ∧ u.pair.offer = some (offerOf b) ∧ u.pair.pairStep = 1
      ∧ u.ridge.lsnOut = s1.ridge.lsnOut + 1 ∧ u.peg = s1.peg := by
  have hspec := State.pairingAtLeader_offer_spec (s := s1.toOffset 118750) (by rw [State.toOffset_pair]; exact hbind)
    (by rw [State.toOffset_pair]; exact hbound) h1 ((s1.toOffset_alive 118750).trans ha) (by rw [State.toOffset_ridge]; exact htr)
  rw [State.toOffset_ridge, State.toOffset_peg] at hspec
  exact ⟨_, by rw [exec_pairing, State.onRidge_some h, State.usePairing_slot hw hr, if_pos hl], hspec⟩

theorem pairing_unfit {k b : List Byte} {s s1 : State} (h : s.takeRidge kPAIRING k = (some b, s1)) (hw : s1.isWorker = false)
    (hr : s1.clk.running = true) (hbind : s1.pair.bindReq = none) (hbound : s1.pair.bound = true) (hl : s1.pair.leads = false)
    (h2 : byteAt b 0 = 2) (hfit : s1.fitsTwin b = false) :
    exec (.pairing k) s = .next ((s1.toOffset 118750).keepOffer b).detach.flush := by
  have hfit' : (s1.toOffset 118750).fitsTwin b = false := by rw [State.toOffset_only]; exact hfit
  rw [exec_pairing, State.onRidge_some h, State.usePairing_slot hw hr, if_neg (by simp [hl]),
    State.pairingAtFollower_unfit (by simpa using hbind) (by simpa using hbound) h2 hfit']

/-! ### Worker data and tokens that the twin passes on (R362, R371) -/

/-- Data of the present frame mark their worker as heard; beside its entry only the edges of its inputs and its lines change. -/
theorem State.takeData_hears {s : State} {c : Cell} (far : Bool) (hk : s.workerKnown c.orig = true) (hl : c.body.length = 208)
    (hf : c.frame = s.clk.frameNo) (ho : s.offset ≤ 25000) : ((s.takeData c far).worker c.orig).gotData = true
      ∧ ((s.takeData c far).worker c.orig).tokenSeen = byteAt c.body 0 ∧ (s.takeData c far).peg = s.peg := by
  unfold State.takeData
  extract_lets w reach0 w1 s1 ring s2
  have heard : s2.worker c.orig = w1 ∧ s2.peg = s.peg := by
    have hs1 : s1.worker c.orig = w1 := s.setWorker_same ..
    simp only [s2]
    split <;> exact ⟨hs1, rfl⟩
  obtain ⟨hw1, hpeg⟩ := heard
  have hlines := s2.takeDataValues_only c.orig c.body
  unfold State.OnlyLines at hlines
  rw [if_neg (by simp [hk, hl, hf, ho])]
  split
  · rw [hw1]
    exact ⟨rfl, rfl, hpeg⟩
  · have hw2 : (s2.takeDataValues c.orig c.body).worker c.orig = w1 := by rw [hlines]; exact hw1
    rw [hw2, hlines]
    exact ⟨rfl, rfl, hpeg⟩

/-- The active takes a worker's data that reached the standby alone (R362). -/
theorem State.useRingData_takes {s : State} {b : List Byte} {c : Cell} (hp : parseCell b = some c) (ha : s.isActive = true)
    (hk : c.kind = cDATA) (hacc : s.acceptable c b = true) : s.useRingData b = (s.noteCell c).takeData c true := by
  unfold State.useRingData
  rw [hp]
  dsimp only
  rw [if_neg (by simp [ha, hk, State.acceptable_key hacc]), if_neg (by simp [hacc])]

/-- The active admits what its standby was asked for (R370). -/
theorem State.useTurwa_request {s : State} {b : List Byte} (hr : s.isReady = true) (hw : s.isWorker = false) (hb : byteAt b 2 = 0)
    (ha : s.isActive = true) :
    s.useTurwa b = (s.linkReq .ridge (echoSession (b.drop 4)) (echoSeq (b.drop 4)) (b.drop 4)).flush := by
  unfold State.useTurwa
  rw [if_neg (by simp [hr, hw]), if_pos hb]
  exact congrArg State.flush (if_pos ha)

end Sys2Proof.Machine
end

section
open Sys2Proof Sys2Proof.Machine

/-- Settles O58: a packet that is not taken through what the link's checks leave, each kind that is taken through what its row does
with it, the link's limits by their rows before and after their time. -/
theorem ridgeEventsComplete : Obligations.RidgeEventsComplete := by
  refine ⟨fun k s i n hi s1 hn => ⟨ridgeRow_refused hi hn, State.takeRidge_keeps hn⟩, fun k s => ⟨fun s1 hf hn => ?turwaRefused, fun hf => ?turwaFull⟩,
    fun k b s s1 h => ackPacket_taken h,
    fun a b d s ha hw hb hd => ⟨ridgeLinkTrain_swapped ha hw hb hd a b d, ridgeLinkTrain_trains ha hw hb hd a b d⟩,
    fun s x rest hx ha htr => ⟨ridgeResendTimeout_early hx, ridgeResendTimeout_sends hx ha htr, ridgeResendTimeout_retrains hx ha htr⟩,
    fun s t h htr ha hb => ⟨fun ht => ?ack, ackPacketDue_early h⟩, fun s h => ackPacketDue_none h,
    fun k b s s1 h hw hl hr => ?marker, fun k b s s1 i r h ha hr hi => ?forward,
    fun k b s s1 h hs hr hf hn hm hu => ⟨fun hb => ?mirrorMore, fun hb => ?mirrorLast⟩, fun s hr hs hm hu => ?deadline,
    fun k b m s s1 h hs hk hn hm => ?counters, fun k b s s1 h => ?control,
    fun k b s s1 h hw hr hbind hbound => ⟨fun hl h1 ha htr => ?offer, fun hl h2 hfit => ?unfit⟩,
    fun k b s s1 hf h hr hw hb ha => ?turwa, fun k b s s1 h hs hb => ?relay,
    fun k b s s1 c h hp ha hk hacc hwk hl hfr ho => ?ringData⟩
  case turwaRefused =>
    refine ⟨?_, State.takeRidge_keeps hn⟩
    rw [exec_turwa, if_neg (by omega), State.onRidge_none hn]
  case turwaFull => rw [exec_turwa, if_pos hf]
  case ack =>
    obtain ⟨hdue, hun⟩ := State.sendRidge_ack ha htr hb []
    exact ⟨_, ackPacketDue_sends h ht, hdue, hun, State.sendRidge_tx htr ha hb kACK []⟩
  case marker =>
    obtain ⟨u, hu, hspec⟩ := State.takeMarker_begins hw hl hr b
    exact ⟨u, by rw [exec_marker, State.onRidge_some h, hu], hspec⟩
  case forward => rw [exec_forward, State.onRidge_some h, State.useForward_admits ha hr hi]
  case mirrorMore =>
    exact ⟨_, by rw [exec_mirrorReceived, State.onRidge_some h, State.useMirror_more hs hr hf hn hm hu hb], rfl, rfl, rfl⟩
  case mirrorLast =>
    exact ⟨_, by rw [exec_mirrorReceived, State.onRidge_some h, State.useMirror_last hs hr hf hn hm hu hb],
      (s1.mirrorWhole b).mirrorDone_spec ..⟩
  case deadline =>
    have hlines := s.withoutMirror.heldValues_only
    have hain (c : Nat) (hc : c < 16) : s.withoutMirror.heldValues.ainIn 0 c = (s.ainIn 0 c).hold := by
      rw [State.heldValues_ainIn _ hc, State.withoutMirror_ainIn]
    refine ⟨_, mirrorDeadline_holds hr hs hm hu, ?_, ?_, ?_, ?_, fun c hc => ?_⟩
    · rw [hlines]; rfl
    · rw [hlines]; rfl
    · rw [hlines]; rfl
    · rw [hlines]; exact s.toOffset_peg 37500
    · rw [hain c hc]; exact AinIn.hold_spec _
  case counters =>
    exact ⟨_, by rw [exec_statePacket, State.onRidge_some h, State.useState_counters hs hk hn hm], s1.takeCounters_spec m⟩
  case control =>
    obtain ⟨hreset, hdrive1, hdrive2⟩ := s1.takeControl_spec b
    rw [exec_control, State.onRidge_some h]
    exact ⟨fun h1 => congrArg _ (hreset h1), fun h3 h1 => congrArg _ (hdrive1 h3 h1), fun h3 h2 => congrArg _ (hdrive2 h3 h2)⟩
  case offer => exact pairing_offer h hw hr hbind hbound hl h1 ha htr
  case unfit => exact ⟨_, pairing_unfit h hw hr hbind hbound hl h2 hfit, rfl, rfl, s1.toOffset_peg 118750⟩
  case turwa => rw [exec_turwa, if_neg (by omega), State.onRidge_some h, State.useTurwa_request hr hw hb ha]
  case relay =>
    rw [exec_relayCopy, State.onRidge_some h]
    exact congrArg _ (if_pos ⟨hs, hb⟩)
  case ringData =>
    exact ⟨_, by rw [exec_ringData, State.onRidge_some h, State.useRingData_takes hp ha hk hacc],
      State.takeData_hears (s := s1.noteCell c) true hwk hl hfr ho⟩

end

section
/-! SUPPORT. Which step of R143 stops a request, how the denial is answered at its class (R143, R159), and how a work joins the NV
queue (R145, R172). -/

namespace Sys2Proof.Machine

/-! ### The steps of R143 -/

/-- The tag of a request in flight carries the opcode of its row. -/
theorem State.Takes.opcode {s : State} {c : Cmd} {r : Req} {t : Tag} (h : s.Takes c r t) : t.opcode.toNat = c.op :=
  (State.waiting_spec h.waits).2.2

/-- The row of a request that a step stops denies it with that step's status (R143). -/
theorem exec_denied {i : Instr} {c : Cmd} {r : Req} {s : State} {t : Tag} {st : Status} (hi : requestOf i = some (c, r))
    (h : s.Takes c r t) (hv : s.verdict c t = some st) : exec i s = .next (s.deny t st).flush := by
  rw [exec_of_requestOf hi, State.execute_denied h hv]

section Steps
variable {s : State} {c : Cmd} {t : Tag}

theorem State.verdict_noAccess (ha : (s.asAdmitted t).accessOk c (s.who t.req) t.req = false) :
    s.verdict c t = some .notAvailable := by
  simp [State.verdict, ha]

variable (ha : (s.asAdmitted t).accessOk c (s.who t.req) t.req = true)
include ha

theorem State.verdict_sealed (hs : c.sealed s (s.who t.req) t.req = true) : s.verdict c t = some .sealed := by
  simp [State.verdict, ha, hs]

variable (hs : c.sealed s (s.who t.req) t.req = false)
include hs

theorem State.verdict_plain (hp : c.priv s (s.who t.req) t.req = true) (hc : (s.who t.req).has fCRYPT = false) :
    s.verdict c t = some .featureOff := by
  simp [State.verdict, ha, hs, hp, hc]

/-- A request that steps 1 to 3 let pass, outside a session of the delivery key and at this node, is decided by its state and
parameters. -/
theorem State.verdict_check (hp : c.priv s (s.who t.req) t.req = true → (s.who t.req).has fCRYPT = true)
    (hd : s.deliverySession (s.who t.req) = false) (hh : s.Here c t.req) :
    s.verdict c t = c.check s (s.who t.req) t.req := by
  have hcrypt : ¬ (c.priv s (s.who t.req) t.req = true ∧ ¬ (s.who t.req).has fCRYPT = true) := fun ⟨h, hn⟩ => hn (hp h)
  have hworker : ¬ (s.forWorker c.op t.req = true ∧ ¬ s.staging c.op t.req = true) := by rcases hh with h | h <;> simp [h]
  unfold State.verdict
  dsimp only
  rw [if_neg (by simp [ha]), if_neg (by simp [hs]), if_neg hcrypt, if_neg (by simp [hd]), if_neg hworker]

end Steps

/-! ### NV work joins the queue (R145, R172) -/

/-- Only the queue of NV work changes where its oldest work starts. -/
theorem State.startHead_only (s : State) : s.startHead = { s with nvOps := s.startHead.nvOps } := by
  unfold State.startHead
  split
  · rfl
  · dsimp only
    repeat' split
    all_goals rfl

/-- The oldest work starts as it is under the generation of its admission, and where it is a denial (R145). -/
theorem State.startHead_starts {s : State} {o : NvOp} {rest : List NvOp} (h : s.nvOps = o :: rest) (ho : o.started = false)
    (hg : o.gen = s.peg.gen ∨ ∃ st, o.work = .denied st) : s.startHead.nvOps = { o with started := true } :: rest := by
  unfold State.startHead
  rw [h]
  dsimp only
  rw [if_neg (by simp [ho]), if_pos]
  rcases hg with hg | ⟨st, hw⟩
  · exact .inl hg
  · exact .inr (.inr (.inl (by rw [hw])))

/-- A work under way goes on. -/
theorem State.startHead_under_way {s : State} {o : NvOp} {rest : List NvOp} (h : s.nvOps = o :: rest) (ho : o.started = true) :
    s.startHead = s := by
  unfold State.startHead
  rw [h]
  exact if_pos ho

theorem State.startHead_empty {s : State} (h : s.nvOps = []) : s.startHead = s := by
  unfold State.startHead
  rw [h]

theorem State.queueNv_only (s : State) (t : Tag) (w : NvWork) :
    s.queueNv t w = { s with nvOps := (s.queueNv t w).nvOps, comm := (s.queueNv t w).comm } := by
  unfold State.queueNv
  rw [State.startHead_only]
  rfl

theorem State.queueNv_begun (s : State) (t : Tag) (w : NvWork) : (s.queueNv t w).Begun t := by
  unfold State.queueNv
  rw [State.startHead_only]
  exact s.modTag_begun t

/-- The work of a request as it joins the queue. -/
def Tag.nvOp (t : Tag) (w : NvWork) : NvOp := { req := t.req, opcode := t.opcode, gen := t.gen, work := w, started := false }

theorem State.queueNv_joins (s : State) (t : Tag) (w : NvWork) : s.NvJoins (s.queueNv t w) t w := by
  refine ⟨fun hn hw => ?starts, fun o os hn ho => ?waits⟩
  case starts => exact State.startHead_starts (o := t.nvOp w) (rest := []) (congrArg (· ++ _) hn) rfl hw
  case waits => exact congrArg State.nvOps (State.startHead_under_way (congrArg (· ++ _) hn) ho)

/-- What joins the queue depends on the queue and the generation in force alone. -/
theorem State.NvJoins.of_queue {s s1 u : State} {t : Tag} {w : NvWork} (h : s1.NvJoins u t w) (hn : s1.nvOps = s.nvOps)
    (hp : s1.peg = s.peg) : s.NvJoins u t w := by
  unfold State.NvJoins at *
  rwa [hn, hp] at h

/-! ### A denial at its class (R159) -/

section Denial
variable {s : State} {t : Tag} {st : Status}

theorem State.deny_f (h : s.latOf t.opcode.toNat t.req = .f) :
    s.deny t st = s.answerF t st [] (fixedCount t.opcode.toNat t.req) := by
  simp only [State.deny, h]

theorem State.deny_p (h : s.latOf t.opcode.toNat t.req = .p) (hw : s.isWorker = false) :
    s.deny t st = { s.modTag t (fun u => { u with begun := true }) with refusedP := s.refusedP ++
      [{ frame := s.clk.frameNo, port := t.req.port, session := t.req.session, seq := t.req.seq, status := st, params := [] }] } := by
  simp only [State.deny, h]
  exact if_neg (by simp [hw])

theorem State.deny_n (h : s.latOf t.opcode.toNat t.req = .n) : s.deny t st = s.queueNv t (.denied st) := by
  simp only [State.deny, h]

theorem State.deny_l (h : s.latOf t.opcode.toNat t.req = .l) :
    s.deny t st = s.denyL t st (s.linkTicks t.opcode.toNat t.req) := by
  simp only [State.deny, h]

end Denial

end Sys2Proof.Machine
end

section
open Sys2Proof Sys2Proof.Machine

/-- Settles O9: the verdict is that of the first step that fails, and the row denies with it. -/
theorem checksDecideInOrder : Obligations.ChecksDecideInOrder := by
  intro i c r s t hi ht
  obtain rfl := ht.same
  refine ⟨fun ha => ?_, fun ha hs => ?_, fun ha hs hp hc => ?_, fun st ha hs hp hd hh hst => ?_⟩
  · exact exec_denied hi ht (State.verdict_noAccess ha)
  · exact exec_denied hi ht (State.verdict_sealed ha hs)
  · exact exec_denied hi ht (State.verdict_plain ha hs hp hc)
  · exact exec_denied hi ht ((State.verdict_check ha hs hp hd hh).trans hst)

/-- Settles O10: the denial of each class, by the rule of that class. -/
theorem denialIsAnsweredAtItsClass : Obligations.DenialIsAnsweredAtItsClass := by
  intro i c r s t st hi ht hv
  obtain rfl := ht.same
  rw [← ht.opcode]
  have hexec := exec_denied hi ht hv
  refine ⟨fun hl => ⟨_, hexec, ?f⟩, fun hl hw => ⟨_, hexec, ?p⟩, fun hl => ⟨_, hexec, ?n⟩, fun hl => ⟨_, hexec, ?l⟩⟩
  case f =>
    rw [State.deny_f hl]
    exact ⟨s.ready_keeps .., s.ready_stay .., s.ready_answered ..⟩
  case p =>
    rw [State.deny_p hl hw]
    exact ⟨rfl, rfl, rfl⟩
  case n =>
    rw [State.deny_n hl]
    exact ⟨s.queueNv_joins .., s.queueNv_only ..⟩
  case l =>
    rw [State.deny_l hl]
    exact ⟨rfl, _, rfl, rfl, rfl, rfl, rfl⟩

end

section
/-! SUPPORT. What the entries of NV and image commands begin (R145, R152, R163, R172, R189). -/

namespace Sys2Proof.Machine

/-- The row of an entry that only queues NV work does that and nothing else. -/
theorem nvRow_begins {i : Instr} {c : Cmd} {s : State} {t : Tag} {w : NvWork} (hi : requestOf i = some (c, t.req))
    (h : s.Runs c t.req t) (hrun : c.run s t (s.who t.req) = s.queueNv t w) :
    ∃ u : State, exec i s = .next u.flush ∧ s.NvJoins u t w ∧ u = { s with nvOps := u.nvOps, comm := u.comm } ∧ u.Begun t :=
  ⟨_, by rw [exec_of_runs hi h, hrun], s.queueNv_joins t w, s.queueNv_only t w, s.queueNv_begun t w⟩

/-! ### Encrypted parameters (R156) -/

/-- Parameters that open move the session's message count alone. -/
theorem State.decrypt_only {s s1 : State} {t : Tag} {off n : Nat} {k : List Byte} (h : s.decrypt t off n = some (k, s1)) :
    s.OnlyComm s1 := by
  unfold State.decrypt at h
  split at h
  · cases h
  · dsimp only at h
    split at h
    · cases h
    · split at h <;> cases h
      rfl

theorem keyLoad_opens {s s1 : State} {t : Tag} {k : List Byte}
    (hd : s.decrypt t 1 (keyLen (byteAt t.req.params 0)) = some (k, s1)) (w : Who) :
    cmdKeyLoad.run s t w = s1.queueNv t (.keyLoad (byteAt t.req.params 0) k) := by
  simp only [cmdKeyLoad, hd]

theorem keyLoad_closed {s : State} {t : Tag} (hd : s.decrypt t 1 (keyLen (byteAt t.req.params 0)) = none) (w : Who) :
    cmdKeyLoad.run s t w = s.queueNv t (.denied .badParam) := by
  simp only [cmdKeyLoad, hd]

/-- KEY_LOAD queues the key that opens, and beside the queue only the session's message count moves (R152, R156). -/
theorem keyLoad_begins {s s1 : State} {t : Tag} {k : List Byte} (w : Who)
    (hd : s.decrypt t 1 (keyLen (byteAt t.req.params 0)) = some (k, s1)) : ∃ u : State, cmdKeyLoad.run s t w = u
      ∧ s.NvJoins u t (.keyLoad (byteAt t.req.params 0) k) ∧ u = { s with nvOps := u.nvOps, comm := u.comm } ∧ u.Begun t := by
  have hs1 : s1 = { s with comm := s1.comm } := State.decrypt_only hd
  have hq := s1.queueNv_only t (.keyLoad (byteAt t.req.params 0) k)
  refine ⟨_, keyLoad_opens hd w, (s1.queueNv_joins t _).of_queue (by rw [hs1]) (by rw [hs1]), ?_, s1.queueNv_begun t _⟩
  generalize s1.queueNv t (.keyLoad (byteAt t.req.params 0) k) = u at hq ⊢
  rw [hq, hs1]

/-! ### Images (R163, R189) -/

/-- The image that a transfer writes reads back, whether it lies in its slot or in SRAM (R87). -/
theorem State.setTransferImage_spec (s : State) (x : Transfer) (i : Image) :
    (s.setTransferImage x i).transferImage x = i
      ∧ s.setTransferImage x i = { s with images := (s.setTransferImage x i).images, sram := (s.setTransferImage x i).sram } := by
  have hset : (s.setImage x.slot i).slotImage x.slot = i ∧ s.setImage x.slot i = { s with images := (s.setImage x.slot i).images } := by
    by_cases hk : x.slot = 0 <;> simp [State.setImage, State.slotImage, hk]
  by_cases hb : s.nvBoot = true
  · have he : s.setTransferImage x i = s.setImage x.slot i := if_pos hb
    have hb' : (s.setImage x.slot i).nvBoot = true := by rw [hset.2]; exact hb
    rw [he]
    exact ⟨(if_pos hb').trans hset.1, by rw [hset.2]⟩
  · have he : s.setTransferImage x i = { s with sram := some i } := if_neg hb
    rw [he]
    exact ⟨if_neg (c := s.nvBoot = true) hb, rfl⟩

/-- The transfer that an IMAGE_BEGIN opens (R189). -/
def transferOf (r : Req) : Transfer :=
  { slot := byteAt r.params 0, length := leAt r.params 1 4, received := 0, session := r.session, port := r.port }

/-- The state of a transfer just opened, its image erased. -/
def State.openTransfer (s : State) (x : Transfer) : State :=
  State.setTransferImage { s with transfer := some x } x (Image.erased x.length)

theorem State.openTransfer_spec (s : State) (x : Transfer) : (s.openTransfer x).transfer = some x
    ∧ (s.openTransfer x).transferImage x = Image.erased x.length
    ∧ s.openTransfer x = { s with
        transfer := some x, images := (s.openTransfer x).images, sram := (s.openTransfer x).sram } := by
  obtain ⟨himage, honly⟩ := State.setTransferImage_spec { s with transfer := some x } x (Image.erased x.length)
  exact ⟨congrArg State.transfer honly, himage, honly⟩

/-- IMAGE_BEGIN opens its transfer over an erased image and queues the erase (R189). -/
theorem imageBegin_begins {s : State} {t : Tag} (h : s.Runs cmdImageBegin t.req t) :
    ∃ u : State, exec (.imageBegin t.req) s = .next u.flush ∧ u.transfer = some (transferOf t.req)
      ∧ u.transferImage (transferOf t.req) = Image.erased (transferOf t.req).length
      ∧ s.NvJoins u t (.imageBegin (transferOf t.req).slot (transferOf t.req).length) ∧ u.Begun t
      ∧ u = { s with nvOps := u.nvOps, comm := u.comm, transfer := u.transfer, images := u.images, sram := u.sram } := by
  obtain ⟨htransfer, himage, honly⟩ := s.openTransfer_spec (transferOf t.req)
  have hexec : exec (.imageBegin t.req) s = .next (State.queueNv (s.openTransfer (transferOf t.req)) t
    (.imageBegin (transferOf t.req).slot (transferOf t.req).length)).flush := exec_of_runs rfl h
  have hq := (s.openTransfer (transferOf t.req)).queueNv_only t (.imageBegin (transferOf t.req).slot (transferOf t.req).length)
  refine ⟨_, hexec, (congrArg State.transfer hq).trans htransfer, ?image,
    (State.queueNv_joins _ t _).of_queue (by rw [honly]) (by rw [honly]), State.queueNv_begun _ t _, ?frame⟩
  case image => rw [hq]; exact himage
  case frame => rw [hq, honly]

end Sys2Proof.Machine
end

section
open Sys2Proof Sys2Proof.Machine

/-- Settles O21: what each entry queues, and what it does beside that. -/
theorem nvCommandsBegin : Obligations.NvCommandsBegin := by
  refine ⟨fun r s t i c w hi h => ?queued, fun r s t h => ?keyLoad, fun r s t h => ?imageBegin, fun r s t x h hx => ?imageBlock⟩
  all_goals obtain rfl := h.1.same
  case queued =>
    simp only [List.mem_cons, Prod.mk.injEq, List.not_mem_nil, or_false] at hi
    obtain ⟨rfl, rfl, rfl⟩ | ⟨rfl, rfl, rfl⟩ | ⟨rfl, rfl, rfl⟩ | ⟨rfl, rfl, rfl⟩ | ⟨rfl, rfl, rfl⟩ := hi
    all_goals exact nvRow_begins rfl h rfl
  case keyLoad =>
    refine ⟨_, exec_of_runs rfl h, ?_⟩
    cases hd : s.decrypt t 1 (keyLen (byteAt t.req.params 0)) with
    | none =>
      rw [keyLoad_closed hd]
      exact ⟨s.queueNv_only t _, s.queueNv_begun t _, fun _ _ he => absurd he (by simp), fun _ => s.queueNv_joins t _⟩
    | some d =>
      obtain ⟨k, s1⟩ := d
      obtain ⟨u, hrun, hj, honly, hbegun⟩ := keyLoad_begins (s.who t.req) hd
      rw [hrun]
      refine ⟨honly, hbegun, fun k' s1' he => ?_, fun he => absurd he (by simp)⟩
      obtain ⟨rfl, rfl⟩ : k = k' ∧ s1 = s1' := by simpa using he
      exact hj
  case imageBegin =>
    obtain ⟨u, hexec, htransfer, himage, hj, hbegun, honly⟩ := imageBegin_begins h
    refine ⟨u, transferOf t.req, hexec, htransfer, rfl, rfl, rfl, rfl, rfl, ?_, ?_, hj, hbegun, honly⟩
    · rw [himage]; rfl
    · rw [himage]; rfl
  case imageBlock =>
    have hlen : (t.req.params.drop 4).length = t.req.params.length - 4 := List.length_drop
    have hq := State.queueNv_only { s with transfer := some { x with received := x.received + (t.req.params.length - 4) } } t
      (.imageBlock (leAt t.req.params 0 4) (t.req.params.drop 4))
    have hrun : cmdImageBlock.run s t (s.who t.req) =
        State.queueNv { s with transfer := some { x with received := x.received + (t.req.params.length - 4) } } t
          (.imageBlock (leAt t.req.params 0 4) (t.req.params.drop 4)) := by
      simp only [cmdImageBlock, hx, Option.map_some, hlen]
    refine ⟨_, exec_of_runs rfl h, ?_⟩
    rw [hrun]
    exact ⟨by rw [hq], (State.queueNv_joins _ t _).of_queue rfl rfl, State.queueNv_begun _ t _, by rw [hq]⟩

end

section
/-! SUPPORT. What MATRIX_WRITE replaces of the matrix (R138-R144), and what SEAL and UNSEAL do to the seal table (R147, R149). -/

namespace Sys2Proof.Machine

/-! ### Rows of the matrix (R138, R140) -/

/-- A row of Table SCP-7 is that of one class. -/
theorem classRow_inj {a b row : Nat} (ha : classRow a = some row) (hb : classRow b = some row) : a = b := by
  obtain ⟨_, ha, -⟩ := List.findIdx?_eq_some_iff_getElem.1 ha
  obtain ⟨_, hb, -⟩ := List.findIdx?_eq_some_iff_getElem.1 hb
  exact (beq_iff_eq.1 ha).symm.trans (beq_iff_eq.1 hb)

/-- A write at another index is not seen, whatever the entries default to. -/
theorem sget_sset_skip {α : Type} [DecidableEq α] (d d' : α) (m : Sparse α) {i k : Nat} (a : α) (h : i ≠ k) :
    sget d' (sset d m i a) k = sget d' m k := by
  unfold sset
  split
  · rw [sget_sdel, if_neg h]
  · rw [sget_sput, if_neg h]

/-- The first n cells of a row replaced. -/
theorem cell_writeCells (m : Sparse (BitVec 4)) (row row' : Nat) (bytes : List Byte) {g ro : Nat} (hg : g < 16) (hr : ro < 6)
    {n : Nat} (hn : n ≤ 96) :
    cell ((List.range n).foldl
      (fun m k => sset (defaultCell row (k / 6) (k % 6)) m (cellKey row (k / 6) (k % 6)) (rowCell bytes (k / 6) (k % 6))) m) row' g ro
      = if row' = row ∧ 6 * g + ro < n then rowCell bytes g ro else cell m row' g ro := by
  induction n with
  | zero => simp
  | succ n ih =>
    rw [List.range_succ, List.foldl_append]
    simp only [List.foldl_cons, List.foldl_nil]
    by_cases hk : row' = row ∧ 6 * g + ro = n
    · obtain ⟨rfl, rfl⟩ := hk
      have hdiv : (6 * g + ro) / 6 = g ∧ (6 * g + ro) % 6 = ro := by omega
      rw [hdiv.1, hdiv.2, if_pos (by omega)]
      exact sget_sset_same ..
    · have hne : cellKey row (n / 6) (n % 6) ≠ cellKey row' g ro := by unfold cellKey; omega
      rw [cell, sget_sset_skip _ _ _ _ hne]
      refine (ih (by omega)).trans (if_congr ?_ rfl rfl)
      omega

/-- Replacing a row replaces its cells by those of its bytes, and no other row's. -/
theorem cell_setRow (m : Sparse (BitVec 4)) (row row' : Nat) (bytes : List Byte) {g ro : Nat} (hg : g < 16) (hr : ro < 6) :
    cell (setRow m row bytes) row' g ro = if row' = row then rowCell bytes g ro else cell m row' g ro :=
  (cell_writeCells m row row' bytes hg hr (le_refl 96)).trans (if_congr (by omega) rfl rfl)

/-- The 48 bytes that a row's cells were written from are those that it reads as. -/
theorem rowBytes_of_cells {m : Sparse (BitVec 4)} {row : Nat} {bytes : List Byte} (hl : bytes.length = 48)
    (h : ∀ g < 16, ∀ ro < 6, cell m row g ro = rowCell bytes g ro) : rowBytes m row = bytes := by
  refine List.ext_getElem (by simp [rowBytes, hl]) (fun k hk hk' => ?_)
  have hb : byteAt bytes k = bytes[k].toNat := by simp [byteAt, List.getElem?_eq_getElem hk']
  have hlo : 3 * (k / 3) + 2 * (k % 3) / 2 = k ∧ 2 * (k % 3) % 2 = 0 := by omega
  have hhi : 3 * (k / 3) + (2 * (k % 3) + 1) / 2 = k ∧ (2 * (k % 3) + 1) % 2 ≠ 0 := by omega
  have hlt := bytes[k].isLt
  simp only [rowBytes, List.getElem_map, List.getElem_range]
  rw [h _ (by omega) _ (by omega), h _ (by omega) _ (by omega)]
  simp only [rowCell, hlo.1, hlo.2, hhi.1, if_true, if_neg hhi.2, hb]
  apply BitVec.eq_of_toNat_eq
  simp only [BitVec.toNat_ofNat]
  omega

/-! ### MATRIX_WRITE (R144) -/

/-- A matrix with the first n rows of a MATRIX_WRITE replaced. -/
def writeRows (b : List Byte) (m : Sparse (BitVec 4)) (n : Nat) : Sparse (BitVec 4) :=
  (List.range n).foldl (fun m k =>
    match classRow (byteAt b (5 + 49 * k)) with
    | some row => setRow m row (writeRow b k)
    | none => m) m

theorem writeRows_succ (b : List Byte) (m : Sparse (BitVec 4)) (n : Nat) : writeRows b m (n + 1) =
    (match classRow (byteAt b (5 + 49 * n)) with
    | some row => setRow (writeRows b m n) row (writeRow b n)
    | none => writeRows b m n) := by
  rw [writeRows, List.range_succ, List.foldl_append]
  rfl

/-- A MATRIX_WRITE that expects another generation changes nothing. -/
theorem applyMatrixWrite_stale {s : State} {p : Prov} {i : BatchItem} {r : Req} (h : BitVec.ofNat 32 (leAt r.params 0 4) ≠ p.st.gen) :
    applyMatrixWrite s p i r = p.refuse .badState :=
  if_pos h

/-- One that expects the generation in force replaces its rows under the next. -/
theorem applyMatrixWrite_expected {s : State} {p : Prov} {i : BatchItem} {r : Req}
    (h : BitVec.ofNat 32 (leAt r.params 0 4) = p.st.gen) : ∃ q : Prov, applyMatrixWrite s p i r = q.ok (toLe 4 q.st.gen.toNat)
      ∧ q.st = { p.st with
          matrix := writeRows r.params p.st.matrix (byteAt r.params 4), gen := nextGen p.st.gen, lastMatrixFrame := p.frame } :=
  ⟨_, if_neg (not_not.2 h), rfl⟩

section Rows
variable {b : List Byte} {row g ro : Nat} (hg : g < 16) (hr : ro < 6)
include hg hr

/-- A row that no class of the write names keeps its cells. -/
theorem cell_writeRows_unnamed (m : Sparse (BitVec 4)) {n : Nat} (h : ∀ k < n, classRow (byteAt b (5 + 49 * k)) ≠ some row) :
    cell (writeRows b m n) row g ro = cell m row g ro := by
  induction n with
  | zero => rfl
  | succ n ih =>
    rw [writeRows_succ]
    split
    · next row' hrow =>
      have hne : row ≠ row' := fun he => h n (by omega) (by rw [hrow, he])
      rw [cell_setRow _ _ _ _ hg hr, if_neg hne]
      exact ih (fun k hk => h k (by omega))
    · exact ih (fun k hk => h k (by omega))

/-- A row that one class of the write names takes the cells of that class's bytes. -/
theorem cell_writeRows_named (m : Sparse (BitVec 4)) {n k : Nat} (hk : k < n) (hrow : classRow (byteAt b (5 + 49 * k)) = some row)
    (h : ∀ j < n, j ≠ k → classRow (byteAt b (5 + 49 * j)) ≠ some row) :
    cell (writeRows b m n) row g ro = rowCell (writeRow b k) g ro := by
  induction n with
  | zero => exact absurd hk (Nat.not_lt_zero k)
  | succ n ih =>
    rw [writeRows_succ]
    by_cases hn : n = k
    · subst hn
      rw [hrow]
      exact (cell_setRow _ _ _ _ hg hr).trans (if_pos rfl)
    · have hlast := ih (by omega) (fun j hj => h j (by omega))
      split
      · next row' hrow' =>
        have hne : row ≠ row' := fun he => h n (by omega) hn (by rw [hrow', he])
        rw [cell_setRow _ _ _ _ hg hr, if_neg hne]
        exact hlast
      · exact hlast

end Rows

/-- A right of a class that the write does not name stays. -/
theorem holds_writeRows (b : List Byte) (m : Sparse (BitVec 4)) {n cls grp : Nat} (role : Role) (bit : Nat) (hg : grp < 16)
    (h : ∀ k < n, byteAt b (5 + 49 * k) ≠ cls) : holds (writeRows b m n) cls grp role bit = holds m cls grp role bit := by
  have hro : roleNo role < 6 := by cases role <;> decide
  unfold holds
  split
  · next row hrow => rw [cell_writeRows_unnamed hg hro m (fun k hk hc => h k hk (classRow_inj hc hrow))]
  · rfl

/-- What a MATRIX_WRITE's check says of its form: whole rows, and no class twice (R140). -/
theorem matrixWriteOk_form {b : List Byte} (h : matrixWriteOk b = true) : b.length = 5 + 49 * byteAt b 4 ∧ (writeClasses b).Nodup := by
  simp only [matrixWriteOk, Bool.and_eq_true, beq_iff_eq, decide_eq_true_eq] at h
  obtain ⟨⟨⟨-, hlen⟩, hnodup⟩, -⟩ := h
  exact ⟨hlen, hnodup⟩

/-- A row that a write names reads back as the bytes written. -/
theorem rowBytes_writeRows {b : List Byte} (m : Sparse (BitVec 4)) (h : matrixWriteOk b = true) {k row : Nat} (hk : k < byteAt b 4)
    (hrow : classRow (byteAt b (5 + 49 * k)) = some row) : rowBytes (writeRows b m (byteAt b 4)) row = writeRow b k := by
  obtain ⟨hlen, hnodup⟩ := matrixWriteOk_form h
  have hother : ∀ j < byteAt b 4, j ≠ k → classRow (byteAt b (5 + 49 * j)) ≠ some row := fun j hj hjk hc =>
    hjk (List.inj_on_of_nodup_map hnodup (List.mem_range.2 hj) (List.mem_range.2 hk) (classRow_inj hc hrow))
  have hsize : (writeRow b k).length = 48 := by rw [writeRow, slice_length]; omega
  exact rowBytes_of_cells hsize (fun g hg ro hr => cell_writeRows_named hg hr m hk hrow hother)

/-! ### SEAL and UNSEAL (R147, R149) -/

section Seals
variable {s : State} {p : Prov} {i : BatchItem} {r : Req} {n : Nat} {x : Seal}

/-- A seal that no entry equals takes the free entry. -/
theorem applySeal_new (h : p.st.seals.find? (fun e => sameSeal e.2 (sealOf r)) = none) (hn : freeSeal p.st.seals = some n) :
    applySeal s p i r = (Prov.putSeal s p n (sealOf r) 0 i.actor true).ok (toLe 2 n) := by
  simp only [applySeal, h, hn]

/-- A seal that an intact entry equals is there already. -/
theorem applySeal_intact (h : p.st.seals.find? (fun e => sameSeal e.2 (sealOf r)) = some (n, x)) (hx : x.broken = false) :
    applySeal s p i r = p.ok (toLe 2 n) := by
  simp only [applySeal, h]
  exact if_pos (by simp [hx])

variable (h : p.st.seals.find? (fun e => e.1 == leAt r.params 0 2) = some (n, x))
include h

theorem applyUnseal_release (h0 : byteAt r.params 2 = 0) :
    applyUnseal s p i r = (Prov.putSeal s p (leAt r.params 0 2) x 1 i.actor false).ok [] := by
  simp only [applyUnseal, h]
  exact if_pos h0

theorem applyUnseal_break (h1 : byteAt r.params 2 = 1) (hx : x.broken = false) : applyUnseal s p i r =
    ((Prov.putSeal s p (leAt r.params 0 2) { x with broken := true } 2 i.actor true).addEffect
      (.ledger 1 i.actor (leAt r.params 0 2))).ok [] := by
  simp only [applyUnseal, h]
  rw [if_neg (by omega), if_neg (by simp [hx])]

end Seals

/-- An entry that is kept stands in its place. -/
theorem Prov.putSeal_kept (s : State) (p : Prov) (n : Nat) (x : Seal) (action actor : Nat) :
    (Prov.putSeal s p n x action actor true).st.seals = sset Seal.none p.st.seals n x := rfl

theorem Prov.putSeal_removed (s : State) (p : Prov) (n : Nat) (x : Seal) (action actor : Nat) :
    (Prov.putSeal s p n x action actor false).st.seals = sdel p.st.seals n := rfl

end Sys2Proof.Machine
end

section
open Sys2Proof Sys2Proof.Machine

/-- Settles O33: a row of the matrix is its class's alone, and reads back as the bytes it was written from. -/
theorem matrixWriteAtItsPeg : Obligations.MatrixWriteAtItsPeg := by
  intro s p i r
  refine ⟨applyMatrixWrite_stale, fun h => ?_⟩
  obtain ⟨q, hq, hst⟩ := applyMatrixWrite_expected (s := s) (i := i) h
  refine ⟨q, hq, ?_⟩
  rw [hst]
  exact ⟨rfl, rfl, rfl, rfl, rfl, fun cls grp role bit hg hcls => holds_writeRows r.params p.st.matrix role bit hg hcls,
    fun hok k hk row hrow => rowBytes_writeRows p.st.matrix hok hk hrow⟩

/-- Settles O34: each form of SEAL and UNSEAL by what it puts into the table or takes out. -/
theorem sealsAtTheirPeg : Obligations.SealsAtTheirPeg := by
  refine ⟨fun s p i r n h hn _ => ?new, fun s p i r n x h hx => applySeal_intact h hx, fun s p i r n x h h0 => ?release,
    fun s p i r n x h h1 hx => ?broken⟩
  case new =>
    rw [applySeal_new h hn]
    exact ⟨rfl, rfl, sget_sset_same .., fun m hm => sget_sset_other _ _ _ _ _ hm⟩
  case release =>
    rw [applyUnseal_release h h0]
    exact ⟨rfl, Prov.putSeal_removed ..⟩
  case broken =>
    rw [applyUnseal_break h h1 hx]
    refine ⟨rfl, ?_, rfl⟩
    change sget Seal.none (Prov.putSeal s p (leAt r.params 0 2) { x with broken := true } 2 i.actor true).st.seals _ = _
    rw [Prov.putSeal_kept, sget_sset_same]

end

section
/-! SUPPORT. The recorder and the NV array in time: tokens, counter words and erases (R307-R316), the oldest NV work as it completes
(R153, R159, R172), the housekeeping slot (R177, R307, R313), and the events that come hours apart (R160, R319, R338-R345,
R419-R423). -/

namespace Sys2Proof.Machine

/-! ### Tokens of the recorder (R309, R310) -/

/-- The spans of a bucket's frames that have passed. -/
def State.spansPassed (s : State) (c : Nat) : Nat := (s.clk.frameNo - (s.bucket c).since).toNat / (10 * s.policyP c)

/-- A bucket with n tokens gained, each after a span of frames; where it then holds all, it is as full ones are. -/
def Bucket.gained (b : Bucket) (n span : Nat) : Bucket :=
  if b.spent ≤ n then Bucket.full else { spent := b.spent - n, since := b.since + BitVec.ofNat 32 (n * span) }

theorem Bucket.gained_spent (b : Bucket) (n span : Nat) : (b.gained n span).spent = b.spent - n := by
  unfold Bucket.gained
  split
  · next h => exact (Nat.sub_eq_zero_of_le h).symm
  · rfl

theorem State.gainBucket_eq (s : State) (c : Nat) : s.gainBucket c =
    if (s.bucket c).spent = 0 ∨ s.spansPassed c = 0 then s
    else { s with recorder := { s.recorder with
      buckets := sset Bucket.full s.recorder.buckets c ((s.bucket c).gained (s.spansPassed c) (10 * s.policyP c)) } } := rfl

/-- A bucket gains a token for each span that has passed, and no other bucket changes. -/
theorem State.gainBucket_spec (s : State) (c : Nat) : ((s.gainBucket c).bucket c).spent = (s.bucket c).spent - s.spansPassed c
    ∧ (∀ d, d ≠ c → (s.gainBucket c).bucket d = s.bucket d)
    ∧ s.gainBucket c = { s with recorder := { s.recorder with buckets := (s.gainBucket c).recorder.buckets } } := by
  rw [State.gainBucket_eq]
  split
  · next h => exact ⟨by omega, fun _ _ => rfl, rfl⟩
  · refine ⟨?_, fun d hd => sget_sset_other _ _ _ _ _ hd, rfl⟩
    exact (congrArg Bucket.spent (sget_sset_same Bucket.full s.recorder.buckets c _)).trans (Bucket.gained_spent ..)

theorem State.gainBudget_gains {s : State} {n : Nat} (hb : s.recorder.budget < 4096)
    (hn : n = (s.clk.frameNo - s.recorder.budgetSince).toNat / 1000) (h0 : n ≠ 0) :
    s.gainBudget = { s with recorder := { s.recorder with
      budget := min 4096 (s.recorder.budget + n), budgetSince := s.recorder.budgetSince + BitVec.ofNat 32 (1000 * n) } } := by
  subst hn
  exact if_neg (by omega)

/-! ### Counter words and erases (R307, R316) -/

/-- The breaks that no word carries are written once 600 s have passed since the last word. -/
theorem ledgerCounterWord_writes {s : State} (ha : s.alive = true) (hb : s.recorder.breaks ≠ s.recorder.breaksSaved)
    (ht : ∀ t, s.recorder.counterAt = some t → 600 ≤ (s.secNow + 2 ^ 32 - t) % 2 ^ 32) :
    exec .ledgerCounterWord s = .next { s with recorder := { s.recorder with
      counterWord := some (counterWordBytes s.recorder.breaks s.recorder.breakSec), counterAt := some s.secNow,
      breaksSaved := s.recorder.breaks } } := by
  refine congrArg Host.Outcome.next (if_neg ?_)
  rintro (hd | he | hdue)
  · exact hd ha
  · exact hb he
  · cases hc : s.recorder.counterAt with
    | none => simp [hc] at hdue
    | some t =>
      have := ht t hc
      simp only [hc, decide_eq_false_iff_not] at hdue
      omega

/-- An erase that is done adds its sector to the erased ones, and one erase to its count. -/
theorem sectorEraseComplete_joins {s : State} {k : Nat} (h : s.recorder.erasing = some k) :
    exec .sectorEraseComplete s = .next { s with recorder := { s.recorder with
      erasing := none, erased := s.recorder.erased ++ [k],
      erases := sset 0 s.recorder.erases k (sget 0 s.recorder.erases k + 1) } } := by
  change execSectorEraseComplete s = _
  simp only [execSectorEraseComplete, h]

/-! ### The oldest NV work completes (R153, R159, R172) -/

/-- No session closes with a key under which none was opened (R153). -/
theorem State.closeUnder_unused {s : State} {i : Nat} (h : ∀ x ∈ s.comm.sessions, keyIndex x.role x.slot ≠ i) :
    s.closeUnder i = s := by
  have hgone : s.comm.sessions.filter (fun x => x.num != 0 && keyIndex x.role x.slot == i) = [] :=
    List.filter_eq_nil_iff.2 (fun x hx => by simp [h x hx])
  unfold State.closeUnder
  rw [hgone]
  rfl

section Completion
variable {s s1 : State} {o : NvOp} {t : Tag} {st : Status} {ps : List Byte} {keys : Sparse Key}
  (h : s.nvOps = [o]) (hw : State.nvWork { s with nvOps := [] } o.work = (st, ps, s1)) (hs : s1 = { s with nvOps := [], keys := keys })
include h hw hs

/-- The one work under way, that moves keys at most, is answered with what it comes to, no earlier than its maximum. -/
theorem nvProgramComplete_answers (ht : s.tag? o.req = some t) :
    exec .nvProgramComplete s = .next (s1.answerLate t st ps (s.nvMax o.opcode.toNat o.req)).flush := by
  have hanew : s1.evaluateAnew s = s1 := by
    unfold State.evaluateAnew
    split
    · exact if_pos (by rw [hs]; exact ⟨rfl, rfl⟩)
    · rfl
  have hhead : (s1.evaluateAnew s).startHead = s1 := by
    rw [hanew]
    exact State.startHead_empty (by rw [hs])
  have htag : s1.tag? o.req = some t := by rw [hs]; exact ht
  change execNvProgramComplete s = _
  simp only [execNvProgramComplete, h, hw, hhead, htag]

omit h hw in
theorem State.Answered.of_keys : s.Answered (s1.answerLate t st ps (s.nvMax o.opcode.toNat o.req)) t st ps
    (max (s.execLate t) (s.nvMax o.opcode.toNat o.req)) := by
  subst hs
  exact (State.answerLate_spec ..).1.of_comm rfl rfl rfl

end Completion

/-- NV work that is a denial changes nothing (R159). -/
theorem nvProgramComplete_denied {s : State} {o : NvOp} {t : Tag} {st : Status} (h : s.nvOps = [o]) (ht : s.tag? o.req = some t)
    (hd : o.work = .denied st) : ∃ u : State, exec .nvProgramComplete s = .next u.flush ∧ u.nvOps = []
      ∧ { s with nvOps := [] }.KeepsAllButReplies u
      ∧ s.Answered u t st [] (max (s.execLate t) (s.nvMax o.opcode.toNat o.req)) := by
  have hwork : State.nvWork { s with nvOps := [] } o.work = (st, [], { s with nvOps := [] }) := by rw [hd]; rfl
  have hkept := State.answerLate_spec { s with nvOps := [] } t st [] (s.nvMax o.opcode.toNat o.req) |>.2
  exact ⟨_, nvProgramComplete_answers h hwork rfl ht, congrArg State.nvOps hkept, hkept, State.Answered.of_keys rfl⟩

/-- A state with its one NV work done, which loaded a key into a slot. -/
def State.keyLoaded (s : State) (i : Nat) (k : List Byte) : State :=
  { s with nvOps := [], keys := sset Key.empty s.keys i { state := 1, loadedAt := s.secNow, value := k } }

theorem State.keyLoaded_keyAt (s : State) (i j : Nat) (k : List Byte) : (s.keyLoaded i k).keyAt j =
    if i = j then { state := 1, loadedAt := s.secNow, value := k } else s.keyAt j := by
  unfold State.keyAt State.keyLoaded
  rw [sget_sset]

/-- A key loaded into a slot that no session was opened under changes that slot alone (R152). -/
theorem State.loadKey_unused {s : State} {i : Nat} (h : ∀ x ∈ s.comm.sessions, keyIndex x.role x.slot ≠ i) (k : List Byte) :
    State.loadKey { s with nvOps := [] } i 1 k = s.keyLoaded i k := by
  have hclose : (s.keyLoaded i k).closeUnder i = s.keyLoaded i k := State.closeUnder_unused h
  have hone : ¬ 1 = 2 := by decide
  unfold State.keyLoaded at *
  simp only [State.loadKey, hone, if_false]
  split
  · exact hclose
  · rfl

/-- A key that completes stands in its slot, and its fingerprint is answered (R152, R172). -/
theorem nvProgramComplete_keyLoad {s : State} {o : NvOp} {t : Tag} {i : Nat} {k : List Byte} (h : s.nvOps = [o])
    (ht : s.tag? o.req = some t) (hx : ∀ x ∈ s.comm.sessions, keyIndex x.role x.slot ≠ i) (hk : o.work = .keyLoad i k) :
    ∃ u : State, exec .nvProgramComplete s = .next u.flush ∧ (s.keyLoaded i k).KeepsAllButReplies u
      ∧ s.Answered u t .done ((s.keyLoaded i k).keyAt i).fingerprint (max (s.execLate t) (s.nvMax o.opcode.toNat o.req)) := by
  have hwork : State.nvWork { s with nvOps := [] } o.work = (.done, ((s.keyLoaded i k).keyAt i).fingerprint, s.keyLoaded i k) := by
    rw [hk, ← State.loadKey_unused hx k]
    rfl
  exact ⟨_, nvProgramComplete_answers h hwork rfl ht, (State.answerLate_spec ..).2, State.Answered.of_keys rfl⟩

/-! ### The housekeeping slot (R177, R307, R313) -/

/-- What waits to be written, of records and of ledger entries, stays. -/
def Recorder.KeepsQueues (r u : Recorder) : Prop := u.queue = r.queue ∧ u.ledgerQueue = r.ledgerQueue

theorem Recorder.KeepsQueues.refl (r : Recorder) : r.KeepsQueues r := ⟨rfl, rfl⟩
theorem Recorder.KeepsQueues.trans {r u v : Recorder} (h : r.KeepsQueues u) (k : u.KeepsQueues v) : r.KeepsQueues v :=
  ⟨k.1.trans h.1, k.2.trans h.2⟩

theorem Recorder.copyOne_keepsQueues (r : Recorder) (sector : Nat) : r.KeepsQueues (r.copyOne sector) := by
  unfold Recorder.copyOne
  split
  · exact .refl r
  · unfold Recorder.advance
    dsimp only
    repeat' split
    all_goals exact ⟨rfl, rfl⟩

/-- Compaction copies records that are written already (R307). -/
theorem Recorder.compact_keepsQueues (r : Recorder) (n : Nat) : r.KeepsQueues (r.compact n) := by
  unfold Recorder.compact
  extract_lets r1
  have h1 : r.KeepsQueues r1 := by
    simp only [r1]
    repeat' split
    all_goals exact ⟨rfl, rfl⟩
  split
  · exact h1
  · next k _ =>
    extract_lets r2
    have h2 : r.KeepsQueues r2 := h1.trans (foldl_rel Recorder.KeepsQueues .refl .trans _ (fun a _ => a.copyOne_keepsQueues k) _ r1)
    split
    · exact h2
    · exact h2

/-- The writes of a slot are chosen from what waits, and taken out by the next slot. -/
theorem State.startWrites_spec (s : State) : s.OnlyRecorder s.startWrites ∧ s.recorder.KeepsQueues s.startWrites.recorder := by
  unfold State.startWrites
  dsimp only
  split
  · exact ⟨.refl s, .refl _⟩
  · exact ⟨rfl, Recorder.compact_keepsQueues ..⟩

/-- Nothing but the notes of the scrub and the gutter log changes. -/
def State.OnlyScrub (s u : State) : Prop := u = { s with scrubs := u.scrubs, weak := u.weak, gut := u.gut }

theorem State.OnlyScrub.refl (s : State) : s.OnlyScrub s := rfl
theorem State.OnlyScrub.trans {s u v : State} (h : s.OnlyScrub u) (k : u.OnlyScrub v) : s.OnlyScrub v := by
  unfold State.OnlyScrub at *; rw [k, h]

/-- A weak sector that is due is refreshed and noted (R423). -/
theorem State.scrubSector_due {s : State} {k : Nat} (h : s.scrubDue k = true) : s.scrubSector k =
    { s with scrubs := sput s.scrubs k s.secNow, weak := s.weak.erase k, gut := (s.scrubSector k).gut } := by
  have hg := State.gutter_only { s with scrubs := sput s.scrubs k s.secNow, weak := s.weak.erase k } 0x0B (k % 256) (k / 256 % 256)
  rw [show s.scrubSector k = _ from if_pos h]
  exact hg

theorem State.scrubSector_only (s : State) (k : Nat) : s.OnlyScrub (s.scrubSector k) := by
  by_cases h : s.scrubDue k = true
  · unfold State.OnlyScrub
    rw [State.scrubSector_due h]
  · rw [show s.scrubSector k = _ from if_neg h]
    rfl

/-- The slot with the last one's writes committed and the weak sectors scrubbed. -/
def State.slotScrubs (s : State) : State :=
  (s.toOffset 112500).commitWrites.weak.foldl State.scrubSector (s.toOffset 112500).commitWrites

theorem State.slotScrubs_only (s : State) : (s.toOffset 112500).commitWrites.OnlyScrub s.slotScrubs :=
  foldl_rel State.OnlyScrub .refl .trans _ State.scrubSector_only _ _

/-- What the slot has done as it comes to the configuration copies. -/
def State.slotWrites (s : State) : State := s.slotScrubs.startWrites

/-- The writes that the last slot began are out of the queues; outside the recorder and the scrub's notes nothing has changed. -/
theorem State.slotWrites_spec (s : State) : s.slotWrites.recorder.queue = s.recorder.queue.drop s.recorder.writing
    ∧ s.slotWrites.recorder.ledgerQueue = s.recorder.ledgerQueue.drop s.recorder.ledgerWriting
    ∧ s.slotWrites = { s.toOffset 112500 with
        recorder := s.slotWrites.recorder, scrubs := s.slotWrites.scrubs, weak := s.slotWrites.weak, gut := s.slotWrites.gut } := by
  have hscrub : s.slotScrubs = { (s.toOffset 112500).commitWrites with
    scrubs := s.slotScrubs.scrubs, weak := s.slotScrubs.weak, gut := s.slotScrubs.gut } := s.slotScrubs_only
  obtain ⟨honly, hqueue, hledger⟩ := s.slotScrubs.startWrites_spec
  have hrec : (s.toOffset 112500).recorder = s.recorder := by rw [State.toOffset_only]
  refine ⟨hqueue.trans ?_, hledger.trans ?_, ?_⟩
  · rw [hscrub, ← hrec]
    rfl
  · rw [hscrub, ← hrec]
    rfl
  · rw [show s.slotWrites = _ from honly, hscrub]
    rfl

/-- The copies are complete 250 ms after the oldest change that they lack, and nothing but what goes with them changes (R177). -/
theorem State.storeCopies_spec (s : State) :
    (s.cfgDirty = none → s.storeCopies = s)
    ∧ (∀ t, s.cfgDirty = some t → msTicks 250 ≤ since s.clk.batten t → s.storeCopies.nvCopyA = s.peg.copy
        ∧ s.storeCopies.nvCopyB = s.peg.copy ∧ s.storeCopies.cfgDirty = none)
    ∧ s.storeCopies = { s with
        nvCopyA := s.storeCopies.nvCopyA, nvCopyB := s.storeCopies.nvCopyB, cfgDirty := s.storeCopies.cfgDirty, rst := s.storeCopies.rst } := by
  cases hd : s.cfgDirty with
  | none =>
    have hs : s.storeCopies = s := by unfold State.storeCopies; rw [hd]
    rw [hs]
    exact ⟨fun _ => rfl, fun t ht => absurd ht (by simp), rfl⟩
  | some t =>
    have hs : s.storeCopies = if since s.clk.batten t < msTicks 250 then s
        else { s with nvCopyA := s.peg.copy, nvCopyB := s.peg.copy, cfgDirty := none, rst := { s.rst with cfgInvalid := false } } := by
      unfold State.storeCopies; rw [hd]
    refine ⟨fun h => absurd h (by simp), fun t' ht hl => ?_, ?_⟩
    · obtain rfl : t = t' := by simpa using ht
      rw [hs, if_neg (by omega)]
      exact ⟨rfl, rfl, rfl⟩
    · rw [hs]
      split <;> rfl

theorem State.serveDomains_idle {s : State} (h : s.clk.domainReqs = []) (ds : List Nat) : s.serveDomains ds = s := by
  refine List.foldl_fixed' (fun d => ?_) ds
  rw [h]
  rfl

/-- Where no domain is to be switched, the slot switches none (R48). -/
theorem State.switchDomains_idle {s : State} (h : s.clk.domainReqs = []) : s.switchDomains = s := by
  have hclk : ({ s.clk with domainReqs := [] } : Clock) = s.clk := by rw [← h]
  unfold State.switchDomains
  rw [h, List.map_nil, hclk]
  exact State.serveDomains_idle h _

/-- Nothing changes but the clock's count and what belongs to pairing: the pair's state, its link, the free values it draws and the
start that it ends (R90, R327). -/
def State.OnlyPairing (s u : State) : Prop :=
  u = { s with clk := { s.clk with batten := u.clk.batten }, time := u.time, free := u.free, pair := u.pair, ridge := u.ridge, rst := u.rst }

theorem State.OnlyPairing.trans {s u v : State} (h : s.OnlyPairing u) (k : u.OnlyPairing v) : s.OnlyPairing v := by
  unfold State.OnlyPairing at *; rw [k, h]

theorem State.toOffset_onlyPairing (s : State) (off : Nat) : s.OnlyPairing (s.toOffset off) := by
  unfold State.OnlyPairing State.toOffset
  split <;> rfl

theorem State.sendOffer_onlyPairing (s : State) : s.OnlyPairing s.sendOffer := by
  have h := State.sendRidge_only { s.freshPairNonce with
    pair := { s.freshPairNonce.pair with pairOffers := s.freshPairNonce.pair.pairOffers + 1 } } kPAIRING (s.freshPairNonce.pairingPayload 1 [])
  unfold State.OnlyRidge at h
  unfold State.OnlyPairing State.sendOffer
  dsimp only
  rw [h]
  rfl

theorem State.offerPairing_onlyPairing (s : State) : s.OnlyPairing s.offerPairing := by
  have hoffer := (s.toOffset_onlyPairing 118750).trans (State.sendOffer_onlyPairing _)
  have hdetach (u : State) : u.OnlyPairing u.detach := rfl
  unfold State.offerPairing
  split
  · rfl
  · split
    · exact hoffer
    · split
      · rfl
      · split
        · exact hoffer.trans (hdetach _)
        · split
          · exact hdetach s
          · exact hoffer

/-- The slot of a node with nothing to lay up and no domain to switch. -/
def State.slotDone (s : State) : State := s.slotWrites.storeCopies.offerPairing

theorem housekeepingSlot_runs {s : State} (ha : s.alive = true) (hr : s.clk.running = true) (hl : s.rst.layingUp = none)
    (hd : s.clk.domainReqs = []) : exec .housekeepingSlot s = .next s.slotDone.flush := by
  obtain ⟨-, -, honly⟩ := s.slotWrites_spec
  obtain ⟨-, -, hcopies⟩ := s.slotWrites.storeCopies_spec
  have hlay : s.slotScrubs.laidUpSlot = s.slotScrubs := by
    have hnone : s.slotScrubs.rst.layingUp = none := by
      rw [s.slotScrubs_only]
      change (s.toOffset 112500).rst.layingUp = none
      rw [State.toOffset_only]
      exact hl
    unfold State.laidUpSlot
    rw [hnone]
  have hidle : s.slotWrites.storeCopies.clk.domainReqs = [] := by
    rw [hcopies, honly]
    change (s.toOffset 112500).clk.domainReqs = []
    rw [State.toOffset_only]
    exact hd
  change execHousekeepingSlot s = _
  unfold execHousekeepingSlot
  rw [if_neg (by simp [ha, hr])]
  change Host.Outcome.next s.slotScrubs.laidUpSlot.startWrites.storeCopies.switchDomains.offerPairing.flush = _
  rw [hlay, show s.slotScrubs.startWrites = s.slotWrites from rfl, State.switchDomains_idle hidle]
  rfl

/-- What the slot leaves: pegged data, the queues of writes and the configuration copies. -/
theorem State.slotDone_spec (s : State) : s.slotDone.peg = s.peg
    ∧ s.slotDone.recorder.queue = s.recorder.queue.drop s.recorder.writing
    ∧ s.slotDone.recorder.ledgerQueue = s.recorder.ledgerQueue.drop s.recorder.ledgerWriting
    ∧ (s.cfgDirty = none → s.slotDone.nvCopyA = s.nvCopyA ∧ s.slotDone.nvCopyB = s.nvCopyB)
    ∧ (∀ t, s.cfgDirty = some t → msTicks 250 ≤ since (s.toOffset 112500).clk.batten t →
        s.slotDone.nvCopyA = s.peg.copy ∧ s.slotDone.nvCopyB = s.peg.copy ∧ s.slotDone.cfgDirty = none) := by
  have hpair : s.slotWrites.storeCopies.OnlyPairing s.slotDone := State.offerPairing_onlyPairing _
  obtain ⟨hqueue, hledger, honly⟩ := s.slotWrites_spec
  obtain ⟨hclean, hstore, hcopies⟩ := s.slotWrites.storeCopies_spec
  have hoff := s.toOffset_only 112500
  have hpeg : s.slotWrites.peg = s.peg := by rw [honly, hoff]
  have hdirty : s.slotWrites.cfgDirty = s.cfgDirty := by rw [honly, hoff]
  have hA : s.slotWrites.nvCopyA = s.nvCopyA := by rw [honly, hoff]
  have hB : s.slotWrites.nvCopyB = s.nvCopyB := by rw [honly, hoff]
  have hbatten : s.slotWrites.clk.batten = (s.toOffset 112500).clk.batten := by rw [honly]
  have hrec : s.slotWrites.storeCopies.recorder = s.slotWrites.recorder := by rw [hcopies]
  have hpeg' : s.slotWrites.storeCopies.peg = s.peg := by rw [hcopies]; exact hpeg
  unfold State.OnlyPairing at hpair
  rw [hpair]
  refine ⟨hpeg', (congrArg Recorder.queue hrec).trans hqueue, (congrArg Recorder.ledgerQueue hrec).trans hledger,
    fun hd => ?_, fun t hd ht => ?_⟩
  · rw [hclean (hdirty.trans hd)]
    exact ⟨hA, hB⟩
  · obtain ⟨ha, hb, hc⟩ := hstore t (hdirty.trans hd) (by rw [hbatten]; exact ht)
    rw [hpeg] at ha hb
    exact ⟨ha, hb, hc⟩

/-! ### The background referee (R329, R338, R341) -/

section Referee
variable {b : Bool} {s : State} (hr : s.isReady = true) (hw : s.isWorker = false)
include hr hw

theorem backgroundReferee_own (h : s.pair.refStart.isSome = true) :
    exec (.backgroundReferee b) s = .next { s with pair := { s.pair with refOwn := some b } } := by
  change execBackgroundReferee b s = _
  unfold execBackgroundReferee
  rw [if_neg (by simp [hr, hw]), if_pos h]

variable (hn : s.pair.refStart = none)
include hn

/-- Within an hour of the last run there is none. -/
theorem backgroundReferee_early (h0 : s.pair.lastRefFrame ≠ 0) (hf : framesSince s.clk.frameNo s.pair.lastRefFrame < 360000) :
    exec (.backgroundReferee b) s = .next s := by
  change execBackgroundReferee b s = _
  unfold execBackgroundReferee
  rw [if_neg (by simp [hr, hw]), if_neg (by simp [hn]), if_pos ⟨h0, hf⟩]

/-- A synchronised standby that runs concludes, and tells of the start and of the end (R353). -/
theorem backgroundReferee_standby (hs : s.pair.state = 2)
    (hf : s.pair.lastRefFrame = 0 ∨ 360000 ≤ framesSince s.clk.frameNo s.pair.lastRefFrame) : exec (.backgroundReferee b) s =
      .next (((s.tellPair 6 s.pair.state).refereeConcludes b).tellPair 7 ((s.tellPair 6 s.pair.state).refereeConcludes b).pair.state) := by
  have hearly : ¬ (s.pair.lastRefFrame ≠ 0 ∧ framesSince s.clk.frameNo s.pair.lastRefFrame < 360000) := fun ⟨h0, hlt⟩ => by
    rcases hf with h | h
    · exact h0 h
    · omega
  change execBackgroundReferee b s = _
  unfold execBackgroundReferee
  rw [if_neg (by simp [hr, hw]), if_neg (by simp [hn]), if_neg hearly, if_pos (.inl hs)]
  dsimp only
  rw [if_neg (by simp [hs])]

end Referee

theorem State.refereeConcludes_spec (s : State) (b : Bool) : (s.refereeConcludes b).peg = s.peg ∧ (s.refereeConcludes b).pair =
    { s.pair with refResult := (if b then 1 else 2), lastRefFrame := s.clk.frameNo,
                  streak := (if b then min 15 (s.pair.streak + 1) else 0) } := ⟨rfl, rfl⟩

/-! ### Scrub and aging (R419-R423) -/

theorem nvScrub_one {k : Nat} {s : State} (ha : s.alive = true) : exec (.nvScrub [k]) s = .next (s.scrubSector k) :=
  congrArg Host.Outcome.next (if_pos ha)

theorem sget_setAging (s : State) (i j : Nat) (a : Aging) :
    sget Aging.none (s.setAging i a).aging j = if i = j then a else sget Aging.none s.aging j := sget_sset ..

/-- What a reading of an hour adds to an island's day (R419). -/
def State.readingOf (s : State) (island : Fin 7) (osc leak : Nat) : Aging :=
  let a := sget Aging.none s.aging island.val
  { a with osc := osc % 2 ^ 32, leak := leak % 65536, frame := s.clk.frameNo,
           sumOsc := a.sumOsc + Config.agingPpm osc (Config.agingFirst island.val).1,
           sumLeak := a.sumLeak + Config.agingLeak leak (Config.agingFirst island.val).2, n := a.n + 1, readAt := some s.time,
           dayAt := if a.n = 0 then s.time else a.dayAt }

/-- An island at full rate, its blocks out of reset, is read where its last reading lies an hour back. -/
theorem agingReading_reads {i : Fin 7} {s : State} (osc leak : Nat) (ha : s.alive = true) (hi : (s.islandSt i.val).state = 0)
    (h2 : s.blockInReset 2 = false) (h16 : s.blockInReset 16 = false)
    (ht : ∀ t, (sget Aging.none s.aging i.val).readAt = some t → 3600 * Config.ticksPerSecond ≤ s.passed t) :
    exec (.agingReading i osc leak) s = .next (s.setAging i.val (s.readingOf i osc leak)) := by
  have hlate : (sget Aging.none s.aging i.val).readAt.any (fun t => decide (s.passed t < 3600 * Config.ticksPerSecond)) = false := by
    cases hread : (sget Aging.none s.aging i.val).readAt with
    | none => rfl
    | some t => exact decide_eq_false (Nat.not_lt.2 (ht t hread))
  change execAgingReading i osc leak s = _
  unfold execAgingReading
  dsimp only
  rw [if_neg (by simp [ha, hi, h2, h16, hlate])]
  rfl

theorem agingDailyMean_keeps {i : Fin 7} {s : State} {a : Aging} (ha : s.alive = true) (h : a = sget Aging.none s.aging i.val)
    (hn : a.n ≠ 0) (ht : 86400 * Config.ticksPerSecond ≤ s.passed a.dayAt) : exec (.agingDailyMean i) s =
      .next (s.setAging i.val (a.judge (Config.agingMean a.sumOsc a.n, Config.agingMean a.sumLeak a.n))) := by
  subst h
  change execAgingDailyMean i s = _
  unfold execAgingDailyMean
  dsimp only
  rw [if_neg (by simp only [ha, not_true, false_or, not_or]; exact ⟨hn, Nat.not_lt.2 ht⟩)]

/-- A judged day is ended, and its mean is the last that is kept (R420). -/
theorem Aging.judge_spec (a : Aging) (m : Int × Int) : (a.judge m).n = 0 ∧ (a.judge m).means.getLast? = some m := by
  unfold Aging.judge
  extract_lets means proj met kept quiet b
  have hlast : means.getLast? = some m := by
    simp only [means]
    rw [List.drop_append_of_le_length (by omega)]
    exact List.getLast?_concat
  clear_value means
  split
  · exact ⟨rfl, hlast⟩
  · split
    · exact ⟨rfl, hlast⟩
    · exact ⟨rfl, hlast⟩

/-! ### Owner counters and swaps (R160, R345) -/

/-- The owner counters as saved now. -/
def State.countersSaved (s : State) : State := { s with savedCounters := s.peg.counters, savedFrame := s.clk.frameNo }

theorem counterSave_saves {s : State} (hr : s.isReady = true) (hw : s.isWorker = false)
    (hf : 360000 ≤ framesSince s.clk.frameNo s.savedFrame) : exec .counterSave s =
      .next (if s.pair.state = 1 then s.countersSaved.sendCounters else s.countersSaved) := by
  change execCounterSave s = _
  unfold execCounterSave
  rw [if_neg (by simp only [hr, hw, not_true, Bool.false_eq_true, false_or]; omega)]
  rfl

theorem State.countersSaved_sent (s : State) : s.countersSaved.OnlyRidge s.countersSaved.sendCounters := State.sendRidge_only ..

end Sys2Proof.Machine
end

section
open Sys2Proof Sys2Proof.Machine

/-- Settles O47: each row by the rule of its state's part: the recorder's, the NV queue's, the slot's, and those of the hours. -/
theorem recorderAndNvEventsComplete : Obligations.RecorderAndNvEventsComplete := by
  refine ⟨⟨fun s => ⟨fun h => ?gain, fun h => ?noGain⟩, fun c s => ⟨_, rfl, s.gainBucket_spec c.val⟩,
      fun s n hb hn h0 => congrArg _ (State.gainBudget_gains hb hn h0), fun s hl hc => congrArg _ (if_pos ⟨hl, hc⟩),
      fun s ha hb ht => ⟨_, ledgerCounterWord_writes ha hb ht, rfl, rfl, rfl, rfl⟩,
      fun s k h => ⟨_, sectorEraseComplete_joins h, rfl, rfl, rfl, ?erased⟩⟩,
    fun s o t i k h ht hx hk => ?keyLoad, fun s o t st h ht hd => nvProgramComplete_denied h ht hd,
    fun s ha hr hl hd => ⟨_, housekeepingSlot_runs ha hr hl hd, s.slotDone_spec⟩,
    fun b s hr hw h => backgroundReferee_own hr hw h,
    fun b s hr hw hn hs => ⟨fun hf => ?referee, backgroundReferee_early hr hw hn⟩,
    fun k s ha hk => ?scrub, fun i osc leak s a b ha hi h2 h16 h ht => ?reading, fun i s a ha h hn ht => ?mean,
    fun s hr hw hf => ?counters, fun s hr ha h1 hh hf hp hl hq hs hi => ?swap⟩
  case gain => exact congrArg _ (if_neg (Nat.not_lt.2 h))
  case noGain => exact congrArg _ (if_pos h)
  case erased => dsimp only; rw [sget_sset_same]
  case keyLoad =>
    obtain ⟨u, hexec, hkept, hans⟩ := nvProgramComplete_keyLoad h ht hx hk
    have hkeys (j : Nat) : u.keyAt j = (s.keyLoaded i k).keyAt j := by rw [hkept]; rfl
    refine ⟨u, hexec, congrArg State.nvOps hkept, ?_, ?_, fun j hj => ?_, by rw [hkept]; rfl, ?_⟩
    · rw [hkeys, State.keyLoaded_keyAt, if_pos rfl]
    · rw [hkeys, State.keyLoaded_keyAt, if_pos rfl]
    · rw [hkeys, State.keyLoaded_keyAt, if_neg (Ne.symm hj)]
    · rw [hkeys]
      exact hans
  case referee =>
    have h6 := s.tellPair_only 6 s.pair.state
    have h7 := ((s.tellPair 6 s.pair.state).refereeConcludes b).tellPair_only 7
      ((s.tellPair 6 s.pair.state).refereeConcludes b).pair.state
    obtain ⟨hpeg, hpair⟩ := (s.tellPair 6 s.pair.state).refereeConcludes_spec b
    refine ⟨_, backgroundReferee_standby hr hw hn hs hf, ?_, ?_⟩
    · rw [h7]
      exact hpeg.trans (by rw [h6])
    · rw [h7]
      exact hpair.trans (by rw [h6])
  case scrub =>
    have hscrub := State.scrubSector_due hk
    exact ⟨_, nvScrub_one ha, by rw [hscrub], by rw [hscrub]⟩
  case reading =>
    subst h
    refine ⟨_, agingReading_reads osc leak ha hi h2 h16 ht, rfl, fun hb => ?_, fun j hj => ?_⟩
    · rw [sget_setAging, if_pos rfl] at hb
      rw [hb]
      exact ⟨rfl, rfl, rfl, rfl, rfl, rfl⟩
    · rw [sget_setAging, if_neg (Ne.symm hj)]
  case mean =>
    refine ⟨_, agingDailyMean_keeps ha h hn ht, ?_, ?_, rfl⟩
    all_goals rw [sget_setAging, if_pos rfl]
    · exact (Aging.judge_spec ..).1
    · exact (Aging.judge_spec ..).2
  case counters =>
    refine ⟨_, counterSave_saves hr hw hf, ?_⟩
    have hsent := s.countersSaved_sent
    unfold State.OnlyRidge at hsent
    split
    · next h1 =>
      rw [hsent]
      exact ⟨rfl, rfl, rfl, fun h => absurd h1 h⟩
    · exact ⟨rfl, rfl, rfl, fun _ => rfl⟩
  case swap => exact congrArg _ (if_pos ⟨hr, ha, h1, hh, hf, hp, hl, hq, by rw [hs]; rfl, by simp [hi]⟩)

end

section
/-! SUPPORT. What SET and the stage commands leave of the stage, and what they answer or put into the batch (R180). -/

namespace Sys2Proof.Machine

/-- A short reply made ready as the stage is replaced: the stage and the reply are all that changes. -/
theorem State.answerF_restaged {s u : State} {x : Option (Port × Half × List Req)} {t : Tag} {ps : List Byte} {n : Nat}
    (hl : ps.length ≤ 256) (hu : u = State.answerF { s with stage := x } t .done ps n) :
    u.stage = x ∧ s.Answered u t .done ps (s.execF t ps n) ∧ { s with stage := x }.KeepsAllButReplies u := by
  subst hu
  have hkeeps := (State.answerF_spec { s with stage := x } t .done ps n).2
  exact ⟨congrArg State.stage hkeeps, State.answerF_answers (s := s) (s1 := { s with stage := x }) rfl rfl rfl t .done hl n, hkeeps⟩

/-- An item that joins the batch as the stage is discarded. -/
theorem State.admitP_unstaged {s u : State} {t : Tag} {body : ItemBody}
    (hu : u = State.admitP { s with stage := none } t (s.who t.req) body) : u.stage = none ∧ s.Joins u t body := by
  subst hu
  obtain ⟨i, -, -, -, -, -, honly⟩ := State.admitP_only { s with stage := none } t (s.who t.req) body
  exact ⟨congrArg State.stage honly, State.admitP_joins { s with stage := none } t body⟩

/-! ### SET at its admission -/

section
variable {s : State} {t : Tag} (hw : s.isWorker = false)
  (hp : ownerPrivate (oidClass t.req.target) (oidAttr t.req.target) = false)
include hw hp

/-- A plain SET of a session that holds the stage is staged. -/
theorem State.runSet_staged {l : List Req} (hl : s.stageOf t.req = some l) (w : Who) :
    s.runSet t w = State.answerF { s with stage := some (t.req.port, t.req.session, l ++ [t.req]) } t .done [] 18 := by
  simp [State.runSet, hw, hp, hl]

/-- Without the stage it joins the batch. -/
theorem State.runSet_unstaged (hl : s.stageOf t.req = none) (w : Who) :
    s.runSet t w = s.admitP t w (.command t.opcode t.req) := by
  simp [State.runSet, hw, hp, hl]

end

/-! ### The session that issues STAGE_COMMIT or STAGE_DROP holds the stage -/

section
variable {s : State} {t : Tag}

theorem State.holdsStage_of_runs {c : Cmd} (h : s.Runs c t.req t)
    (hc : s.stageOf t.req = none → c.check s (s.who t.req) t.req = some .badState) : ∃ l, s.stageOf t.req = some l :=
  Option.ne_none_iff_exists'.1 fun hl => absurd (h.check_none.symm.trans (hc hl)) (by simp)

theorem stageCommit_run {l : List Req} (hl : s.stageOf t.req = some l) (w : Who) :
    cmdStageCommit.run s t w = State.admitP { s with stage := none } t w (.commit t.req l) := by
  simp [cmdStageCommit, State.runCommit, hl]

theorem stageDrop_run {l : List Req} (hl : s.stageOf t.req = some l) (w : Who) :
    cmdStageDrop.run s t w = State.answerF { s with stage := none } t .done (toLe 2 l.length) 14 := by
  simp [cmdStageDrop, hl]

end

end Sys2Proof.Machine
end

section
open Sys2Proof Sys2Proof.Machine

/-- Settles O15: SET by whether its session holds the stage, the stage commands by what they make of it. -/
theorem setAndStageComplete : Obligations.SetAndStageComplete := by
  refine ⟨fun r s t l h hw hp hl => ?staged, fun r s t h hw hp hl => ?batch, fun r s t h => ?opened, fun r s t h => ?commit,
    fun r s t h => ?drop⟩
  all_goals obtain rfl := h.1.same
  case staged =>
    obtain ⟨hstage, hans, hkeeps⟩ := State.answerF_restaged (ps := []) (Nat.zero_le _) (State.runSet_staged hw hp hl (s.who t.req))
    exact ⟨_, exec_of_runs rfl h, hstage, hans, by rw [← hstage] at hkeeps; exact hkeeps⟩
  case batch =>
    have hjoins := s.admitP_joins t (.command t.opcode t.req)
    rw [← State.runSet_unstaged hw hp hl] at hjoins
    exact ⟨_, exec_of_runs rfl h, hjoins⟩
  case opened =>
    obtain ⟨hstage, hans, hkeeps⟩ := State.answerF_restaged (u := cmdStageBegin.run s t (s.who t.req))
      ((List.length_take_le 4 s.peg.digest).trans (by decide)) rfl
    exact ⟨_, exec_of_runs rfl h, hstage, hans, by rw [← hstage] at hkeeps; exact hkeeps⟩
  case commit =>
    obtain ⟨l, hl⟩ := State.holdsStage_of_runs h fun hl => by simp [cmdStageCommit, hl]
    exact ⟨_, l, exec_of_runs rfl h, hl, State.admitP_unstaged (stageCommit_run hl _)⟩
  case drop =>
    obtain ⟨l, hl⟩ := State.holdsStage_of_runs h fun hl => by simp [cmdStageDrop, hl]
    exact ⟨_, l, exec_of_runs rfl h, hl, State.answerF_restaged (by simp) (stageDrop_run hl _)⟩

end

section
open Sys2Proof Sys2Proof.Machine

/-- Settles O20: each entry adds one averaging, with the count and the reference of its parameters. -/
theorem calibrationsBegin : Obligations.CalibrationsBegin := by
  refine ⟨fun r s t h => ?_, fun r s t h => ?_⟩ <;> obtain rfl := h.1.same
  · exact ⟨s.startCal t none, exec_of_runs rfl h, _, rfl, rfl, rfl, rfl, rfl, rfl, rfl⟩
  · exact ⟨s.startCal t (some (spanRef t.req)), exec_of_runs rfl h, _, rfl, rfl, rfl, rfl, rfl, rfl, rfl⟩

end

section
/-! SUPPORT. What a flush leaves of the queues of the other ports, and a RING_SCAN that meets another request of its SEQ in flight
(R111, R120, R367). -/

namespace Sys2Proof.Machine

/-! ### A flush leaves the ports that are no links (R120) -/

section
variable {p q : Port} (hq : q ≠ p)
include hq

theorem State.sentHead_outQ_other (s : State) : (s.sentHead p).outQ q = s.outQ q := by
  unfold State.sentHead
  split
  · rfl
  · unfold State.outQ
    rw [State.packetLeft_ports, Ports.get_set_other _ _ _ _ hq]

theorem State.headToLink_outQ_other (s : State) (last : Option (List Byte)) : (s.headToLink p last).outQ q = s.outQ q := by
  unfold State.headToLink
  split
  · simp only [State.outQ, Ports.get_set_other _ _ _ _ hq]
  · exact State.sentHead_outQ_other hq s

end

theorem State.OnlyRing.outQ {s u : State} (h : s.OnlyRing u) (q : Port) : u.outQ q = s.outQ q := by
  unfold State.OnlyRing at h
  rw [h]
  rfl

theorem State.OnlyRidge.outQ {s u : State} (h : s.OnlyRidge u) (q : Port) : u.outQ q = s.outQ q := by
  unfold State.OnlyRidge at h
  rw [h]
  rfl

theorem State.flushRing_outQ {q : Port} (hq : q ≠ .ring) (s : State) : s.flushRing.outQ q = s.outQ q := by
  refine foldl_rel (fun a b : State => b.outQ q = a.outQ q) (fun _ => rfl) (fun h k => k.trans h) _ (fun a k => ?_) _ s
  dsimp only
  rw [State.headToLink_outQ_other hq, (State.sendTrain_only ..).outQ]
  rfl

theorem State.flushRidge_outQ {q : Port} (hq : q ≠ .ridge) (s : State) : s.flushRidge.outQ q = s.outQ q := by
  refine foldl_rel (fun a b : State => b.outQ q = a.outQ q) (fun _ => rfl) (fun h k => k.trans h) _ (fun a k => ?_) _ s
  dsimp only
  rw [State.headToLink_outQ_other hq, (State.sendRidge_only ..).outQ]

theorem State.settleLinks_outQ (s : State) (q : Port) : s.settleLinks.outQ q = s.outQ q :=
  foldl_rel (fun a b : State => b.outQ q = a.outQ q) (fun _ => rfl) (fun h k => k.trans h) _
    (fun a (l : Leaving) => congrArg (fun x : Ports => (x.get q).out) (a.packetLeft_ports l.port l.packet)) _ _

theorem State.flush_outQ {q : Port} (hring : q ≠ .ring) (hridge : q ≠ .ridge) (s : State) : s.flush.outQ q = s.outQ q := by
  unfold State.flush
  rw [State.settleLinks_outQ, State.flushRidge_outQ hridge, State.flushRing_outQ hring]

/-- States that flush to the same one have the same packets waiting on a port that is no link. -/
theorem State.outQ_of_flush_eq {u v : State} (h : u.flush = v.flush) {q : Port} (hring : q ≠ .ring) (hridge : q ≠ .ridge) :
    u.outQ q = v.outQ q := by
  rw [← State.flush_outQ hring hridge u, h, State.flush_outQ hring hridge]

/-! ### Two requests of one SEQ in flight -/

/-- A RING_SCAN as the first request of session 1 of the host port. -/
def scanRequest : Req := { port := .host, session := 1, seq := 1, target := 0, wantProv := false, params := [] }

/-- A tag of it: a re-execution under way, or the request as it was admitted. -/
def scanTag (again : Bool) : Tag :=
  { no := 0, req := scanRequest, opcode := 0x0800, admitAt := 0, gen := 1, dup := again, begun := again, answered := false,
    spoiled := [], blockHit := false, onRing := false, matrix := [] }

/-- The open session 1 of OWNER on the host port, which selects no events. -/
def ownerSession : Sess :=
  { num := 1, port := .host, role := .owner, slot := 1, isOpen := true, nc := [], nn := [], key := [], kReq := [], kRep := [],
    kEnc := [], high := 1, window := [], settledAt := some 1, features := offeredWord, eventMask := 0, evtNo := 0, evtQueue := [],
    coalesced := [], sent := 0, echo := 0, tagFails := 0, msgIn := 0, msgOut := 0, openedAt := 0, lastSeen := 0 }

/-- A solo manager at READY, its ring EMPTY with no trained segment, with a re-execution of a RING_SCAN under way before a request
of the same SEQ. -/
def scannedTwice : State :=
  { State.reset with
    rst := { ResetCtl.start with inReset := false, phase := 0x0B, portsUp := true }
    comm := { Comm.reset with sessions := [ownerSession], lastNum := 1, tags := [scanTag true, scanTag false] }
    ring := { Ring.start with state := 0 } }

theorem scannedTwice_runs : scannedTwice.Runs cmdRingScan scanRequest (scanTag false) :=
  ⟨⟨by decide, by decide, by decide, by decide, by decide⟩, by unfold State.Passes; decide, .inl (by decide)⟩

/-- The reply that leaves is the re-execution's: its answer goes to the first request in flight of the port, session and SEQ. -/
theorem scannedTwice_reply :
    ((cmdRingScan.run scannedTwice (scanTag false) (scannedTwice.who scanRequest)).outQ .host).map (fun k => k.dup) = [true] := by
  decide

end Sys2Proof.Machine
end

section
open Sys2Proof Sys2Proof.Machine

/-- Refutes O24: the statement speaks of every state, also of one in which a re-execution of the same SEQ is in flight before the
request. A RING_SCAN that finds its ring segment closed answers the first request in flight of its port, session and SEQ, so there the
reply is the re-execution's, with DUP set, and not the request's own. -/
theorem not_linkedCommandsBegin : ¬ Obligations.LinkedCommandsBegin := by
  unfold Obligations.LinkedCommandsBegin
  rintro ⟨-, hscan, -, -⟩
  obtain ⟨u, hexec, -, ⟨prov, f, key, ks, -, -, heach, hqueue⟩, -⟩ :=
    (hscan _ _ _ scannedTwice_runs).2 (by decide) (by decide)
  rw [exec_of_runs rfl scannedTwice_runs] at hexec
  have hout := State.outQ_of_flush_eq (q := .host) (Host.Outcome.next.inj hexec) (by decide) (by decide)
  have hks : u.outQ .host = ks := by
    rw [if_neg (by decide)] at hqueue
    exact hqueue.1
  have hreply := scannedTwice_reply
  rw [hout, hks] at hreply
  obtain ⟨k, rfl, hagain⟩ := List.map_eq_singleton_iff.1 hreply
  obtain ⟨-, -, -, -, -, hown, -⟩ := heach k (List.mem_singleton.2 rfl)
  exact absurd (hagain.symm.trans hown) (by decide)

end

section
/-! SUPPORT. What OUTPUT_FORCE and OUTPUT_RELEASE leave of the forces at their peg (R182). -/

namespace Sys2Proof.Machine

/-- The force that an OUTPUT_FORCE sets in the frame of its peg (R182). -/
def forceOf (p : Prov) (r : Req) : Force :=
  { node := 0, output := oidIndex r.target, on := byteAt r.params 0 == 1,
    endsAt := p.frame + BitVec.ofNat 32 (100 * leAt r.params 1 2) }

section
variable {s : State} {p : Prov} {i : BatchItem} {r : Req} {g : Force}

/-- OUTPUT_RELEASE leaves the forces of the other outputs. -/
theorem mem_forces_of_outputRelease : g ∈ (applyOutputRelease s p i r).prov.st.engine.forces ↔
    g ∈ p.st.engine.forces ∧ ¬ (g.node = 0 ∧ g.output = oidIndex r.target) := by
  simp [applyOutputRelease, Prov.engine, Prov.ok, imp_iff_not_or]

/-- OUTPUT_FORCE leaves the forces of the other outputs and sets its own. -/
theorem mem_forces_of_outputForce : g ∈ (applyOutputForce s p i r).prov.st.engine.forces ↔
    (g ∈ p.st.engine.forces ∧ ¬ (g.node = 0 ∧ g.output = oidIndex r.target)) ∨ g = forceOf p r := by
  simp [applyOutputForce, Prov.engine, Prov.ok, forceOf, imp_iff_not_or]

end

end Sys2Proof.Machine
end

section
open Sys2Proof Sys2Proof.Machine

/-- Settles O28: the forces kept at the peg are those of the other outputs, and a new one stands behind them. -/
theorem forcesAtTheirPeg : Obligations.ForcesAtTheirPeg := by
  intro s p i r
  refine ⟨⟨_, mem_forces_of_outputForce.2 (.inr rfl), rfl, rfl, rfl, rfl, fun g hg hn ho => ?replaced⟩,
    fun g hg => (mem_forces_of_outputRelease.1 hg).2, fun g hg => ⟨?kept, ?left⟩⟩
  case replaced => exact (mem_forces_of_outputForce.1 hg).resolve_left fun ⟨_, hother⟩ => hother ⟨hn, ho⟩
  case kept =>
    have hne : g ≠ forceOf p r := fun he => hg (he ▸ ⟨rfl, rfl⟩)
    simp [mem_forces_of_outputForce, hg, hne]
  case left => simp [mem_forces_of_outputRelease, hg]

end

section
/-! SUPPORT. The field die: what a debounce, an edge, a stage's flag and its settling change, and nothing else (R218, R222, R226, R228,
R230). -/

namespace Sys2Proof.Machine

/-! ### What an update leaves of the other inputs and outputs -/

theorem State.modPin_other (s : State) {i j : Nat} (f : DiPin → DiPin) (h : j ≠ i) : (s.modPin i f).fld.pin j = s.fld.pin j :=
  sget_smod_other _ _ _ _ _ h
theorem State.modDin_other (s : State) {i j : Nat} (f : DinSt → DinSt) (h : j ≠ i) : (s.modDin i f).dinSt j = s.dinSt j :=
  sget_smod_other _ _ _ _ _ h
theorem State.modStage_other (s : State) {o j : Nat} (f : DoStage → DoStage) (h : j ≠ o) :
    (s.modStage o f).fld.stage j = s.fld.stage j :=
  sget_smod_other _ _ _ _ _ h

/-! ### Inputs (R218, R222) -/

section
variable {i : Fin 24} {s : State}

/-- A level other than the debounced one starts its debounce. -/
theorem diLevelChange_starts {l : Bool} (hp : s.fld.powered = true) (hl : (s.fld.pin i.val).level ≠ l)
    (hd : l ≠ (s.fld.pin i.val).debounced) : exec (.diLevelChange i l) s = .next (s.modPin i.val (fun p =>
      { p with level := l, pending := some s.clk.batten, since := s.time, unsync := !s.dieLocked })) := by
  show execDiLevelChange i l s = _
  simp [execDiLevelChange, hp, hl, hd]

/-- A level that returns to the debounced one is a glitch. -/
theorem diLevelChange_returns {l : Bool} (hp : s.fld.powered = true) (hl : (s.fld.pin i.val).level ≠ l)
    (hd : l = (s.fld.pin i.val).debounced) : exec (.diLevelChange i l) s = .next
      ((s.modPin i.val (fun p => { p with level := l, pending := none })).modDin i.val (fun d =>
        { d with glitches := inc32 d.glitches })) := by
  show execDiLevelChange i l s = _
  subst hd
  simp [execDiLevelChange, hp, hl]

/-- The input with its level accepted and the acceptance counted, before the edge is queued. -/
def State.accepted (s : State) (i : Nat) : State :=
  (s.modPin i (fun p => { p with debounced := p.level, pending := none })).modDin i (fun d => { d with cos := inc32 d.cos })

theorem State.accepted_pin (s : State) (i : Nat) : (s.accepted i).fld.pin i =
    { s.fld.pin i with debounced := (s.fld.pin i).level, pending := none } := by
  simp [State.accepted]

theorem State.accepted_din (s : State) (i : Nat) : (s.accepted i).dinSt i =
    { s.dinSt i with cos := inc32 (s.dinSt i).cos } :=
  State.modDin_same ..

theorem State.accepted_queue (s : State) (i : Nat) : (s.accepted i).fld.queue = s.fld.queue := rfl

theorem diDebounceAccept_accepts {t : Batten} (ht : (s.fld.pin i.val).pending = some t) (hp : s.fld.powered = true)
    (hd : 25 * s.cfg cDIN i.val 0x11 ≤ 2 * s.passed (s.fld.pin i.val).since + 2) :
    exec (.diDebounceAccept i) s = .next ((s.accepted i.val).queueEdge i.val t) := by
  show execDiDebounceAccept i s = _
  simp only [execDiDebounceAccept, ht]
  rw [if_neg (by simp [hp, hd])]
  rfl

end

/-- The edge that the die queues for an input: its level, and what its debounce has noted. -/
def DiPin.edge (p : DiPin) (i : Nat) (t : Batten) : DiEvent :=
  { input := i, overflow := p.lost, unsync := p.unsync, level := p.level, stamp := t }

/-- An edge that finds room is queued last, and its input has lost none since. -/
theorem State.queueEdge_room {s : State} (h : s.fld.queue.length < 64) (i : Nat) (t : Batten) :
    (s.queueEdge i t).fld.queue = s.fld.queue ++ [(s.fld.pin i).edge i t]
      ∧ (s.queueEdge i t).fld.pin i = { s.fld.pin i with lost := false } ∧ (s.queueEdge i t).dinSt i = s.dinSt i := by
  unfold State.queueEdge
  rw [if_pos h]
  exact ⟨rfl, s.modPin_same i (fun p => { p with lost := false }), rfl⟩

/-- An edge that finds 64 waiting is lost, and its loss is marked and counted. -/
theorem State.queueEdge_full {s : State} (h : 64 ≤ s.fld.queue.length) (i : Nat) (t : Batten) :
    (s.queueEdge i t).fld.queue = s.fld.queue ∧ (s.queueEdge i t).fld.queueOverflow = true
      ∧ (s.queueEdge i t).fld.pin i = { s.fld.pin i with lost := true }
      ∧ (s.queueEdge i t).dinSt i = { s.dinSt i with lost := inc32 (s.dinSt i).lost, lostSinceRead := true } := by
  unfold State.queueEdge
  rw [if_neg (by omega)]
  exact ⟨rfl, rfl, s.modPin_same i (fun p => { p with lost := true }),
    s.modDin_same i (fun d => { d with lost := inc32 d.lost, lostSinceRead := true })⟩

/-! ### Stages settle (R227, R228) -/

/-- Settling leaves everything but the stages, and of each stage what a shutdown and its cause have set. -/
structure State.Settles (s u : State) : Prop where
  only : u = { s with fld := { s.fld with stages := u.fld.stages } }
  shutdown (o : Nat) : (u.fld.stage o).shutdown = (s.fld.stage o).shutdown
  overTemp (o : Nat) : (u.fld.stage o).overTemp = (s.fld.stage o).overTemp

theorem State.Settles.refl (s : State) : s.Settles s := ⟨rfl, fun _ => rfl, fun _ => rfl⟩
theorem State.Settles.trans {s u v : State} (h : s.Settles u) (k : u.Settles v) : s.Settles v where
  only := by rw [k.only, h.only]
  shutdown o := (k.shutdown o).trans (h.shutdown o)
  overTemp o := (k.overTemp o).trans (h.overTemp o)

theorem State.settleStage_settles (s : State) (o : Nat) : s.Settles (s.settleStage o) := by
  have stage (j : Nat) : ((s.settleStage o).fld.stage j).shutdown = (s.fld.stage j).shutdown
      ∧ ((s.settleStage o).fld.stage j).overTemp = (s.fld.stage j).overTemp := by
    unfold State.settleStage
    by_cases h : j = o
    · subst h
      rw [State.modStage_same]
      exact ⟨rfl, rfl⟩
    · rw [State.modStage_other _ _ h]
      exact ⟨rfl, rfl⟩
  exact ⟨rfl, fun j => (stage j).1, fun j => (stage j).2⟩

theorem State.settle_settles (s : State) : s.Settles s.settle :=
  foldl_rel State.Settles .refl .trans _ State.settleStage_settles _ s

theorem State.Settles.peg {s u : State} (h : s.Settles u) : u.peg = s.peg := by rw [h.only]
theorem State.Settles.doutSt {s u : State} (h : s.Settles u) (o : Nat) : u.doutSt o = s.doutSt o := by rw [h.only]; rfl

/-- A stage that has shut down does not conduct. -/
theorem State.conducts_shutdown {s : State} {o : Nat} (h : (s.fld.stage o).shutdown = true) : s.conducts o = false := by
  simp [State.conducts, h]

/-! ### The rows of the stages (R226, R228, R230) -/

section
variable {o : Fin 12} {s : State}

/-- A stage in current limit: in overload, and counted where it was not. -/
def State.overloaded (s : State) (o : Nat) : State :=
  let s1 := s.modStage o (fun d => { d with overload := true, limited := true })
  if (s.fld.stage o).overload then s1 else s1.modDout o (fun d => { d with overloads := inc32 d.overloads })

theorem overload_overloads (hc : s.conducts o.val = true) (ht : 2500 ≤ s.passed (s.fld.stage o.val).turnedAt) :
    exec (.overload o) s = .next (s.overloaded o.val) := by
  show execOverload o s = _
  rw [execOverload, if_neg (by simp [hc, ht])]
  rfl

theorem overload_early (ht : s.passed (s.fld.stage o.val).turnedAt < 2500) : exec (.overload o) s = .next s := by
  show execOverload o s = _
  simp [execOverload, ht]

theorem State.overloaded_only (s : State) (o : Nat) : s.overloaded o =
    { s.modStage o (fun d => { d with overload := true, limited := true }) with fio := (s.overloaded o).fio } := by
  unfold State.overloaded
  dsimp only
  split <;> rfl

theorem State.overloaded_counts {s : State} {o : Nat} (h : (s.fld.stage o).overload = false) :
    ((s.overloaded o).doutSt o).overloads = inc32 (s.doutSt o).overloads := by
  unfold State.overloaded
  rw [if_neg (by simp [h]), State.modDout_same]
  rfl

/-- A stage that turns itself off: the shutdown, its flag and its count, before the stages settle. -/
def State.tripped (s : State) (o : Nat) : State :=
  (s.modStage o (fun d => { d with shutdown := true, overTemp := true, tripped := true, steady := false })).modDout o
    (fun d => { d with thermals := inc32 d.thermals })

theorem thermalShutdown_trips (hc : s.conducts o.val = true) : exec (.thermalShutdown o) s = .next (s.tripped o.val).settle := by
  show execThermalShutdown o s = _
  rw [execThermalShutdown, if_neg (by simp [hc])]
  rfl

theorem State.tripped_stage (s : State) (o : Nat) : ((s.tripped o).fld.stage o).shutdown = true
    ∧ ((s.tripped o).fld.stage o).overTemp = true := by
  rw [State.tripped, State.modDout_fld, State.modStage_same]
  exact ⟨rfl, rfl⟩

theorem State.tripped_thermals (s : State) (o : Nat) : ((s.tripped o).doutSt o).thermals = inc32 (s.doutSt o).thermals := by
  rw [State.tripped, State.modDout_same]
  rfl

theorem openWire_sets (h : s.testsWire o.val = true) :
    exec (.openWire o) s = .next (s.modStage o.val (fun d => { d with openWire := true })) := by
  show execOpenWire o s = _
  rw [execOpenWire, if_pos h]

theorem openWireClear_clears (h : s.testsWire o.val = true) :
    exec (.openWireClear o) s = .next (s.modStage o.val (fun d => { d with openWire := false })) := by
  show execOpenWireClear o s = _
  rw [execOpenWireClear, if_pos h]

theorem readbackFault_sets (hf : (s.doutSt o.val).fault = false) (hr : 3 ≤ (s.doutSt o.val).mismatchRun) :
    exec (.readbackFault o) s = .next (s.modDout o.val (fun d => { d with fault := true, readbacks := inc32 d.readbacks })) := by
  show execReadbackFault o s = _
  simp [execReadbackFault, hf, hr]

theorem readbackFault_clears (hf : (s.doutSt o.val).fault = true) (hr : 3 ≤ (s.doutSt o.val).matchRun) :
    exec (.readbackFault o) s = .next (s.modDout o.val (fun d => { d with fault := false })) := by
  show execReadbackFault o s = _
  simp [execReadbackFault, hf, hr]

theorem readbackFault_early (hf : (s.doutSt o.val).fault = false) (hr : (s.doutSt o.val).mismatchRun < 3) :
    exec (.readbackFault o) s = .next s := by
  show execReadbackFault o s = _
  simp [execReadbackFault, hf, hr]

end

/-! ### DISAGREE (R211, R221) -/

section
variable {s : State} (hs : s.isStandby = true)
include hs

theorem disagree_ain {c : Fin 16} (hp : (s.ainSt c.val).paused = false) (hr : 50 ≤ (s.ainSt c.val).run) :
    exec (.disagree (.ain c)) s = .next ((s.modCh c.val (fun c => { c with paused := true })).submit
      (.internal 4 0 c.val (b2n (!s.disagrees c.val)))) := by
  show execDisagree (.ain c) s = _
  simp [execDisagree, hs, hp, hr]

theorem disagree_din {i : Fin 24} (hp : (s.dinSt i.val).paused = false) (hr : 50 ≤ (s.dinSt i.val).run) :
    exec (.disagree (.din i)) s = .next ((s.modDin i.val (fun d => { d with paused := true })).submit
      (.internal 4 0 (64 + i.val) (b2n (!s.disagrees (64 + i.val))))) := by
  show execDisagree (.din i) s = _
  simp [execDisagree, hs, hp, hr]

end

/-- An own item joins what waits for the next batch, and the front end, the field half and the pegged data stay. -/
theorem State.submit_joins (s : State) (b : ItemBody) : ∃ i : BatchItem, i.body = b ∧ (s.submit b).admitted = s.admitted ++ [i]
    ∧ (s.submit b).afe = s.afe ∧ (s.submit b).fio = s.fio ∧ (s.submit b).peg = s.peg := by
  rw [s.submit_only b]
  exact ⟨_, rfl, rfl, rfl, rfl, rfl⟩

end Sys2Proof.Machine
end

section
open Sys2Proof Sys2Proof.Machine

/-- Settles O51: each row changes its own input, stage or image, by the lemma of that row, and a change of DISAGREE joins the batch. -/
theorem fieldPinsComplete : Obligations.FieldPinsComplete := by
  refine ⟨?levels, ?accept, ?overload, ?restart, fun _ _ h => ⟨openWire_sets h, openWireClear_clears h⟩,
    fun _ _ => ⟨readbackFault_sets, readbackFault_clears, readbackFault_early⟩, ?ain, ?din⟩
  case levels =>
    intro i l s hp hl
    refine ⟨fun hd => ?_, fun hd => ?_⟩
    · exact ⟨_, diLevelChange_starts hp hl hd, State.modPin_same .., rfl, fun _ => State.modPin_other _ _⟩
    · refine ⟨_, diLevelChange_returns hp hl hd, State.modPin_same .., ?_, fun _ => State.modDin_other _ _⟩
      rw [State.modDin_same]
      rfl
  case accept =>
    intro i s t ht hp hd
    have hpin := s.accepted_pin i.val
    have hdin := s.accepted_din i.val
    have hexec := diDebounceAccept_accepts ht hp hd
    by_cases hroom : s.fld.queue.length < 64
    · obtain ⟨hq, hp', hd'⟩ := State.queueEdge_room (s := s.accepted i.val) hroom i.val t
      rw [hpin] at hq hp'
      exact ⟨_, hexec, by rw [hp'], by rw [hp'], by rw [hd', hdin], fun _ => ⟨_, hq, rfl, rfl, rfl, rfl, rfl⟩,
        fun hfull => absurd hroom (by omega)⟩
    · obtain ⟨hq, hover, hp', hd'⟩ := State.queueEdge_full (s := s.accepted i.val) (not_lt.1 hroom) i.val t
      rw [hpin] at hp'
      rw [hdin] at hd'
      exact ⟨_, hexec, by rw [hp'], by rw [hp'], by rw [hd'], fun h => absurd h hroom,
        fun _ => ⟨hq, by rw [hp'], hover, by rw [hd']⟩⟩
  case overload =>
    intro o s hc
    refine ⟨fun ht => ?_, overload_early, ?_⟩
    · have honly := s.overloaded_only o.val
      refine ⟨_, overload_overloads hc ht, ?_, State.overloaded_counts, fun j hj => ?_, ?_⟩
      · rw [honly, State.modStage_same]
      · rw [honly]
        exact State.modStage_other _ _ hj
      · rw [honly]
        rfl
    · have h := (s.tripped o.val).settle_settles
      obtain ⟨hoff, htemp⟩ := s.tripped_stage o.val
      have hshut := (h.shutdown o.val).trans hoff
      refine ⟨_, thermalShutdown_trips hc, hshut, (h.overTemp o.val).trans htemp, State.conducts_shutdown hshut, ?_, h.peg⟩
      rw [h.doutSt]
      exact s.tripped_thermals o.val
  case restart =>
    intro o s
    have h := (s.modStage o.val (fun d => { d with shutdown := false })).settle_settles
    refine ⟨_, rfl, (h.shutdown o.val).trans ?_, (h.overTemp o.val).trans ?_, fun j hj => (h.shutdown j).trans ?_, h.peg⟩
    · rw [State.modStage_same]
    · rw [State.modStage_same]
    · rw [State.modStage_other _ _ hj]
  case ain =>
    intro c s hs hp hr
    obtain ⟨i, hbody, hadm, hafe, -, hpeg⟩ :=
      (s.modCh c.val (fun c => { c with paused := true })).submit_joins (.internal 4 0 c.val (b2n (!s.disagrees c.val)))
    refine ⟨_, i, disagree_ain hs hp hr, hadm, hbody, ?_, hpeg⟩
    rw [State.ainSt, hafe, ← State.ainSt, State.modCh_same]
  case din =>
    intro i s hs hp hr
    obtain ⟨x, hbody, hadm, -, hfio, hpeg⟩ :=
      (s.modDin i.val (fun d => { d with paused := true })).submit_joins (.internal 4 0 (64 + i.val) (b2n (!s.disagrees (64 + i.val))))
    refine ⟨_, x, disagree_din hs hp hr, hadm, hbody, ?_, hpeg⟩
    rw [State.dinSt, hfio, ← State.dinSt, State.modDin_same]

end

section
/-! SUPPORT. The AFE die's own events: the state at a latch tick, the hand-overs that come before an event, a window's result, the
shunt, the clamps and the listen state (R199, R203, R204, R206, R209, R212). -/

namespace Sys2Proof.Machine

/-! ### What the hand-overs that are due leave (R212) -/

theorem State.turnCh_only (s : State) (ch : Nat) : s.OnlyChannels (s.turnCh ch) := by
  unfold State.turnCh
  dsimp only
  (repeat' split) <;> rfl

theorem State.turnAfe_only (s : State) : s.OnlyChannels s.turnAfe :=
  foldl_rel State.OnlyChannels .refl .trans _ State.turnCh_only _ s

section
variable {s u : State} (h : s.OnlyChannels u)
include h

theorem State.OnlyChannels.onlyAfe : s.OnlyAfe u := by
  unfold State.OnlyChannels at h
  unfold State.OnlyAfe
  rw [h]
theorem State.OnlyChannels.peg : u.peg = s.peg := by rw [h]
theorem State.OnlyChannels.sup : u.sup = s.sup := by rw [h]
theorem State.OnlyChannels.clk : u.clk = s.clk := by rw [h]
theorem State.OnlyChannels.listen : u.afe.listen = s.afe.listen := by rw [h]
theorem State.OnlyChannels.linkUp : u.afe.linkUp = s.afe.linkUp := by rw [h]
theorem State.OnlyChannels.cals : u.afe.cals = s.afe.cals := by rw [h]

end

/-- The modes and rates of the channels are pegged data. -/
theorem State.cfg_of_peg {s u : State} (h : u.peg = s.peg) (cls idx attr : Nat) : u.cfg cls idx attr = s.cfg cls idx attr := by
  unfold State.cfg
  rw [h]

/-! ### A window's end (R203, R204, R209) -/

/-- At the latch tick of a window that has ended, no more than time has moved. -/
theorem State.windowEnd_cases (s : State) (ch : Nat) :
    (s.windowEnd ch).2 = s ∨ ∃ off, (s.windowEnd ch).2 = s.toOffset off := by
  unfold State.windowEnd
  dsimp only
  split
  · exact .inl rfl
  · split
    · dsimp only
      exact .inr ⟨_, rfl⟩
    · exact .inl rfl

/-- The state in which a window is latched holds the pegged data and the calibrations of the state before. -/
theorem State.turnAfe_windowEnd {s s0 v : State} {ch : Nat} {w : Option Nat} (h : s.windowEnd ch = (w, s0)) (hv : v = s0.turnAfe) :
    v.peg = s.peg ∧ v.afe.cals = s.afe.cals := by
  have hturn := s0.turnAfe_only
  rw [hv, hturn.peg, hturn.cals]
  have hs0 : s0 = (s.windowEnd ch).2 := by rw [h]
  obtain heq | ⟨off, heq⟩ := s.windowEnd_cases ch
  · rw [hs0, heq]
    exact ⟨rfl, rfl⟩
  · rw [hs0, heq, s.toOffset_only off]
    exact ⟨rfl, rfl⟩

/-- Without the conversion of a window before there is no result. -/
theorem State.formResult_none {v : State} {ch : Nat} (h : (v.ainSt ch).last = none) (n : Nat) (m : AfeMeasure) :
    v.formResult ch n m = none := by
  simp [State.formResult, h]

/-- A window converted just before, under the settings in force, gives a result with this one (log 127; its mean, log 5). -/
theorem State.formResult_some {v : State} {ch k n : Nat} {y : Int} (h : (v.ainSt ch).last = some (k, y))
    (hk : windowBefore (v.ainRate ch) n = some k) (hb : notBefore (v.windowBegan ch k) (v.ainSt ch).cleanAt = true) (m : AfeMeasure) :
    ∃ x : AfeResult, v.formResult ch n m = some x ∧ x.raw = resultOf (v.ainMode ch) n k m.raw y := by
  simp [State.formResult, h, hk, hb]

theorem State.modCh_cals (s : State) (ch : Nat) (f : AfeCh → AfeCh) : (s.modCh ch f).afe.cals = s.afe.cals := rfl

/-- Where no calibration runs, a result counts for none. -/
theorem State.calTake_idle {s : State} (h : s.afe.cals = []) (ch : Nat) (raw : Int) (bad : Bool) : s.calTake ch raw bad = s := by
  simp [State.calTake, h]

/-- A channel that has converted a window, with the result that is latched, if there is one. -/
def AfeCh.convert (n : Nat) (raw : Int) (r : Option (Batten × AfeResult)) (c : AfeCh) : AfeCh :=
  { c with last := some (n, raw), latched := r.or c.latched }

section
variable {c : Fin 16} {m : AfeMeasure} {s s0 v : State} {n : Nat} (hw : s.windowEnd c.val = (some n, s0)) (hv : v = s0.turnAfe)
  (hruns : s.afeRuns = true) (hmode : s.ainMode c.val ≠ 0) (hclk : s.clk.running = true) (hclamp : m.clamped = false)
include hw hv hruns hmode hclk hclamp

/-- A window without a result leaves its conversion for the next one. -/
theorem afeResultLatch_converts (hr : v.formResult c.val n m = none) :
    exec (.afeResultLatch c m) s = .next (v.modCh c.val (AfeCh.convert n m.raw none)) := by
  show execAfeResultLatch c m s = _
  simp only [execAfeResultLatch, hw, ← hv]
  rw [if_neg (by simp [hruns, hmode, hclk])]
  simp only [hclamp, Bool.false_eq_true, if_false, hr]
  rfl

/-- A window with a result latches it. -/
theorem afeResultLatch_latches (hcals : s.afe.cals = []) {x : AfeResult} (hr : v.formResult c.val n m = some x) :
    exec (.afeResultLatch c m) s =
      .next (v.modCh c.val (AfeCh.convert n m.raw (some (v.clk.batten, x)))).flush := by
  show execAfeResultLatch c m s = _
  simp only [execAfeResultLatch, hw, ← hv]
  rw [if_neg (by simp [hruns, hmode, hclk])]
  simp only [hclamp, Bool.false_eq_true, if_false, hr]
  rw [State.calTake_idle ((State.modCh_cals ..).trans ((State.turnAfe_windowEnd hw hv).2.trans hcals))]
  rfl

end

/-! ### The shunt (R199) -/

section
variable {c : Fin 16} {s : State} (hv : s.sup.vafe = true)
include hv

theorem shuntOpen_opens (hm : s.ainMode c.val = 8) (hc : (s.turnAfe.ainSt c.val).shuntClosed = true) :
    exec (.shuntOpen c) s = .next (s.turnAfe.modCh c.val (fun x =>
      { x with shuntClosed := false, shuntAt := some s.clk.batten, overcurrent := true })) := by
  have hturn := s.turnAfe_only
  have hmode : s.turnAfe.ainMode c.val = 8 := (State.cfg_of_peg hturn.peg ..).trans hm
  show execShuntOpen c s = _
  simp [execShuntOpen, hturn.sup, hturn.clk, hv, hmode, hc]

variable {t : Batten} (ht : (s.turnAfe.ainSt c.val).shuntAt = some t)
include ht

theorem shuntClose_closes (hd : 12500000 ≤ since s.clk.batten t) :
    exec (.shuntClose c) s = .next (s.turnAfe.modCh c.val (fun x =>
      { x with shuntClosed := true, shuntAt := none, closedAt := some s.clk.batten })) := by
  have hturn := s.turnAfe_only
  show execShuntClose c s = _
  simp [execShuntClose, hturn.sup, hturn.clk, hv, ht, Config.ticksPerSecond, hd]

theorem shuntClose_early (hd : since s.clk.batten t < 12500000) : exec (.shuntClose c) s = .next s.turnAfe := by
  have hturn := s.turnAfe_only
  show execShuntClose c s = _
  simp [execShuntClose, hturn.sup, hturn.clk, hv, ht, Config.ticksPerSecond, hd]

end

/-! ### The clamps (R206) -/

theorem clampConduction_conducts {c : Fin 16} {s : State} (hv : s.sup.vafe = true) : exec (.clampConduction c) s =
    .next (s.modCh c.val (fun x => { x.conduct (s.windowNow c.val) with clampNow := true })) := by
  show execClampConduction c s = _
  simp [execClampConduction, hv]

/-- A conduction counts a window that is not one of the last two counted. -/
theorem AfeCh.conduct_spec (n : Nat) (c : AfeCh) : (c.conduct n).clampSticky = true ∧ (c.conduct n).clampCount =
    if c.clampWin = some n ∨ c.clampPrev = some n then c.clampCount else inc32 c.clampCount := by
  unfold AfeCh.conduct
  split <;> exact ⟨rfl, rfl⟩

/-! ### The listen state (R209) -/

/-- The unit neither drives a channel nor holds its shunt closed. -/
def AfeCh.Released (c : AfeCh) : Prop := c.drives = false ∧ c.shuntClosed = false

/-- A listening unit releases every channel that it comes to. -/
theorem State.driveChs_released (l : List Nat) {c : Nat} (s : State) (hl : s.afe.listen = true) (h : c ∈ l ∨ (s.ainSt c).Released) :
    ((l.foldl (fun a ch => a.driveCh ch (!a.afe.listen) a.clk.batten) s).ainSt c).Released := by
  induction l generalizing s with
  | nil => exact h.resolve_left (by simp)
  | cons ch l ih =>
    refine ih _ hl ?_
    unfold State.driveCh
    by_cases hc : c = ch
    · subst hc
      rw [State.modCh_same, hl]
      exact .inr ⟨rfl, rfl⟩
    · rw [State.modCh_other _ _ hc]
      exact h.imp_left fun hm => (List.mem_cons.1 hm).resolve_left hc

theorem State.driveAll_released {s : State} (hl : s.afe.listen = true) {c : Nat} (hc : c < 16) : (s.driveAll.ainSt c).Released :=
  s.driveChs_released _ hl (.inl (List.mem_range.2 hc))

theorem State.driveAll_only (s : State) : s.OnlyChannels s.driveAll := by
  refine foldl_rel State.OnlyChannels .refl .trans _ (fun _ _ => ?_) _ s
  rfl

/-- The AFE die without a flashing frame: it listens, and its link is down. -/
def State.unheard (s : State) : State := { s with afe := { s.afe with listen := true, linkUp := false } }

theorem afeListenTimeout_listens {s : State} (hv : s.sup.vafe = true) (ht : 2500 ≤ s.passed s.afe.lastGood) :
    exec .afeListenTimeout s = .next s.unheard.driveAll := by
  show execAfeListenTimeout s = _
  rw [execAfeListenTimeout, if_neg (by simp [hv, ht])]
  rfl

theorem afeListenTimeout_early {s : State} (ht : s.passed s.afe.lastGood < 2500) : exec .afeListenTimeout s = .next s := by
  show execAfeListenTimeout s = _
  simp [execAfeListenTimeout, ht]

end Sys2Proof.Machine
end

section
open Sys2Proof Sys2Proof.Machine

/-- Settles O52: each row acts on the state that the hand-overs due have left, and changes its own channel alone; the listen state
releases every channel. -/
theorem afeEventsComplete : Obligations.AfeEventsComplete := by
  refine ⟨?latch, ?opens, ?closes, ?clamp, fun s hv => ⟨fun ht => ?listens, afeListenTimeout_early⟩⟩
  case latch =>
    intro c m s s0 v n hw hv hruns hmode hclk hclamp hcals
    obtain ⟨hpeg, -⟩ := State.turnAfe_windowEnd hw hv
    refine ⟨fun hlast => ?_, fun k y hlast hk hb => ?_⟩
    · refine ⟨_, afeResultLatch_converts hw hv hruns hmode hclk hclamp (State.formResult_none hlast n m), ?_, ?_,
        fun _ => State.modCh_other _ _, hpeg⟩ <;> rw [State.modCh_same] <;> rfl
    · have hrate : v.ainRate c.val = s.ainRate c.val := State.cfg_of_peg hpeg ..
      have hmode' : v.ainMode c.val = s.ainMode c.val := State.cfg_of_peg hpeg ..
      obtain ⟨x, hr, hx⟩ := State.formResult_some hlast (by rw [hrate, hk]) hb m
      refine ⟨_, x, afeResultLatch_latches hw hv hruns hmode hclk hclamp hcals hr, ?_, ?_, hmode' ▸ hx, ?_,
        fun _ => State.modCh_other _ _, hpeg⟩ <;> rw [State.modCh_same] <;> rfl
  case opens =>
    intro c s v hturn hv hm hc
    rw [hturn] at hc ⊢
    exact shuntOpen_opens hv hm hc
  case closes =>
    intro c s v t hturn hv ht
    rw [hturn] at ht ⊢
    exact ⟨shuntClose_closes hv ht, shuntClose_early hv ht⟩
  case clamp =>
    intro c s hv
    obtain ⟨hsticky, hcount⟩ := (s.ainSt c.val).conduct_spec (s.windowNow c.val)
    refine ⟨_, clampConduction_conducts hv, ?_, ?_, ?_, fun _ => State.modCh_other _ _, rfl⟩
    · rw [State.modCh_same]
      exact hsticky
    · rw [State.modCh_same]
    · rw [State.modCh_same]
      exact hcount
  case listens =>
    have honly := s.unheard.driveAll_only
    refine ⟨_, afeListenTimeout_listens hv ht, honly.listen, honly.linkUp, fun c hc => State.driveAll_released rfl hc, ?_⟩
    exact State.OnlyAfe.trans (u := s.unheard) rfl honly.onlyAfe

end

section
/-! SUPPORT. The claim word as a number (R238), and the claim arbiter: what a decision changes, and nothing else (R239-R242). -/

namespace Sys2Proof.Machine

/-! ### The claim word (R238) -/

theorem b2n_le_one (b : Bool) : b2n b ≤ 1 := by cases b <;> decide

theorem b2n_lt_b2n {b c : Bool} : b2n b < b2n c ↔ b = false ∧ c = true := by cases b <;> cases c <;> decide

section
variable {h e : Nat} (hh : h < 16) (he : e < 2 ^ 27)
include hh he

/-- The three fields side by side: none reaches into the next. -/
theorem claimWord_toNat (u : Bool) : (claimWord h e u).toNat = b2n u + 2 * e + 2 ^ 28 * h := by
  have hu := b2n_le_one u
  rw [claimWord, Nat.mod_eq_of_lt (show e < 134217728 from he), Nat.mod_eq_of_lt hh, BitVec.toNat_ofNat, Nat.mod_eq_of_lt]
  all_goals omega

theorem claimWord_unit (u : Bool) : (claimWord h e u).getLsbD 0 = u := by
  rw [BitVec.getLsbD, claimWord_toNat hh he, Nat.testBit_zero]
  cases u <;> simp [b2n] <;> omega

theorem claimWord_epoch (u : Bool) : (claimWord h e u).toNat / 2 % 2 ^ 27 = e := by
  have hu := b2n_le_one u
  rw [claimWord_toNat hh he]
  omega

theorem claimWord_health (u : Bool) : (claimWord h e u).toNat / 2 ^ 28 = h := by
  have hu := b2n_le_one u
  rw [claimWord_toNat hh he]
  omega

variable {h' e' : Nat} (hh' : h' < 16) (he' : e' < 2 ^ 27)
include hh' he'

/-- Claim words compare by health, then epoch, then unit. -/
theorem claimWord_lt_iff (u u' : Bool) : (claimWord h e u).toNat < (claimWord h' e' u').toNat ↔
    h < h' ∨ (h = h' ∧ (e < e' ∨ (e = e' ∧ u = false ∧ u' = true))) := by
  have hu := b2n_le_one u
  have hu' := b2n_le_one u'
  rw [claimWord_toNat hh he, claimWord_toNat hh' he', ← b2n_lt_b2n]
  omega

/-- The UNIT bit keeps the words of the two units apart. -/
theorem claimWord_units_ne : claimWord h e false ≠ claimWord h' e' true := fun heq => by
  have hunit := congrArg (BitVec.getLsbD · 0) heq
  simp only [claimWord_unit hh he, claimWord_unit hh' he'] at hunit
  exact absurd hunit (by decide)

end

/-! ### Permission (Table FIO-9) -/

/-- A twin claim that is absent leaves the unit its outputs, whatever its own claim. -/
theorem permissionOf_twin_none (own : Option Word) (now edge : Bool) : permissionOf own none now edge = true := by
  cases own <;> rfl

theorem permissionOf_own_none (twin : Option Word) (now edge : Bool) : permissionOf none twin now edge = twin.isNone := by
  cases twin <;> rfl

theorem permissionOf_higher {a b : Word} (h : b.toNat < a.toNat) (now edge : Bool) :
    permissionOf (some a) (some b) now edge = true := if_pos h

/-- A higher twin claim takes the outputs at an own slot edge only. -/
theorem permissionOf_lower {a b : Word} (h : a.toNat < b.toNat) (now edge : Bool) :
    permissionOf (some a) (some b) now edge = if edge then false else now := if_neg (Nat.lt_asymm h)

/-! ### What a decision leaves -/

/-- Nothing but the images of the outputs at the logic half changes. -/
def State.OnlyDout (s u : State) : Prop := u = { s with fio := { s.fio with dout := u.fio.dout } }
theorem State.OnlyDout.refl (s : State) : s.OnlyDout s := rfl
theorem State.OnlyDout.trans {s u v : State} (h : s.OnlyDout u) (k : u.OnlyDout v) : s.OnlyDout v := by
  unfold State.OnlyDout at *; rw [k, h]

theorem State.modDout_only (s : State) (o : Nat) (f : DoutSt → DoutSt) : s.OnlyDout (s.modDout o f) := rfl

/-- A fold of updates of outputs, each output by its own function. -/
theorem State.modDouts_only (f : State → Nat → DoutSt → DoutSt) (l : List Nat) (s : State) :
    s.OnlyDout (l.foldl (fun a o => a.modDout o (f a o)) s) :=
  foldl_rel State.OnlyDout .refl .trans _ (fun _ _ => State.modDout_only ..) l s

theorem State.Settles.fld {s u : State} (h : s.Settles u) : u.fld = { s.fld with stages := u.fld.stages } := congrArg State.fld h.only

/-- The permission that the arbiter gives. -/
def State.permits (s : State) (edge : Bool) : Bool := permissionOf s.fld.ownClaim s.fld.liveTwin s.fld.permission edge

/-- The state in which the arbiter has decided and, where the permission has changed, has blanked the comparisons; the stages have still
to settle. -/
def State.decided (s : State) (edge : Bool) : State :=
  let s1 : State := { s with fld := { s.fld with permission := s.permits edge } }
  if s.permits edge = s.fld.permission then s1
  else (List.range 12).foldl (fun a o => a.modDout o (fun d => { d with blank := some s.clk.batten })) s1

theorem State.decided_only (s : State) (edge : Bool) :
    State.OnlyDout { s with fld := { s.fld with permission := s.permits edge } } (s.decided edge) := by
  unfold State.decided
  dsimp only
  split
  · exact .refl _
  · exact State.modDouts_only (fun _ _ d => { d with blank := some s.clk.batten }) _ _

theorem State.arbitrate_decided {s : State} (hp : s.fld.powered = true) (edge : Bool) :
    s.arbitrate edge = (s.decided edge).settle := if_neg (by simp [hp])

/-- A decision gives the permission of Table FIO-9; the stages settle and the images of the outputs blank (R230, R242). -/
theorem State.arbitrate_only {s : State} (hp : s.fld.powered = true) (edge : Bool) : s.arbitrate edge =
    { s with
      fld := { s.fld with permission := s.permits edge, stages := (s.arbitrate edge).fld.stages }
      fio := { s.fio with dout := (s.arbitrate edge).fio.dout } } := by
  rw [State.arbitrate_decided hp, (State.settle_settles _).only, s.decided_only edge]

/-- A decision leaves the own claim, and so does a die without power, which decides nothing. -/
theorem State.arbitrate_ownClaim (s : State) (edge : Bool) : (s.arbitrate edge).fld.ownClaim = s.fld.ownClaim := by
  cases hp : s.fld.powered
  · rw [State.arbitrate, if_pos (by simp [hp])]
  · rw [State.arbitrate_only hp]

end Sys2Proof.Machine
end

section
/-! SUPPORT. What a good downlink frame does at the die, and how long the claims live there (R232-R235, R239-R241). -/

namespace Sys2Proof.Machine

/-! ### A frame that the die takes (R233-R235, R239) -/

/-- The state when a CLAIM frame is loaded: 48 ticks after its slot began. -/
def State.atLoad (s : State) : State :=
  if s.alive ∧ ¬ s.isWorker ∧ s.clk.running ∧ 113125 ≤ s.offset then s.toOffset 113173 else s

theorem State.atLoad_only (s : State) :
    s.atLoad = { s with clk := { s.clk with batten := s.atLoad.clk.batten }, time := s.atLoad.time } := by
  unfold State.atLoad
  split
  · exact s.toOffset_only _
  · rfl

/-- A die that loads a claim at a time, and an output word where the frame has a valid one. -/
def FieldDie.load (f : FieldDie) (word : BitVec 12) (valid : Bool) (claim : Word) (t : Nat) : FieldDie :=
  let g : FieldDie := { f with ownClaim := some claim, ownWord := claim, ownAt := t, withdrawn := false }
  if valid then { g with word := word, haveWord := true, safe := 0, training := false } else g

section
variable (f : FieldDie) (word : BitVec 12) (valid : Bool) (claim : Word) (t : Nat)

@[simp] theorem FieldDie.load_ownClaim : (f.load word valid claim t).ownClaim = some claim := by cases valid <;> rfl
@[simp] theorem FieldDie.load_ownAt : (f.load word valid claim t).ownAt = t := by cases valid <;> rfl

end

/-- A CLAIM frame loads the claim, and the stages settle. -/
theorem State.dieTakes_claim (s : State) (word : BitVec 12) (valid : Bool) (claim : Word) :
    State.Settles { s.atLoad with fld := s.fld.load word valid claim s.atLoad.time } (s.dieTakes 2 word valid claim) := by
  have hfld : s.atLoad.fld = s.fld := by rw [s.atLoad_only]
  rw [← hfld]
  exact State.settle_settles _

/-- A WITHDRAW frame takes the claim away and every group into its safe states, and the arbiter decides. -/
theorem State.dieTakes_withdraw (s : State) (word : BitVec 12) (valid : Bool) (claim : Word) : s.dieTakes 3 word valid claim =
    State.arbitrate { s with fld := { s.fld with ownClaim := none, withdrawn := true, safe := 7 } } false := rfl

/-- A TRAIN frame holds every group in its safe states, and the stages settle. -/
theorem State.dieTakes_train (s : State) (word : BitVec 12) (valid : Bool) (claim : Word) :
    State.Settles { s with fld := { s.fld with training := true, safe := 7, loaded := true } } (s.dieTakes 4 word valid claim) :=
  State.settle_settles _

/-! ### Claims grow stale (R239, R241) -/

section
variable {s : State} (hp : s.fld.powered = true)

theorem ownClaimStale_early (h : s.passed s.fld.ownAt < 625000) : exec .ownClaimStale s = .next s := by
  show execOwnClaimStale s = _
  simp [execOwnClaimStale, State.elapsed, Config.claimFreshTicks, not_le.2 h]

include hp

theorem ownClaimStale_removes (hc : s.fld.ownClaim.isSome = true) (h : 625000 ≤ s.passed s.fld.ownAt) :
    exec .ownClaimStale s = .next (State.arbitrate { s with fld := { s.fld with ownClaim := none } } false) := by
  show execOwnClaimStale s = _
  simp [execOwnClaimStale, State.elapsed, Config.claimFreshTicks, hp, hc, h]

theorem twinClaimStale_removes (hf : s.fld.twinFresh = true) (h : 625000 ≤ s.passed s.fld.twinAt) :
    exec .twinClaimStale s = .next (State.arbitrate { s with fld := { s.fld with twinFresh := false } } false) := by
  show execTwinClaimStale s = _
  simp [execTwinClaimStale, State.elapsed, Config.claimFreshTicks, hp, hf, h]

end

end Sys2Proof.Machine
end

section
open Sys2Proof Sys2Proof.Machine

/-- Settles O48: the claim word as a number compares field by field; the own claim goes by the arbiter's frame, which keeps a claim
that is absent. -/
theorem claimOfR238AndR239 : Obligations.ClaimOfR238AndR239 := by
  refine ⟨?fields, ?order, ?units, ?load, ?stale, ?withdraw⟩
  case fields => exact fun h e u hh he => ⟨claimWord_unit hh he u, claimWord_epoch hh he u, claimWord_health hh he u⟩
  case order => exact fun h e h' e' u u' hh hh' he he' => claimWord_lt_iff hh he hh' he' u u'
  case units => exact fun h e h' e' hh hh' he he' => claimWord_units_ne hh he hh' he'
  case load =>
    intro s w v c
    have hload := s.dieTakes_claim w v c
    refine ⟨_, rfl, ?_, ?_⟩ <;> rw [hload.only]
    · exact s.fld.load_ownClaim w v c s.atLoad.time
    · exact s.fld.load_ownAt w v c s.atLoad.time
  case stale =>
    intro s c hp hc
    exact ⟨ownClaimStale_early, fun h => ⟨_, ownClaimStale_removes hp (by simp [hc]) h, State.arbitrate_ownClaim ..⟩⟩
  case withdraw =>
    intro s w v c
    rw [s.dieTakes_withdraw]
    exact State.arbitrate_ownClaim ..

end

section
/-! SUPPORT. The claim arbiter's rows and the slots of the flashing link: what a slot sends, and that the AFE die's part of it stays with
the AFE die (R204, R232-R234, R240, R241). -/

namespace Sys2Proof.Machine

/-! ### The AFE die's part of a slot (R204, R209) -/

theorem State.arrive_only (s : State) (ch : Nat) : s.OnlyChannels (s.arrive ch) := by
  unfold State.arrive
  split
  · exact .refl s
  · split <;> rfl

theorem State.carryResult_only (s : State) (ch : Nat) : s.OnlyChannels (s.carryResult ch) := by
  refine (s.arrive_only ch).trans ?_
  unfold State.carryResult
  dsimp only
  split
  · split <;> rfl
  · exact .refl _

theorem State.afeSlot_only (s : State) : s.OnlyAfe s.afeSlot := by
  unfold State.afeSlot
  split
  · exact .refl s
  extract_lets listen afe s1 s2 s3
  have h1 : s.OnlyAfe s1 := rfl
  have h2 : s1.OnlyAfe s2 := by
    change s1.OnlyAfe (if _ then _ else _)
    split
    · exact .refl s1
    · exact s1.loadAfe_only
  have h3 : s2.OnlyAfe s3 := by
    change s2.OnlyAfe (if _ then _ else _)
    split
    · exact s2.driveAll_only.onlyAfe
    · exact s2.turnAfe_only.onlyAfe
  have carried : s3.OnlyChannels ((List.range 16).foldl State.carryResult s3) :=
    foldl_rel State.OnlyChannels .refl .trans _ State.carryResult_only _ s3
  exact ((h1.trans h2).trans h3).trans carried.onlyAfe

theorem State.OnlyAfe.fio {s u : State} (h : s.OnlyAfe u) : u.fio = s.fio := by rw [h]
theorem State.OnlyAfe.fld {s u : State} (h : s.OnlyAfe u) : u.fld = s.fld := by rw [h]
theorem State.OnlyAfe.peg {s u : State} (h : s.OnlyAfe u) : u.peg = s.peg := by rw [h]

/-! ### The uplink's half of a slot (R222, R232) -/

/-- An uplink frame touches its wire, and of the die the event queue. -/
theorem State.uplinkSlot_only (s : State) : s.uplinkSlot =
    { s with
      fio := { s.fio with upWire := s.uplinkSlot.fio.upWire }
      fld := { s.fld with queue := s.uplinkSlot.fld.queue, queueOverflow := s.uplinkSlot.fld.queueOverflow } } := by
  unfold State.uplinkSlot
  split <;> rfl

theorem State.uplinkSlot_powered {s : State} (hp : s.fld.powered = true) : s.uplinkSlot =
    { s with fio := { s.fio with upWire := s.upFrame }, fld := { s.fld with queue := s.fld.queue.drop 3, queueOverflow := false } } :=
  if_pos hp

/-! ### CLAIM_FRAME_SEND (R232, R233) -/

/-- The state in which the CLAIM slot is sent, its uplink frame on the wire: tick 113 125 of the frame, on a worker the present one. -/
def State.claimSlot (s : State) : State := (if s.isWorker then s else s.toOffset 113125).uplinkSlot

theorem State.claimSlot_only (s : State) : s.claimSlot =
    { s with
      clk := { s.clk with batten := s.claimSlot.clk.batten }
      time := s.claimSlot.time
      fio := { s.fio with upWire := s.claimSlot.fio.upWire }
      fld := { s.fld with queue := s.claimSlot.fld.queue, queueOverflow := s.claimSlot.fld.queueOverflow } } := by
  unfold State.claimSlot
  split
  · rw [s.uplinkSlot_only]
  · rw [(s.toOffset 113125).uplinkSlot_only, s.toOffset_only 113125]

/-- The logic half after a CLAIM frame with this claim and this output word. -/
def FieldIo.sendClaim (f : FieldIo) (claim : Word) (word : BitVec 12) (valid : Bool) (frame : Frame) (record : List Byte) : FieldIo :=
  { f with
    downWire := downFrame 2 (f.seq + 1) word valid claim frame record, seq := f.seq + 1, claimDue := none, cfgDue := f.cfgDue.tail,
    lastWord := if valid then word else f.lastWord }

theorem claimFrameSend_sends {s : State} {claim : Word} {word : BitVec 12} {valid : Bool}
    (hd : s.fio.claimDue = some (claim, word, valid)) (hs : s.sendsFrames = true) : exec .claimFrameSend s =
      .next (State.afeSlot { s.claimSlot with
        fio := s.claimSlot.fio.sendClaim claim word valid s.claimSlot.clk.frameNo s.claimSlot.nextRecord }) := by
  show execClaimFrameSend s = _
  simp only [execClaimFrameSend, hd]
  rw [if_neg (by simp [hs])]
  rfl

/-! ### Claim frames (R240, R241) -/

section
variable {s : State}

theorem claimSlotEdge_decides (hp : s.fld.powered = true) : exec .claimSlotEdge s =
    .next (State.arbitrate { s with fld := { s.fld with claimOut := some (s.fld.ownWord, s.claimFlags) } } true) := by
  show execClaimSlotEdge s = _
  rw [execClaimSlotEdge, if_neg (by simp [hp])]

variable {word : Word} {flags : Byte} {crc : Half} (hp : s.fld.powered = true)
include hp

/-- A good claim frame is the twin's claim, and the arbiter decides. -/
theorem claimFrameReceived_good (hc : crc.toNat = claimCrc word flags) (hf : flags.toNat < 16) :
    exec (.claimFrameReceived word flags crc) s = .next (State.arbitrate { s with fld := { s.fld with
      twinClaim := word, twinFresh := flags.getLsbD 0, twinPerm := flags.getLsbD 3, twinAt := s.time } } false) := by
  have hbits : flags.toNat / 16 = 0 := Nat.div_eq_of_lt hf
  show execClaimFrameReceived word flags crc s = _
  rw [execClaimFrameReceived, if_neg (by simp [hp]), if_neg (by simp [hc, hbits])]

/-- A claim frame with a bad CRC or a reserved bit set is counted and goes to the gutter log. -/
theorem claimFrameReceived_bad (ha : s.alive = true) (h : crc.toNat ≠ claimCrc word flags ∨ 16 ≤ flags.toNat) :
    exec (.claimFrameReceived word flags crc) s =
      .next (State.gutter { s with fio := { s.fio with claimBad := inc32 s.fio.claimBad } } 0x0A 0 0) := by
  have hbad : crc.toNat ≠ claimCrc word flags ∨ flags.toNat / 16 ≠ 0 := h.imp_right fun hf => by omega
  show execClaimFrameReceived word flags crc s = _
  rw [execClaimFrameReceived, if_neg (by simp [hp]), if_pos hbad, if_pos ha]

end

end Sys2Proof.Machine
end

section
open Sys2Proof Sys2Proof.Machine

/-- Settles O49: Table FIO-9 by its rows, each decision by what the arbiter leaves, and the CLAIM frame by the slot that carries it. -/
theorem claimEventsComplete : Obligations.ClaimEventsComplete := by
  refine ⟨?table, ?edge, ?frame, ?own, ?twin, ?send⟩
  case table =>
    intro a e p
    exact ⟨permissionOf_twin_none .., permissionOf_own_none .., permissionOf_twin_none .., fun b hb => permissionOf_higher hb p e,
      fun b hb => ⟨permissionOf_lower hb p true, permissionOf_lower hb p false⟩⟩
  case edge =>
    intro s hp
    refine ⟨_, claimSlotEdge_decides hp, ?_⟩
    rw [State.arbitrate_only (by exact hp)]
    exact ⟨rfl, rfl, rfl, rfl, rfl, rfl⟩
  case frame =>
    intro w f c s hp
    refine ⟨fun hc hf => ?_, fun ha hbad => ?_⟩
    · refine ⟨_, claimFrameReceived_good hp hc hf, ?_⟩
      rw [State.arbitrate_only (by exact hp)]
      exact ⟨rfl, rfl, rfl, rfl, rfl, rfl⟩
    · refine ⟨_, claimFrameReceived_bad hp ha hbad, ?_⟩
      rw [State.gutter_only]
      exact ⟨rfl, rfl, rfl⟩
  case own =>
    intro s hp hc h
    refine ⟨_, ownClaimStale_removes hp hc h, ?_⟩
    rw [State.arbitrate_only (by exact hp)]
    exact ⟨rfl, permissionOf_own_none .., rfl, rfl⟩
  case twin =>
    intro s hp hf h
    refine ⟨_, twinClaimStale_removes hp hf h, ?_⟩
    rw [State.arbitrate_only (by exact hp)]
    exact ⟨rfl, permissionOf_twin_none .., rfl, rfl⟩
  case send =>
    intro s c w v hd hs
    refine ⟨_, claimFrameSend_sends hd hs, ?_⟩
    rw [(State.afeSlot_only _).fio, (State.afeSlot_only _).fld, (State.afeSlot_only _).peg, s.claimSlot_only]
    exact ⟨rfl, rfl, rfl, rfl, rfl, rfl⟩

end

section
/-! SUPPORT. The flashing link at both ends: what a slot sends, what a frame does at the die and at the logic half, and what its silence
does (R222, R231-R236). -/

namespace Sys2Proof.Machine

/-! ### FLASHING_SLOT (R222, R231-R234) -/

/-- The kind of the frame that a slot sends: TRAIN, WITHDRAW or KEEP. -/
def State.slotKind (s : State) : Nat := if s.fio.trainLeft ≠ 0 then 4 else if s.withdraws then 3 else 1

theorem State.slotKind_train {s : State} (ht : s.fio.trainLeft ≠ 0) : s.slotKind = 4 := if_pos ht
theorem State.slotKind_withdraw {s : State} (ht : s.fio.trainLeft = 0) (hw : s.withdraws = true) : s.slotKind = 3 := by
  simp [State.slotKind, ht, hw]
theorem State.slotKind_keep {s : State} (ht : s.fio.trainLeft = 0) (hw : s.withdraws = false) : s.slotKind = 1 := by
  simp [State.slotKind, ht, hw]

/-- The logic half after a slot's downlink frame. -/
def FieldIo.sendSlot (f : FieldIo) (frame : List Byte) : FieldIo :=
  { f with
    downWire := frame, seq := f.seq + 1, cfgDue := f.cfgDue.tail, trainLeft := f.trainLeft - 1,
    link := if f.link = 0 ∧ f.trainLeft ≠ 0 then 1 else f.link }

/-- The downlink frame of a slot repeats the last output word, without claim. -/
def State.slotFrame (s : State) : List Byte :=
  downFrame s.slotKind (s.fio.seq + 1) s.fio.lastWord false 0 s.clk.frameNo s.nextRecord

section
variable {s : State}

theorem flashingSlot_sends (hp : s.fld.powered = true) (hs : s.sendsFrames = true) : exec .flashingSlot s = .next (State.afeSlot
    { s with
      fio := { s.fio with upWire := s.upFrame }.sendSlot s.slotFrame
      fld := { s.fld with queue := s.fld.queue.drop 3, queueOverflow := false } }) := by
  show execFlashingSlot s = _
  rw [execFlashingSlot, if_neg (by simp [hs]), State.uplinkSlot_powered hp]
  rfl

theorem flashingSlot_silent (hs : s.sendsFrames = false) :
    exec .flashingSlot s = .next { s with fio := { s.fio with upWire := [], downWire := [] } } := by
  show execFlashingSlot s = _
  rw [execFlashingSlot, if_pos (by simp [hs])]

end

/-! ### DOWNLINK_FRAME_RECEIVED (R232-R235, R239) -/

/-- The die after a good downlink frame: when it came, its sequence number, and the gap before it. -/
def State.heard (s : State) (b : List Byte) : State :=
  { s with fld := { s.fld with
    lastGood := s.slotTime, lastSeq := b.getD 1 0,
    seqGaps := min 0xFFFFFFFF (s.fld.seqGaps + if b.getD 1 0 = s.fld.lastSeq + 1 then 0 else 1) } }

/-- The die after a good downlink frame that it has taken as its kind says. -/
def State.takesFrame (s : State) (b : List Byte) (kind : Nat) : State :=
  (s.heard b).dieTakes kind (BitVec.ofNat 12 (leAt b 2 2 % 4096)) ((leAt b 2 2).testBit 15) (BitVec.ofNat 32 (leAt b 4 4))

section
variable {s : State} {b : List Byte} (hp : s.fld.powered = true)
include hp

theorem downlinkFrameReceived_bad (hg : frameGood b = false) :
    exec (.downlinkFrameReceived b) s = .next { s with fld := { s.fld with crcDown := s.fld.crcDown + 1 } } := by
  show execDownlinkFrameReceived b s = _
  rw [execDownlinkFrameReceived, if_neg (by simp [hp]), if_pos (by simp [hg])]

theorem downlinkFrameReceived_good (hg : frameGood b = true) (hw : leAt b 2 2 / 4096 % 8 = 0) (hz : leAt b 30 2 = 0) {kind : Nat}
    (hk : byteAt b 0 = kind) (hlo : kind ≠ 0) (hhi : kind ≤ 4) :
    exec (.downlinkFrameReceived b) s = .next (s.takesFrame b kind) := by
  subst hk
  show execDownlinkFrameReceived b s = _
  simp only [execDownlinkFrameReceived]
  rw [if_neg (by simp [hp]), if_neg (by simp [hg]), if_neg (by simp [hw, hz, hlo, hhi])]
  rfl

end

/-! ### UPLINK_FRAME_RECEIVED (R222, R232, R236) -/

/-- An output's image after the diagnostics of an uplink frame. -/
def DoutSt.diag (b : List Byte) (o : Nat) (x : DoutSt) : DoutSt :=
  let d := leAt b 13 5
  let on := (leAt b 7 2).testBit o
  { x with overload := d.testBit o, openWire := d.testBit (12 + o), overTemp := d.testBit (24 + o), conducting := on,
           switches := if on && !x.conducting then inc32 x.switches else x.switches }

theorem State.takeDiag_eq (s : State) (b : List Byte) :
    s.takeDiag b = (List.range 12).foldl (fun a o => a.modDout o (DoutSt.diag b o)) s := rfl

theorem State.takeDiag_only (s : State) (b : List Byte) : s.OnlyDout (s.takeDiag b) :=
  State.modDouts_only (fun _ => DoutSt.diag b) _ s

/-- An output's image holds its three flags of an uplink frame. -/
def DoutSt.Shows (x : DoutSt) (b : List Byte) (o : Nat) : Prop :=
  x.overload = (leAt b 13 5).testBit o ∧ x.openWire = (leAt b 13 5).testBit (12 + o) ∧ x.overTemp = (leAt b 13 5).testBit (24 + o)

theorem State.modDout_other (s : State) {o j : Nat} (f : DoutSt → DoutSt) (h : j ≠ o) : (s.modDout o f).doutSt j = s.doutSt j :=
  sget_smod_other _ _ _ _ _ h

/-- Every output that the diagnostics come to holds its flags, and keeps them. -/
theorem State.diags_show (b : List Byte) (l : List Nat) {o : Nat} (s : State) (h : o ∈ l ∨ (s.doutSt o).Shows b o) :
    ((l.foldl (fun a o => a.modDout o (DoutSt.diag b o)) s).doutSt o).Shows b o := by
  induction l generalizing s with
  | nil => exact h.resolve_left (by simp)
  | cons k l ih =>
    refine ih _ ?_
    by_cases hk : o = k
    · subst hk
      rw [State.modDout_same]
      exact .inr ⟨rfl, rfl, rfl⟩
    · rw [State.modDout_other _ _ hk]
      exact h.imp_left fun hm => (List.mem_cons.1 hm).resolve_left hk

theorem State.takeDiag_shows (s : State) (b : List Byte) {o : Nat} (h : o < 12) : ((s.takeDiag b).doutSt o).Shows b o :=
  State.diags_show b _ s (.inl (List.mem_range.2 h))

/-- The state after a good uplink frame, before its diagnostics. -/
def State.takesUplink (s : State) (b : List Byte) : State :=
  let f := s.fio
  let seen : Byte := b.getD 18 0
  { s with fio := { f with
    link := if f.trainLeft = 0 then 2 else 1, claimState := b.getD 0 0, upSeq := b.getD 1 0,
    levels := BitVec.ofNat 24 (leAt b 2 3), readback := BitVec.ofNat 12 (leAt b 5 2),
    conducting := BitVec.ofNat 12 (leAt b 7 2), twinClaim := BitVec.ofNat 32 (leAt b 9 4),
    crcDown := min 0xFFFFFFFF (f.crcDown + (seen - f.downSeen).toNat), downSeen := seen,
    twinAbsent := if (byteAt b 0).testBit 1 ∨ ¬ s.twinRuns then none else some (f.twinAbsent.getD s.clk.batten),
    lastUp := some s.clk.batten, stale := false, staleSnaps := 0, waiting := f.waiting ++ upEvents s.clk.batten b } }

section
variable {s : State} {b : List Byte} (hs : s.sendsFrames = true)
include hs

theorem uplinkFrameReceived_bad (hg : frameGood b = false) : exec (.uplinkFrameReceived b) s =
    .next (State.gutter { s with fio := { s.fio with crcUp := inc32 s.fio.crcUp } } 0x01 1 0) := by
  show execUplinkFrameReceived b s = _
  rw [execUplinkFrameReceived, if_neg (by simp [hs]), if_pos (by simp [hg])]

theorem uplinkFrameReceived_good (hg : frameGood b = true) (hz : byteAt b 19 = 0) (h0 : byteAt b 0 < 128) :
    exec (.uplinkFrameReceived b) s = .next ((s.takesUplink b).takeDiag b) := by
  show execUplinkFrameReceived b s = _
  rw [execUplinkFrameReceived, if_neg (by simp [hs]), if_neg (by simp [hg]), if_neg (by simp [hz, h0])]
  rfl

end

/-! ### Silence on the link (R235, R236) -/

section
variable {s : State} {t : Batten} (ht : s.fio.lastUp = some t)
include ht

theorem inputsStale_early (h : since s.clk.batten t < 2500) : exec .inputsStale s = .next s := by
  show execInputsStale s = _
  simp [execInputsStale, ht, not_le.2 h]

theorem inputsStale_sets (ha : s.alive = true) (h : 2500 ≤ since s.clk.batten t) : exec .inputsStale s =
    .next { s with fio := { s.fio with stale := true, link := if s.fio.trainLeft = 0 then 0 else 1 } } := by
  show execInputsStale s = _
  simp [execInputsStale, ht, ha, h]

/-- An active unit of a pair yields after 30 ms. -/
theorem fieldLinkYield_submits (hst : s.fio.stale = true) (h : msTicks 30 ≤ since s.clk.batten t) (hr : s.isReady = true)
    (hw : s.isWorker = false) (hp : s.pair.state = 1) : exec .fieldLinkYield s = .next (s.submit (.internal 1 0 0 0)) := by
  have hyield : s.forcedYield = s.submit (.internal 1 0 0 0) := if_pos ⟨hr, by simp [hw], hp⟩
  show execFieldLinkYield s = _
  simp only [execFieldLinkYield, ht]
  rw [if_pos ⟨hst, h⟩, hyield]

end

section
variable {s : State} {g : Fin 3}

theorem safeStateTimeout_takes (hp : s.fld.powered = true)
    (h : s.cfg cDOUT (4 * g.val) 0x11 * 12500 + 2 ≤ s.passed s.fld.lastGood) : exec (.safeStateTimeout g) s =
    .next (State.settle { s with fld := { s.fld with safe := s.fld.safe ||| BitVec.ofNat 3 (2 ^ g.val) } }) := by
  show execSafeStateTimeout g s = _
  rw [execSafeStateTimeout, if_pos ⟨hp, decide_eq_true h⟩]

theorem safeStateTimeout_early (h : s.passed s.fld.lastGood < s.cfg cDOUT (4 * g.val) 0x11 * 12500 + 2) :
    exec (.safeStateTimeout g) s = .next s := by
  show execSafeStateTimeout g s = _
  rw [execSafeStateTimeout, if_neg fun ⟨_, ht⟩ => absurd (of_decide_eq_true ht) (not_le.2 h)]

end

end Sys2Proof.Machine
end

section
open Sys2Proof Sys2Proof.Machine

/-- Settles O50: a slot by the frame that it sends, a frame by what its receiver takes, and the silence by its limits. -/
theorem fieldLinkComplete : Obligations.FieldLinkComplete := by
  refine ⟨?slot, fun _ => flashingSlot_silent, fun _ _ => downlinkFrameReceived_bad, ?downlink, ?uplink, ?stale, ?safe⟩
  case slot =>
    intro s hp hs
    refine ⟨_, flashingSlot_sends hp hs, ?_⟩
    rw [(State.afeSlot_only _).fio, (State.afeSlot_only _).fld, (State.afeSlot_only _).peg]
    refine ⟨rfl, rfl, rfl, fun ht hw => ?_, fun ht hw => ?_, fun ht => ?_, rfl, rfl⟩ <;> change s.slotFrame = _
    · rw [State.slotFrame, State.slotKind_keep ht hw]
    · rw [State.slotFrame, State.slotKind_withdraw ht hw]
    · rw [State.slotFrame, State.slotKind_train ht]
  case downlink =>
    intro b s hp hg hw hz
    have hexec {kind : Nat} (hk : byteAt b 0 = kind) := downlinkFrameReceived_good hp hg hw hz hk
    refine ⟨fun hk => ?keep, fun hk hv => ?claim, fun hk => ?withdraw, fun hk => ?train⟩
    case keep => exact ⟨_, hexec hk (by decide) (by decide), rfl, rfl, rfl⟩
    case claim =>
      refine ⟨_, hexec hk (by decide) (by decide), ?_⟩
      rw [State.takesFrame, hv, (State.dieTakes_claim ..).only, (s.heard b).atLoad_only]
      exact ⟨rfl, rfl, rfl, rfl, rfl, rfl, rfl, rfl⟩
    case withdraw =>
      refine ⟨_, hexec hk (by decide) (by decide), ?_⟩
      rw [State.takesFrame, State.dieTakes_withdraw, State.arbitrate_only (by exact hp)]
      exact ⟨rfl, rfl, rfl, rfl, rfl⟩
    case train =>
      refine ⟨_, hexec hk (by decide) (by decide), ?_⟩
      rw [State.takesFrame, (State.dieTakes_train ..).only]
      exact ⟨rfl, rfl, rfl, rfl, rfl⟩
  case uplink =>
    intro b s hs
    refine ⟨fun hg => ?bad, fun hg hz h0 => ?good⟩
    case bad =>
      refine ⟨_, uplinkFrameReceived_bad hs hg, ?_⟩
      rw [State.gutter_only]
      exact ⟨rfl, rfl⟩
    case good =>
      have honly := (s.takesUplink b).takeDiag_only b
      have hshows {o : Nat} := (s.takesUplink b).takeDiag_shows b (o := o)
      refine ⟨_, uplinkFrameReceived_good hs hg hz h0, ?_⟩
      generalize (s.takesUplink b).takeDiag b = u at honly hshows ⊢
      rw [honly]
      exact ⟨rfl, rfl, rfl, rfl, rfl, rfl, rfl, fun _ => hshows, rfl⟩
  case stale =>
    intro s t ha ht
    exact ⟨fun h => ⟨_, inputsStale_sets ht ha h, rfl, rfl, rfl⟩, inputsStale_early ht, fieldLinkYield_submits ht⟩
  case safe =>
    intro g s hp
    refine ⟨fun h => ⟨_, safeStateTimeout_takes hp h, ?_⟩, safeStateTimeout_early⟩
    rw [(State.settle_settles _).only]
    exact ⟨rfl, rfl, rfl, rfl⟩

end

section
/-! SUPPORT. The calendar: its years and months, and the second number of a date as an encoding of it (R247-R249). -/

namespace Sys2Proof.Machine

/-! ### Leap years and months (R247) -/

theorem isLeap_iff (y : Nat) : isLeap y = true ↔ y % 4 = 0 ∧ ¬ (y % 100 = 0 ∧ y % 400 ≠ 0) := by
  simp only [isLeap, Bool.and_eq_true, Bool.or_eq_true, beq_iff_eq, bne_iff_ne]
  exact and_congr_right fun _ => by rw [not_and_or, not_not]

theorem monthLen_february (y : Nat) : monthLen y 2 = if isLeap y then 29 else 28 := rfl

theorem dateOk_iff {d : Date} : dateOk d = true ↔ 2000 ≤ d.year ∧ d.year ≤ 2399 ∧ 1 ≤ d.month ∧ d.month ≤ 12 ∧ 1 ≤ d.day
    ∧ d.day ≤ monthLen d.year d.month ∧ d.hour ≤ 23 ∧ d.min ≤ 59 ∧ d.sec ≤ 59 :=
  decide_eq_true_iff

/-- The date of TIME_SET's bytes has the century and the year of bytes 6 and 5 (R246). -/
theorem dateOfBcd_year {p : List Byte} {d : Date} (h : dateOfBcd p = some d) :
    ∃ c y, unBcd (byteAt p 6) = some c ∧ unBcd (byteAt p 5) = some y ∧ d.year = 100 * c + y := by
  unfold dateOfBcd at h
  split at h
  next hy hc =>
    dsimp only at h
    split at h
    · obtain rfl := Option.some.inj h
      exact ⟨_, _, hc, hy, rfl⟩
    · exact absurd h (by simp)
  next => exact absurd h (by simp)

/-! ### Days to a year and to a month -/

/-- A month begins where the month before it ends. -/
theorem daysToMonth_succ (y m : Nat) : daysToMonth y (m + 2) = daysToMonth y (m + 1) + monthLen y (m + 1) := by
  simp [daysToMonth, List.range_succ]

theorem daysToMonth_mono (y : Nat) : Monotone fun k => daysToMonth y (k + 1) := by
  refine monotone_nat_of_le_succ fun k => ?_
  rw [daysToMonth_succ]
  exact Nat.le_add_right ..

/-- The days of the twelve months of a year. -/
theorem daysToMonth_year (y : Nat) : daysToMonth y 13 = if isLeap y then 366 else 365 := by
  cases h : isLeap y <;> simp [daysToMonth, List.range_succ, monthLen, h]

/-- Where m divides 2000, the count of its multiples from 2000 up to a year grows by one past each year that m divides. -/
theorem multiples_succ {m : Nat} (hm : 0 < m) (h2000 : m ∣ 2000) (k : Nat) :
    (k + 1 + (m - 1)) / m = (k + (m - 1)) / m + if (2000 + k) % m = 0 then 1 else 0 := by
  have hdvd : m ∣ k + (m - 1) + 1 ↔ (2000 + k) % m = 0 := by
    rw [Nat.add_assoc, Nat.sub_add_cancel hm, Nat.dvd_add_self_right, ← Nat.dvd_iff_mod_eq_zero, Nat.dvd_add_right h2000]
  simp only [Nat.add_right_comm k 1, Nat.succ_div, hdvd]

/-- A year begins where the months of the year before it end: the leap days that daysToYear counts are those of R247. -/
theorem daysToYear_succ (k : Nat) : daysToYear (2000 + (k + 1)) = daysToYear (2000 + k) + daysToMonth (2000 + k) 13 := by
  have h4 : (k + 1 + 3) / 4 = _ := multiples_succ (m := 4) (by decide) (by decide) k
  have h100 : (k + 1 + 99) / 100 = _ := multiples_succ (m := 100) (by decide) (by decide) k
  have h400 : (k + 1 + 399) / 400 = _ := multiples_succ (m := 400) (by decide) (by decide) k
  have hcenturies : (k + 99) / 100 ≤ 365 * k := by omega
  have hcentury : (2000 + k) % 100 = 0 → (2000 + k) % 4 = 0 := by omega
  have hfour : (2000 + k) % 400 = 0 → (2000 + k) % 100 = 0 := by omega
  rw [daysToMonth_year]
  simp only [daysToYear, Nat.add_sub_cancel_left, isLeap_iff, h4, h100, h400]
  clear h4 h100 h400
  generalize (2000 + k) % 4 = a, (2000 + k) % 100 = b, (2000 + k) % 400 = c, (k + 3) / 4 = x, (k + 99) / 100 = y at *
  split_ifs <;> omega

theorem daysToYear_mono : Monotone fun k => daysToYear (2000 + k) := by
  refine monotone_nat_of_le_succ fun k => ?_
  rw [daysToYear_succ]
  exact Nat.le_add_right ..

/-! ### The year and the month that a day lies in -/

/-- Of the first N values of a sequence that never falls, those up to n are counted by the place where it passes n. -/
theorem length_filter_range_le {f : Nat → Nat} (hf : Monotone f) {N j n : Nat} (hj : j < N) (hlo : f j ≤ n) (hhi : n < f (j + 1)) :
    ((List.range N).filter (fun k => f k ≤ n)).length = j + 1 := by
  obtain ⟨m, rfl⟩ := Nat.exists_eq_add_of_le (Nat.succ_le_of_lt hj)
  have hbelow : (List.range (j + 1)).filter (fun k => f k ≤ n) = List.range (j + 1) :=
    List.filter_eq_self.2 fun k hk => decide_eq_true ((hf (Nat.le_of_lt_succ (List.mem_range.1 hk))).trans hlo)
  have habove : ((List.range m).map (j + 1 + ·)).filter (fun k => f k ≤ n) = [] := by
    refine List.filter_eq_nil_iff.2 fun k hk => ?_
    obtain ⟨i, -, rfl⟩ := List.mem_map.1 hk
    simpa using hhi.trans_le (hf (Nat.le_add_right ..))
  rw [List.range_add, List.filter_append, hbelow, habove, List.append_nil, List.length_range]

/-- A sequence that begins at or below n and comes to lie above it passes n somewhere. -/
theorem exists_passing {f : Nat → Nat} {n N : Nat} (hlo : f 0 ≤ n) (hhi : n < f N) : ∃ j < N, f j ≤ n ∧ n < f (j + 1) := by
  induction N with
  | zero => exact absurd hhi (Nat.not_lt.2 hlo)
  | succ N ih =>
    rcases Nat.lt_or_ge n (f N) with h | h
    · obtain ⟨j, hj, hpass⟩ := ih h
      exact ⟨j, Nat.lt_succ_of_lt hj, hpass⟩
    · exact ⟨N, Nat.lt_succ_self N, h, hhi⟩

theorem yearOfDay_eq {k n : Nat} (hk : k < 400) (hlo : daysToYear (2000 + k) ≤ n) (hhi : n < daysToYear (2000 + (k + 1))) :
    yearOfDay n = 2000 + k := by
  rw [yearOfDay, length_filter_range_le daysToYear_mono hk hlo hhi]
  omega

/-! ### A date and its second number (R247, R248) -/

/-- The calendar ends with its 400th year. -/
theorem calendarEnd_eq : calendarEnd = 86400 * daysToYear (2000 + 400) := rfl

/-- A day of a month comes before the end of its month, which comes no later than the end of its year. -/
theorem day_lt_ends {y j i : Nat} (hj : j < 12) (hi : i < monthLen y (j + 1)) :
    daysToMonth y (j + 1) + i < daysToMonth y (j + 2) ∧ daysToMonth y (j + 1) + i < daysToMonth y 13 := by
  have hmonth : daysToMonth y (j + 1) + i < daysToMonth y (j + 2) := daysToMonth_succ y j ▸ Nat.add_lt_add_left hi _
  exact ⟨hmonth, hmonth.trans_le (daysToMonth_mono y (Nat.succ_le_of_lt hj))⟩

/-- The year and the month of a day are found again from the number of days before it: the day is given by the place of its year, of
its month and of itself, each counted from 0. -/
theorem yearMonth_of_day {k j i : Nat} (hk : k < 400) (hj : j < 12) (hi : i < monthLen (2000 + k) (j + 1)) :
    yearOfDay (daysToYear (2000 + k) + daysToMonth (2000 + k) (j + 1) + i) = 2000 + k
    ∧ ((List.range 12).filter (fun m => daysToMonth (2000 + k) (m + 1) ≤ daysToMonth (2000 + k) (j + 1) + i)).length = j + 1 := by
  obtain ⟨hmonth, hyear⟩ := day_lt_ends hj hi
  exact ⟨yearOfDay_eq hk (by omega) (by rw [daysToYear_succ]; omega),
    length_filter_range_le (daysToMonth_mono _) hj (Nat.le_add_right ..) hmonth⟩

/-- A date of the calendar by the places of its year, its month and its day, each counted from 0. -/
theorem dateOk_places {d : Date} (h : dateOk d = true) : ∃ k j i hour min sec, d = ⟨2000 + k, j + 1, i + 1, hour, min, sec⟩
    ∧ k < 400 ∧ j < 12 ∧ i < monthLen (2000 + k) (j + 1) ∧ hour < 24 ∧ min < 60 ∧ sec < 60 := by
  obtain ⟨y, m, day, hour, min, sec⟩ := d
  obtain ⟨hy, hy', hm, hm', hd, hd', hh, hmin, hs⟩ := dateOk_iff.1 h
  dsimp only at hy hm hd
  obtain ⟨k, rfl⟩ := Nat.exists_eq_add_of_le hy
  obtain ⟨j, rfl⟩ := Nat.exists_eq_add_of_le' hm
  obtain ⟨i, rfl⟩ := Nat.exists_eq_add_of_le' hd
  dsimp only at hy' hm' hd' hh hmin hs
  exact ⟨k, j, i, hour, min, sec, rfl, by omega, by omega, hd', by omega, by omega, by omega⟩

/-- The second number of a date by those places. -/
theorem dateSecs_places (k j i hour min sec : Nat) : dateSecs ⟨2000 + k, j + 1, i + 1, hour, min, sec⟩ =
    86400 * (daysToYear (2000 + k) + daysToMonth (2000 + k) (j + 1) + i) + 3600 * hour + 60 * min + sec := rfl

/-- The fields of a date are found again in its second number. -/
theorem secsDate_dateSecs {d : Date} (h : dateOk d = true) : secsDate (dateSecs d) = d := by
  obtain ⟨k, j, i, hour, min, sec, rfl, hk, hj, hi, hh, hmin, hs⟩ := dateOk_places h
  obtain ⟨hyear, hmonth⟩ := yearMonth_of_day hk hj hi
  have hn := dateSecs_places k j i hour min sec
  generalize hD : daysToYear (2000 + k) + daysToMonth (2000 + k) (j + 1) + i = D at hyear hn
  have hday : (86400 * D + 3600 * hour + 60 * min + sec) / 86400 = D := by omega
  have hrest : D - daysToYear (2000 + k) = daysToMonth (2000 + k) (j + 1) + i := by omega
  simp only [secsDate, hn, hday, hyear, hrest, hmonth, Nat.add_sub_cancel_left, Date.mk.injEq, true_and]
  omega

/-- A date in the calendar comes before the calendar's end. -/
theorem dateSecs_lt_calendarEnd {d : Date} (h : dateOk d = true) : dateSecs d < calendarEnd := by
  obtain ⟨k, j, i, hour, min, sec, rfl, hk, hj, hi, hh, hmin, hs⟩ := dateOk_places h
  have hyear := (day_lt_ends hj hi).2
  have hend : daysToYear (2000 + (k + 1)) ≤ daysToYear (2000 + 400) := daysToYear_mono (Nat.succ_le_of_lt hk)
  rw [daysToYear_succ] at hend
  rw [dateSecs_places, calendarEnd_eq]
  omega

/-- Every second to the end of 2399 is that of a date in the calendar. -/
theorem exists_date_of_lt {n : Nat} (h : n < calendarEnd) : ∃ d, dateOk d = true ∧ dateSecs d = n := by
  have hend : n / 86400 < daysToYear (2000 + 400) := Nat.div_lt_of_lt_mul (calendarEnd_eq ▸ h)
  obtain ⟨k, hk, hlo, hhi⟩ := exists_passing (f := fun k => daysToYear (2000 + k)) (Nat.zero_le _) hend
  have hyear : n / 86400 - daysToYear (2000 + k) < daysToMonth (2000 + k) 13 := by
    rw [daysToYear_succ] at hhi
    omega
  obtain ⟨j, hj, hlo', hhi'⟩ := exists_passing (N := 12) (f := fun j => daysToMonth (2000 + k) (j + 1)) (Nat.zero_le _) hyear
  rw [daysToMonth_succ] at hhi'
  refine ⟨⟨2000 + k, j + 1, n / 86400 - daysToYear (2000 + k) - daysToMonth (2000 + k) (j + 1) + 1, n % 86400 / 3600,
    n % 3600 / 60, n % 60⟩, dateOk_iff.2 ?_, ?_⟩
  · dsimp only
    omega
  · simp only [dateSecs, dayNo]
    omega

theorem secsDate_spec {n : Nat} (h : n < calendarEnd) : dateOk (secsDate n) = true ∧ dateSecs (secsDate n) = n := by
  obtain ⟨d, hd, rfl⟩ := exists_date_of_lt h
  rw [secsDate_dateSecs hd]
  exact ⟨hd, rfl⟩

/-! ### SECONDS and the roll (R248, R249) -/

section
variable {e : Eave} {n : Nat}

theorem Eave.seconds_standard (h : e.dst = false) (hn : dateSecs e.date = n) : e.seconds = n % 2 ^ 32 := by
  simp [Eave.seconds, h, hn]

/-- With daylight saving SECONDS is an hour less. -/
theorem Eave.seconds_dst (h : e.dst = true) (hn : dateSecs e.date = n + 3600) : e.seconds = n % 2 ^ 32 := by
  rw [Eave.seconds, if_pos h, hn, Nat.add_right_comm, Nat.add_sub_cancel, Nat.add_mod_right]

end

/-- The second after the last one of the calendar. -/
theorem Eave.nextSecond_rolls {e : Eave} (h : calendarEnd ≤ dateSecs e.date + 1) : e.nextSecond =
    { e with date := { year := 2000, month := 1, day := 1, hour := 0, min := 0, sec := 0 }, dst := false,
             weekday := (e.weekday + 1) % 7, valid := false } :=
  if_pos h

end Sys2Proof.Machine
end

section
open Sys2Proof Sys2Proof.Machine

/-- Settles O32: a date is found again from the places of its year, month and day in their sums, and every second has a date. -/
theorem calendarReadsBack : Obligations.CalendarReadsBack :=
  ⟨fun _ => secsDate_dateSecs, fun _ => secsDate_spec⟩

/-- Settles O30: a date of BCD bytes by the two that hold its year, the leap rule and the lengths of the months. -/
theorem calendarOfR247 : Obligations.CalendarOfR247 :=
  ⟨fun _ _ => dateOfBcd_year, isLeap_iff, by decide, by decide, by decide, by decide, monthLen_february, fun _ => ⟨rfl, rfl⟩⟩

/-- Settles O31: 2399-12-31 23:59:59 is the calendar's last second, after which the RTC rolls. -/
theorem calendarRolls : Obligations.CalendarRolls := by
  intro e he
  have hlast : dateSecs { year := 2399, month := 12, day := 31, hour := 23, min := 59, sec := 59 } + 1 = calendarEnd := by decide
  have hfirst : dateSecs { year := 2000, month := 1, day := 1, hour := 0, min := 0, sec := 0 } = 0 := by decide
  rw [Eave.nextSecond_rolls (by rw [he, hlast])]
  exact ⟨rfl, rfl, rfl, rfl, by simp [Eave.seconds, hfirst]⟩

end

section
/-! SUPPORT. The TIME commands at their peg: an hour's move keeps SECONDS, and when they are refused (R248, R253, R254). -/

namespace Sys2Proof.Machine

/-! ### What the peg does to the clock (R253) -/

section
variable {e : Eave} {t : Batten} {now : Nat}

theorem Eave.timeEffect_timeSet {f : List Nat} {d : Date} (h : dateOfBcd (f.map (BitVec.ofNat 8)) = some d) :
    e.timeEffect t now (.timeSet f) = { e.markAt e.seconds t now with date := d, slew := 0, slewOn := false, valid := true } := by
  unfold Eave.timeEffect
  dsimp only
  rw [h]

theorem Eave.timeEffect_hourAdd (h : dateSecs e.date + 3600 < calendarEnd) : e.timeEffect t now .hourAdd =
    { e.moveTo (secsDate (dateSecs e.date + 3600)) with dst := true } := by
  have hmoved : e.hourMoved true = some (secsDate (dateSecs e.date + 3600)) := by rw [Eave.hourMoved, if_pos rfl, if_pos h]
  unfold Eave.timeEffect
  rw [hmoved]

theorem Eave.timeEffect_hourSub (h : 3600 ≤ dateSecs e.date) : e.timeEffect t now .hourSub =
    { e.moveTo (secsDate (dateSecs e.date - 3600)) with dst := false } := by
  have hmoved : e.hourMoved false = some (secsDate (dateSecs e.date - 3600)) := by
    rw [Eave.hourMoved, if_neg Bool.false_ne_true, if_pos h]
  unfold Eave.timeEffect
  rw [hmoved]

end

/-! ### When they are refused (R253, R254) -/

section
variable {s : State} {p : Prov} {i : BatchItem} {r : Req}

theorem applyHourAdd_dst (h : (s.eaveUnder p).dst = true) : applyHourAdd s p i r = p.refuse .badState := if_pos (.inl h)

theorem applyHourSub_standard (h : (s.eaveUnder p).dst = false) : applyHourSub s p i r = p.refuse .badState :=
  if_pos (.inl (by simp [h]))

theorem applyTimeShift_slewing (h : (s.eaveUnder p).slew ≠ 0) : applyTimeShift s p i r = p.refuse .badState := if_pos h

theorem applyTimeShift_zero (h : (s.eaveUnder p).slew = 0) (h0 : shiftOf r = 0) : applyTimeShift s p i r = p.ok [] := by
  rw [applyTimeShift, if_neg (not_not.2 h), if_pos h0]

theorem applyTimeSet_valid (h : timeOk (s.eaveUnder p).dst r.params = true) :
    applyTimeSet s p i r = (p.addEffect (.timeSet (r.params.map BitVec.toNat))).ok [] := if_pos h

end

end Sys2Proof.Machine
end

section
open Sys2Proof Sys2Proof.Machine

/-- Settles O29: an hour's move loads the date of the moved second number, from which SECONDS subtracts what DST then says. -/
theorem timeCommandsAtTheirPeg : Obligations.TimeCommandsAtTheirPeg := by
  refine ⟨fun _ _ _ _ => ⟨applyHourAdd_dst, applyHourSub_standard, applyTimeShift_slewing, applyTimeShift_zero, applyTimeSet_valid⟩,
    fun _ _ _ _ _ => Eave.timeEffect_timeSet, ?add, ?sub, fun _ _ _ _ => rfl, fun _ _ _ _ => rfl, fun _ _ _ _ _ _ => rfl⟩
  case add =>
    intro e t now _ hdst hin
    have hdate := (secsDate_spec hin).2
    rw [Eave.timeEffect_hourAdd hin, Eave.seconds_standard hdst rfl]
    exact ⟨rfl, hdate, Eave.seconds_dst rfl hdate, rfl⟩
  case sub =>
    intro e t now hok hdst hmin
    have hdate := (secsDate_spec ((Nat.sub_le _ 3600).trans_lt (dateSecs_lt_calendarEnd hok))).2
    rw [Eave.timeEffect_hourSub hmin, Eave.seconds_dst hdst (Nat.sub_add_cancel hmin).symm]
    exact ⟨rfl, hdate, Eave.seconds_standard rfl hdate, rfl⟩

end

section
/-! SUPPORT. A CHARGER_SET of a node whose charger last changed before this tick (R259). -/

namespace Sys2Proof.Machine

/-- What leaves over the links leaves EAVE alone. -/
theorem State.flush_eave (s : State) : s.flush.eave = s.eave := by
  have h := s.flush_onlyLinks
  unfold State.OnlyLinks at h
  rw [h]

/-- A CHARGER_SET with current code 1 and termination code 0. -/
def chargerRequest : Req := { scanRequest with params := [1, 0] }

def chargerTag : Tag := { scanTag false with req := chargerRequest, opcode := 0x0510 }

/-- The manager, one tick after its charger's state last changed, with this CHARGER_SET of its OWNER in flight. -/
def chargerAsked : State :=
  { scannedTwice with comm := { scannedTwice.comm with tags := [chargerTag] }, time := 1 }

theorem chargerAsked_runs : chargerAsked.Runs cmdChargerSet chargerRequest chargerTag :=
  ⟨⟨by decide, by decide, by decide, by decide, by decide⟩, by unfold State.Passes; decide, .inl (by decide)⟩

/-- CHARGER_SET begins the charger's new state on its own tick. -/
theorem cmdChargerSet_chargerAt (s : State) (t : Tag) (w : Who) : (cmdChargerSet.run s t w).eave.chargerAt = s.time := by
  have h := (State.answerF_spec (s.setCharger (byteAt t.req.params 0 + 8 * byteAt t.req.params 1)) t .done [] 16).2
  exact congrArg (fun u : State => u.eave.chargerAt) h

end Sys2Proof.Machine
end

section
open Sys2Proof Sys2Proof.Machine

/-- Refutes O19: CHARGER_SET also notes the tick on which the charger's state began, from which NO_ELEMENT and CHARGER_RETRY count
their seconds; the statement lets nothing of EAVE change but the setting and the charger's state. -/
theorem not_eaveCommandsComplete : ¬ Obligations.EaveCommandsComplete := by
  unfold Obligations.EaveCommandsComplete
  rintro ⟨hset, -⟩
  obtain ⟨u, hexec, -, -, -, -, honly⟩ := hset _ _ _ chargerAsked_runs
  rw [exec_of_runs rfl chargerAsked_runs] at hexec
  have heave := congrArg State.eave (Host.Outcome.next.inj hexec)
  rw [State.flush_eave, State.flush_eave] at heave
  have hnoted : u.eave.chargerAt = 1 := heave ▸ cmdChargerSet_chargerAt ..
  have hkept : u.eave.chargerAt = 0 := congrArg Eave.chargerAt honly
  exact absurd (hnoted.symm.trans hkept) (by decide)

end

section
open Sys2Proof Sys2Proof.Machine

/-- Settles O1: by the definition of the step. -/
theorem stepRunsFrontCommand : Obligations.StepRunsFrontCommand := fun _ _ _ => rfl

/-- Settles O2: an empty queue leaves the tick, in reset or out of it. -/
theorem emptyQueuePassesOneTick : Obligations.EmptyQueuePassesOneTick := by
  intro s hq
  have htick : step s = .next s.tick := by
    unfold step
    rw [hq]
  exact ⟨fun h => htick.trans (congrArg Host.Outcome.next (if_pos h)),
    fun h => htick.trans (congrArg Host.Outcome.next (if_neg (by simp [h])))⟩

end

section
/-! SUPPORT. The hand-over of the active role as a batch item (R344). -/

namespace Sys2Proof.Machine

section
variable {s : State} {p : Prov} {c : Nat}

/-- Without a synchronised twin the role is not handed over. -/
theorem handOver_unsynced (h : s.twinSynced = false) : handOver s p c = p.refuse .badState := if_pos (.inl (by simp [h]))

/-- The first hand-over of a batch takes effect at its peg. -/
theorem handOver_first (h : s.twinSynced = true) (hnone : ∀ c, Effect.handover c ∉ p.effects) :
    handOver s p c = (p.addEffect (.handover c)).ok [] := by
  refine if_neg (not_or.2 ⟨by simp [h], fun htwice => ?_⟩)
  obtain ⟨e, he, hover⟩ := List.any_eq_true.1 htwice
  cases e with
  | handover k => exact hnone k he
  | _ => simp at hover

end

end Sys2Proof.Machine
end

section
open Sys2Proof Sys2Proof.Machine

/-- Settles O35: each applier as it is written, the hand-over by its two cases. -/
theorem logAndPairAtTheirPeg : Obligations.LogAndPairAtTheirPeg := by
  intro s p i r
  refine ⟨rfl, sget_sset_same .., ⟨_, rfl, rfl, rfl, rfl, rfl⟩, rfl, fun h => ?unsynced, fun h hnone => ?yield, fun h => ?unbound⟩
  case unsynced =>
    have hswap : applySwapNow s p i r = p.refuse .badState := by
      unfold applySwapNow
      rw [handOver_unsynced h, ite_self]
    rw [hswap]
    exact ⟨rfl, rfl, handOver_unsynced h⟩
  case yield => rw [applyYield, handOver_first h hnone]; rfl
  case unbound => exact if_pos (.inl (by simp [h]))

end

section
/-! SUPPORT. A read of PORT_STATUS in the transaction that changes the width (R382, Table PRT-2). -/

namespace Sys2Proof.Machine

/-- A manager at READY whose host has written QUAD and begins its next transaction. -/
def widening : State := { scannedTwice with hw := { PortHw.reset with host := { PortHw.reset.host with quadNext := true } } }

end Sys2Proof.Machine
end

section
open Sys2Proof Sys2Proof.Machine

/-- Refutes O36: READ_REG puts out the registers as they stand before its own transaction takes the new width, so in the first
transaction after QUAD was written PORT_STATUS still shows the old width; the statement reads it with the new one. -/
theorem not_hostPortComplete : ¬ Obligations.HostPortComplete := by
  unfold Obligations.HostPortComplete
  rintro ⟨⟨-, -, -, hreg⟩, -⟩
  obtain ⟨u, hexec, -, -, hread⟩ := hreg 4#8 1 widening (by decide)
  have hstatus := hread 0 Nat.one_pos
  rw [← Host.Outcome.next.inj hexec] at hstatus
  exact absurd hstatus (by decide)

end

section
/-! SUPPORT. The receive queue of a UART (R384, R385, R386). -/

namespace Sys2Proof.Machine

section
variable (s : State) (v : Uart)

/-- Flow control moves the request-to-send line alone. -/
theorem State.rtsUpdate_rx : ((s.rtsUpdate v).uart v).rx = (s.uart v).rx := by
  unfold State.rtsUpdate
  rw [State.modUart_same]

theorem State.rtsUpdate_only : s.rtsUpdate v = { s with hw := (s.rtsUpdate v).hw } := s.modUart_only ..

/-- The parser takes the queue unless its answer slots are full (R385). -/
theorem State.handOff_rx : ((s.handOff v).uart v).rx = if s.slotsFull v = true then (s.uart v).rx else [] := by
  unfold State.handOff
  split
  · rfl
  · rw [State.modUart_same]

theorem State.handOff_only : s.handOff v = { s with hw := (s.handOff v).hw } := by
  unfold State.handOff
  split
  · rfl
  · exact s.modUart_only ..

end

end Sys2Proof.Machine
end

section
open Sys2Proof Sys2Proof.Machine

/-- Settles O38: each branch of a received character, and the idle hand-off, as an update of the one UART. -/
theorem uartCharactersComplete : Obligations.UartCharactersComplete := by
  intro v c s hon
  refine ⟨?lineError, fun hline hfull => ?overrun, fun hline htrigger hroom hdelim => ?joins, ?handOff, fun h => ?cts⟩
  case lineError =>
    refine ⟨s.modUart v (fun x => { x with lineErrors := inc32 x.lineErrors }), ?_, State.modUart_same .., s.modUart_only ..⟩
    simp [exec, execUartCharReceived, hon]
  case overrun =>
    refine ⟨s.modUart v (fun x => { x with overruns := inc32 x.overruns, spoiled := true }), ?_, State.modUart_same ..,
      s.modUart_only ..⟩
    simp [exec, execUartCharReceived, hon, hline, hfull]
  case joins =>
    have hrx : ((s.modUart v (fun x => { x with rx := x.rx ++ [c] })).uart v).rx = (s.uart v).rx ++ [c] := by rw [State.modUart_same]
    refine ⟨(s.modUart v (fun x => { x with rx := x.rx ++ [c] })).rtsUpdate v, ?_, (State.rtsUpdate_rx ..).trans hrx, ?_⟩
    · have hkept : ¬ (triggerLevel (s.uartCfg v 1) ≤ (s.uart v).rx.length + 1 ∨ c = delimiter v) := by
        rintro (h | h)
        · omega
        · exact hdelim h
      simp [exec, execUartCharReceived, hon, hline, Nat.not_le.2 hroom, hkept]
    · rw [State.rtsUpdate_only, s.modUart_only]
  case handOff =>
    refine ⟨(s.handOff v).rtsUpdate v, by simp [exec, execUartIdleHandoff, hon], ?_, ?_⟩
    · rw [State.rtsUpdate_only, s.handOff_only]
    · rw [State.rtsUpdate_rx, State.handOff_rx]
  case cts =>
    refine ⟨_, rfl, ?_, ?_, s.modUart_only ..⟩ <;> rw [State.modUart_same]

end

section
/-! SUPPORT. A sentence at U1 whose characters all arrived (R385, R389). -/

namespace Sys2Proof.Machine

/-- U1 once a sentence has been taken: no character of the next one is lost yet. -/
def State.sentenceTaken (s : State) : State := s.modUart .u1 (fun x => { x with spoiled := false })

theorem State.takeSentence_whole {s : State} (h : (s.uart .u1).spoiled = false) (text : List Byte) :
    s.takeSentence text = (sentenceFields text, s.sentenceTaken) := by
  simp [State.takeSentence, State.takeSpoiled, h, State.sentenceTaken]

/-- A sentence that does not meet R389 is bad, spoiled or not. -/
theorem State.takeSentence_bad {text : List Byte} (h : sentenceFields text = none) (s : State) :
    s.takeSentence text = (none, s.sentenceTaken) := by
  simp [State.takeSentence, State.takeSpoiled, h, State.sentenceTaken]

end Sys2Proof.Machine
end

section
open Sys2Proof Sys2Proof.Machine

/-- Settles O40: what the sentence's check gives, and the branch of its type. -/
theorem sentencesComplete : Obligations.SentencesComplete := by
  refine ⟨fun text fs s hon hready hwhole hattached hfields htype htaken => ?acn, fun text s hon hready hbad => ?bad,
    fun text fs s hon hready hwhole hfields hacn hzda => ?other, fun text fs d s hon hwhole hfields htype hdate hport => ?zda⟩
  case acn =>
    have hjoins := s.sentenceTaken.submit_only (.acn text)
    have hattached : s.sentenceTaken.pair.detached = false := hattached
    refine ⟨s.sentenceTaken.submit (.acn text), { s.sentenceTaken.ownItem (.acn text) with forwarded := s.sentenceTaken.forwards },
      ?_, by rw [hjoins]; rfl, rfl, by rw [hjoins]; rfl⟩
    simp [exec, execAcnReceived, State.takeSentence_whole hwhole, hon, hready, hfields, htype, htaken, hattached]
  case bad =>
    refine ⟨s.sentenceTaken.sentenceBad, ?_, ?_, rfl, rfl⟩
    · simp [exec, execOtherSentenceReceived, State.takeSentence_bad hbad, hon, hready]
    · simp [exec, execAcnReceived, State.takeSentence_bad hbad, hon, hready]
  case other =>
    refine ⟨{ s.sentenceTaken with hw := { s.sentenceTaken.hw with sentIgnored := inc32 s.hw.sentIgnored } }, ?_, rfl, rfl⟩
    simp [exec, execOtherSentenceReceived, State.takeSentence_whole hwhole, hon, hready, hfields, hacn, hzda]
    rfl
  case zda =>
    have hport : s.sentenceTaken.dev 0x5E = 0 := hport
    simp [exec, execZdaReceived, State.takeSentence_whole hwhole, hon, hfields, htype, hdate, hport]
    rfl

end

section
/-! SUPPORT. The updates of a CAN controller (R393, R394, R395). -/

namespace Sys2Proof.Machine

/-- A judgement by the counters moves the state alone. -/
theorem CanSt.judge_only (x : CanSt) : x.judge = { x with state := x.judge.state } := by
  unfold CanSt.judge
  split <;> rfl

section
variable (s : State) (c : CanNo)

theorem State.modCan_can (f : CanSt → CanSt) : (s.modCan c f).can c = f (s.can c) := (s.modCan_spec c f).1

/-- What an update leaves is told by the controller it leaves. -/
theorem State.modCan_told (f : CanSt → CanSt) : s.modCan c f = s.modCan c (fun _ => (s.modCan c f).can c) := (s.modCan_spec c f).2

end

/-- The controller after an error on its bus (R393, R394). -/
def CanSt.erred (x : CanSt) : CanError → CanSt
  | .transmit =>
    if 255 < x.tec + 8 then { x with tec := 255, state := 3, busOffs := inc16 x.busOffs } else ({ x with tec := x.tec + 8 } : CanSt).judge
  | .receive => ({ x with recCount := min 255 (x.recCount + 1) } : CanSt).judge
  | .acknowledge => ({ x with ackErrors := x.ackErrors + 1, tec := if x.state = 2 then x.tec else x.tec + 8 } : CanSt).judge

/-- The controller after a frame without error, its receive error count at most 127 (R394). -/
def CanSt.received (x : CanSt) : CanSt :=
  ({ x with lone := false, ackErrors := if x.lone then 0 else x.ackErrors, recCount := x.recCount - 1 } : CanSt).judge

theorem canBusError_exec {s : State} {c : CanNo} (h : s.canLive c = true) (e : CanError) :
    exec (.canBusError c e) s = .next (s.modCan c (fun x => x.erred e)) := by
  refine congrArg Host.Outcome.next ((if_neg (by simp [h])).trans ?_)
  cases e <;> rfl

theorem canFrameReceived_exec {s : State} {c : CanNo} {i : BitVec 29} (h : s.canLive c = true) (hs : s.isSegment i = false)
    (hl : isTimeLabel i = false) (hr : (s.can c).recCount ≤ 127) :
    exec (.canFrameReceived c i) s = .next (s.modCan c CanSt.received) :=
  congrArg Host.Outcome.next ((if_pos ⟨h, by simp [hs], by simp [hl]⟩).trans (if_pos hr))

theorem CanSt.erred_transmit {x : CanSt} : (x.tec + 8 ≤ 255 → (x.erred .transmit).tec = x.tec + 8)
    ∧ (255 < x.tec + 8 → (x.erred .transmit).state = 3 ∧ (x.erred .transmit).busOffs = inc16 x.busOffs) := by
  refine ⟨fun h => ?_, fun h => ?_⟩
  · rw [CanSt.erred, if_neg (Nat.not_lt.2 h), CanSt.judge_only]
  · rw [CanSt.erred, if_pos h]
    exact ⟨rfl, rfl⟩

end Sys2Proof.Machine
end

section
open Sys2Proof Sys2Proof.Machine

/-- Settles O41: every row is one update of its controller, or none. -/
theorem canControllersComplete : Obligations.CanControllersComplete := by
  refine ⟨fun c s hlive => ⟨fun e => ?errors, fun h => ?lone, fun h => ?notLone, fun h1 h2 => ?firstRetry, fun t ht hsoon => ?noRetry,
    ?exception, fun i hseg hlabel hrec => ?frame⟩, fun c s hon hoff => ?recovery⟩
  case errors =>
    refine ⟨_, canBusError_exec hlive e, s.modCan_told .., ?_⟩
    rw [State.modCan_can]
    refine ⟨?_, ?_, ?_, ?_⟩ <;> rintro rfl
    · exact CanSt.erred_transmit.1
    · exact CanSt.erred_transmit.2
    · rw [CanSt.erred, CanSt.judge_only]
    · rw [CanSt.erred, CanSt.judge_only]
      exact ⟨rfl, fun h => if_pos h⟩
  case lone => exact congrArg Host.Outcome.next (if_pos ⟨hlive, h⟩)
  case notLone => exact congrArg Host.Outcome.next (if_neg (fun hc => Nat.not_le.2 h hc.2))
  case firstRetry => exact congrArg Host.Outcome.next (if_pos ⟨hlive, h1, by rw [h2]⟩)
  case noRetry =>
    refine congrArg Host.Outcome.next (if_neg fun hc => ?_)
    obtain ⟨-, -, hdue⟩ := hc
    rw [ht] at hdue
    exact absurd (of_decide_eq_true hdue) (Nat.not_le.2 hsoon)
  case exception => exact congrArg Host.Outcome.next (if_pos hlive)
  case frame =>
    refine ⟨_, canFrameReceived_exec hlive hseg hlabel hrec, s.modCan_told .., ?_⟩
    rw [State.modCan_can, CanSt.received, CanSt.judge_only]
    exact ⟨rfl, rfl⟩
  case recovery => exact congrArg Host.Outcome.next (if_pos ⟨hon, hoff⟩)

end

section
/-! SUPPORT. The points and the stations of a provisional result: what is set reads back, and every other stays (R268, R283, R287). -/

namespace Sys2Proof.Machine

section Tables
variable (p : Prov) (n m : Nat)

@[simp] theorem Prov.setPt_pt (x : PointSt) : (p.setPt n x).pt n = x := sget_sset_same ..
theorem Prov.setPt_pt_ite (x : PointSt) : (p.setPt n x).pt m = if n = m then x else p.pt m := sget_sset ..
theorem Prov.setPt_pt_other {n m : Nat} (h : m ≠ n) (x : PointSt) : (p.setPt n x).pt m = p.pt m := sget_sset_other _ _ _ _ _ h
@[simp] theorem Prov.setPt_station (x : PointSt) : (p.setPt n x).station m = p.station m := rfl
@[simp] theorem Prov.setStation_station (x : StationSt) : (p.setStation n x).station n = x := sget_sset_same ..
theorem Prov.setStation_station_other {n m : Nat} (h : m ≠ n) (x : StationSt) : (p.setStation n x).station m = p.station m :=
  sget_sset_other _ _ _ _ _ h
@[simp] theorem Prov.setStation_pt (x : StationSt) : (p.setStation n x).pt m = p.pt m := rfl

end Tables

/-- Nothing of the pegged data but the engine's points changes. -/
def Prov.OnlyPoints (p q : Prov) : Prop :=
  q.st = { p.st with engine := { p.st.engine with points := q.st.engine.points } } ∧ q.frame = p.frame

theorem Prov.OnlyPoints.refl (p : Prov) : p.OnlyPoints p := ⟨rfl, rfl⟩
theorem Prov.OnlyPoints.trans {p q r : Prov} (h : p.OnlyPoints q) (k : q.OnlyPoints r) : p.OnlyPoints r :=
  ⟨by rw [k.1, h.1], k.2.trans h.2⟩

theorem Prov.setPt_onlyPoints (p : Prov) (n : Nat) (x : PointSt) : p.OnlyPoints (p.setPt n x) := ⟨rfl, rfl⟩

/-! ### Acknowledgement (R283) -/

section Acknowledging
variable (s : State) (actor : Nat)

/-- An acknowledgement changes its point, if that is unacknowledged. -/
theorem ackPoint_pt (p : Prov) (n m : Nat) :
    (ackPoint s actor p n).pt m = if m = n ∧ (p.pt m).unack = true then (p.pt m).acked actor p.frame s.snapStamp else p.pt m := by
  unfold ackPoint
  dsimp only
  by_cases hm : m = n
  · subst hm
    cases (p.pt m).unack <;> simp
  · split <;> simp [hm, Prov.setPt_pt_other p hm]

theorem ackPoint_onlyPoints (p : Prov) (n : Nat) : p.OnlyPoints (ackPoint s actor p n) := by
  unfold ackPoint
  dsimp only
  split
  · exact p.setPt_onlyPoints ..
  · exact .refl p

theorem foldl_ackPoint_onlyPoints (ns : List Nat) (p : Prov) : p.OnlyPoints (ns.foldl (ackPoint s actor) p) :=
  foldl_rel Prov.OnlyPoints .refl .trans _ (ackPoint_onlyPoints s actor) ns p

/-- The acknowledgement of some points acknowledges those of them that are unacknowledged, each once. -/
theorem foldl_ackPoint_pt (ns : List Nat) (p : Prov) (m : Nat) :
    (ns.foldl (ackPoint s actor) p).pt m =
      if m ∈ ns ∧ (p.pt m).unack = true then (p.pt m).acked actor p.frame s.snapStamp else p.pt m := by
  induction ns generalizing p with
  | nil => simp
  | cons n ns ih =>
    have hframe : (ackPoint s actor p n).frame = p.frame := (ackPoint_onlyPoints s actor p n).2
    rw [List.foldl_cons, ih, hframe, ackPoint_pt]
    by_cases hm : m = n ∧ (p.pt m).unack = true
    · rw [if_pos hm, if_neg (by simp [PointSt.acked]), if_pos ⟨List.mem_cons.2 (.inl hm.1), hm.2⟩]
    · have hiff : m ∈ n :: ns ∧ (p.pt m).unack = true ↔ m ∈ ns ∧ (p.pt m).unack = true := by
        rw [List.mem_cons]
        tauto
      simp only [if_neg hm, hiff]

end Acknowledging

theorem effect_eq (b : Bool) : effect b = [if b then 1#8 else 0#8] := by cases b <;> rfl

end Sys2Proof.Machine
end

section
open Sys2Proof Sys2Proof.Machine

/-- Settles O26: an ACK is a fold of acknowledgements over the points that it names; SHELVE and UNSHELVE set their one point. -/
theorem ackAndShelvingAtTheirPeg : Obligations.AckAndShelvingAtTheirPeg := by
  refine ⟨⟨rfl, fun s p i r hpoint => ?ackPoint, fun s p i r hgroup => ?ackGroup⟩, rfl, rfl, fun s p i r =>
    ⟨fun hlong => ?tooLong, fun hfits => ?shelve, ?unshelve⟩⟩
  case ackPoint =>
    have hns : ackTargets p r = [oidIndex r.target] := if_neg (by rw [hpoint]; decide)
    have hpt := foldl_ackPoint_pt s i.actor [oidIndex r.target] p
    refine ⟨[oidIndex r.target].foldl (ackPoint s i.actor) p, by simp [applyAck, hns, effect_eq], ?_, ?_, fun hu => ?_, fun n hn => ?_,
      (foldl_ackPoint_onlyPoints s i.actor _ p).1⟩
    · rw [hpt]; split <;> simp_all [PointSt.acked]
    · rw [hpt]; split <;> simp [PointSt.acked, PointSt.stamp]
    · rw [hpt, if_pos ⟨List.mem_singleton_self _, hu⟩]; rfl
    · rw [hpt, if_neg (by simp [hn])]
  case ackGroup =>
    have hns : ackTargets p r = groupMembers p.st.cfg (oidIndex r.target) := if_pos hgroup
    have hpt := foldl_ackPoint_pt s i.actor (groupMembers p.st.cfg (oidIndex r.target)) p
    refine ⟨(groupMembers p.st.cfg (oidIndex r.target)).foldl (ackPoint s i.actor) p, by simp [applyAck, hns, effect_eq],
      fun n hn => ?_, fun n hn => ?_⟩
    · rw [hpt]; split <;> simp_all [PointSt.acked]
    · rw [hpt, if_neg (by simp [hn])]
  case tooLong => exact if_pos hlong
  case shelve =>
    unfold applyShelve
    dsimp only
    rw [if_neg (Nat.not_lt.2 hfits)]
    refine ⟨_, rfl, rfl, ?_, ?_, rfl, ?_, fun n hn => Prov.setPt_pt_other p hn _⟩
    all_goals
      dsimp only [Prov.ok]
      rw [Prov.setPt_pt]
      split <;> rfl
  case unshelve =>
    unfold applyUnshelve
    dsimp only [Prov.ok]
    refine ⟨?_, effect_eq _, fun n hn => ?_⟩
    · split
      · rw [Prov.setPt_pt]
      · next h => simpa using h
    · split
      · exact Prov.setPt_pt_other p hn _
      · rfl

end

section
/-! SUPPORT. The call-out over a provisional result: who is called in a state, and what a new state leaves (R287-R290). -/

namespace Sys2Proof.Machine

/-- Nothing of the pegged data but the engine's stations changes. -/
def Prov.OnlyStations (p q : Prov) : Prop :=
  q.st = { p.st with engine := { p.st.engine with stations := q.st.engine.stations } } ∧ q.frame = p.frame

theorem Prov.OnlyStations.refl (p : Prov) : p.OnlyStations p := ⟨rfl, rfl⟩
theorem Prov.OnlyStations.trans {p q r : Prov} (h : p.OnlyStations q) (k : q.OnlyStations r) : p.OnlyStations r :=
  ⟨by rw [k.1, h.1], k.2.trans h.2⟩

theorem Prov.setStation_onlyStations (p : Prov) (n : Nat) (x : StationSt) : p.OnlyStations (p.setStation n x) := ⟨rfl, rfl⟩

/-- A station once it is settled who is called. -/
def Prov.recalled (p : Prov) (l : List Nat) (newState : Bool) (n : Nat) : StationSt :=
  { p.station n with
    called := l.contains n, silenced := (p.station n).silenced && !newState && l.contains n
    attending := (p.station n).attending && p.st.engine.callout == 4 && !l.contains n
    callCount := if l.contains n ∧ ¬ (p.station n).called then inc32 (p.station n).callCount else (p.station n).callCount }

section Calling
variable (p : Prov) (l : List Nat) (newState : Bool)

theorem Prov.recalled_setStation {n m : Nat} (h : m ≠ n) (x : StationSt) :
    (p.setStation n x).recalled l newState m = p.recalled l newState m := by
  unfold Prov.recalled
  rw [p.setStation_station_other h]
  rfl

theorem Prov.callStations_eq :
    p.callStations l newState = (List.range 16).foldl (fun q n => q.setStation n (q.recalled l newState n)) p := rfl

theorem Prov.foldl_setStation_onlyStations (x : Prov → Nat → StationSt) (ns : List Nat) :
    p.OnlyStations (ns.foldl (fun q n => q.setStation n (x q n)) p) :=
  foldl_rel Prov.OnlyStations .refl .trans _ (fun q n => q.setStation_onlyStations n (x q n)) ns p

theorem Prov.callStations_onlyStations : p.OnlyStations (p.callStations l newState) := by
  rw [Prov.callStations_eq]
  exact p.foldl_setStation_onlyStations ..

/-- Each of some stations is settled once. -/
theorem Prov.foldl_recalled {ns : List Nat} (hns : ns.Nodup) (m : Nat) :
    (ns.foldl (fun q n => q.setStation n (q.recalled l newState n)) p).station m =
      if m ∈ ns then p.recalled l newState m else p.station m := by
  induction ns generalizing p with
  | nil => simp
  | cons n ns ih =>
    obtain ⟨hn, hns⟩ := List.nodup_cons.1 hns
    rw [List.foldl_cons, ih _ hns]
    by_cases hm : m = n
    · subst hm
      simp [hn]
    · simp [hm, p.recalled_setStation l newState hm, p.setStation_station_other hm]

theorem Prov.callStations_station (m : Nat) :
    (p.callStations l newState).station m = if m < 16 then p.recalled l newState m else p.station m := by
  rw [Prov.callStations_eq, p.foldl_recalled l newState List.nodup_range]
  simp only [List.mem_range]

end Calling

/-! ### A new state of the call-out -/

@[simp] theorem Prov.callEvent_st (s : State) (p : Prov) (cause : Nat) (o : Option Nat) : (Prov.callEvent s p cause o).st = p.st := rfl
@[simp] theorem Prov.callEvent_station (s : State) (p : Prov) (cause : Nat) (o : Option Nat) (m : Nat) :
    (Prov.callEvent s p cause o).station m = p.station m := rfl

/-- A state of the call-out as it begins: no acceptance, and its first frame. -/
def Prov.entering (p : Prov) (st : Nat) : Prov := p.engine (fun e => { e with callout := st, entered := p.frame, accepted := none })

section Entering
variable (s : State) (p : Prov) (st : Nat) (l : List Nat) (cause : Nat) (o : Option Nat)

theorem Prov.enterCall_eq : Prov.enterCall s p st l cause o =
    Prov.callEvent s ((p.entering st).callStations l true) cause (if o.isSome then o else p.soleNew l) := by
  unfold Prov.enterCall Prov.entering
  rfl

/-- A new state changes nothing else of the pegged data but the stations. -/
theorem Prov.enterCall_st : (Prov.enterCall s p st l cause o).st = { p.st with engine := { p.st.engine with
    callout := st, entered := p.frame, accepted := none, stations := (Prov.enterCall s p st l cause o).st.engine.stations } } := by
  rw [Prov.enterCall_eq, Prov.callEvent_st, ((p.entering st).callStations_onlyStations l true).1]
  rfl

theorem Prov.enterCall_station (m : Nat) :
    (Prov.enterCall s p st l cause o).station m = if m < 16 then (p.entering st).recalled l true m else p.station m := by
  rw [Prov.enterCall_eq, Prov.callEvent_station, Prov.callStations_station]
  rfl

theorem Prov.enterCall_called {m : Nat} (hm : m < 16) (hl : m ∈ l) : ((Prov.enterCall s p st l cause o).station m).called = true := by
  rw [Prov.enterCall_station, if_pos hm]
  exact List.contains_iff_mem.2 hl

/-- Nobody's dead-man timer moves with the call-out. -/
theorem Prov.enterCall_dmExpired (m : Nat) : ((Prov.enterCall s p st l cause o).station m).dmExpired = (p.station m).dmExpired := by
  rw [Prov.enterCall_station]
  split <;> rfl

theorem Prov.enterCall_points : (Prov.enterCall s p st l cause o).st.engine.points = p.st.engine.points := by
  rw [Prov.enterCall_st]

theorem Prov.enterCall_pt (m : Nat) : (Prov.enterCall s p st l cause o).pt m = p.pt m := by
  unfold Prov.pt
  rw [Prov.enterCall_points]

end Entering

/-! ### The dead-man timers (R278, R289) -/

@[simp] theorem Prov.setSource_station (p : Prov) (pt bit : Nat) (on : Bool) (m : Nat) :
    (p.setSource pt bit on).station m = p.station m := rfl

theorem Prov.setSource_sources (p : Prov) (pt bit : Nat) (on : Bool) : ((p.setSource pt bit on).pt pt).sources =
    if on then (p.pt pt).sources ||| 1#32 <<< bit else (p.pt pt).sources &&& ~~~(1#32 <<< bit) := by
  unfold Prov.setSource
  dsimp only
  rw [Prov.setPt_pt]

/-! ### Acceptance (R288) -/

/-- The acceptance of a call: in state 4, the station that accepts attends, and the event tells of it. -/
theorem acceptCall_eq (s : State) (p : Prov) (n : Nat) : ∃ q : Prov, q.st.engine.callout = 4
    ∧ acceptCall s p n = Prov.callEvent s (q.setStation n { q.station n with attending := true }) 3 (some n) := by
  refine ⟨(p.engine (fun e => { e with callout := 4, entered := p.frame, accepted := some p.frame })).callStations [] true, ?_, rfl⟩
  rw [(Prov.callStations_onlyStations _ [] true).1]
  rfl

end Sys2Proof.Machine
end

section
open Sys2Proof Sys2Proof.Machine

/-- Settles O27: each applier by the branch that its premises choose. -/
theorem callOutActionsAtTheirPeg : Obligations.CallOutActionsAtTheirPeg := by
  refine ⟨fun s p i r => ⟨fun htarget => ?silence, fun hempty => ?emptyEntry, fun hentry => ?duty, fun henabled hcalled => ?accept,
    fun hcalled hfirst => ?notCalled⟩, fun s p i r x y hx hy ha => ⟨fun hstart hstopped => ?stopped, fun hrun => ?timer⟩⟩
  case silence =>
    unfold applySilence
    rw [if_pos htarget]
    exact ⟨rfl, effect_eq _⟩
  case emptyEntry => exact if_pos hempty
  case duty =>
    unfold applyDutySelect
    dsimp only
    rw [if_neg hentry]
    exact ⟨rfl, by simp [Prov.ok, effect_eq]⟩
  case accept =>
    have happly : applyCallAccept s p i r = (acceptCall s p (oidIndex r.target)).ok (effect true) := by
      simp [applyCallAccept, henabled, hcalled]
    rw [happly]
    obtain ⟨q, hcallout, haccept⟩ := acceptCall_eq s p (oidIndex r.target)
    rw [haccept]
    exact ⟨rfl, rfl, hcallout, congrArg StationSt.attending (q.setStation_station _ _)⟩
  case notCalled =>
    unfold applyCallAccept
    simp [hcalled, hfirst, Prov.refuse]
  case stopped => exact if_pos ⟨hstart, by rw [← hx, hstopped]; rfl⟩
  case timer =>
    have hgoes : ¬ (byteAt r.params 0 ≠ 1 ∧ (p.station (oidIndex r.target)).dmStart.isNone = true) := by
      rintro ⟨hne, hnone⟩
      rw [← hx, Option.isNone_iff_eq_none] at hnone
      exact hrun.elim hne (fun h => h hnone)
    unfold applyDeadman at hy ⊢
    dsimp only at hy ⊢
    rw [if_neg hgoes] at hy ⊢
    refine ⟨rfl, hy.trans ((Prov.setStation_station ..).trans (by rw [hx])), Prov.setSource_sources .., fun n hn => ?_⟩
    exact p.setStation_station_other hn _

end

section
/-! SUPPORT. The rows that take one step of the evaluation over the provisional result (R270-R295, notes/assumptions/8.md). -/

namespace Sys2Proof.Machine

/-- A provisional result with the digest of what it holds (R335). Irreducible: no step is told by its digest. -/
@[irreducible] def Prov.redigested (q : Prov) : Prov := { q with digest := frameDigest q.frame q.st q.applied }

/-- A step over the provisional result changes that result alone. -/
theorem State.onProv_some {s : State} {p : Prov} (h : s.prov = some p) (f : Prov → Prov) :
    s.onProv f = { s with prov := some (f p).redigested } := by
  unfold State.onProv Prov.redigested
  rw [h]

section Digest
variable (q : Prov) (n : Nat)

theorem Prov.redigested_only : q.redigested = { q with digest := q.redigested.digest } := by unfold Prov.redigested; rfl
@[simp] theorem Prov.redigested_st : q.redigested.st = q.st := by rw [Prov.redigested_only]
@[simp] theorem Prov.redigested_sentences : q.redigested.sentences = q.sentences := by rw [Prov.redigested_only]
@[simp] theorem Prov.redigested_pt : q.redigested.pt n = q.pt n := by unfold Prov.pt; rw [Prov.redigested_st]
@[simp] theorem Prov.redigested_station : q.redigested.station n = q.station n := by unfold Prov.station; rw [Prov.redigested_st]

end Digest

/-! ### A step of one point -/

/-- What a point's change puts into the shadow queues is no pegged data (R296, R297). -/
theorem tellPoint_st (s : State) (p : Prov) (n : Nat) : (tellPoint s p n).st = p.st ∧ (tellPoint s p n).frame = p.frame := by
  unfold tellPoint
  dsimp only
  split
  · exact ⟨rfl, rfl⟩
  · split <;> exact ⟨rfl, rfl⟩

theorem tellPoint_pt (s : State) (p : Prov) (n m : Nat) : (tellPoint s p n).pt m = p.pt m := by
  unfold Prov.pt
  rw [(tellPoint_st ..).1]

section Stepping
variable (s : State) (n : Nat) (f : Prov → PointSt → PointSt) (p : Prov)

theorem stepPoint_onlyPoints : p.OnlyPoints (stepPoint s n f p) := by
  unfold stepPoint
  dsimp only
  split
  · exact .refl p
  · exact (p.setPt_onlyPoints ..).trans ⟨by rw [(tellPoint_st ..).1], (tellPoint_st ..).2⟩

/-- A step of one point gives it its new state and leaves every other. -/
theorem stepPoint_pt (m : Nat) : (stepPoint s n f p).pt m = if m = n then f p (p.pt n) else p.pt m := by
  unfold stepPoint
  dsimp only
  split
  · next h => split <;> simp [*]
  · rw [tellPoint_pt, p.setPt_pt_ite]
    simp only [eq_comm]

theorem stepPoint_pt_same : (stepPoint s n f p).pt n = f p (p.pt n) := by rw [stepPoint_pt, if_pos rfl]
theorem stepPoint_pt_other {m : Nat} (h : m ≠ n) : (stepPoint s n f p).pt m = p.pt m := by rw [stepPoint_pt, if_neg h]

end Stepping

/-! ### The steps of a point (R273, R274, R282) -/

section Points
variable {s : State} {p : Prov} {n : Nat} {x : PointSt}

/-- The sensor-fault override begins (R273). -/
theorem sensorFaultPt_begins (hkind : p.c cPOINT n 0x30 ∉ [0, 8, 9]) (hrun : 3 ≤ x.unkRun) (hfault : x.sensorFault = false)
    (hinhibited : x.inhibited = false) : (sensorFaultPt s p n x).sensorFault = true ∧ (sensorFaultPt s p n x).active = true
      ∧ (sensorFaultPt s p n x).sub = 10 := by
  have hjudged : ¬ (p.c cPOINT n 0x30 = 0 ∨ p.c cPOINT n 0x30 = 8 ∨ p.c cPOINT n 0x30 = 9) := by simpa using hkind
  unfold sensorFaultPt
  dsimp only
  rw [if_neg hjudged, if_pos ⟨hrun, by simp [hfault], by simp [hinhibited]⟩]
  split
  · exact ⟨rfl, ‹_›, rfl⟩
  · exact ⟨rfl, rfl, rfl⟩

theorem onDelayPt_expired (hcond : x.cond = true) (hactive : x.active = false) (hinhibited : x.inhibited = false)
    (hheld : heldFor p x (p.c cPOINT n 0x20) = true) : onDelayPt s p n x =
      x.activate (p.c cPOINT n 0x30) p.frame (changeStamp s p n (p.c cPOINT n 0x20)) 0 :=
  if_pos ⟨hcond, by simp [hactive], by simp [hinhibited], hheld⟩

theorem offDelayPt_expired (hcond : x.cond = false) (hactive : x.active = true) (hfault : x.sensorFault = false)
    (hheld : heldFor p x (p.c cPOINT n 0x21) = true) : offDelayPt s p n x =
      x.deactivate p.frame (changeStamp s p n (p.c cPOINT n 0x21)) 0 :=
  if_pos ⟨by simp [hcond], hactive, by simp [hfault], hheld⟩

/-- The end of shelving announces a point whose condition is true, and leaves one quiet whose condition is not (R282). -/
theorem announcePt_unshelved (hshelved : x.shelved = true) (hend : frameGe p.frame x.shelveEnd = true) :
    let y := announcePt s p n x (shelveExpiryPt s p n x)
    y.shelved = false ∧ (x.cond = true → x.inhibited = false → y.active = true ∧ y.unack = true)
      ∧ (x.cond = false → x.sensorFault = false → y.active = x.active) := by
  have hends : shelveExpiryPt s p n x = { x.stamp p.frame s.snapStamp 3 with shelved := false, shelveEnd := 0 } :=
    if_pos ⟨hshelved, hend⟩
  intro y
  unfold y announcePt
  rw [hends]
  split
  · next h =>
    refine ⟨rfl, fun _ _ => ⟨rfl, rfl⟩, fun hcond hfault => ?_⟩
    simp [PointSt.stamp, hcond, hfault] at h
  · next h =>
    refine ⟨rfl, fun hcond hinhibited => ?_, fun _ _ => rfl⟩
    simp [PointSt.stamp, hcond, hinhibited, hshelved] at h

end Points

/-- A rule is judged, and then the inhibition of the points that it targets ends or begins (R280, R281). -/
def rearmed (s : State) (p : Prov) (rule : Nat) : Prov :=
  ((evalRule s p rule).targetsOf rule).foldl (fun q n => stepPoint s n (fun q x => inhibitPt s q n x) q) (evalRule s p rule)

theorem rearmed_onlyPoints (s : State) (p : Prov) (rule : Nat) : (evalRule s p rule).OnlyPoints (rearmed s p rule) :=
  foldl_rel Prov.OnlyPoints .refl .trans _ (fun q n => stepPoint_onlyPoints s n _ q) _ _

/-! ### Rates (R270) -/

theorem PointSt.setCond_rate (x : PointSt) (c : Bool) (f : Frame) : (x.setCond c f).rate = x.rate := by
  unfold PointSt.setCond
  split <;> rfl

/-- At a hundredth frame the sample goes in front of the ring, whatever the slope shows. -/
theorem evalRate_rate {p : Prov} (h : p.frame.toNat % 100 = 0) (s : State) (n : Nat) (x : PointSt) (q : Src) :
    (evalRate s p n x q).rate = ((q.eng, q.quality) :: x.rate).take 61 := by
  unfold evalRate
  rw [if_neg (not_not.2 h)]
  dsimp only
  split
  · rfl
  · split <;> exact PointSt.setCond_rate ..

theorem rateAgain_onlyPoints (s : State) (p : Prov) (n : Nat) : p.OnlyPoints (rateAgain s p n) := by
  unfold rateAgain
  split
  · exact .refl p
  · exact p.setPt_onlyPoints ..

/-- Sampling again and again gives the one sample over the ring pegged before. -/
theorem foldl_rateAgain_rate {s : State} {n : Nat} (ns : List Nat) {p : Prov} (hframe : p.frame.toNat % 100 = 0)
    (hkind : p.c cPOINT n 0x30 = 5) (hn : n ∈ ns ∨
      (p.pt n).rate = (((s.src (p.srcOid n)).eng, (s.src (p.srcOid n)).quality) :: (s.pointSt n).rate).take 61) :
    ((ns.foldl (rateAgain s) p).pt n).rate =
      (((s.src (p.srcOid n)).eng, (s.src (p.srcOid n)).quality) :: (s.pointSt n).rate).take 61 := by
  induction ns generalizing p with
  | nil => simpa using hn
  | cons m ns ih =>
    obtain ⟨hst, hf⟩ := rateAgain_onlyPoints s p m
    have hc (cls idx attr : Nat) : (rateAgain s p m).c cls idx attr = p.c cls idx attr := by unfold Prov.c; rw [hst]
    have hsrc : (rateAgain s p m).srcOid n = p.srcOid n := congrArg (BitVec.ofNat 32) (hc ..)
    rw [List.foldl_cons, ← hsrc]
    refine ih (by rw [hf]; exact hframe) (by rw [hc]; exact hkind) ?_
    rw [hsrc]
    by_cases hm : n = m
    · subst hm
      right
      unfold rateAgain
      rw [if_neg (not_not.2 hkind), Prov.setPt_pt]
      exact evalRate_rate hframe ..
    · refine hn.imp (fun h => (List.mem_cons.1 h).resolve_left hm) (fun h => ?_)
      unfold rateAgain
      split
      · exact h
      · rw [p.setPt_pt_other hm]
        exact h

/-! ### The call-out (R286-R289) -/

theorem Prov.dutyStation_lt {p : Prov} {d : Nat} (h : p.dutyStation = some d) : d < 16 := by
  unfold Prov.dutyStation at h
  split at h
  · cases h
  · dsimp only at h
    split at h
    · next hd => cases h; exact hd.1
    · cases h

theorem Prov.mem_allEnabled_lt {p : Prov} {n : Nat} (h : n ∈ p.allEnabled) : n < 16 := List.mem_range.1 (List.mem_filter.1 h).1

/-- A call starts at the duty station, or where there is none at every enabled one (R287). -/
theorem Prov.startCall_spec (s : State) (p : Prov) (cause : Nat) :
    let q := Prov.startCall s p cause
    q.st.engine.entered = p.frame ∧ q.st.engine.accepted = none ∧ q.st.engine.points = p.st.engine.points
    ∧ (∀ d, p.dutyStation = some d → q.st.engine.callout = 2 ∧ (q.station d).called = true)
    ∧ (p.dutyStation = none → q.st.engine.callout = 3 ∧ ∀ n ∈ p.allEnabled, (q.station n).called = true) := by
  intro q
  unfold q Prov.startCall
  cases hduty : p.dutyStation with
  | some d =>
    refine ⟨by rw [Prov.enterCall_st], by rw [Prov.enterCall_st], Prov.enterCall_points .., fun k hk => ?_, nofun⟩
    cases hk
    exact ⟨by rw [Prov.enterCall_st], Prov.enterCall_called _ _ _ _ _ _ (Prov.dutyStation_lt hduty) (List.mem_singleton_self d)⟩
  | none =>
    refine ⟨by rw [Prov.enterCall_st], by rw [Prov.enterCall_st], Prov.enterCall_points .., nofun, fun _ =>
      ⟨by rw [Prov.enterCall_st], fun n hn => Prov.enterCall_called _ _ _ _ _ _ (Prov.mem_allEnabled_lt hn) hn⟩⟩

/-- On the first frame of a minute the scheduled entry becomes duty, if there is one (R286). -/
theorem Prov.rosterStep_due {s : State} {p : Prov} (h : p.st.engine.lastMinute ≠ some s.eave.minute) :
    (p.rosterStep s).st = { p.st with engine := { p.st.engine with
      lastMinute := some s.eave.minute, duty := (p.scheduled s.eave.weekday s.eave.minute).or p.st.engine.duty } } := by
  unfold Prov.rosterStep
  dsimp only
  rw [if_neg h]
  split
  · next hn =>
    rw [show p.scheduled s.eave.weekday s.eave.minute = some _ from hn]
    rfl
  · next hn =>
    rw [show p.scheduled s.eave.weekday s.eave.minute = none from hn]
    rfl

/-- The warning of a station's timer is noted at the station and told (R289). -/
theorem Prov.deadmanWarnStep_due {s : State} {p : Prov} {n : Nat} {f : Frame} (hruns : (p.station n).dmStart = some f)
    (hwarned : (p.station n).dmWarned = false) (hexpired : (p.station n).dmExpired = false)
    (hdue : 100 * p.c cDEVICE 0 0x2E ≤ framesSince p.frame f) : p.deadmanWarnStep s n =
      Prov.callEvent s { p.setStation n { p.station n with dmWarned := true } with stationChanged := p.stationChanged ++ [n] } 5 (some n) := by
  unfold Prov.deadmanWarnStep
  dsimp only
  rw [hruns]
  exact if_pos ⟨by simp [hwarned], by simp [hexpired], hdue⟩

/-- A station's timer expires: its bit of the timers' point. -/
def Prov.deadmanMarked (p : Prov) (n : Nat) : Prov :=
  (p.setStation n { p.station n with dmExpired := true, dmWarned := true }).setSource 0x811 n true

/-- The timers' point once a timer has expired: active at once, unless it is inhibited (R289). -/
def Prov.deadmanPoint (p : Prov) (s : State) (n : Nat) : PointSt :=
  let y := ((p.deadmanMarked n).pt 0x811).setCond true p.frame
  if y.active ∨ y.inhibited then y else y.activate 9 p.frame s.snapStamp 0

/-- What the expiry of a station's timer changes before the call. -/
def Prov.deadmanExpired (p : Prov) (s : State) (n : Nat) : Prov :=
  { (p.deadmanMarked n).setPt 0x811 (p.deadmanPoint s n) with stationChanged := p.stationChanged ++ [n] }

theorem PointSt.setCond_sources (x : PointSt) (c : Bool) (f : Frame) : (x.setCond c f).sources = x.sources := by
  unfold PointSt.setCond
  split <;> rfl

theorem Prov.deadmanPoint_sources (p : Prov) (s : State) (n : Nat) :
    (p.deadmanPoint s n).sources = (p.pt 0x811).sources ||| 1#32 <<< n := by
  have hmarked : (((p.deadmanMarked n).pt 0x811).setCond true p.frame).sources = (p.pt 0x811).sources ||| 1#32 <<< n :=
    (PointSt.setCond_sources ..).trans (Prov.setSource_sources _ 0x811 n true)
  unfold Prov.deadmanPoint
  dsimp only
  split
  · exact hmarked
  · exact hmarked

theorem Prov.deadmanExpired_spec (p : Prov) (s : State) {n : Nat} (hn : n < 16) :
    ((p.deadmanExpired s n).station n).dmExpired = true ∧ ((p.deadmanExpired s n).pt 0x811).sources.getLsbD n = true
    ∧ ∀ m, m ≠ 0x811 → (p.deadmanExpired s n).pt m = p.pt m := by
  have hpoint : (p.deadmanExpired s n).pt 0x811 = p.deadmanPoint s n := Prov.setPt_pt ..
  refine ⟨congrArg StationSt.dmExpired (p.setStation_station n _), ?_, fun m hm => ?_⟩
  · rw [hpoint, Prov.deadmanPoint_sources]
    simp
    omega
  · exact ((p.deadmanMarked n).setPt_pt_other hm _).trans (Prov.setPt_pt_other _ hm _)

/-- The expiry of a timer that has not expired calls every enabled station, or tells of itself where they are called (R289). -/
theorem Prov.deadmanExpiryStep_due {s : State} {p : Prov} {n : Nat} {f : Frame} (hruns : (p.station n).dmStart = some f)
    (hexpired : (p.station n).dmExpired = false) (hdue : 100 * p.c cDEVICE 0 0x2D ≤ framesSince p.frame f) :
    p.deadmanExpiryStep s n =
      if (p.deadmanExpired s n).st.engine.callout = 3 then Prov.callEvent s (p.deadmanExpired s n) 6 (some n)
      else Prov.enterCall s (p.deadmanExpired s n) 3 (p.deadmanExpired s n).allEnabled 6 (some n) := by
  have hgoes : ¬ (p.station n).dmExpired ∧ 100 * p.c cDEVICE 0 0x2D ≤ framesSince p.frame f := ⟨by simp [hexpired], hdue⟩
  unfold Prov.deadmanExpiryStep
  dsimp only
  split
  · next g hg =>
    cases hruns.symm.trans hg
    exact if_pos hgoes
  · next hnone => cases hruns.symm.trans hnone

theorem Prov.deadmanExpiryStep_spec {s : State} {p : Prov} {n : Nat} {f : Frame} (hn : n < 16) (hruns : (p.station n).dmStart = some f)
    (hexpired : (p.station n).dmExpired = false) (hdue : 100 * p.c cDEVICE 0 0x2D ≤ framesSince p.frame f) :
    let q := p.deadmanExpiryStep s n
    (q.station n).dmExpired = true ∧ q.st.engine.callout = 3 ∧ (q.pt 0x811).sources.getLsbD n = true
    ∧ ∀ m, m ≠ 0x811 → q.pt m = p.pt m := by
  obtain ⟨hstation, hpoint, hother⟩ := p.deadmanExpired_spec s hn
  dsimp only
  rw [Prov.deadmanExpiryStep_due hruns hexpired hdue]
  generalize p.deadmanExpired s n = q at hstation hpoint hother ⊢
  split
  · next hcall => exact ⟨hstation, hcall, hpoint, hother⟩
  · refine ⟨(Prov.enterCall_dmExpired ..).trans hstation, by rw [Prov.enterCall_st], ?_, fun m hm => (Prov.enterCall_pt ..).trans (hother m hm)⟩
    rw [Prov.enterCall_pt]
    exact hpoint

/-! ### The bridge (R294, R295) -/

/-- A silence that has ended is forgotten, and the alert is as the point stands (R295). -/
theorem alertStep_silenceOver {p : Prov} {n : Nat} {f : Frame} (hsilence : (p.pt n).silenceEnd = some f)
    (hover : frameGe p.frame f = true) : ((alertStep p n).pt n).silenceEnd = none ∧ ((alertStep p n).pt n).alert = p.alertOf n
      ∧ ((alertStep p n).pt n).active = (p.pt n).active ∧ ∀ m, m ≠ n → (alertStep p n).pt m = p.pt m := by
  unfold alertStep
  extract_lets x a quiet
  have hquiet : quiet = none := by simp [quiet, x, hsilence, hover]
  have hchanged : quiet ≠ x.silenceEnd := by simp [hquiet, x, hsilence]
  rw [if_neg hchanged]
  split
  · next halert =>
    rw [Prov.setPt_pt]
    exact ⟨hquiet, halert.symm, rfl, fun m hm => p.setPt_pt_other hm _⟩
  · have hset (y : PointSt) : ((p.setPt n y).sendAlf n).pt n = y := p.setPt_pt n y
    rw [hset]
    exact ⟨hquiet, rfl, rfl, fun m hm => p.setPt_pt_other hm _⟩

theorem Prov.alcStep_due {s : State} {p : Prov} (halert : ∃ n ∈ p.pointList, (p.pt n).alert ≠ 0)
    (hdue : 3000 ≤ framesSince p.frame s.hw.lastAlc) (hnone : ∀ x ∈ p.sentences, x.kind ≠ 1) :
    p.alcStep s = { p with sentences := p.sentences ++ [{ kind := 1, point := 0, text := [] }] } :=
  if_pos ⟨by simpa using halert, hdue, by simpa using hnone⟩

theorem alfRepeatStep_due {p : Prov} {n : Nat} (halert : (p.pt n).alert ≠ 0) (hdue : 6000 ≤ framesSince p.frame (p.pt n).alfFrame) :
    alfRepeatStep p n = (p.setPt n { p.pt n with alfFrame := p.frame }).sendAlf n :=
  if_pos ⟨halert, hdue⟩

end Sys2Proof.Machine
end

section
open Sys2Proof Sys2Proof.Machine

/-- Settles O53: each row takes its step over the provisional result, whose digest follows; a step of one point is told by
stepPoint_pt, one of the call-out by the state that it enters. -/
theorem engineStepsComplete : Obligations.EngineStepsComplete := by
  intro s p hp
  have row {i : Instr} {f : Prov → Prov} (h : exec i s = .next (s.onProv f)) :
      exec i s = .next { s with prov := some (f p).redigested } := h.trans (congrArg _ (State.onProv_some hp f))
  have point {n : Nat} {f : Prov → PointSt → PointSt} : (stepPoint s n f p).redigested.pt n = f p (p.pt n) :=
    ((stepPoint s n f p).redigested_pt n).trans (stepPoint_pt_same ..)
  have others {n m : Nat} {f : Prov → PointSt → PointSt} (h : m ≠ n) : (stepPoint s n f p).redigested.pt m = p.pt m :=
    ((stepPoint s n f p).redigested_pt m).trans (stepPoint_pt_other _ _ _ _ h)
  refine ⟨fun n hrun hkind hfault hinhibited => ⟨_, row rfl, ?fault⟩, fun n hcond hactive hinhibited hheld => ⟨_, row rfl, ?onDelay⟩,
    fun n hcond hactive hfault hheld => ⟨_, row rfl, ?offDelay⟩, fun n hshelved hend => ⟨_, row rfl, ?unshelved⟩,
    fun n => ⟨_, row (f := fun p => rearmed s p n) rfl, ?rearm⟩, ⟨_, row rfl, ?rate⟩, fun hminute => ⟨_, row rfl, ?roster⟩,
    fun hstate hdue => ⟨_, row rfl, ?callDelay⟩, fun hstate hdue => ⟨_, row rfl, ?escalation⟩,
    fun f haccepted hstate hany hdue => ⟨_, row rfl, ?attendance⟩,
    fun n f hruns hexpired => ⟨fun hwarned hdue => ⟨_, row rfl, ?warning⟩, fun hdue => ⟨_, row rfl, ?expiry⟩⟩,
    fun k o => ⟨_, row rfl, ?force⟩, fun n f hsilence hover => ⟨_, row rfl, ?silence⟩, fun n halert hdue => ⟨_, row rfl, ?alf⟩,
    fun halert hdue hnone => ⟨_, row rfl, ?alc⟩⟩
  case fault =>
    rw [point]
    obtain ⟨hf, ha, hs⟩ := sensorFaultPt_begins (s := s) hkind hrun hfault hinhibited
    exact ⟨hf, ha, hs, fun m => others⟩
  case onDelay =>
    rw [point, onDelayPt_expired hcond hactive hinhibited hheld]
    exact ⟨rfl, rfl, rfl, rfl, fun m => others⟩
  case offDelay =>
    rw [point, offDelayPt_expired hcond hactive hfault hheld]
    exact ⟨rfl, rfl, fun m => others⟩
  case unshelved =>
    rw [point]
    obtain ⟨hshelf, hannounced, hquiet⟩ := announcePt_unshelved (s := s) (n := n.val) hshelved hend
    exact ⟨hshelf, hannounced, hquiet, fun m => others⟩
  case rearm =>
    rw [Prov.redigested_st, (rearmed_onlyPoints s p n).1]
    exact ⟨rfl, sget_sset_same .., fun m hm => sget_sset_other _ _ _ _ _ hm⟩
  case rate =>
    refine ⟨fun h => ?_, fun h m hm hkind => ?_⟩
    · rw [Prov.redigested_st, if_neg h]
    · rw [Prov.redigested_pt, if_pos h]
      exact foldl_rateAgain_rate p.pointList h hkind (.inl hm)
  case roster =>
    rw [Prov.redigested_st, Prov.rosterStep_due hminute]
    refine ⟨rfl, ?_, rfl⟩
    cases p.scheduled s.eave.weekday s.eave.minute <;> rfl
  case callDelay =>
    obtain ⟨hentered, -, hpoints, hduty, hall⟩ := Prov.startCall_spec s p 1
    simp only [Prov.redigested_st, Prov.redigested_station]
    rw [Prov.callDelayStep, if_pos ⟨hstate, hdue⟩]
    exact ⟨hentered, hduty, hall, hpoints⟩
  case escalation =>
    simp only [Prov.redigested_st, Prov.redigested_station]
    rw [Prov.escalationStep, if_pos ⟨hstate, hdue⟩]
    exact ⟨by rw [Prov.enterCall_st], by rw [Prov.enterCall_st],
      fun n hn => Prov.enterCall_called _ _ _ _ _ _ (Prov.mem_allEnabled_lt hn) hn, Prov.enterCall_points ..⟩
  case attendance =>
    obtain ⟨-, haccept, hpoints, hduty, hall⟩ := Prov.startCall_spec s p 1
    have hstep : p.attendanceStep s = Prov.startCall s p 1 := by
      unfold Prov.attendanceStep
      rw [haccepted]
      exact if_pos ⟨hstate, hany, hdue⟩
    rw [Prov.redigested_st, hstep]
    refine ⟨haccept, ?_, hpoints⟩
    cases h : p.dutyStation with
    | some d => exact (hduty d h).1
    | none => exact (hall h).1
  case warning =>
    simp only [Prov.redigested_station]
    rw [Prov.deadmanWarnStep_due hruns hwarned hexpired hdue]
    exact ⟨congrArg StationSt.dmWarned (p.setStation_station n _), fun m hm => p.setStation_station_other hm _⟩
  case expiry =>
    simp only [Prov.redigested_station, Prov.redigested_st, Prov.redigested_pt]
    exact Prov.deadmanExpiryStep_spec n.isLt hruns hexpired hdue
  case force =>
    rw [Prov.redigested_st]
    exact ⟨rfl, rfl⟩
  case silence =>
    simp only [Prov.redigested_pt, hsilence, hover, if_true]
    exact alertStep_silenceOver hsilence hover
  case alf =>
    simp only [Prov.redigested_pt, Prov.redigested_sentences, alfRepeatStep_due halert hdue]
    exact ⟨congrArg PointSt.alfFrame (p.setPt_pt n _), rfl, fun m hm => p.setPt_pt_other hm _⟩
  case alc =>
    rw [Prov.redigested_st, Prov.redigested_sentences, Prov.alcStep_due halert hdue hnone]
    exact ⟨rfl, rfl⟩

end

section
/-! SUPPORT. The seal ledger along a step (R304, R315): written slots stay, and what waits for a slot or is being written fits. The
operations of KeepsCore leave it alone; here stand those that write it. -/

namespace Sys2Proof.Machine

/-- From a recorder to the slots of a ledger, the entries that wait for it and how many of them are being written: written slots stay,
and if the slots were enough and no more was being written than waited, so it is still (R315). -/
structure LedgerStep (r : Recorder) (slots : List LedgerSlot) (waiting : List (List Byte)) (writing : Nat) : Prop where
  grows : r.ledger <+: slots
  fits : r.ledger.length + r.ledgerQueue.length ≤ 63 ∧ r.ledgerWriting ≤ r.ledgerQueue.length →
    slots.length + waiting.length ≤ 63 ∧ writing ≤ waiting.length

/-- The ledger of a later recorder, as LedgerStep relates it to an earlier one. -/
@[simp] abbrev Recorder.StepsLedger (r q : Recorder) : Prop := LedgerStep r q.ledger q.ledgerQueue q.ledgerWriting

/-- The same of two states. -/
@[simp] abbrev State.StepsLedger (s u : State) : Prop := s.recorder.StepsLedger u.recorder

@[simp] theorem LedgerStep.refl (r : Recorder) : LedgerStep r r.ledger r.ledgerQueue r.ledgerWriting := ⟨List.prefix_refl _, id⟩

theorem Recorder.StepsLedger.trans {r q : Recorder} {l : List LedgerSlot} {w : List (List Byte)} {n : Nat} (h : r.StepsLedger q)
    (k : LedgerStep q l w n) : LedgerStep r l w n :=
  ⟨h.grows.trans k.grows, k.fits ∘ h.fits⟩

@[simp] theorem LedgerStep.ite {p : Prop} [Decidable p] {r : Recorder} {l l' : List LedgerSlot} {w w' : List (List Byte)} {n n' : Nat} :
    LedgerStep r (if p then l else l') (if p then w else w') (if p then n else n') ↔
      (p → LedgerStep r l w n) ∧ (¬ p → LedgerStep r l' w' n') := by
  split <;> simp [*]

@[simp] theorem foldl_stepsLedger {β : Type} {f : State → β → State} (hf : ∀ (a : State) (x : β), a.StepsLedger (f a x)) (l : List β)
    {r : Recorder} {s : State} (h : r.StepsLedger s.recorder) : r.StepsLedger (l.foldl f s).recorder :=
  h.trans (foldl_rel State.StepsLedger (fun _ => .refl _) .trans f hf l s)

/-! ### Writes of the recorder (R303-R307, R313) -/

theorem Recorder.KeepsLedger.trans {r q u : Recorder} (h : r.KeepsLedger q) (k : q.KeepsLedger u) : r.KeepsLedger u :=
  ⟨k.1.trans h.1, k.2.1.trans h.2.1, k.2.2.trans h.2.2⟩

@[simp] theorem Recorder.advance_keepsLedger (r : Recorder) : r.KeepsLedger r.advance := by
  unfold Recorder.advance
  split
  · simp
  · split <;> simp
@[simp] theorem Recorder.push_keepsLedger (r : Recorder) (b : Option Rec) (n : Nat) : r.KeepsLedger (r.push b n) := by
  simp [Recorder.push]
@[simp] theorem Recorder.pushSole_keepsLedger (r : Recorder) (b : Option Rec) (n : Nat) : r.KeepsLedger (r.pushSole b n) := by
  simp [Recorder.pushSole]
@[simp] theorem Recorder.remove_keepsLedger (r : Recorder) (n : Nat) : r.KeepsLedger (r.remove n) := by simp [Recorder.remove]
@[simp] theorem Recorder.commit_keepsLedger (r : Recorder) (x : Rec) : r.KeepsLedger (r.commit x) := by
  unfold Recorder.commit
  dsimp only
  (repeat' split) <;> simp
@[simp] theorem Recorder.tear_keepsLedger (r : Recorder) (n : Nat) : r.KeepsLedger (r.tear n) := by simp [Recorder.tear]
@[simp] theorem Recorder.copyOne_keepsLedger (r : Recorder) (n : Nat) : r.KeepsLedger (r.copyOne n) := by
  unfold Recorder.copyOne
  split <;> simp
@[simp] theorem Recorder.foldl_keepsLedger {β : Type} {f : Recorder → β → Recorder} (h : ∀ a x, Recorder.KeepsLedger a (f a x))
    (l : List β) (r : Recorder) : r.KeepsLedger (l.foldl f r) :=
  foldl_rel Recorder.KeepsLedger (fun _ => ⟨rfl, rfl, rfl⟩) .trans f h l r
@[simp] theorem Recorder.compact_keepsLedger (r : Recorder) (n : Nat) : r.KeepsLedger (r.compact n) := by
  unfold Recorder.compact
  extract_lets r1
  have h1 : r.KeepsLedger r1 := by
    unfold r1
    split
    · simp
    · split <;> simp
  simp only [Recorder.KeepsLedger] at h1
  clear_value r1
  split
  · simp [h1]
  · dsimp only
    split <;> simp [h1]

/-! ### Entries of the ledger -/

/-- Entries that are committed stand behind the written slots, one each. -/
theorem Recorder.foldl_ledgerCommit (es : List (List Byte)) (r : Recorder) :
    r.ledger <+: (es.foldl Recorder.ledgerCommit r).ledger
    ∧ (es.foldl Recorder.ledgerCommit r).ledger.length = r.ledger.length + es.length := by
  induction es generalizing r with
  | nil => exact ⟨List.prefix_refl _, rfl⟩
  | cons e es ih =>
    obtain ⟨hgrows, hlength⟩ := ih (r.ledgerCommit e)
    refine ⟨(List.prefix_append ..).trans hgrows, hlength.trans ?_⟩
    simp only [Recorder.ledgerCommit, List.length_append, List.length_cons, List.length_nil]
    omega

/-- Waiting entries move into slots, and no write is left under way: what was enough is enough. -/
theorem LedgerStep.of_moved {r : Recorder} {slots : List LedgerSlot} {waiting : List (List Byte)} (hgrows : r.ledger <+: slots)
    (hlength : r.ledgerWriting ≤ r.ledgerQueue.length → slots.length + waiting.length ≤ r.ledger.length + r.ledgerQueue.length) :
    LedgerStep r slots waiting 0 :=
  ⟨hgrows, fun ⟨hfit, hwriting⟩ => ⟨(hlength hwriting).trans hfit, Nat.zero_le _⟩⟩

section Operations
variable {r : Recorder} {s : State}

/-- A break waits for a slot while there is one (R315). -/
@[simp] theorem State.ledgerBreak_stepsLedger (kind breaker entry : Nat) (x : Seal) (h : r.StepsLedger s.recorder) :
    r.StepsLedger (s.ledgerBreak kind breaker entry x).2.recorder := by
  refine h.trans ?_
  unfold State.ledgerBreak
  dsimp only
  split
  · next hroom =>
    refine ⟨List.prefix_refl _, fun ⟨_, hwriting⟩ => ?_⟩
    simp only [List.length_append, List.length_singleton]
    omega
  · exact .refl _

/-- The writes of a slot complete. -/
@[simp] theorem State.commitWrites_stepsLedger (h : r.StepsLedger s.recorder) : r.StepsLedger s.commitWrites.recorder := by
  refine h.trans ?_
  obtain ⟨hgrows, hlength⟩ := s.recorder.foldl_ledgerCommit (s.recorder.ledgerQueue.take s.recorder.ledgerWriting)
  have h : LedgerStep s.recorder _ (s.recorder.ledgerQueue.drop s.recorder.ledgerWriting) 0 := .of_moved hgrows fun _ => by
    rw [hlength, List.length_take, List.length_drop]
    omega
  simpa [State.commitWrites] using h

/-- The writes of a slot are taken from those that wait. -/
@[simp] theorem State.startWrites_stepsLedger (h : r.StepsLedger s.recorder) : r.StepsLedger s.startWrites.recorder := by
  refine h.trans ?_
  unfold State.startWrites
  dsimp only
  split
  · exact .refl _
  · have h (n : Nat) : LedgerStep s.recorder s.recorder.ledger s.recorder.ledgerQueue (min n s.recorder.ledgerQueue.length) :=
      ⟨List.prefix_refl _, fun ⟨hfit, _⟩ => ⟨hfit, Nat.min_le_right ..⟩⟩
    simp [h]

/-- A cut completes some of the writes under way, may tear the next one, and begins no more (R304). -/
@[simp] theorem State.cutWrites_stepsLedger (h : r.StepsLedger s.recorder) : r.StepsLedger s.cutWrites.recorder := by
  refine h.trans ?_
  unfold State.cutWrites
  extract_lets _ total
  split
  · exact .refl _
  · split
    extract_lets whole nl committed rest nr recorded done
    split
    extract_lets torn ledgerTorn r1 recordTorn
    obtain ⟨hgrows, hlength⟩ := s.recorder.foldl_ledgerCommit (s.recorder.ledgerQueue.take nl)
    obtain ⟨hledger, hqueue, -⟩ := Recorder.foldl_keepsLedger Recorder.commit_keepsLedger (s.recorder.queue.take nr) rest
    have hmoved : done.ledger.length = s.recorder.ledger.length + min nl s.recorder.ledgerQueue.length :=
      (congrArg List.length hledger).trans (hlength.trans (by rw [List.length_take]))
    have hleft : done.ledgerQueue.length = s.recorder.ledgerQueue.length - nl :=
      (congrArg List.length hqueue).trans List.length_drop
    have hprefix : s.recorder.ledger <+: done.ledger := hgrows.trans (hledger ▸ List.prefix_refl _)
    have hdone : LedgerStep s.recorder done.ledger done.ledgerQueue 0 := .of_moved hprefix fun _ => by omega
    split
    · exact hdone
    · split
      · next hnext =>
        have htorn (slot : LedgerSlot) : LedgerStep s.recorder (done.ledger ++ [slot]) (done.ledgerQueue.drop 1) 0 :=
          .of_moved (hprefix.trans (List.prefix_append ..)) fun hwriting => by
            have hnl : nl < s.recorder.ledgerWriting := hnext
            simp only [List.length_append, List.length_drop, List.length_singleton, hmoved, hleft]
            omega
        simpa [ledgerTorn] using htorn _
      · simpa [recordTorn, r1] using hdone

/-! ### Blocks, islands and domains -/

@[simp] theorem State.blockLoses_stepsLedger (block : Nat) (h : r.StepsLedger s.recorder) :
    r.StepsLedger (s.blockLoses block).recorder := by
  unfold State.blockLoses
  split <;> simp [h]
@[simp] theorem State.wrapper_stepsLedger (block : Nat) (own : Req) (h : r.StepsLedger s.recorder) :
    r.StepsLedger (s.wrapper block own).2.recorder := by
  simp [State.wrapper, h]
@[simp] theorem State.startBlock_stepsLedger (b : BlockReset) (mode : Nat) (h : r.StepsLedger s.recorder) :
    r.StepsLedger (s.startBlock b mode).recorder := by
  simp [State.startBlock, h]
@[simp] theorem State.runBlockImmediate_stepsLedger (t : Tag) (h : r.StepsLedger s.recorder) :
    r.StepsLedger (s.runBlockImmediate t).recorder := by
  simp [State.runBlockImmediate, h]
@[simp] theorem State.startNext_stepsLedger (block : Nat) (h : r.StepsLedger s.recorder) :
    r.StepsLedger (s.startNext block).recorder := by
  unfold State.startNext
  split <;> simp [h]
@[simp] theorem State.beginDomain_stepsLedger (q : DomainReq) (h : r.StepsLedger s.recorder) :
    r.StepsLedger (s.beginDomain q).recorder := by
  simp [State.beginDomain, h]
@[simp] theorem State.serveDomain_stepsLedger (d n : Nat) (h : r.StepsLedger s.recorder) :
    r.StepsLedger (State.serveDomain d n s).recorder := by
  induction n generalizing s with
  | zero => exact h
  | succ n ih =>
    unfold State.serveDomain
    split
    · exact h
    · split
      · exact h
      · split
        · exact ih (by simp [h])
        · exact State.beginDomain_stepsLedger _ h
@[simp] theorem State.serveDomains_stepsLedger (ds : List Nat) (h : r.StepsLedger s.recorder) :
    r.StepsLedger (s.serveDomains ds).recorder := by
  simp [State.serveDomains, h]
@[simp] theorem State.switchDomains_stepsLedger (h : r.StepsLedger s.recorder) : r.StepsLedger s.switchDomains.recorder := by
  simp [State.switchDomains, h]
@[simp] theorem State.afterLock_stepsLedger (i : Nat) (h : r.StepsLedger s.recorder) : r.StepsLedger (s.afterLock i).recorder :=
  State.serveDomains_stepsLedger _ (foldl_stepsLedger (fun _ _ => State.startNext_stepsLedger _ (.refl _)) _ h)

/-! ### Debug and resets -/

@[simp] theorem State.debugBreak_stepsLedger (e : Nat × Seal) (h : r.StepsLedger s.recorder) :
    r.StepsLedger (s.debugBreak e).recorder := by
  simp [State.debugBreak, h]
@[simp] theorem State.debugUnlock_stepsLedger (k : List Byte) (h : r.StepsLedger s.recorder) :
    r.StepsLedger (s.debugUnlock k).recorder := by
  simp [State.debugUnlock, h]

theorem Recorder.reset_stepsLedger {q : Recorder} (h : r.StepsLedger q) : r.StepsLedger q.reset :=
  h.trans (.of_moved (List.prefix_refl _) fun _ => by simp [Recorder.reset])
@[simp] theorem State.clearVolatile_stepsLedger (powerOn : Bool) (h : r.StepsLedger s.recorder) :
    r.StepsLedger (s.clearVolatile powerOn).recorder :=
  Recorder.reset_stepsLedger (State.cutWrites_stepsLedger h)
@[simp] theorem State.startReset_stepsLedger (idx : Nat) (powerOn : Bool) (h : r.StepsLedger s.recorder) :
    r.StepsLedger (s.startReset idx powerOn).recorder := by
  simp [State.startReset, h]
@[simp] theorem State.warm_stepsLedger (idx : Nat) (h : r.StepsLedger s.recorder) : r.StepsLedger (s.warm idx).recorder := by
  simp [State.warm, h]

/-! ### Work in the NV array, and the twin's configuration -/

@[simp] theorem State.nvWork_stepsLedger (w : NvWork) (h : r.StepsLedger s.recorder) : r.StepsLedger (s.nvWork w).2.2.recorder := by
  unfold State.nvWork
  dsimp only
  (repeat' split) <;> simp [h]
@[simp] theorem State.takeConfig_stepsLedger (b : List Byte) (h : r.StepsLedger s.recorder) :
    r.StepsLedger (s.takeConfig b).recorder := by
  simp [State.takeConfig, h]
@[simp] theorem State.takeStateContent_stepsLedger (f : Frame) (kind : Nat) (k : Frame) (b : List Byte)
    (h : r.StepsLedger s.recorder) : r.StepsLedger (s.takeStateContent f kind k b).recorder := by
  unfold State.takeStateContent
  split <;> simp [h]
@[simp] theorem State.takeState_stepsLedger (b : List Byte) (h : r.StepsLedger s.recorder) : r.StepsLedger (s.takeState b).recorder := by
  unfold State.takeState
  dsimp only
  (repeat' split) <;> simp [h]

/-! ### The frame and its peg -/

@[simp] theorem State.openFrame_stepsLedger (h : r.StepsLedger s.recorder) : r.StepsLedger s.openFrame.recorder := by
  simp [State.openFrame, h]
@[simp] theorem State.pegLedger_stepsLedger (l : List Effect) (h : r.StepsLedger s.recorder) :
    r.StepsLedger (s.pegLedger l).2.recorder := by
  refine h.trans ?_
  unfold State.pegLedger
  refine foldl_rel (fun a b : List (Nat × Nat) × State => a.2.StepsLedger b.2) (fun _ => .refl _) .trans _ (fun a e => ?_) l ([], s)
  split <;> simp
@[simp] theorem State.commit_stepsLedger (p : Prov) (h : r.StepsLedger s.recorder) : r.StepsLedger (s.commit p).recorder := by
  simp [State.commit, h]
@[simp] theorem State.pegNow_stepsLedger (h : r.StepsLedger s.recorder) : r.StepsLedger s.pegNow.recorder := by
  unfold State.pegNow
  dsimp only
  split <;> simp [h]
@[simp] theorem State.pegOwnLanes_stepsLedger (p : Prov) (h : r.StepsLedger s.recorder) :
    r.StepsLedger (s.pegOwnLanes p).recorder := by
  unfold State.pegOwnLanes
  split
  · exact State.pegNow_stepsLedger h
  · simp [h]
@[simp] theorem State.takeOver_stepsLedger (h : r.StepsLedger s.recorder) : r.StepsLedger s.takeOver.recorder := by
  unfold State.takeOver
  dsimp only
  split <;> simp [h]
@[simp] theorem State.refereeAtActive_stepsLedger (p : Prov) (own twin : Bool) (h : r.StepsLedger s.recorder) :
    r.StepsLedger (s.refereeAtActive p own twin).recorder := by
  unfold State.refereeAtActive
  extract_lets solo m s1
  have hsolo : r.StepsLedger (solo s).recorder := h
  have h1 : r.StepsLedger s1.recorder := h
  clear_value solo s1
  split
  · simp [hsolo]
  · split
    · simp [hsolo]
    · split
      · simp [hsolo]
      · simp [h1]
@[simp] theorem State.refereeAtStandby_stepsLedger (p : Prov) (own twin : Bool) (h : r.StepsLedger s.recorder) :
    r.StepsLedger (s.refereeAtStandby p own twin).recorder := by
  simp [State.refereeAtStandby, h]
@[simp] theorem State.pegSynced_stepsLedger (p : Prov) (d : Option DigestMsg) (h : r.StepsLedger s.recorder) :
    r.StepsLedger (s.pegSynced p d).recorder := by
  unfold State.pegSynced
  split
  · split
    · exact State.pegNow_stepsLedger h
    · simp [h]
  · split
    · exact State.pegNow_stepsLedger (by simp [h])
    · simp [h]
@[simp] theorem State.decideActive_stepsLedger (p : Prov) (d : Option DigestMsg) (h : r.StepsLedger s.recorder) :
    r.StepsLedger (s.decideActive p d).recorder := by
  unfold State.decideActive
  split
  · split
    · split
      · exact State.pegOwnLanes_stepsLedger p h
      · exact State.pegSynced_stepsLedger p _ h
    · exact State.pegSynced_stepsLedger p _ h
  · split
    · exact State.pegOwnLanes_stepsLedger p (by simp [h])
    · exact State.pegOwnLanes_stepsLedger p h
@[simp] theorem State.decideStandby_stepsLedger (p : Prov) (d : Option DigestMsg) (h : r.StepsLedger s.recorder) :
    r.StepsLedger (s.decideStandby p d).recorder := by
  unfold State.decideStandby
  split
  · dsimp only
    split
    · simp [h]
    · exact State.pegSynced_stepsLedger p _ h
  · extract_lets counted s1
    have hcounted : r.StepsLedger counted.recorder := by
      unfold counted
      split <;> simp [h]
    clear_value counted
    have h1 : r.StepsLedger s1.recorder := by
      unfold s1
      split
      · exact State.pegNow_stepsLedger hcounted
      · simp [hcounted]
    split
    · exact State.takeOver_stepsLedger hcounted
    · split <;> exact h1
@[simp] theorem State.decideResync_stepsLedger (d : Option DigestMsg) (h : r.StepsLedger s.recorder) :
    r.StepsLedger (s.decideResync d).recorder := by
  unfold State.decideResync
  extract_lets s1
  have h1 : r.StepsLedger s1.recorder := by
    unfold s1
    split <;> simp [h]
  clear_value s1
  split
  · exact State.takeOver_stepsLedger h1
  · split
    · simp [h1]
    · split
      · simp [h1]
      · split
        · split
          · simp [h1]
          · split
            · exact State.pegNow_stepsLedger h1
            · exact State.pegNow_stepsLedger (by simp [h1])
        · simp [h1]
        · simp [h1]
@[simp] theorem State.decideRole_stepsLedger (d : Option DigestMsg) (h : r.StepsLedger s.recorder) :
    r.StepsLedger (s.decideRole d).recorder := by
  simp only [State.decideRole]
  (repeat' split) <;> simp [h]
@[simp] theorem State.decideFrame_stepsLedger (h : r.StepsLedger s.recorder) : r.StepsLedger s.decideFrame.recorder := by
  unfold State.decideFrame
  dsimp only
  (repeat' split) <;> simp [h]

/-! ### Requests -/

theorem State.perform_stepsLedger {c : Cmd} (hc : ∀ s t w, State.StepsLedger s (c.run s t w)) (t : Tag) (h : r.StepsLedger s.recorder) :
    r.StepsLedger (s.perform c t).recorder := by
  refine h.trans ?_
  unfold State.perform
  dsimp only
  split
  · simp
  · split
    · simp
    · exact hc ..
theorem State.execute_stepsLedger {c : Cmd} (hc : ∀ s t w, State.StepsLedger s (c.run s t w)) (q : Req) (h : r.StepsLedger s.recorder) :
    r.StepsLedger (s.execute c q).recorder := by
  have hp {u : State} (t : Tag) (hu : r.StepsLedger u.recorder) := State.perform_stepsLedger hc t hu
  unfold State.execute
  dsimp only
  (repeat' split) <;> simp [h, hp]

end Operations
end Sys2Proof.Machine
end

section
/-! SUPPORT. Every row steps the ledger: the lemmas about the operations compose through it (R304, R315). -/
namespace Sys2Proof.Machine

/-- A row answers a next state whose ledger follows from the one it found. -/
def State.LedgerTo (s : State) (o : Host.Outcome State Fault Refusal) : Prop := ∃ t, o = .next t ∧ s.StepsLedger t

@[simp] theorem State.LedgerTo.next {s t : State} : s.LedgerTo (.next t) ↔ s.StepsLedger t := by simp [State.LedgerTo]

/-- A cell that is taken by an operation of KeepsCore. -/
theorem State.LedgerTo.takeCell {f : State → Cell → State} (h : ∀ u c, State.KeepsCore u (f u c)) (s : State) (side : RingSide) (kind : Nat)
    (b : List Byte) : s.LedgerTo (.next (s.takeCell side kind b f)) := by
  obtain ⟨hledger, hqueue, hwriting⟩ := (State.takeCell_keepsCore h s side kind b).2
  simp [hledger, hqueue, hwriting]

@[simp] theorem State.startEave_keepsLedger (s : State) : s.recorder.KeepsLedger s.startEave.recorder := ⟨rfl, rfl, rfl⟩

/-! ### Rows that fold, decode or take a cell -/

@[simp] theorem execHousekeepingSlot_ledgerTo (s : State) : s.LedgerTo (execHousekeepingSlot s) := by
  unfold execHousekeepingSlot
  rw [State.LedgerTo.next]
  split
  · simp
  · extract_lets s1
    have h1 : s.StepsLedger s1 := by simp [s1]
    clear_value s1
    have h2 : s.StepsLedger (s1.weak.foldl State.scrubSector s1).laidUpSlot.startWrites.storeCopies := by simp [h1]
    simpa using State.switchDomains_stepsLedger h2
@[simp] theorem execAfeResultLatch_ledgerTo (channel : Fin 16) (m : AfeMeasure) (s : State) :
    s.LedgerTo (execAfeResultLatch channel m s) := by
  obtain ⟨w, u, hx, hu⟩ : ∃ w u, s.windowEnd channel = (w, u) ∧ s.KeepsCore u := ⟨_, _, rfl, s.windowEnd_keepsCore channel⟩
  unfold execAfeResultLatch
  extract_lets ch
  rw [show s.windowEnd ch = (w, u) from hx, State.LedgerTo.next]
  split
  · simp
  · split
    · simp
    · dsimp only
      split <;> simp [hu]
@[simp] theorem execTrainSegmentReceived_ledgerTo (side : RingSide) (b : List Byte) (s : State) :
    s.LedgerTo (execTrainSegmentReceived side b s) := by
  refine .takeCell (fun u c => ?_) ..
  have hu : u.KeepsCore (u.joinTrain c).2 := u.joinTrain_keepsCore c
  split
  · simp
  · split <;> next heq => simp [heq] at hu; simp [hu]
@[simp] theorem execTokenReceived_ledgerTo (side : RingSide) (b : List Byte) (s : State) : s.LedgerTo (execTokenReceived side b s) :=
  .takeCell (fun u c => by split <;> simp) ..
@[simp] theorem execRelayReceived_ledgerTo (side : RingSide) (b : List Byte) (s : State) : s.LedgerTo (execRelayReceived side b s) :=
  .takeCell (fun u c => by split <;> simp) ..
@[simp] theorem execClaimCellReceived_ledgerTo (side : RingSide) (b : List Byte) (s : State) :
    s.LedgerTo (execClaimCellReceived side b s) :=
  .takeCell (fun u c => by split <;> simp) ..
@[simp] theorem execDataCellReceived_ledgerTo (side : RingSide) (b : List Byte) (s : State) : s.LedgerTo (execDataCellReceived side b s) :=
  .takeCell (fun u c => by split <;> simp) ..

/-! ### Every command -/

@[simp] theorem cmdKeyLoad_run_stepsLedger (s : State) (t : Tag) (w : Who) : s.StepsLedger (cmdKeyLoad.run s t w) := by
  dsimp only [cmdKeyLoad]
  split
  · simp
  · next k u heq => simp [s.decrypt_keepsCore heq]

theorem requestOf_run_stepsLedger {i : Instr} {c : Cmd} {r : Req} (h : requestOf i = some (c, r)) (s : State) (t : Tag) (w : Who) :
    s.StepsLedger (c.run s t w) := by
  cases i <;> cases h <;> simp [
    cmdGetAttr, cmdGetRange, cmdSetAttr, cmdStageBegin, cmdStageCommit, cmdStageDrop, cmdBlockResetGraceful,
    cmdBlockResetImmediate, cmdSelftest, cmdIslandRate, cmdDomainSetOff, cmdDomainSetOn, cmdDomainSetLaidUp,
    cmdAgingRead, cmdResetCountersRead, cmdNodeResetWarm, cmdNodeResetPowerOn, cmdAck, cmdSilence, cmdShelve,
    cmdUnshelve, cmdDutySelect, cmdCallAccept, cmdDeadmanResetRestart, cmdDeadmanResetStart,
    cmdDeadmanResetStop, cmdAlarmList, cmdOutputForce, cmdOutputRelease, cmdTimeSet, cmdTimeShift, cmdHourAdd,
    cmdHourSub, cmdWeekdaySet, cmdChargerSet, cmdWakeSet, cmdBackupEventsRead, cmdLogRead, cmdGutterRead,
    cmdLogMark, cmdLogPolicy, cmdGutterSave, cmdCalZero, cmdCalSpan, cmdCalRead, cmdPairBind, cmdPairUnbind,
    cmdSwapNow, cmdSwapPolicy, cmdYieldRole, cmdPairStatus, cmdMatrixRead, cmdMatrixWrite, cmdSeal,
    cmdUnsealRelease, cmdUnsealBreak, cmdKeyRetire, cmdAttest, cmdConsentIssue, cmdConsentEnter,
    cmdConsentLeave, cmdDebugUnlock, cmdImageBegin, cmdImageBlock, cmdImageVerify, cmdImageActivate,
    cmdRingStatus, cmdRingScan, cmdRingAdmit, cmdRingExpel, cmdHello, cmdFeatures, cmdOpen, cmdProve,
    cmdClose, cmdPing]

theorem exec_ledgerTo (i : Instr) (s : State) : s.LedgerTo (exec i s) := by
  cases hr : requestOf i with
  | some cr =>
    rw [exec_of_requestOf hr, State.LedgerTo.next]
    exact State.execute_stepsLedger (requestOf_run_stepsLedger hr) _ (.refl _)
  | none =>
    cases i <;> simp only [requestOf, reduceCtorEq] at hr
    -- Rows that decide between branches, a packet from the twin among them.
    case
    blockIdle | fallback | blockResetComplete | selftestComplete | domainSwitchComplete | lockConfirmed | ppsEdge | rtcTrimUpdate |
    laidUpShutdown | evtFilterAccept | sectorEraseComplete | shuntClose | diDebounceAccept | claimFrameSend | fieldLinkYield |
    disagree | uartFrameReceived | driverEnableFallback | acnReceived | zdaReceived | otherSentenceReceived | canBusError |
    turwaSegmentReceived | canTrainTimeout | transmissionComplete | memEcc | nodeResetStart | resetRelease | nvProgramComplete |
    mirrorReceived | relayCopy | ringData | scanCellReceived | admitCellReceived | resendReceived | ridgeResendTimeout | ackPacketDue |
    marker | forward | pairing | turwa | statePacket | control | digestExchange | digestReceived | sessionIdleTimeout | proveTimeout |
    eventCreditRelease =>
      dsimp only [exec,
      execBlockIdle, execFallback, execBlockResetComplete, execSelftestComplete, execDomainSwitchComplete, execLockConfirmed,
      execPpsEdge, execRtcTrimUpdate, execLaidUpShutdown, execEvtFilterAccept, execSectorEraseComplete, execShuntClose,
      execDiDebounceAccept, execClaimFrameSend, execFieldLinkYield, execDisagree, execUartFrameReceived, execDriverEnableFallback,
      execAcnReceived, execZdaReceived, execOtherSentenceReceived, execCanBusError, execTurwaSegmentReceived, execCanTrainTimeout,
      execTransmissionComplete, execMemEcc, execNodeResetStart, execResetRelease, execNvProgramComplete, execMirrorReceived,
      execRelayCopy, execRingData, execScanCellReceived, execAdmitCellReceived, execResendReceived, execRidgeResendTimeout,
      execAckPacketDue, execMarker, execForward, execPairing, execTurwa, execStatePacket, execControl, execDigestExchange,
      execDigestReceived, execSessionIdleTimeout, execProveTimeout, execEventCreditRelease]
      (repeat' split) <;> simp
    -- Rows that apply one operation.
    all_goals simp [exec,
      execRelockPoint, execPllLockLoss, execRtcSecond, execZdaOnly, execChargerTermination, execChargerRestart, execNoElement,
      execChargerRetry, execWakeDue, execPwronHoldEnd, execEvtEdge, execEaveColdStart, execSaveAllowanceGain, execBucketTokenGain,
      execBudgetTokenGain, execRecorderLossClear, execLedgerCounterWord, execShuntOpen, execClampConduction, execAfeListenTimeout,
      execClaimSlotEdge, execClaimFrameReceived, execOwnClaimStale, execTwinClaimStale, execDiLevelChange, execOverload,
      execThermalShutdown, execThermalRestart, execOpenWire, execOpenWireClear, execFlashingSlot, execDownlinkFrameReceived,
      execSafeStateTimeout, execUplinkFrameReceived, execInputsStale, execReadbackFault, execUartCharReceived, execUartIdleHandoff,
      execCtsChange, execBridgeSilenceExpiry, execAlfRepeat, execAlcList, execLone, execLoneRetry, execBusOffRecovery,
      execProtocolException, execCanFrameReceived, execTimeLabelReceived, execSysState, execStationMessage, execJtagTrst,
      execJtagInstructionUpdate, execJtagTckEdge, execPeriodicSwapDue, execSensorFaultOverride, execOnDelayExpiry, execOffDelayExpiry,
      execShelveExpiry, execRearmExpiry, execRateSample, execRosterSchedule, execCallDelayExpiry, execEscalationExpiry,
      execAttendanceExpiry, execDeadmanWarning, execDeadmanExpiry, execForceLimitExpiry, execTokenExpiry, execPowerOn,
      execSupplyBrownout, execEaveSupplyChangeover, execEaveSupplyLost, execVafeLost, execVafeReturn, execVfldLost, execVfldPowerUp,
      execReferenceLoss, execReferenceReturn, execResetNAssert, execStuckReset, execResetNRearm, execWdogCmd, execWdogScan,
      execWdogHouse, execTamper, execOverTemp, execOverTempRelease, execTwinRequest, execRingOrder, execStartTimeout,
      execDownloadTimeout, execStartingTimeout, execIslandClockFault, execNvScrub, execBackgroundReferee, execAgingReading,
      execAgingDailyMean, execMirrorDeadline, execIsolated, execDataCellSend, execWorkerDataDeadline, execWorkerRoundTimeout,
      execRingSegmentTrain, execCommandTimeout, execRidgeLinkTrain, execAckPacket, execCounterSave, execUnpegged, execFrameStart,
      execListenWindowEnd, execFrameEvaluation, execWritePacket, execReadPacket, execReadReg, execWriteReg, execPortIrqClear,
      execPortIrqMaskWrite, execPortCfgWrite, execHostBadCommand, execPegDecision, execKeyLockExpiry, execReplyRelease]

end Sys2Proof.Machine
end

section
open Sys2Proof Sys2Proof.Machine

/-- A step is a tick, which leaves the recorder, or a row. -/
theorem step_stepsLedger {s t : State} (h : step s = .next t) : s.StepsLedger t := by
  unfold step at h
  split at h
  · cases h
    unfold State.tick
    split <;> exact .refl _
  · next c cs _ =>
    obtain ⟨u, hu, hstep⟩ := exec_ledgerTo c { s with pending := cs }
    cases hu.symm.trans h
    exact hstep

/-- Settles O4: each operation that writes the ledger appends slots. -/
theorem ledgerOnlyGrows : Obligations.LedgerOnlyGrows := by
  intro s t h
  exact (step_stepsLedger h).grows

/-- Settles O5: an entry waits only while there is a slot for it, and a write takes what waits. -/
theorem ledgerKeepsItsSlots : Obligations.LedgerKeepsItsSlots := by
  intro s t hs h
  exact (step_stepsLedger h).fits hs

end
